-- ==== Sys2Proof/Word.lean ====
section
/-! DEFINITION. The plainest number types of the model: the byte of a stored structure and the sparse table
(a list of key and value pairs with rising keys and no entry equal to its key's default). -/
namespace Sys2Proof

/-- One byte of stored data (R11). -/
abbrev Byte := BitVec 8

/-- A sparse table: rising keys, no entry that holds its key's default value. -/
abbrev Tab (α : Type) := List (Nat × α)

end Sys2Proof
end

