-- ==== Sys2Proof/OperandTypes.lean ====
section
/-! DEFINITION. The operand types of the commands: what a datagram, a pin, a sensor or another device brings with a
command. Plain data. -/
namespace Sys2Proof

/-- Who makes a dictionary request (R31, R36): a QDP session, a Workshop engine's mailbox, a CAN FD port, or the
device itself. -/
inductive Req where
  | session (n : Nat)
  | mailbox (w : Nat)
  | can (port : Nat)
  | device
deriving DecidableEq, Repr

/-- The header of an arriving QDP datagram (R42) with what its receiver judges of it: sender address (an IPv4 address is
below 2^32) and UDP port, the Porch port and sub-port that it arrived on (4 × port + sub-port), the length of the payload
that arrived, and whether its CRC-32C is right. -/
structure QdpHdr where
  srcIp      : Nat
  srcPort    : Nat
  rx         : Nat := 0
  magic      : Nat := 0x4451
  version    : Nat := 1
  flags      : Nat := 0
  status     : Nat := 0
  session    : Nat
  seq        : Nat := 0
  count      : Nat := 0
  payloadLen : Nat := 0
  arrivedLen : Nat := 0
  crcOk      : Bool := true
deriving DecidableEq, Repr

/-- A READ item (R42). -/
structure ReadItem where
  index : Nat
  sub   : Nat
  flags : Nat := 0
deriving DecidableEq, Repr

/-- A WRITE item (R42): its value's bytes without the padding. -/
structure WriteItem where
  index : Nat
  sub   : Nat
  ty    : Nat
  rsv   : Nat := 0
  value : List Nat
deriving DecidableEq, Repr

/-- The header of a request slot of Workshop engine w (R355); `rsv` is not 0 where a reserved byte is not. -/
structure MbHdr where
  w          : Nat
  slot       : Nat
  tag        : Nat := 0
  flags      : Nat := 0
  count      : Nat := 0
  payloadLen : Nat := 0
  status     : Nat := 0
  rsv        : Nat := 0
deriving DecidableEq, Repr

/-- How a request arrives: in a QDP datagram, or posted in a mailbox slot (R354). -/
inductive Via where
  | qdp (h : QdpHdr)
  | mailbox (b : MbHdr)
deriving DecidableEq, Repr

/-- A USDO transfer (R46, R47): a download with its bytes, or an upload. -/
structure UsdoReq where
  write : Bool
  index : Nat
  sub   : Nat
  data  : List Nat := []
deriving DecidableEq, Repr

/-- What the sideband brings back from one head's poll (R117 … R119, R123): a NACKed address, a raw temperature, a
transaction ended by an error, or a poll that did not complete. -/
inductive PollRead where
  | nack
  | temp (raw : Nat)
  | error
  | skipped
deriving DecidableEq, Repr

/-- What the voter sees of the three Mantel copies at one compared item (R97): the copy that differs from two that
agree, or three mutually different results, the item's number, the channel of an arming record, and how late each copy's
edge is, in ps. -/
structure Vote where
  dissent  : Option Nat := none
  threeWay : Bool := false
  item     : Nat := 0
  chan     : Nat := 0
  e0       : Nat := 0
  e1       : Nat := 0
  e2       : Nat := 0
deriving DecidableEq, Repr

/-- What a proof test has come to (R255, R256): for a lane the bits tested in each direction with the errors of both; for a
Room or the Spare the array address at which the memory self-test failed, if it did, and of the lines compared those that
the unit under test rendered wrongly: channel, slot (page line of the pattern in STOPPED) and the signature that it
gave. -/
structure ProofRes where
  n     : Nat := 0
  errs  : Nat := 0
  mem   : Option Nat := none
  wrong : List (Nat × Nat × Nat) := []
deriving DecidableEq, Repr

/-- What a self-test has come to (R451 … R453): the array address at which the memory test failed, if it did; the lines
of the pattern that the unit rendered wrongly, with the bytes of the entry that it gave; for the Mantel the delay-line
segments measured. -/
structure SelfRes where
  mem   : Option Nat := none
  wrong : List (Nat × List Nat) := []
  segs  : List (List Nat) := []
deriving DecidableEq, Repr

/-- What a loopback has measured (R454, R455), in the order of LOOP_FAIL_MAP: |VOD| of each pair of a head group in mV; the bit
errors of each lane of a Porch or Hallway port, and whether FCLK has its frequency. -/
structure LoopRes where
  vod  : List Nat := []
  errs : List Nat := []
  fclk : Bool := true
deriving DecidableEq, Repr

/-- The header of an arriving QPT datagram (R136) with what its receiver judges of it. -/
structure QptHdr where
  srcIp      : Nat
  srcPort    : Nat
  rx         : Nat := 0
  magic      : Nat := 0x5051
  version    : Nat := 1
  stream     : Nat := 0xFF
  flags      : Nat := 0
  offset     : Nat := 0
  tag        : Nat := 0
  aux        : Nat := 0
  session    : Nat
  rsv        : Nat := 0
  payloadLen : Nat := 0
  arrivedLen : Nat := 0
  crcOk      : Bool := true
deriving DecidableEq, Repr

/-- The header of a received CSI-2 packet (R200): the port, the virtual channel, whether its VCX bits are set, and what
its ECC found (0 right, 1 a corrected bit, 2 uncorrectable). -/
structure CsiHdr where
  port : Nat
  vc   : Nat
  vcx  : Bool := false
  ecc  : Nat := 0
deriving DecidableEq, Repr

/-- What an arriving Ethernet frame carries (R285, R287). A message of IEEE 1588 comes by a transport, numbered as the
profile of R295 that uses it: 2 UDP over IPv4, 3 UDP over IPv6, 4 L2; it is an event message or a general one. -/
inductive EthKind where
  | pause (quanta : Nat)
  | gptp (dom : Nat)
  | ptp1588 (dom transport : Nat) (event csumOk : Bool)
  | arp (target : Nat)
  | nd (target : List Nat)
  | icmp (v6 : Bool)
  | udp (v6 : Bool) (port : Nat) (csumOk : Bool)
  | ipOther
  | other
deriving DecidableEq, Repr

/-- An arriving Ethernet frame with what its receiver judges of it: addresses, the priority code point and the VLAN of its
802.1Q tag, length without FCS, whether its FCS and its IPv4 header checksum are right, whether it is an IP fragment or has an IPv6 extension header, its destination
address, codewords that FEC corrected or could not, and its bytes for forwarding. -/
structure EthFrame where
  dst    : Nat
  src    : Nat
  vlan   : Option (Nat × Nat) := none
  len    : Nat := 60
  fcsOk  : Bool := true
  ipOk   : Bool := true
  frag   : Bool := false
  dstIp  : List Nat := []
  kind   : EthKind := .other
  fecFix : Nat := 0
  fecBad : Nat := 0
  data   : List Nat := []
deriving DecidableEq, Repr

/-- What an Announce says of its grandmaster (IEEE 1588): the fields the Best Master Clock algorithm compares, the
sender, the interval in ms and currentUtcOffset. -/
structure Announce where
  prio1  : Nat := 128
  cls    : Nat := 248
  acc    : Nat := 0xFE
  var    : Nat := 0xFFFF
  prio2  : Nat := 128
  gm     : Nat
  steps  : Nat := 0
  sender : Nat := 0
  intMs  : Nat := 1000
  utc    : Int := 37
deriving DecidableEq, Repr

/-- A PTP message other than Sync (R295). Times are ps of the sender's or of this device's clock. -/
inductive PtpMsg where
  | announce (a : Announce)
  | delayResp (t4 : Int) (intMs : Nat)
  | pdelayResp (t2 t3 t4 : Int) (intMs : Nat)
  | pdelayReq (stamp : Int)
deriving DecidableEq, Repr

/-- What the DRAM has done to a sector by the time a transaction reaches it (R343, R344): the bits that it has inverted since
(0 … 255 data, 256 … 265 CODE, 266 … 271 POISON), and whether the access itself falls on another location. -/
structure SectorErr where
  sector : Nat
  bits   : List Nat := []
  wrong  : Bool := false
deriving DecidableEq, Repr

/-- A Pantry transaction (R335): who issues it (0 Room prefetch, 1 Window, 2 engine, 3 checkpoint, 4 Porch), its address
and bytes, what the DRAM has done to the sectors that it touches, and for a read of the Window the context, the frame and
the line read, for one of an engine its number, for a write of the Porch its stream and stream offset. -/
structure PantryReq where
  write : Bool := false
  who   : Nat := 0
  addr  : Nat
  len   : Nat := 0
  data  : List Nat := []
  ecc   : List SectorErr := []
  unit  : Nat := 0
  frame : Nat := 0
  line  : Nat := 0
  off   : Nat := 0
deriving DecidableEq, Repr

/-- The header of a received Hallway message (R313) with what its receiver judges of it: the port, its sequence within
class and direction, HOPS, and whether its CRC is right. -/
structure HallHdr where
  port  : Nat
  seq   : Nat := 0
  hops  : Nat := 0
  crcOk : Bool := true
deriving DecidableEq, Repr

/-- What the training of one channel comes to: the step that failed (0 none) and its rank, the eyes in ps, the
oscillator's baseline, and RAAIMT with its multiplier and its decrement. -/
structure TrainRes where
  fail  : Nat := 0
  rank  : Nat := 0
  rdEye : Nat := 0
  wrEye : Nat := 0
  dqs   : Int := 0
  imt   : Nat := 0
  mult  : Nat := 0
  dec   : Nat := 0
deriving DecidableEq, Repr

/-- What a boot step brings from outside (R396): whether the crystal was found (step 5), the three samples of PROFILE and
CASC_ROLE (step 6), the two training tries of each Pantry channel (step 9), and the delay segments of the Mantel copies
as the self-test measured them, in ps (step 10). -/
structure BootArgs where
  pg     : List Nat := []
  xtal   : Bool := true
  lane   : Bool := true
  straps : List (Nat × Nat) := [(0, 0), (0, 0), (0, 0)]
  tries  : List (TrainRes × TrainRes) := []
  segs   : List (List Nat) := []
deriving DecidableEq, Repr

/-- What the world outside answers while an accepted write acts: the level at the fuse supply ball where the write looks
at it (R402), the fuse bits (8 × offset + bit) that stay 0 in each copy after three tries (R403), the delay segments that
a Mantel self-test measures in ps, the Pantry's training tries (R394), and the mismatched bits of each lane of a PRBS
test that ends (R324). -/
structure WriteEnv where
  vpp    : Option Bool := none
  stuckA : List Nat := []
  stuckB : List Nat := []
  segs   : List (List Nat) := []
  tries  : List (TrainRes × TrainRes) := []
  rx     : List (List Bool) := []
deriving DecidableEq, Repr

/-- R311: what the receiver asks of one tap of a transmit lane. -/
inductive FfeReq where
  | inc | dec | hold
deriving DecidableEq, Repr

/-- What a training step of a Hallway port found (R309): step 4 the peaking code of each receive lane, step 5 the neighbour's
requests to each transmit lane in order (tap 0 c−1, 1 c0, 2 c+1), step 7 the bit errors of L4, step 8 the neighbour's IDENT, step 9
the mean round trip less turnaround, ps. -/
structure HallTrain where
  peaking : List Nat := []
  reqs    : List (List (Nat × FfeReq)) := []
  l4      : Nat := 0
  serial  : Nat := 0
  role    : Nat := 0
  exOut   : Nat := 255
  exIn    : Nat := 255
  rt      : Int := 0
deriving DecidableEq, Repr

/-- What a poll of a regulator brings back (R371); the last three only on a 10 ms poll. -/
structure PmRead where
  word : Nat
  vout : Nat := 0
  iout : Nat := 0
  temp : Int := 0
deriving DecidableEq, Repr

end Sys2Proof
end

