-- ==== Sys2Proof/Syntax.lean ====
section
/-! DEFINITION. The commands of the QN7192: one constructor per row of the table of operations and events. -/
namespace Sys2Proof

/-- One command: an operation a host, a pin, a bus or another device commands, or an event of the device's own time. -/
inductive Instr where
  /-- ENTRY_WRITE (R8). A dictionary write to an entry that has no row of its own is checked for level, access, range and reserved bits, then stored or refused. -/
  | entryWrite (r : Req) (index : Nat) (sub : Nat) (ty : Nat) (bytes : List Nat) (env : WriteEnv)
  /-- READ (R40). A QDP or mailbox READ samples each item, or all items in one CTRL cycle under SNAPSHOT, and returns the values. -/
  | read (v : Via) (items : List ReadItem) (vpp : Option Bool)
  /-- WRITE (R32). A QDP or mailbox WRITE datagram is checked item by item and applied all or nothing in datagram order. -/
  | write (v : Via) (items : List WriteItem) (env : WriteEnv)
  /-- DOMAIN_READ_START (R41). Starts a DOMAIN read that freezes the entry's content as it stands at execution. -/
  | domainReadStart (v : Via) (index : Nat) (sub : Nat) (rsv : Nat)
  /-- DOMAIN_READ_SEG (R44). Returns one segment of an open DOMAIN read, with the total length in the first segment. -/
  | domainReadSeg (v : Via) (off : Nat) (max : Nat) (rsv : Nat)
  /-- DOMAIN_WRITE_START (R44). Opens a DOMAIN write with its total length and CRC, or completes it at once for length 0. -/
  | domainWriteStart (v : Via) (index : Nat) (sub : Nat) (rsv : Nat) (total : Nat) (crc : Nat) (env : WriteEnv)
  /-- DOMAIN_WRITE_SEG (R44). Accepts a segment at the expected offset and, at full length, checks the CRC and applies or refuses the whole content. -/
  | domainWriteSeg (v : Via) (off : Nat) (len : Nat) (rsv : Nat) (data : List Nat) (env : WriteEnv)
  /-- DOMAIN_ABORT (R44). Discards the session's DOMAIN transfer in progress. -/
  | domainAbort (v : Via)
  /-- DOMAIN_IDLE_TIMEOUT (R44). A DOMAIN transfer idle for DOMAIN_IDLE_TIMEOUT_MS is discarded. -/
  | domainIdleTimeout (r : Req)
  /-- SESSION_OPEN (R27). Opens a QDP session bound to the sender's IP address, with a nonce when OPERATOR is requested, or refuses it. -/
  | sessionOpen (h : QdpHdr) (level : Nat) (rsv : Bool)
  /-- SESSION_CLOSE (R27). Closes the QDP session. -/
  | sessionClose (h : QdpHdr)
  /-- SESSION_TIMEOUT (R27). A session that has received no datagram from its address for SESSION_TIMEOUT_MS closes. -/
  | sessionTimeout (n : Nat)
  /-- AUTH (R28). Checks the HMAC against OPERATOR_KEY and grants OPERATOR, or answers AUTH, closes the session and counts the failure. -/
  | auth (h : QdpHdr) (mac : List Nat)
  /-- CHALLENGE (R29). Issues a 48-byte nonce and the serial number for SERVICE authentication, or refuses. -/
  | challenge (h : QdpHdr)
  /-- RESPONSE (R29). Checks the OEM public key hash and the ECDSA signature over the nonce and grants SERVICE, or refuses. -/
  | response (h : QdpHdr) (sig : List Nat) (pub : List Nat)
  /-- LOCKOUT_END (R30). The lockout period LOCKOUT_S expires and authentication is accepted again. -/
  | lockoutEnd
  /-- EVENT_SUBSCRIBE (R45). Subscribes the session to events at or above the chosen severity. -/
  | eventSubscribe (h : QdpHdr) (sev : Nat) (rsv : Bool)
  /-- EVENT_ACK (R45). The host's EVENT response echoes the event sequence and stops resending of that EVENT. -/
  | eventAck (h : QdpHdr) (seq : Nat)
  /-- EVENT_RESEND (R45). An unanswered EVENT is sent again after EVENT_RESEND_MS, and after 5 tries it is counted in EVENTS_UNDELIVERED. -/
  | eventResend (n : Nat) (seq : Nat)
  /-- KEEPALIVE (R27). A KEEPALIVE datagram keeps its session open. -/
  | keepalive (h : QdpHdr)
  /-- COMMIT_REQUEST (R35). COMMIT_CMD 01h seals the open staged set with its mode and target, resolves the target and opens a new set. -/
  | commitRequest (r : Req)
  /-- COMMIT_CANCEL (R38). COMMIT_CMD 02h discards a pending sealed set and sets COMMIT_STATUS to CANCELLED. -/
  | commitCancel (r : Req)
  /-- COMMIT_DISCARD (R38). COMMIT_CMD 03h discards the open staged set. -/
  | commitDiscard (r : Req)
  /-- COMMIT_RING_ACK_CHECK (R39). At RING_ACK_LEAD_LINES before the target line, the master confirms the ring commit or aborts it on every device. -/
  | commitRingAckCheck
  /-- IN_FORCE_SEL_WRITE (R36). Records the requester's selection of the entry whose value in force IN_FORCE_VALUE returns. -/
  | inForceSelWrite (r : Req) (v : Nat)
  /-- IN_FORCE_VALUE_READ (R36). Returns the value in force of the selected entry, at that entry's access level. -/
  | inForceValueRead (r : Req)
  /-- PROFILE_REQUEST (R242). Requests a stored profile, which is read and checked and then loaded at the next page boundary. -/
  | profileRequest (r : Req) (n : Nat)
  /-- NMT_COMMAND (R46). A CANopen NMT command is received and acted on by the NMT responder. -/
  | nmtCommand (p : Nat) (cs : Nat) (node : Nat)
  /-- HEARTBEAT (R46). The heartbeat producer sends a heartbeat every HEARTBEAT_MS. -/
  | heartbeat (p : Nat)
  /-- USDO_TRANSFER (R47). A CANopen USDO upload or download is executed as a dictionary request at CAN_ACCESS_LEVEL. -/
  | usdoTransfer (p : Nat) (u : UsdoReq) (env : WriteEnv)
  /-- RPDO_RECEIVED (R46). A received RPDO writes its mapped entries. -/
  | rpdoReceived (p : Nat) (n : Nat) (data : List Nat) (env : WriteEnv)
  /-- TPDO_TRANSMIT (R46). A TPDO is sent with its mapped entries. -/
  | tpdoTransmit (p : Nat) (n : Nat) (vpp : Option Bool)
  /-- ENC_EDGE (R55). An accepted POS0 or POS1 edge updates the count, PT, the speed estimators and the Mantel's prediction. -/
  | encEdge (ch : Nat) (a : Bool) (b : Bool) (held : Nat) (v : Vote)
  /-- SPEED_STALL (R59). No edge is accepted for STALL_MS, so v becomes 0 and METHOD becomes STALLED. -/
  | speedStall (ch : Nat) (v : Vote)
  /-- SSI_FRAME_START (R60). Every PERIOD_US the device starts an absolute-word frame if POSn_SDA is high. -/
  | ssiFrameStart (ch : Nat) (sda : Bool)
  /-- SSI_FRAME_DONE (R61). A completed frame is checked, unwrapped into ABS_COUNT, or counted as invalid. -/
  | ssiFrameDone (ch : Nat) (word : Nat)
  /-- INDEX (R63). A qualified index computes the deviation d and corrects KT, enters SUSPECT, or learns the phase. -/
  | index (ch : Nat) (held : Nat)
  /-- SUSPECT_CLEAR (R63). Returns the index state to UNCHECKED so that the next index is learnt. -/
  | suspectClear (r : Req) (ch : Nat)
  /-- REF_SOURCE_WRITE (R66). Selects the reference source and anchors at its first sample. -/
  | refSourceWrite (r : Req) (v : Nat)
  /-- REF_ANCHOR_CMD (R66). Re-anchors the reference at its next sample. -/
  | refAnchorCmd (r : Req)
  /-- PROBE_EDGE (R67). An accepted PROBE edge latches PT, GLC and TB3, is windowed, and enters the FIFO or is passed to the scheduler or calibration. -/
  | probeEdge (n : Nat) (rising : Bool) (held : Nat)
  /-- ACK_SEQ (R68). Frees the latch records at or before the written sequence. -/
  | ackSeq (r : Req) (n : Nat) (seq : Nat)
  /-- CMP_ARM (R70). CMP_ARM 01h loads mode, target, period and repeats and arms the compare output, or marks it MISSED. -/
  | cmpArm (r : Req) (n : Nat)
  /-- CMP_DISARM (R71). CMP_ARM 02h disarms the compare output. -/
  | cmpDisarm (r : Req) (n : Nat)
  /-- CMP_FIRE (R70). PT reaches the armed target and the compare pulse starts, or merges with one in progress. -/
  | cmpFire (n : Nat)
  /-- CMP_PULSE_END (R70). The compare pulse width expires and the output deasserts. -/
  | cmpPulseEnd (n : Nat)
  /-- QOUT_STEP (R72). A queued divided-output step leaves the QOUT balls at least QOUT_MIN_NS after the previous one. -/
  | qoutStep (q : Nat)
  /-- QOUT_CONFIG_WRITE (R72). A write of QOUT_SOURCE, QOUT_NUM or QOUT_DEN clears the accumulator and the queue. -/
  | qoutConfigWrite (r : Req) (q : Nat) (field : Nat) (v : Nat)
  /-- KA_COUNT (R73). In NIGHT a POS0 A/B edge is counted by the keep-alive counter. -/
  | kaCount (a : Bool) (b : Bool) (held : Nat)
  /-- LINE_EVENT (R78). PT passes the next line boundary, so GLC increments and the line's arming, commits, releases and page-boundary actions take place. -/
  | lineEvent (v : Vote)
  /-- PAGE_BIND (R79). The page at the head of the queue is bound to its first line g0. -/
  | pageBind
  /-- STROBE_FIRE (R87). At the predicted or reached instant the slot's FIRE is gated, deferred, dropped or fired through the voter. -/
  | strobeFire (c : Nat) (h : Nat) (sub : Nat) (v : Vote)
  /-- FIRE_PULSE_END (R113). The FIRE width expires and the FIRE output falls. -/
  | firePulseEnd (c : Nat)
  /-- LATCH (R109). A group's LAT of round n is placed and latches every fully shifted channel, losing the others. -/
  | latch (k : Nat) (v : Vote)
  /-- LAT_PULSE_END (R113). The LAT width expires and LAT falls. -/
  | latPulseEnd (k : Nat)
  /-- SHIFT_START (R110). A group starts shifting round n + 1 once data is ready or the latest start is reached. -/
  | shiftStart (k : Nat)
  /-- SHIFT_DONE (R110). The group's shift completes on its last SCLK edge. -/
  | shiftDone (k : Nat)
  /-- SPREAD_RECOMPUTE (R112). PHASE_SPREAD_PU and SPREAD_LIMIT_PU are recomputed and HEAD_SPREAD may be raised. -/
  | spreadRecompute (k : Nat)
  /-- HG_DISABLE (R116). Clearing a group's HG_ENABLE bit starts its shutdown. -/
  | hgDisable (r : Req) (k : Nat)
  /-- HG_ENABLE (R116). Setting a group's HG_ENABLE bit starts its enable sequence, or makes it PENDING. -/
  | hgEnable (r : Req) (k : Nat)
  /-- HG_SHUTDOWN_DONE (R116). The sideband finishes and the group reaches OFF, starting any pending enable. -/
  | hgShutdownDone (k : Nat)
  /-- POLL_CYCLE (R118). Every POLL_PERIOD_US the sideband reads each enabled head's temperature and updates presence and thermal states. -/
  | pollCycle (k : Nat) (reads : List PollRead)
  /-- HEAD_RECORD_READ (R122). The head memory record of an IDENT head is read and checked, giving NO_RECORD, MISMATCH, NEW or PRESENT. -/
  | headRecordRead (c : Nat) (data : List Nat) (err : Bool)
  /-- HEAD_ALERT (R190). An accepted HGk_ALERT_N assertion gates the qualifying channels and starts alert response reads. -/
  | headAlert (k : Nat) (held : Nat)
  /-- ALERT_IDENTIFIED (R190). An alert response read returns a head in alert, which is gated and enters TRIP. -/
  | alertIdentified (k : Nat) (addr : Nat) (err : Bool)
  /-- ALERT_WINDOW_END (R119). The alert window closes with ALERT_N still asserted and the alert is reported unresolved. -/
  | alertWindowEnd (k : Nat) (nack : Bool)
  /-- HEAD_MEM_WRITE_DONE (R120). A HEAD_MEM write's pages and read-back complete, with OK or HEAD_MEM_FAILED. -/
  | headMemWriteDone (c : Nat) (back : List Nat) (err : Bool)
  /-- HEAD_ACCEPT (R124). Stores the head's SERIAL as KNOWN_SERIAL and seeds a NEW head's nozzle words. -/
  | headAccept (r : Req) (c : Nat)
  /-- QPT_OPEN (R137). Binds a stream to the session, with REWRITE, RESYNC or COMPRESSOR, and answers CREDIT or NAK. -/
  | qptOpen (h : QptHdr)
  /-- QPT_DATA (R138). Stores stripe data within the reorder window and advances RECEIVED and CHECKED, or answers NAK. -/
  | qptData (h : QptHdr) (data : List Nat)
  /-- QPT_RAW (R140). Raw contone lines are coded into a chain, ending it with CHAIN_DONE on the last datagram. -/
  | qptRaw (h : QptHdr) (data : List Nat)
  /-- QPT_DESC (R131). A page descriptor is checked and queued, or refused, and answered with DESC_ACK. -/
  | qptDesc (h : QptHdr) (b : List Nat)
  /-- QPT_CLOSE (R137). Closes the stream. -/
  | qptClose (h : QptHdr)
  /-- CREDIT_IDLE (R138). CREDIT_IDLE_US after data last arrived a CREDIT is sent if CHECKED has moved. -/
  | creditIdle (k : Nat)
  /-- PAGE_NOT_READY (R133). A START_KIND 2 page is not READY by line g0 − READY_LEAD_LINES and NOT_READY_POLICY applies. -/
  | pageNotReady
  /-- SCHED_STOP (R134). SCHED_CMD 01h stops binding at the end of the last page bound. -/
  | schedStop (r : Req)
  /-- SCHED_RESUME (R134). SCHED_CMD 02h returns the scheduler to RUNNING. -/
  | schedResume (r : Req)
  /-- SCHED_FLUSH (R134). SCHED_CMD 03h discards every queued page in STOPPED. -/
  | schedFlush (r : Req)
  /-- HIST_CAPTURE_CMD (R150). Arms a capture of history after the named page line. -/
  | histCaptureCmd (r : Req)
  /-- ROOM_RENDER_SLOT (R153). A Room renders one slot for its enabled channels once FIFO space allows and writes FIFO entries. -/
  | roomRenderSlot (k : Nat)
  /-- CHECKPOINT_DONE (R175). A Room's checkpoint write completes, freeing contexts and retiring nozzle-map changes. -/
  | checkpointDone (k : Nat)
  /-- NOZZLE_MAP_WRITE (R167). A channel's nozzle map is written, and its changes land at L_eff or wait. -/
  | nozzleMapWrite (r : Req) (c : Nat) (bytes : List Nat)
  /-- NOZZLE_WORD_WRITE (R166). Writes the selected nozzle's word, which lands at L_eff under the change rules. -/
  | nozzleWordWrite (r : Req) (w : Nat)
  /-- INTLK_ASSERTED (R183). An accepted interlock assertion gates the covered groups and applies its role. -/
  | intlkAsserted (n : Nat) (high : Bool) (held : Nat)
  /-- INTLK_CLEARED (R184). An accepted deassertion moves the input to AWAITING_ACK. -/
  | intlkCleared (n : Nat) (high : Bool) (held : Nat)
  /-- INTLK_ACK (R184). Moves inputs awaiting acknowledgement to CLEAR. -/
  | intlkAck (r : Req) (mask : Nat)
  /-- INTLK_RING_RECEIVED (R186). A Hallway INTLK message gates RING_SCOPE, applies the role and is forwarded, or releases at its GLC. -/
  | intlkRingReceived (h : HallHdr) (pos : Nat) (input : Nat) (role : Nat) (rel : Bool) (glc : Nat)
  /-- THERM_ACT_TIMEOUT (R188). No line event occurs within 1 ms of the poll and the transition acts at the end of the 1 ms. -/
  | thermActTimeout (c : Nat)
  /-- ROTATE (R189). After ROTATE_LINES lines the rested nozzles of a LIMIT head swap. -/
  | rotate (c : Nat)
  /-- TRIP_ACK (R190). Acknowledges pending TRIP heads of the group, which are released at the next line event. -/
  | tripAck (r : Req) (mask : Nat)
  /-- DT_START (R191). DT_CMD 01h starts a drop test on the named groups, or refuses it. -/
  | dtStart (r : Req)
  /-- DT_ABORT (R192). DT_CMD 02h aborts the drop test and publishes partial results. -/
  | dtAbort (r : Req)
  /-- TEST_DROP (R191). Every DT_PERIOD_US each gate unit shifts, latches and fires the next test drop. -/
  | testDrop (u : Nat)
  /-- GATE_PULSE (R193). A drop gate pulse is time-stamped and accepted as a hit or counted as a satellite. -/
  | gatePulse (gate : Nat) (edge : Nat) (width : Nat) (high : Bool)
  /-- DT_DROP_WINDOW_END (R194). A drop's window ends; a completed nozzle is classed and the unit's last nozzle finishes the test. -/
  | dtDropWindowEnd (u : Nat)
  /-- DT_GATED_TIMEOUT (R192). A pause longer than DT_GATED_TIMEOUT_MS aborts the test. -/
  | dtGatedTimeout
  /-- WIN_PORT_DISABLE (R202). Clearing PORT_ENABLE shuts a camera port down. -/
  | winPortDisable (r : Req) (p : Nat)
  /-- WIN_PORT_ENABLE (R202). Setting PORT_ENABLE enables a camera port, or makes it PENDING. -/
  | winPortEnable (r : Req) (p : Nat)
  /-- CSI_FRAME_START (R206). A Frame Start packet opens a frame, matched to a trigger stamp, or is dropped. -/
  | csiFrameStart (h : CsiHdr) (fails : List (Nat × Nat))
  /-- CSI_LINE (R203). A line packet is stored, or counted as a bad line. -/
  | csiLine (h : CsiHdr) (dt : Nat) (crcOk : Bool) (pix : List Nat)
  /-- CSI_FRAME_END (R208). A Frame End packet closes the frame as complete, SHORT or LONG. -/
  | csiFrameEnd (h : CsiHdr)
  /-- FRAME_TIMEOUT (R208). No packet for FRAME_TIMEOUT_US closes the frame with SHORT and NO_FE. -/
  | frameTimeout (c : Nat)
  /-- TRIG_ARM (R205). TRIG_ARM 01h loads and arms the camera trigger. -/
  | trigArm (r : Req) (p : Nat)
  /-- TRIG_DISARM (R205). TRIG_ARM 02h disarms the camera trigger. -/
  | trigDisarm (r : Req) (p : Nat)
  /-- TRIG_PULSE (R205). A trigger pulse is emitted and stamped with PT and TB3. -/
  | trigPulse (p : Nat) (fails : List (Nat × Nat))
  /-- PSET_WRITE (R216). A parameter set is accepted ON_TIME or LATE and queued for its frame. -/
  | psetWrite (r : Req) (c : Nat) (bytes : List Nat)
  /-- PIPE_STEP (R218). The pipeline processes a frame or stripe of lines and publishes the record after the last line. -/
  | pipeStep
  /-- CAL_RUN (R234). CAL_CMD 01h collects and applies one calibration of the selected class. -/
  | calRun (r : Req)
  /-- CAL_ABORT (R234). CAL_CMD 02h ends collection without applying. -/
  | calAbort (r : Req)
  /-- CAL_REVERT (R234). CAL_CMD 03h discards the class's user record and restores defaults. -/
  | calRevert (r : Req)
  /-- DENS_APPLY (R229). DENS_FRAMES usable records are collected and the density gains are computed and written. -/
  | densApply
  /-- REG_APPLY (R232). REG_FRAMES measurements are averaged and trim targets moved. -/
  | regApply
  /-- AIN_TRIM_WRITE (R224). A write of AIN_TRIM_GAIN or AIN_TRIM_OFFSET is a class 2 calibration. -/
  | ainTrimWrite (r : Req) (n : Nat) (offset : Bool) (v : Int)
  /-- CELLAR_FLUSH_CMD (R240). Writes every dirty Cellar record at once. -/
  | cellarFlushCmd (r : Req)
  /-- CELLAR_WRITE (R240). A dirty record is written CELLAR_MIN_WRITE_S after its last write. -/
  | cellarWrite
  /-- CELLAR_WRITE_DONE (R240). Erase, program and read-back of a record slot complete, with a retry or CELLAR_WRITE_FAILED. -/
  | cellarWriteDone (back : List Nat)
  /-- PROFILE_SAVE_CMD (R241). Saves the values in force of every profile-class entry as a PROFILE record. -/
  | profileSaveCmd (r : Req)
  /-- SHADOW_CHECK (R246). The Spare renders one channel of a Room's slot and compares line signatures. -/
  | shadowCheck (room : Option Nat) (spare : Option Nat)
  /-- SHADOW_RECOMPUTE (R247). After a mismatch, the Room and the Spare recompute the slot. -/
  | shadowRecompute (room : Option Nat) (spare : Option Nat)
  /-- SHADOW_REFEREE (R247). The referee Room computes the slot and identifies the Room or the Spare as faulty. -/
  | shadowReferee (ref : Option Nat)
  /-- ROOM_STALL (R248). A Room does not complete a begun slot within ROOM_STALL_US and is faulty. -/
  | roomStall (u : Nat)
  /-- ROOM_MEMORY_ERROR (R248). A Room or the Spare reports an uncorrectable memory error and is faulty. -/
  | roomMemoryError (u : Nat)
  /-- PROOF_START (R255). PROOF_CMD 01h starts a proof test of a retired Room, the Spare or a spare lane. -/
  | proofStart (r : Req)
  /-- PROOF_ABORT (R255). PROOF_CMD 02h aborts the proof test. -/
  | proofAbort (r : Req)
  /-- PROOF_DONE (R255). A proof test passes or fails. -/
  | proofDone (x : ProofRes)
  /-- FAULT_ACK (R260). Acknowledges FAULT and STOP records at or before the written sequence. -/
  | faultAck (r : Req) (seq : Nat)
  /-- MIRROR_CLEAR_CMD (R261). Empties the Cellar fault mirror. -/
  | mirrorClearCmd (r : Req)
  /-- LOOP_SAMPLE (R270). A Boiler slot takes its sample, runs its compensator and model, and updates its duty. -/
  | loopSample (k : Nat) (inp : Nat)
  /-- LOOP_FORCE_SAFE (R276). LOOP_CMD 01h puts the slot in SAFE with cause COMMAND. -/
  | loopForceSafe (r : Req) (k : Nat)
  /-- LOOP_RESTORE (R276). LOOP_CMD 02h restores a SAFE slot at its next sample. -/
  | loopRestore (r : Req) (k : Nat)
  /-- LOOP_DISABLE (R278). LOOP_ENABLE 0 starts the slot's shutdown. -/
  | loopDisable (r : Req) (k : Nat)
  /-- LOOP_ENABLE (R272). LOOP_ENABLE 1 starts the slot, or makes it PENDING. -/
  | loopEnable (r : Req) (k : Nat)
  /-- LOOP_OFF (R278). The slot's shutdown completes and any pending enable starts. -/
  | loopOff (k : Nat)
  /-- PWM_PERIOD (R273). A PWM period starts and takes the newest duty. -/
  | pwmPeriod (b : Nat)
  /-- RX_FRAME (R285). A received Ethernet frame is checked, steered, forwarded or discarded. -/
  | rxFrame (p : Nat) (sub : Nat) (rx : Nat) (f : EthFrame)
  /-- PORCH_PORT_DISABLE (R289). Clearing a Porch PORT_ENABLE starts its shutdown. -/
  | porchPortDisable (r : Req) (p : Nat)
  /-- PORCH_PORT_ENABLE (R289). Setting a Porch PORT_ENABLE enables the port, or makes it PENDING. -/
  | porchPortEnable (r : Req) (p : Nat)
  /-- PORCH_PORT_OFF (R289). The Porch port shutdown completes and any pending enable starts. -/
  | porchPortOff (p : Nat)
  /-- PORCH_LINK_UP (R291). A Porch link comes up. -/
  | porchLinkUp (p : Nat) (sub : Nat)
  /-- PORCH_LINK_DOWN (R291). A Porch link goes down. -/
  | porchLinkDown (p : Nat) (sub : Nat)
  /-- PORCH_HOLD_TIMEOUT (R291). The link is not up within LINK_UP_TIMEOUT_MS or stays down beyond LINK_DOWN_HOLD_MS, so HOLD falls. -/
  | porchHoldTimeout (p : Nat)
  /-- PORCH_HOLD_RETRY (R291). After HOLD_RETRY_S the port retrains and raises HOLD. -/
  | porchHoldRetry (p : Nat)
  /-- FDB_AGE (R287). A learnt MAC address ages out after FDB_AGE_S. -/
  | fdbAge (mac : Nat)
  /-- PTP_SYNC (R297). A Sync gives an offset on which the time base steps or runs its PI. -/
  | ptpSync (t : Nat) (port : Nat) (sender : Nat) (t1 : Int) (stamp : Int) (ms : Nat)
  /-- PTP_MESSAGE (R295). Another PTP message updates path delay or BMCA state. -/
  | ptpMessage (t : Nat) (port : Nat) (m : PtpMsg)
  /-- SYNC_LOSS (R297). No valid Sync for SYNC_LOSS_INTERVALS, or an announce timeout, puts the time base in HOLDOVER. -/
  | syncLoss (t : Nat)
  /-- TB3_UPDATE (R299). Every 1 ms TB3 chooses its source and sets its rate correction. -/
  | tb3Update
  /-- TB3_STEP_CMD (R299). Steps TB3 to the selected source. -/
  | tb3StepCmd (r : Req)
  /-- LAUNCH_SUBMIT (R302). Queues a frame for launch at a TB3 instant, or refuses it. -/
  | launchSubmit (r : Req) (bytes : List Nat)
  /-- LAUNCH_CANCEL (R302). Removes every pending launch of the tag. -/
  | launchCancel (r : Req) (tag : Nat)
  /-- LAUNCH (R303). A pending launch leaves at its TB3 instant, or is late under LAUNCH_LATE_POLICY. -/
  | launch (p : Nat)
  /-- HALL_PORT_DISABLE (R325). Clearing a Hallway PORT_ENABLE starts its shutdown. -/
  | hallPortDisable (r : Req) (p : Nat)
  /-- HALL_PORT_ENABLE (R309). Setting a Hallway PORT_ENABLE starts training, or makes the port PENDING. -/
  | hallPortEnable (r : Req) (p : Nat)
  /-- HALL_PORT_OFF (R325). The Hallway port shutdown completes. -/
  | hallPortOff (p : Nat)
  /-- HALL_TRAINING_STEP (R309). A training step completes and the next begins, ending in H0 with HALL_LINK_UP. -/
  | hallTrainingStep (p : Nat) (t : HallTrain)
  /-- HALL_TRAINING_RESTART (R309). H0 is not reached within 4 ms and the port restarts at step 2. -/
  | hallTrainingRestart (p : Nat)
  /-- HALL_HOLD_TIMEOUT (R326). H0 is not reached or is lost too long, so HALL HOLD falls. -/
  | hallHoldTimeout (p : Nat)
  /-- HALL_HOLD_RETRY (R326). After HOLD_RETRY_S the Hallway HOLD rises again. -/
  | hallHoldRetry (p : Nat)
  /-- EDGE (R320). A received EDGE message drives the member's PT as an encoder edge and is forwarded. -/
  | edge (h : HallHdr) (pt : Int) (ns : Nat) (frac : Nat) (v : Nat) (flags : Nat) (vote : Vote)
  /-- EDGE_SEND (R320). The master sends an EDGE message, at most once per EDGE_MIN_NS. -/
  | edgeSend
  /-- SYNC (R319). A received SYNC aligns the member's TB3 and judges its path ALIGNED. -/
  | sync (h : HallHdr) (ns : Nat) (frac : Nat) (acc : Nat) (arrPs : Int) (resid : Nat)
  /-- SYNC_SEND (R319). The master sends SYNC every SYNC_PERIOD_NS in RUN or 100 µs in READY. -/
  | syncSend
  /-- GRID (R320). A received GRID message sets the member's line grid. -/
  | grid (h : HallHdr) (go : Nat) (po : Int) (num : Nat) (den : Nat) (mode : Nat)
  /-- GRID_SEND (R314). The master sends GRID at each grid change and every 1 ms. -/
  | gridSend
  /-- CUE (R320). A received CUE message supplies a cue latch. -/
  | cue (h : HallHdr) (pt : Int) (seq : Nat)
  /-- COMMIT (R39). A received COMMIT message seals, confirms or cancels the member's staged set. -/
  | commit (h : HallHdr) (number : Nat) (pt : Int) (kind : Nat)
  /-- COMMIT_ACK (R39). The master receives a member's count and CRC of its sealed set. -/
  | commitAck (h : HallHdr) (number : Nat) (count : Nat) (crc : Nat)
  /-- LAT_PROBE (R318). A latency probe is returned, or its return updates LATENCY_PS. -/
  | latProbe (h : HallHdr) (num : Nat) (turn : Nat) (ps : Nat)
  /-- LAT_PROBE_SEND (R318). A probe is sent every LAT_CHECK_US in H0. -/
  | latProbeSend (p : Nat)
  /-- ENUM (R317). A received ENUM message updates hop counts and ring position and is forwarded. -/
  | enum (h : HallHdr) (dir : Nat) (count : Nat) (size : Nat) (serial : Nat)
  /-- ENUM_TIMEOUT (R317). ENUM_TIMEOUT_MS passes, leaving the ring OPEN or NO_MASTER. -/
  | enumTimeout (reached : Nat)
  /-- STATUS (R314). The master receives a member's STATUS word. -/
  | status (h : HallHdr) (w : Nat)
  /-- STATUS_SEND (R314). A member sends STATUS to the master every 10 ms. -/
  | statusSend
  /-- STATS (R316). A forwarded statistics record is offered to the calibration manager or discarded. -/
  | stats (h : HallHdr) (mine : Bool) (c : Nat) (frame : Nat) (off : Nat) (total : Nat) (bs : List Nat)
  /-- BULK (R357). A received BULK message enters the named Workshop engine's ring or is lost. -/
  | bulk (h : HallHdr) (pos : Nat) (eng : Nat) (srcW : Nat) (data : List Nat)
  /-- HALL_ACK (R315). A cumulative ACK frees replayed messages of its class. -/
  | hallAck (p : Nat) (cls : Nat) (seq : Nat)
  /-- HALL_NAK (R315). A NAK makes the sender resend from the first unacknowledged message. -/
  | hallNak (p : Nat) (cls : Nat)
  /-- REPLAY_TIMEOUT (R315). 10 µs without an ACK makes the sender resend. -/
  | replayTimeout (p : Nat) (cls : Nat)
  /-- H1_ENTER (R312). The link enters H1 with its data lanes idle. -/
  | h1Enter (p : Nat)
  /-- LANE_FAIL (R322). A receive lane or FCLK fails and the spare is switched in, or the direction degrades or the link drops. -/
  | laneFail (p : Nat) (lane : Nat) (gap : Nat) (errs : Nat) (lost : Bool)
  /-- LANE_SWITCH (R322). A received LANE_SWITCH moves the failed lane's role to L4. -/
  | laneSwitch (p : Nat) (lane : Nat) (gap : Nat)
  /-- HALL_RESET (R325). A received RESET or DOWN control beat takes the port out of H0. -/
  | hallReset (p : Nat) (down : Bool)
  /-- LINK_RESET_CMD (R325). Sends RESET and restarts both ends of the link at training step 2. -/
  | linkResetCmd (r : Req) (p : Nat)
  /-- COAST_TIMEOUT (R321). No path becomes ALIGNED within COAST_US and the member's timeline becomes LOST. -/
  | coastTimeout
  /-- PRBS_START (R324). PRBS_CMD 01h takes the link into TEST and runs PRBS. -/
  | prbsStart (r : Req)
  /-- PRBS_STOP (R324). PRBS_CMD 02h ends the test and retrains the link. -/
  | prbsStop (r : Req) (rx : List (List Bool))
  /-- PANTRY_TRANSACTION (R336). A requester's read or write transaction is scheduled and served on its channel. -/
  | pantryTransaction (t : PantryReq)
  /-- PANIC_START (R339). Prefetch fill falls below PANIC_LEVEL_KIB and panic is raised. -/
  | panicStart (fill : Nat)
  /-- PANIC_END (R339). Prefetch fill reaches PANIC_CLEAR_KIB and panic ends. -/
  | panicEnd (fill : Nat) (low : Nat)
  /-- REFRESH (R340). A refresh interval expires and refresh is issued or postponed. -/
  | refresh (c : Nat)
  /-- MR4_READ (R340). Every 16 ms the refresh multiplier is read. -/
  | mr4Read (c : Nat) (mult : Nat)
  /-- RH_WINDOW_END (R341). The refresh window ends and the activate tables are cleared. -/
  | rhWindowEnd (c : Nat)
  /-- SCRUB (R345). A patrol scrub reads and corrects the next span. -/
  | scrub (ecc : List SectorErr)
  /-- DQS_CHECK (R348). Every RETRAIN_MS the DQS oscillator is read and write delays corrected if drifted. -/
  | dqsCheck (c : Nat) (x : Int)
  /-- ENG_WATCHDOG (R352). An engine's watchdog expires and the engine restarts. -/
  | engWatchdog (e : Nat)
  /-- ENG_WORKSHOP_TRAP (R353). A Workshop engine access outside its map faults. -/
  | engWorkshopTrap (w : Nat) (addr : Nat) (byte : Option Nat)
  /-- ENG_SRAM_ECC (R363). An uncorrectable SRAM error resets the reading engine. -/
  | engSramEcc (e : Nat) (addr : Nat) (fixable : Bool)
  /-- BULK_SEND (R357). A mailbox BULK_SEND sends a Hallway BULK message. -/
  | bulkSend (b : MbHdr) (op : Nat) (pos : Nat) (eng : Nat) (len : Nat) (data : List Nat)
  /-- MB_ACK (R354). Frees the response slots written as 1. -/
  | mbAck (w : Nat) (mask : Nat) (regs : List (Nat × Nat))
  /-- WDT_KICK (R362). Restarts the Workshop engine's watchdog. -/
  | wdtKick (w : Nat)
  /-- WORKSHOP_RESTART (R362). WORKSHOP_CMD 01h restarts W0 … W3 from the checked stored image. -/
  | workshopRestart (r : Req)
  /-- WORKSHOP_HALT (R362). WORKSHOP_CMD 02h halts W0 … W3. -/
  | workshopHalt (r : Req)
  /-- WORKSHOP_IMAGE_WRITE (R360). A Workshop image is verified before it is stored, or refused with CHECK. -/
  | workshopImageWrite (r : Req) (bytes : List Nat)
  /-- PWR_REQUEST_RUN (R377). PWR_REQUEST 0 ungates the Rooms, or exits STANDBY first. -/
  | pwrRequestRun (r : Req)
  /-- PWR_REQUEST_READY (R377). PWR_REQUEST 1 gates the Rooms or exits STANDBY. -/
  | pwrRequestReady (r : Req)
  /-- PWR_REQUEST_STANDBY (R382). PWR_REQUEST 2 starts the STANDBY entry. -/
  | pwrRequestStandby (r : Req)
  /-- PWR_REQUEST_NIGHT (R383). PWR_REQUEST 3 starts the NIGHT entry. -/
  | pwrRequestNight (r : Req)
  /-- SLEEP_N_FALL (R378). A filtered SLEEP_N falling edge requests NIGHT, stopping printing first. -/
  | sleepNFall
  /-- SLEEP_REQUEST_SAMPLE (R378). A held NIGHT request is sampled once printing has stopped and the speed allows. -/
  | sleepRequestSample
  /-- PWR_STEP_DONE (R382). A step of a power entry or exit completes and the next begins. -/
  | pwrStepDone (dqs : List Int)
  /-- WAKE (R380). An enabled Doorbell latch is set and the device exits or rolls back. -/
  | wake (rise : Bool)
  /-- WAKE_TB0_ALARM (R380). TB0 reaches WAKE_TB0_NS and latches its wake source. -/
  | wakeTb0Alarm
  /-- WAKE_POS0_MOVEMENT (R380). Net POS0 movement reaches WAKE_COUNTS and latches its wake source. -/
  | wakePos0Movement
  /-- POWER_REQUEST (R387). A member receives the master's POWER REQUEST and answers PREPARED or ABORTED. -/
  | powerRequest (h : HallHdr) (target : Nat) (number : Nat) (status : Nat)
  /-- POWER_PREPARED (R387). The master receives a member's PREPARED. -/
  | powerPrepared (h : HallHdr) (target : Nat) (number : Nat) (origin : Nat) (status : Nat)
  /-- POWER_GO (R387). A member receives GO and runs its entry. -/
  | powerGo (h : HallHdr) (target : Nat) (number : Nat) (status : Nat)
  /-- POWER_CANCEL (R387). A member receives CANCEL and keeps its state. -/
  | powerCancel (h : HallHdr) (target : Nat) (number : Nat) (status : Nat)
  /-- POWER_ABORTED (R387). The master receives ABORTED and cancels or rolls back. -/
  | powerAborted (h : HallHdr) (target : Nat) (number : Nat) (origin : Nat) (status : Nat)
  /-- POWER_EXIT (R387). A received POWER EXIT is a wake. -/
  | powerExit (h : HallHdr) (target : Nat) (number : Nat) (status : Nat)
  /-- RING_POWER_TIMEOUT (R387). Not all members are PREPARED within RING_POWER_TIMEOUT_MS, so the master cancels. -/
  | ringPowerTimeout
  /-- PWR_RAIL_FAULT (R370). A PG is lost or not asserted in time, so clamps close and rails go down. -/
  | pwrRailFault (slot : Nat) (cause : Nat)
  /-- RAIL_RETRY (R370). After RAIL_RETRY_S the device boots again following a rail fault. -/
  | railRetry
  /-- PWR_VBAR_LOW (R366). VBAR falls below VBAR_WARN_MV. -/
  | pwrVbarLow (mv : Nat)
  /-- PWR_AON_BROWNOUT (R367). The AON domain resets under brown-out. -/
  | pwrAonBrownout
  /-- PMBUS_POLL (R371). Every 10 ms, or on PMB_ALERT_N, regulator status is read. -/
  | pmbusPoll (slot : Nat) (all : Bool) (r : PmRead)
  /-- PWR_TJ_HIGH (R372). TJ_DC reaches TJ_WARN_DC. -/
  | pwrTjHigh (tj : Int) (sensor : Nat)
  /-- PWR_TJ_SHUTDOWN (R372). Junction temperature reaches 145 °C and the device shuts down in hardware. -/
  | pwrTjShutdown (tj : Int) (sensor : Nat)
  /-- POWER_ON (R396). VBAR rises from below 4.0 V and the device boots. -/
  | powerOn
  /-- RESET_N_ASSERT (R392). RESET_N is asserted, clamps close and every domain except AON resets. -/
  | resetNAssert (ns : Nat)
  /-- RESET_N_RELEASE (R392). RESET_N is released and the boot starts. -/
  | resetNRelease
  /-- DEVICE_RESET_CMD (R393). Resets the device after 1 ms with cause COMMAND. -/
  | deviceResetCmd (r : Req)
  /-- SUBSYS_RESET_CMD (R394). Resets one subsystem with its crossings, or refuses. -/
  | subsysResetCmd (r : Req) (code : Nat) (env : WriteEnv)
  /-- BOOT_STEP (R396). A boot step completes and the next begins, ending in READY with BOOT_DONE. -/
  | bootStep (x : BootArgs)
  /-- BOOT_RETRY (R398). The house firmware does not reach READY within 2 s, so the device boots the other slot. -/
  | bootRetry
  /-- BOOT_ROM_RELEASE (R398). After 1 s without a bootable image the xSPI balls are released. -/
  | bootRomRelease
  /-- HOUSE_IMAGE_WRITE (R399). A house image is verified and stored in the slot not booted. -/
  | houseImageWrite (r : Req) (bytes : List Nat)
  /-- FOUNDATION_PROGRAM (R402). Blows the requested Foundation fuses, or refuses. -/
  | foundationProgram (r : Req) (bytes : List Nat) (env : WriteEnv)
  /-- CLK_REF_LOST (R417). The crystal is lost, FIRE is gated and PLLs switch to backup. -/
  | clkRefLost
  /-- CLK_PLL_UNLOCK (R417). A PLL loses lock, FIRE is gated and the PLL switches to backup. -/
  | clkPllUnlock (pll : Nat) (ps : Nat)
  /-- CLK_LANE_REF_LOST (R418). The lane reference is lost and NET moves to PLL D. -/
  | clkLaneRefLost (us : Nat)
  /-- LANE_REF_RESTORED (R418). The lane reference has been present for 10 ms and NET returns to the lane PLL. -/
  | laneRefRestored
  /-- TEST_LOGIC_RESET (R445). TRST_N or five TMS-high cycles reset the TAP and release a test-held reset. -/
  | testLogicReset
  /-- IDCODE (R446). Selects the identification register. -/
  | idcode
  /-- SAMPLE (R446). Samples the boundary register. -/
  | sample (pins : List Bool)
  /-- PRELOAD (R446). Preloads the boundary register. -/
  | preload (pins : List Bool) (data : List Bool)
  /-- EXTEST (R448). Drives balls from the boundary register with the core held in reset. -/
  | extest (pins : List Bool) (data : List Bool)
  /-- EXTEST_PULSE (R450). EXTEST with IEEE 1149.6 pulses on AC pins. -/
  | extestPulse (pins : List Bool) (data : List Bool) (edges : List (Nat × Bool))
  /-- EXTEST_TRAIN (R450). EXTEST with IEEE 1149.6 pulse trains on AC pins. -/
  | extestTrain (pins : List Bool) (data : List Bool) (edges : List (Nat × Bool))
  /-- CLAMP (R448). Drives the preloaded values with the bypass register selected. -/
  | clamp
  /-- HIGHZ (R448). Puts every output at high impedance. -/
  | highz
  /-- BYPASS (R446). Selects the bypass register. -/
  | bypass (code : Nat)
  /-- SELFTEST_START (R451). SELFTEST_CMD 01h starts a self-test of a Room, the Spare or the Mantel. -/
  | selftestStart (r : Req)
  /-- SELFTEST_ABORT (R451). SELFTEST_CMD 02h aborts the self-test. -/
  | selftestAbort (r : Req)
  /-- SELFTEST_DONE (R453). A self-test completes with SELFTEST_PASSED or SELFTEST_FAILED. -/
  | selftestDone (x : SelfRes)
  /-- LOOPBACK_START (R454). LOOP_CMD 01h starts a loopback test of a head group, Porch or Hallway port. -/
  | loopbackStart (r : Req)
  /-- LOOPBACK_DONE (R455). A loopback test completes and LOOP_FAIL_MAP is set. -/
  | loopbackDone (x : LoopRes)
  /-- ALERT_N_DEASSERTED (R190). An accepted deassertion of HGk_ALERT_N ends the alert response reads and marks the alert over, so that unidentified gated channels are released at the next line event and TRIP heads may gain their pending bit. -/
  | alertNDeasserted (k : Nat) (held : Nat)
  /-- TRIG_PULSE_END (R205). The CAM_TRIGp pulse width of ceil(TRIG_WIDTH_NS / 2.5) ENC cycles expires and the trigger output returns to its inactive level. -/
  | trigPulseEnd (p : Nat)
  /-- AIN_MON_CONVERSION (R266). An analog input with AIN_MON_HZ above 0 is converted at its monitor rate and AIN_CODE is updated. -/
  | ainMonConversion (n : Nat) (raw : Nat)
  /-- PTP_DELAY_REQ_SEND (R297). A time base sends its Delay_Req or Pdelay_Req at the interval of its profile to measure the path or peer delay that the servo uses. -/
  | ptpDelayReqSend (t : Nat)
  /-- PORCH_LANES_TRAINED (R290). A Porch port completes its own lane calibration and PCS lock in internal near-end loopback, so its HOLD rises and auto-negotiation and link training begin. -/
  | porchLanesTrained (p : Nat)
deriving DecidableEq, Repr

end Sys2Proof
end

