-- ==== Sys2Proof/Decode.lean ====
section
/-! DEFINITION. The reading of a table word. The table of operations and events gives no row any bits (every row's
`fields` is empty and no row has `fixed`), so no word spells a command (log entry 5). -/
namespace Sys2Proof

/-- The command that a word spells by the table's bits: none, for the table gives no row bits. -/
def decodeTableWord (_nbits _w : Nat) : Option Instr := none

end Sys2Proof
end

