-- ==== Sys2Proof/Config.lean ====
section
/-! DEFINITION. What the spec leaves open, as constants without a body: no proof can see a value of them.
`freeValue` answers the n-th value the spec leaves open (each use advances a plain counter in the state); the other
constants are functions of the operands of the one rule that names them. -/
namespace Sys2Proof.Config

/-- The n-th value that the spec leaves open (log entry 1). -/
opaque freeValue : Nat → BitVec 64

/-- The n-th byte of a nonce (R28, R29: the device issues nonces and the spec does not say how; log entry 2). -/
opaque nonceByte : Nat → BitVec 8

/-- exp(x) of R275 as a binary32 pattern of the binary32 argument: the spec names the function and gives no
algorithm or rounding for it (log entry 3). -/
opaque expF32 : BitVec 32 → BitVec 32

/-- Which of the two integers beside an inexact quotient a rule that states no rounding gives: rule, numerator,
denominator (log entry 22). -/
opaque roundUp : Nat → Int → Int → Bool

/-- A value that the named rule does not state for its operands (log entry 23). -/
opaque unstated : Nat → List Int → BitVec 64

/-- The drop velocity of R194 where both beams see the drop at one instant, as a function of the travel in µm: the
quotient of the rule has no value there (log entry 21). -/
opaque velAtZero : Nat → BitVec 32

/-- Where between the two middle values of an even count the median lies, in 65,536ths of their distance (65,536 where it
is larger): the rules that take a median do not say (log entry 20). -/
opaque medianPart : Nat → List (Int × Int) → BitVec 17

/-- CODE of R343 over the data bytes of a sector and its address bits: the rule names the code and does not say which bit of
it lies where (log entry 200). -/
opaque eccCode : List Nat → Nat → BitVec 10

/-- What the code of R343 makes of three and more inverted bits: 0 no error, 1 a corrected one, else uncorrectable (log
entry 200). -/
opaque eccMany : List Nat → BitVec 2

/-- R340: the ENC cycles from one per-bank refresh of a channel to the next at the multiplier 1×, for the density in Gbit and
the ranks: LPDDR5's, which the spec does not give (log entry 201). -/
opaque refreshCycles : Nat → Nat → Nat

/-- R434: what the board's pull-ups on the power-good inputs draw beyond their least, µA (log entry 206). -/
opaque aonPullups : Nat

end Sys2Proof.Config
end

