-- ==== Sys2Proof/Machine/Num.lean ====
section
/-! DEFINITION. Arithmetic the spec names once and uses everywhere: serial-number comparison (R460), rounding half
away from zero (R461), truncating and flooring division, wrapping counters, little-endian fields (R11), CRC-32C and
CRC-32, and the bytes of a list. Numbers are plain `Nat` and `Int`; a width is applied where the spec applies it. -/
namespace Sys2Proof.Machine

/-- `v` modulo 2^w, as a counter that wraps at w bits. -/
def wrap (w : Nat) (v : Nat) : Nat := v % 2 ^ w

/-- The two's complement reading of the low `w` bits of `v`. -/
def toSigned (w : Nat) (v : Nat) : Int :=
  let u := v % 2 ^ w
  if 2 * u < 2 ^ w then (u : Int) else (u : Int) - (2 ^ w : Nat)

/-- The w-bit two's complement pattern of `v`. -/
def ofSigned (w : Nat) (v : Int) : Nat := (v % (2 ^ w : Nat)).toNat

/-- R460: a is before b in n-bit serial-number arithmetic. -/
def serialBefore (n a b : Nat) : Bool :=
  let d := (b + 2 ^ n - a % 2 ^ n) % 2 ^ n
  decide (1 ≤ d ∧ d + 1 ≤ 2 ^ (n - 1))

/-- R460: a is after b. -/
def serialAfter (n a b : Nat) : Bool := serialBefore n b a

/-- R460: a is at or before b. -/
def serialAtOrBefore (n a b : Nat) : Bool := decide (a % 2 ^ n = b % 2 ^ n) || serialBefore n a b

/-- R460: a is at or after b. -/
def serialAtOrAfter (n a b : Nat) : Bool := decide (a % 2 ^ n = b % 2 ^ n) || serialAfter n a b

/-- ceil (a / b). -/
def ceilDiv (a : Int) (b : Int) : Int := -((-a).fdiv b)

/-- ceil (a / b) over naturals. -/
def ceilDivNat (a b : Nat) : Nat := if b = 0 then 0 else (a + b - 1) / b

/-- R461: round (a / b) with ties away from zero; b > 0. -/
def roundDiv (a : Int) (b : Int) : Int :=
  if 0 ≤ a then (2 * a + b).fdiv (2 * b) else -((2 * (-a) + b).fdiv (2 * b))

/-- Clamp v into lo … hi. -/
def clampI (lo hi v : Int) : Int := if v < lo then lo else if hi < v then hi else v

/-- Clamp v into lo … hi over naturals. -/
def clampN (lo hi v : Nat) : Nat := if v < lo then lo else if hi < v then hi else v

/-- The bit `i` of a mask. -/
def bit (m i : Nat) : Bool := (m >>> i) % 2 == 1

/-- Set bit `i` of a mask. -/
def setBit (m i : Nat) : Nat := m ||| (1 <<< i)

/-- Clear bit `i` of a mask. -/
def clrBit (m i : Nat) : Nat := if bit m i then m - (1 <<< i) else m

/-- Put `b` at bit `i` of a mask. -/
def putBit (m i : Nat) (b : Bool) : Nat := if b then setBit m i else clrBit m i

/-- The field [hi:lo] of a word. -/
def field (w hi lo : Nat) : Nat := (w >>> lo) % 2 ^ (hi + 1 - lo)

/-- The number of bits set among the low `n` of m. -/
def popCount : Nat → Nat → Nat
  | 0, _ => 0
  | n + 1, m => m % 2 + popCount n (m / 2)

/-- The list of set bit numbers among the low `n` bits of m, lowest first. -/
def bitsOf (n m : Nat) : List Nat := (List.range n).filter (bit m)

/-- The mask whose set bits are the listed numbers. -/
def maskOf (l : List Nat) : Nat := l.foldl setBit 0

/-- The n little-endian bytes of v (R11). -/
def leBytes : Nat → Nat → List Nat
  | 0, _ => []
  | n + 1, v => v % 256 :: leBytes n (v / 256)

/-- The number spelled by little-endian bytes (R11). -/
def leNat : List Nat → Nat
  | [] => 0
  | b :: bs => b % 256 + 256 * leNat bs

/-- The n little-endian bytes of a signed value. -/
def leBytesI (n : Nat) (v : Int) : List Nat := leBytes n (ofSigned (8 * n) v)

/-- n bytes of a list from an offset, padded with zeros past its end. -/
def bytesAt (l : List Nat) (off n : Nat) : List Nat :=
  let t := (l.drop off).take n
  t ++ List.replicate (n - t.length) 0

/-- The unsigned little-endian field of n bytes at an offset. -/
def fieldAt (l : List Nat) (off n : Nat) : Nat := leNat (bytesAt l off n)

/-- The signed little-endian field of n bytes at an offset. -/
def fieldAtI (l : List Nat) (off n : Nat) : Int := toSigned (8 * n) (fieldAt l off n)

/-- Replace the bytes of a list from an offset on. -/
def overlay (l : List Nat) (off : Nat) (bs : List Nat) : List Nat :=
  l.take off ++ bs ++ l.drop (off + bs.length)

/-- One step of a reflected CRC over one bit. -/
def crcBit (poly c : Nat) : Nat := if c % 2 = 1 then (c / 2) ^^^ poly else c / 2

/-- One byte of a reflected CRC. -/
def crcByte (poly c b : Nat) : Nat :=
  let x := c ^^^ (b % 256)
  crcBit poly (crcBit poly (crcBit poly (crcBit poly (crcBit poly (crcBit poly (crcBit poly (crcBit poly x)))))))

/-- CRC-32C (Castagnoli, reflected, initial and final complement), as the spec names it in R42 and R44. -/
def crc32c (l : List Nat) : Nat := (l.foldl (crcByte 0x82F63B78) 0xFFFFFFFF) ^^^ 0xFFFFFFFF

/-- Well-formed UTF-8 as RFC 3629 defines it (R25). -/
def utf8Ok : Nat → List Nat → Bool
  | 0, l => l.isEmpty
  | _ + 1, [] => true
  | n + 1, b :: rest =>
    let cont (x : Nat) : Bool := decide (0x80 ≤ x ∧ x ≤ 0xBF)
    if b < 0x80 then utf8Ok n rest
    else if 0xC2 ≤ b ∧ b ≤ 0xDF then
      match rest with
      | c :: r => cont c && utf8Ok n r
      | [] => false
    else if 0xE0 ≤ b ∧ b ≤ 0xEF then
      match rest with
      | c :: e :: r =>
        cont c && cont e && !(b == 0xE0 && decide (c < 0xA0)) && !(b == 0xED && decide (0x9F < c)) && utf8Ok n r
      | _ => false
    else if 0xF0 ≤ b ∧ b ≤ 0xF4 then
      match rest with
      | c :: e :: f :: r =>
        cont c && cont e && cont f && !(b == 0xF0 && decide (c < 0x90)) && !(b == 0xF4 && decide (0x8F < c)) &&
          utf8Ok n r
      | _ => false
    else false

/-- The bytes of an ASCII text. -/
def ascii (s : String) : List Nat := s.toList.map Char.toNat

/-- The decimal digits of a number, as ASCII bytes. -/
def decimal : Nat → Nat → List Nat
  | 0, _ => []
  | f + 1, v => if v < 10 then [0x30 + v] else decimal f (v / 10) ++ [0x30 + v % 10]

/-- Sum of a list. -/
def sumI (l : List Int) : Int := l.foldl (· + ·) 0

/-- The largest of a list of naturals, 0 of none. -/
def maxN (l : List Nat) : Nat := l.foldl Nat.max 0

/-- The smallest of a non-empty list, `d` of none. -/
def minN (d : Nat) : List Nat → Nat
  | [] => d
  | x :: xs => xs.foldl Nat.min x

/-- The median of fractions with positive denominators: the middle one of an odd count; of an even count a value between
the two in the middle, which the rule leaves open (log entry 20); 0 of none. -/
def medianFrac (rule : Nat) (l : List (Int × Int)) : Int × Int :=
  let s := l.mergeSort (fun a b => decide (a.1 * b.2 ≤ b.1 * a.2))
  let lo := s.getD ((s.length - 1) / 2) (0, 1)
  let hi := s.getD (s.length / 2) (0, 1)
  if s.length % 2 = 1 ∨ lo.1 * hi.2 = hi.1 * lo.2 then lo
  else
    let t : Int := (Nat.min 65536 (Config.medianPart rule l).toNat : Nat)
    (lo.1 * hi.2 * (65536 - t) + hi.1 * lo.2 * t, lo.2 * hi.2 * 65536)

end Sys2Proof.Machine
end

