-- ==== Sys2Proof/Machine/DictTypes.lean ====
section
/-! DEFINITION. The types of the dictionary (R6, R7, R9, R24, R25): value types with their codes and sizes, access
levels, access, takes-effect values, ranges, values and status codes. -/
namespace Sys2Proof.Machine

/-- R25: the value types. -/
inductive Ty where
  | u8 | u16 | u32 | u64 | i8 | i16 | i32 | i64 | f32 | bool | str | domain
deriving DecidableEq, Repr

/-- R7: the access levels, lowest first. -/
inductive Level where
  | pub | oper | serv | fact
deriving DecidableEq, Repr

/-- R6: what an entry allows. -/
inductive Access where
  | ro | rw | wo
deriving DecidableEq, Repr

/-- R9: when a written value acts. `now` is "immediately" (and the entries whose own rule says when), `atUse` is
"at arm" and "at start", `none` a value the device alone changes. -/
inductive Takes where
  | none | now | atCommit | atPage | atReset | atUse
deriving DecidableEq, Repr

/-- A bound of a range: a number, or another entry of the same record scaled (R8): value × mul div `div` + add. -/
inductive Bound where
  | lit (v : Int)
  | ref (sub : Nat) (mul div add : Int)
deriving DecidableEq, Repr

/-- The lengths a STR or DOMAIN entry admits (R26). -/
inductive ByteLen where
  | free
  | exactly (n : Nat)
  | upTo (lo hi : Nat)
deriving DecidableEq, Repr

/-- An entry's Range column. `mask` names the bits that are not reserved (R12), `maskSet m s` the same with the bits
of s reading as 1. -/
inductive Rng where
  | any
  | iv (lo hi : Bound)
  | oneOf (l : List Int)
  | mask (m : Nat)
  | maskSet (m s : Nat)
  | multiple (n : Nat)
  | ivStep (lo hi step : Nat)
  | orIv (v lo hi : Int)
  | f32 (lo hi : Option Bound) (openLo : Bool)
  | bytes (l : ByteLen)
  | inForceSel
deriving DecidableEq, Repr

/-- One row of an entry table. -/
structure EntryDef where
  index  : Nat
  units  : Nat
  stride : Nat
  sub    : Nat
  count  : Nat
  ty     : Ty
  acc    : Access
  level  : Level
  dflt   : Int
  rng    : Rng
  takes  : Takes
  fuse   : Bool
deriving DecidableEq, Repr

/-- A dictionary value: a number, or the bytes of a STR or DOMAIN. -/
inductive Val where
  | n (v : Int)
  | b (l : List Nat)
deriving DecidableEq, Repr

/-- R42: the status codes. -/
inductive Status where
  | ok | noIndex | noSub | level | readOnly | writeOnly | range | length | reserved | role | busy | session
  | sequence | domainState | check | state | notApplied | format | tooLarge | auth | lockedOut
deriving DecidableEq, Repr

/-- R42: the code of a status. -/
def Status.code : Status → Nat
  | .ok => 0x00 | .noIndex => 0x01 | .noSub => 0x02 | .level => 0x03 | .readOnly => 0x04 | .writeOnly => 0x05
  | .range => 0x06 | .length => 0x07 | .reserved => 0x08 | .role => 0x09 | .busy => 0x0A | .session => 0x0B
  | .sequence => 0x0C | .domainState => 0x0D | .check => 0x0E | .state => 0x0F | .notApplied => 0x11
  | .format => 0x12 | .tooLarge => 0x13 | .auth => 0x14 | .lockedOut => 0x15

/-- R48: the CiA 1301 abort code of a refusal (0 for OK). -/
def Status.abortCode : Status → Nat
  | .ok => 0
  | .noIndex => 0x06020000
  | .noSub => 0x06090011
  | .level => 0x06010000
  | .readOnly => 0x06010002
  | .writeOnly => 0x06010001
  | .range => 0x06090030
  | .reserved => 0x06090030
  | .length => 0x06070010
  | .tooLarge => 0x06070012
  | .role => 0x08000022
  | .busy => 0x08000022
  | .state => 0x08000022
  | _ => 0x08000000

/-- R25: the type code. -/
def Ty.code : Ty → Nat
  | .u8 => 1 | .u16 => 2 | .u32 => 3 | .u64 => 4 | .i8 => 5 | .i16 => 6 | .i32 => 7 | .i64 => 8 | .f32 => 9
  | .bool => 10 | .str => 11 | .domain => 12

/-- R25: the size of a fixed-size type; 0 for STR and DOMAIN. -/
def Ty.size : Ty → Nat
  | .u8 => 1 | .u16 => 2 | .u32 => 4 | .u64 => 8 | .i8 => 1 | .i16 => 2 | .i32 => 4 | .i64 => 8 | .f32 => 4
  | .bool => 1 | .str => 0 | .domain => 0

/-- Signed integer types. -/
def Ty.signed : Ty → Bool
  | .i8 => true | .i16 => true | .i32 => true | .i64 => true | _ => false

/-- R7: a level's place in the order. -/
def Level.rank : Level → Nat
  | .pub => 0 | .oper => 1 | .serv => 2 | .fact => 3

/-- R7: a level includes every level listed above it. -/
def Level.holds (have_ need : Level) : Bool := decide (need.rank ≤ have_.rank)

end Sys2Proof.Machine
end

