-- ==== Sys2Proof/Machine/Entries.lean ====
section
/-! DEFINITION. The entry tables of the dictionary (R50, R76, R101, R127, R152, R179, R199, R221, R244, R264, R281,
R305, R329, R350, R365, R390, R407, R421, R456), one row per table row: base index, number of units and the step
between their indices, first subindex, number of subindices, type, access, level, default, range, takes effect,
fuse-locked. -/
namespace Sys2Proof.Machine

/-- Entries 1000h … 1FFFh, part 1. -/
def entries10a : List EntryDef := [
  ⟨0x1000, 1, 1, 0, 1, .u32, .ro, .pub, 0, .any, .none, false⟩,
  ⟨0x1001, 1, 1, 0, 1, .u8, .ro, .pub, 0, .any, .none, false⟩,
  ⟨0x1008, 1, 1, 0, 1, .str, .ro, .pub, 0, (.bytes .free), .none, false⟩,
  ⟨0x1009, 1, 1, 0, 1, .str, .ro, .pub, 0, (.bytes .free), .none, false⟩,
  ⟨0x100A, 1, 1, 0, 1, .str, .ro, .pub, 0, (.bytes (.upTo 0 32)), .none, false⟩,
  ⟨0x1017, 1, 1, 0, 1, .u16, .rw, .oper, 1000, (.iv (.lit 0) (.lit 65535)), .now, false⟩,
  ⟨0x1018, 1, 1, 1, 1, .u32, .ro, .pub, 3870, .any, .none, false⟩,
  ⟨0x1018, 1, 1, 2, 1, .u32, .ro, .pub, 29074, .any, .none, false⟩,
  ⟨0x1018, 1, 1, 3, 1, .u32, .ro, .pub, 176, .any, .none, false⟩,
  ⟨0x1018, 1, 1, 4, 1, .u32, .ro, .pub, 0, .any, .none, false⟩,
  ⟨0x1100, 1, 1, 1, 1, .u16, .rw, .serv, 45712, (.iv (.lit 1024) (.lit 65535)), .atReset, false⟩,
  ⟨0x1100, 1, 1, 2, 1, .u16, .rw, .serv, 1400, (.iv (.lit 512) (.lit 8192)), .atReset, false⟩,
  ⟨0x1100, 1, 1, 3, 1, .u32, .rw, .oper, 10000, (.iv (.lit 1000) (.lit 600000)), .now, false⟩,
  ⟨0x1100, 1, 1, 4, 1, .u8, .ro, .pub, 0, (.iv (.lit 0) (.lit 8)), .none, false⟩,
  ⟨0x1100, 1, 1, 5, 1, .bool, .rw, .serv, 1, (.oneOf [0, 1]), .atReset, false⟩,
  ⟨0x1100, 1, 1, 6, 1, .u8, .ro, .pub, 16, .any, .none, false⟩,
  ⟨0x1100, 1, 1, 7, 1, .u32, .rw, .oper, 2000, (.iv (.lit 100) (.lit 60000)), .now, false⟩,
  ⟨0x1100, 1, 1, 8, 1, .u32, .ro, .pub, 0, .any, .none, false⟩,
  ⟨0x1100, 1, 1, 9, 1, .u32, .ro, .pub, 0, .any, .none, false⟩,
  ⟨0x1110, 1, 1, 1, 1, .domain, .wo, .serv, 0, (.bytes (.exactly 32)), .now, false⟩,
  ⟨0x1110, 1, 1, 2, 1, .u8, .rw, .serv, 5, (.iv (.lit 1) (.lit 20)), .now, false⟩,
  ⟨0x1110, 1, 1, 3, 1, .u16, .rw, .serv, 60, (.iv (.lit 10) (.lit 3600)), .now, false⟩,
  ⟨0x1280, 1, 1, 1, 1, .u8, .rw, .serv, 1, (.iv (.lit 1) (.lit 127)), .atReset, false⟩,
  ⟨0x1280, 1, 1, 2, 1, .u8, .rw, .serv, 2, (.iv (.lit 1) (.lit 127)), .atReset, false⟩]

/-- Entries 1000h … 1FFFh, part 2. -/
def entries10b : List EntryDef := [
  ⟨0x1280, 1, 1, 3, 1, .u16, .rw, .serv, 1000, (.oneOf [125, 250, 500, 1000]), .atReset, false⟩,
  ⟨0x1280, 1, 1, 4, 1, .u16, .rw, .serv, 5000, (.oneOf [1000, 2000, 5000, 8000]), .atReset, false⟩,
  ⟨0x1280, 1, 1, 5, 1, .u8, .rw, .serv, 0, (.oneOf [0, 1]), .now, false⟩,
  ⟨0x1280, 1, 1, 6, 1, .u8, .rw, .serv, 3, (.mask 3), .atReset, false⟩,
  ⟨0x1300, 1, 1, 1, 1, .u8, .rw, .oper, 1, (.iv (.lit 0) (.lit 3)), .now, false⟩,
  ⟨0x1300, 1, 1, 2, 1, .u16, .rw, .oper, 100, (.iv (.lit 10) (.lit 1000)), .now, false⟩,
  ⟨0x1300, 1, 1, 3, 1, .u32, .ro, .pub, 0, .any, .none, false⟩,
  ⟨0x1F10, 1, 1, 1, 1, .u8, .ro, .pub, 0, (.iv (.lit 0) (.lit 7)), .none, false⟩,
  ⟨0x1F10, 1, 1, 2, 1, .u8, .rw, .oper, 255, (.orIv 255 0 7), .atPage, false⟩,
  ⟨0x1F10, 1, 1, 3, 1, .u8, .ro, .pub, 0, (.oneOf [0, 1, 2, 3]), .none, false⟩,
  ⟨0x1F80, 1, 1, 1, 1, .u8, .rw, .oper, 1, (.oneOf [1, 2, 3]), .now, false⟩,
  ⟨0x1F80, 1, 1, 2, 1, .i64, .rw, .oper, 0, .any, .now, false⟩,
  ⟨0x1F80, 1, 1, 3, 1, .u8, .wo, .oper, 0, (.oneOf [1, 2, 3]), .now, false⟩,
  ⟨0x1F80, 1, 1, 4, 1, .u8, .ro, .pub, 0, (.oneOf [0, 1, 2, 3, 4, 5]), .none, false⟩,
  ⟨0x1F80, 1, 1, 5, 1, .i64, .ro, .pub, 0, .any, .none, false⟩,
  ⟨0x1F80, 1, 1, 6, 1, .u64, .ro, .pub, 0, .any, .none, false⟩,
  ⟨0x1F80, 1, 1, 7, 1, .u32, .ro, .pub, 0, .any, .none, false⟩,
  ⟨0x1F80, 1, 1, 8, 1, .u32, .rw, .serv, 96, (.iv (.lit 72) (.lit 4096)), .now, false⟩,
  ⟨0x1F80, 1, 1, 9, 1, .u16, .ro, .pub, 0, .any, .none, false⟩,
  ⟨0x1F80, 1, 1, 10, 1, .u16, .rw, .serv, 8, (.iv (.lit 4) (.lit 64)), .now, false⟩,
  ⟨0x1F81, 1, 1, 1, 1, .u32, .rw, .pub, 0, .inForceSel, .now, false⟩,
  ⟨0x1F81, 1, 1, 2, 1, .domain, .ro, .pub, 0, (.bytes .free), .none, false⟩]

/-- All entries of the range. -/
def entries10 : List EntryDef := entries10a ++ entries10b

/-- Entries 20xxh, part 1. -/
def entries20a : List EntryDef := [
  ⟨0x2000, 1, 1, 1, 1, .u8, .ro, .pub, 1, (.oneOf [0, 1, 2, 3]), .none, false⟩,
  ⟨0x2000, 1, 1, 2, 1, .u8, .wo, .oper, 0, (.iv (.lit 0) (.lit 3)), .now, false⟩,
  ⟨0x2000, 1, 1, 3, 1, .u8, .ro, .pub, 0, (.oneOf [0, 1, 2, 3, 4, 5]), .none, false⟩,
  ⟨0x2000, 1, 1, 4, 1, .u8, .ro, .pub, 0, (.iv (.lit 0) (.lit 4)), .none, false⟩,
  ⟨0x2000, 1, 1, 5, 1, .u8, .rw, .oper, 1, (.oneOf [1, 2]), .now, false⟩,
  ⟨0x2000, 1, 1, 6, 1, .u8, .rw, .oper, 9, (.maskSet 15 8), .now, false⟩,
  ⟨0x2000, 1, 1, 7, 1, .u8, .ro, .pub, 0, (.mask 15), .none, false⟩,
  ⟨0x2000, 1, 1, 8, 1, .u64, .rw, .oper, 0, .any, .now, false⟩,
  ⟨0x2000, 1, 1, 9, 1, .u32, .rw, .oper, 4096, (.iv (.lit 1) (.lit 2147483648)), .now, false⟩,
  ⟨0x2000, 1, 1, 10, 1, .u16, .rw, .serv, 10, (.iv (.lit 1) (.lit 1000)), .now, false⟩,
  ⟨0x2000, 1, 1, 11, 1, .u64, .ro, .pub, 0, .any, .none, false⟩,
  ⟨0x2001, 1, 1, 1, 1, .u16, .ro, .pub, 0, .any, .none, false⟩,
  ⟨0x2001, 1, 1, 2, 1, .u16, .rw, .serv, 4800, (.iv (.lit 4500) (.lit 45000)), .now, false⟩,
  ⟨0x2001, 1, 1, 3, 1, .u32, .ro, .pub, 0, .any, .none, false⟩,
  ⟨0x2001, 1, 1, 4, 1, .i16, .ro, .pub, 0, .any, .none, false⟩,
  ⟨0x2001, 1, 1, 5, 1, .i16, .rw, .serv, 1300, (.iv (.lit 800) (.lit 1400)), .now, false⟩,
  ⟨0x2001, 1, 1, 6, 1, .u8, .rw, .serv, 0, (.iv (.lit 0) (.lit 10)), .atReset, false⟩,
  ⟨0x2001, 1, 1, 7, 1, .u16, .rw, .serv, 10, (.iv (.lit 1) (.lit 3600)), .atReset, false⟩,
  ⟨0x2010, 6, 1, 1, 1, .bool, .rw, .serv, 1, (.oneOf [0, 1]), .atReset, false⟩,
  ⟨0x2010, 6, 1, 2, 1, .u16, .rw, .serv, 10, (.iv (.lit 1) (.lit 1000)), .atReset, false⟩,
  ⟨0x2010, 6, 1, 3, 1, .u16, .rw, .serv, 500, (.iv (.lit 0) (.lit 50000)), .atReset, false⟩,
  ⟨0x2010, 6, 1, 4, 1, .u8, .rw, .serv, 0, (.orIv 0 8 119), .atReset, false⟩,
  ⟨0x2010, 6, 1, 5, 1, .u8, .ro, .pub, 0, (.oneOf [0, 1, 2, 3]), .none, false⟩,
  ⟨0x2010, 6, 1, 6, 1, .u16, .ro, .pub, 0, .any, .none, false⟩]

/-- Entries 20xxh, part 2. -/
def entries20b : List EntryDef := [
  ⟨0x2010, 6, 1, 7, 1, .u32, .ro, .pub, 0, .any, .none, false⟩,
  ⟨0x2010, 6, 1, 8, 1, .i16, .ro, .pub, 0, .any, .none, false⟩,
  ⟨0x2010, 6, 1, 9, 1, .u16, .ro, .pub, 0, .any, .none, false⟩]

/-- All entries of the range. -/
def entries20 : List EntryDef := entries20a ++ entries20b

/-- Entries 21xxh, part 1. -/
def entries21a : List EntryDef := [
  ⟨0x2100, 1, 1, 1, 1, .u8, .ro, .pub, 0, (.oneOf [0, 1]), .none, false⟩,
  ⟨0x2100, 1, 1, 2, 1, .u8, .ro, .pub, 0, (.oneOf [0, 1]), .none, false⟩,
  ⟨0x2100, 1, 1, 3, 1, .u8, .ro, .pub, 0, .any, .none, false⟩,
  ⟨0x2100, 1, 1, 4, 1, .u8, .ro, .pub, 31, .any, .none, false⟩,
  ⟨0x2100, 1, 1, 5, 1, .f32, .ro, .pub, 0, .any, .none, false⟩,
  ⟨0x2100, 1, 1, 6, 1, .u32, .ro, .pub, 0, .any, .none, false⟩,
  ⟨0x2101, 1, 1, 1, 4, .u32, .ro, .pub, 0, .any, .none, false⟩,
  ⟨0x2102, 1, 1, 1, 24, .u32, .ro, .pub, 0, .any, .none, false⟩]

/-- All entries of the range. -/
def entries21 : List EntryDef := entries21a

/-- Entries 22xxh, part 1. -/
def entries22a : List EntryDef := [
  ⟨0x2200, 1, 1, 1, 1, .u8, .ro, .pub, 0, (.iv (.lit 0) (.lit 6)), .none, false⟩,
  ⟨0x2200, 1, 1, 2, 1, .u32, .ro, .pub, 0, .any, .none, false⟩,
  ⟨0x2200, 1, 1, 3, 1, .u8, .ro, .pub, 0, (.oneOf [0, 1]), .none, false⟩,
  ⟨0x2200, 1, 1, 4, 1, .u32, .ro, .pub, 0, .any, .none, false⟩,
  ⟨0x2200, 1, 1, 5, 1, .u8, .ro, .pub, 0, (.iv (.lit 0) (.lit 7)), .none, false⟩,
  ⟨0x2200, 1, 1, 6, 1, .u8, .ro, .pub, 0, (.iv (.lit 0) (.lit 3)), .none, false⟩,
  ⟨0x2200, 1, 1, 7, 1, .u8, .wo, .serv, 0, (.oneOf [1]), .now, false⟩,
  ⟨0x2200, 1, 1, 8, 1, .u8, .wo, .oper, 0, (.oneOf [0x23, 0x24, 0x25, 0x27, 0x28, 0x29, 0x2A, 0x2C, 0x2F]), .now, false⟩,
  ⟨0x2200, 1, 1, 9, 1, .u8, .ro, .pub, 0, (.oneOf [0, 1, 2]), .none, false⟩,
  ⟨0x2210, 1, 1, 1, 1, .domain, .rw, .serv, 0, (.bytes (.upTo 0 6291720)), .atReset, false⟩,
  ⟨0x2210, 1, 1, 2, 1, .u8, .ro, .pub, 0, (.iv (.lit 0) (.lit 64)), .none, true⟩,
  ⟨0x2210, 1, 1, 3, 1, .u8, .ro, .pub, 0, (.iv (.lit 0) (.lit 64)), .none, true⟩,
  ⟨0x2210, 1, 1, 4, 1, .u32, .ro, .pub, 0, .any, .none, true⟩,
  ⟨0x2220, 1, 1, 1, 1, .domain, .wo, .serv, 0, (.bytes (.upTo 13 2060)), .atReset, false⟩,
  ⟨0x2220, 1, 1, 2, 1, .domain, .ro, .pub, 0, (.bytes (.exactly 2048)), .none, false⟩,
  ⟨0x2220, 1, 1, 3, 1, .u16, .ro, .pub, 0, (.iv (.lit 0) (.lit 2048)), .none, false⟩,
  ⟨0x2220, 1, 1, 4, 1, .bool, .ro, .pub, 0, (.oneOf [0, 1]), .none, false⟩]

/-- All entries of the range. -/
def entries22 : List EntryDef := entries22a

/-- Entries 23xxh, part 1. -/
def entries23a : List EntryDef := [
  ⟨0x2300, 2, 1, 1, 1, .u8, .rw, .serv, 0, (.iv (.lit 0) (.lit 4)), .atReset, false⟩,
  ⟨0x2300, 2, 1, 2, 1, .bool, .rw, .serv, 0, (.oneOf [0, 1]), .atReset, false⟩,
  ⟨0x2300, 2, 1, 3, 1, .u8, .rw, .serv, 4, (.iv (.lit 0) (.lit 15)), .atReset, false⟩,
  ⟨0x2300, 2, 1, 4, 1, .i64, .ro, .pub, 0, .any, .none, false⟩,
  ⟨0x2300, 2, 1, 5, 1, .u32, .ro, .pub, 0, .any, .none, false⟩,
  ⟨0x2310, 2, 1, 1, 1, .u8, .rw, .serv, 0, (.oneOf [0, 1]), .atReset, false⟩,
  ⟨0x2310, 2, 1, 2, 1, .u16, .rw, .serv, 2000, (.iv (.lit 100) (.lit 10000)), .atReset, false⟩,
  ⟨0x2310, 2, 1, 3, 1, .u8, .rw, .serv, 0, (.iv (.lit 0) (.lit 7)), .atReset, false⟩,
  ⟨0x2310, 2, 1, 4, 1, .u8, .rw, .serv, 25, (.iv (.lit 1) (.lit 48)), .atReset, false⟩,
  ⟨0x2310, 2, 1, 5, 1, .u8, .rw, .serv, 0, (.iv (.lit 0) (.lit 8)), .atReset, false⟩,
  ⟨0x2310, 2, 1, 6, 1, .u8, .rw, .serv, 0, (.iv (.lit 0) (.lit 4)), .atReset, false⟩,
  ⟨0x2310, 2, 1, 7, 1, .bool, .rw, .serv, 0, (.oneOf [0, 1]), .atReset, false⟩,
  ⟨0x2310, 2, 1, 8, 1, .u8, .rw, .serv, 0, (.iv (.lit 0) (.lit 255)), .atReset, false⟩,
  ⟨0x2310, 2, 1, 9, 1, .u8, .rw, .serv, 20, (.iv (.lit 1) (.lit 64)), .atReset, false⟩,
  ⟨0x2310, 2, 1, 10, 1, .u16, .rw, .serv, 100, (.iv (.lit 20) (.lit 65535)), .atReset, false⟩,
  ⟨0x2310, 2, 1, 11, 1, .i8, .rw, .serv, 0, (.iv (.lit (-16)) (.lit 16)), .atReset, false⟩,
  ⟨0x2310, 2, 1, 12, 1, .i64, .rw, .serv, 0, .any, .now, false⟩,
  ⟨0x2310, 2, 1, 13, 1, .i64, .ro, .pub, 0, .any, .none, false⟩,
  ⟨0x2310, 2, 1, 14, 1, .u32, .ro, .pub, 0, .any, .none, false⟩,
  ⟨0x2310, 2, 1, 15, 1, .u8, .ro, .pub, 0, .any, .none, false⟩,
  ⟨0x2310, 2, 1, 16, 1, .u8, .rw, .serv, 0, (.iv (.lit 0) (.lit 255)), .now, false⟩,
  ⟨0x2320, 2, 1, 1, 1, .u8, .rw, .serv, 4, (.oneOf [1, 2, 4, 8, 16]), .now, false⟩,
  ⟨0x2320, 2, 1, 2, 1, .u16, .rw, .serv, 100, (.iv (.lit 10) (.lit 10000)), .now, false⟩,
  ⟨0x2320, 2, 1, 3, 1, .u32, .rw, .serv, 2000, (.iv (.lit 1) (.ref 4 1 1 (-1))), .now, false⟩]

/-- Entries 23xxh, part 2. -/
def entries23b : List EntryDef := [
  ⟨0x2320, 2, 1, 4, 1, .u32, .rw, .serv, 4000, (.iv (.ref 3 1 1 1) (.lit 50000000)), .now, false⟩,
  ⟨0x2320, 2, 1, 5, 1, .u8, .rw, .serv, 2, (.iv (.lit 0) (.lit 8)), .now, false⟩,
  ⟨0x2320, 2, 1, 6, 1, .u16, .rw, .serv, 10, (.iv (.lit 1) (.lit 1000)), .now, false⟩,
  ⟨0x2320, 2, 1, 7, 1, .f32, .ro, .pub, 0, .any, .none, false⟩,
  ⟨0x2320, 2, 1, 8, 1, .u8, .ro, .pub, 2, (.oneOf [0, 1, 2]), .none, false⟩,
  ⟨0x2330, 1, 1, 1, 1, .i64, .ro, .pub, 0, .any, .none, false⟩,
  ⟨0x2330, 1, 1, 2, 1, .i64, .ro, .pub, 0, .any, .none, false⟩,
  ⟨0x2330, 1, 1, 3, 1, .i64, .ro, .pub, 0, .any, .none, false⟩,
  ⟨0x2330, 1, 1, 4, 1, .u16, .rw, .serv, 64, (.iv (.lit 16) (.lit 4096)), .now, false⟩,
  ⟨0x2330, 1, 1, 5, 1, .u8, .ro, .pub, 0, (.oneOf [0, 1]), .none, false⟩,
  ⟨0x2330, 1, 1, 6, 1, .bool, .rw, .serv, 1, (.oneOf [0, 1]), .atReset, false⟩,
  ⟨0x2340, 2, 1, 1, 1, .u8, .rw, .serv, 0, (.oneOf [0, 1, 2]), .now, false⟩,
  ⟨0x2340, 2, 1, 2, 1, .u32, .rw, .serv, 131072, (.iv (.lit 0) (.lit 2147483648)), .now, false⟩,
  ⟨0x2340, 2, 1, 3, 1, .i64, .rw, .serv, 0, .any, .now, false⟩,
  ⟨0x2340, 2, 1, 4, 1, .u16, .rw, .serv, 4, (.iv (.lit 0) (.lit 1024)), .now, false⟩,
  ⟨0x2340, 2, 1, 5, 1, .u8, .rw, .serv, 1, (.oneOf [0, 1]), .now, false⟩,
  ⟨0x2340, 2, 1, 6, 1, .u8, .rw, .oper, 0, (.oneOf [0, 1]), .now, false⟩,
  ⟨0x2340, 2, 1, 7, 1, .u8, .ro, .pub, 0, (.oneOf [0, 1, 2]), .none, false⟩,
  ⟨0x2340, 2, 1, 8, 1, .i32, .ro, .pub, 0, .any, .none, false⟩,
  ⟨0x2340, 2, 1, 9, 1, .u32, .ro, .pub, 0, .any, .none, false⟩,
  ⟨0x2340, 2, 1, 10, 1, .u32, .ro, .pub, 0, .any, .none, false⟩,
  ⟨0x2340, 2, 1, 11, 1, .u8, .wo, .oper, 0, (.oneOf [1]), .now, false⟩,
  ⟨0x2350, 1, 1, 1, 1, .u8, .rw, .serv, 0, (.iv (.lit 0) (.lit 3)), .now, false⟩,
  ⟨0x2350, 1, 1, 2, 1, .u32, .rw, .serv, 1, (.iv (.lit 1) (.lit 4294967295)), .now, false⟩]

/-- Entries 23xxh, part 3. -/
def entries23c : List EntryDef := [
  ⟨0x2350, 1, 1, 3, 1, .u32, .rw, .serv, 1, (.iv (.lit 1) (.lit 4294967295)), .now, false⟩,
  ⟨0x2350, 1, 1, 4, 1, .u8, .wo, .oper, 0, (.oneOf [1]), .now, false⟩,
  ⟨0x2350, 1, 1, 5, 1, .i64, .ro, .pub, 0, .any, .none, false⟩,
  ⟨0x2350, 1, 1, 6, 1, .u32, .rw, .oper, 102400, (.iv (.lit 0) (.lit 4294967295)), .now, false⟩,
  ⟨0x2350, 1, 1, 7, 1, .u32, .ro, .pub, 0, .any, .none, false⟩,
  ⟨0x2360, 8, 1, 1, 1, .u8, .rw, .oper, 0, (.oneOf [0, 1, 2, 3]), .now, false⟩,
  ⟨0x2360, 8, 1, 2, 1, .u8, .rw, .oper, 2, (.iv (.lit 0) (.lit 15)), .now, false⟩,
  ⟨0x2360, 8, 1, 3, 1, .u8, .rw, .oper, 0, (.oneOf [0, 1, 2]), .now, false⟩,
  ⟨0x2360, 8, 1, 4, 1, .i64, .rw, .oper, (-9223372036854775808), .any, .now, false⟩,
  ⟨0x2360, 8, 1, 5, 1, .i64, .rw, .oper, 9223372036854775807, .any, .now, false⟩,
  ⟨0x2360, 8, 1, 6, 1, .u32, .rw, .oper, 0, (.iv (.lit 0) (.lit 4294967295)), .now, false⟩,
  ⟨0x2360, 8, 1, 7, 1, .domain, .ro, .pub, 0, (.bytes (.upTo 0 512)), .none, false⟩,
  ⟨0x2360, 8, 1, 8, 1, .u8, .ro, .pub, 0, (.iv (.lit 0) (.lit 16)), .none, false⟩,
  ⟨0x2360, 8, 1, 9, 1, .u32, .ro, .pub, 0, .any, .none, false⟩,
  ⟨0x2360, 8, 1, 10, 1, .u32, .ro, .pub, 0, .any, .none, false⟩,
  ⟨0x2360, 8, 1, 11, 1, .u32, .wo, .oper, 0, .any, .now, false⟩,
  ⟨0x2380, 4, 1, 1, 1, .u8, .rw, .oper, 0, (.oneOf [0, 1, 2]), .atUse, false⟩,
  ⟨0x2380, 4, 1, 2, 1, .i64, .rw, .oper, 0, .any, .atUse, false⟩,
  ⟨0x2380, 4, 1, 3, 1, .i64, .rw, .oper, 22727, (.iv (.lit 4096) (.lit 4611686018427387904)), .atUse, false⟩,
  ⟨0x2380, 4, 1, 4, 1, .u32, .rw, .oper, 0, .any, .atUse, false⟩,
  ⟨0x2380, 4, 1, 5, 1, .u32, .rw, .oper, 1000, (.iv (.lit 10) (.lit 10000000)), .atUse, false⟩,
  ⟨0x2380, 4, 1, 6, 1, .u8, .rw, .oper, 0, (.oneOf [0, 1]), .now, false⟩,
  ⟨0x2380, 4, 1, 7, 1, .u8, .wo, .oper, 0, (.oneOf [1, 2]), .now, false⟩,
  ⟨0x2380, 4, 1, 8, 1, .u32, .ro, .pub, 0, .any, .none, false⟩]

/-- Entries 23xxh, part 4. -/
def entries23d : List EntryDef := [
  ⟨0x2380, 4, 1, 9, 1, .u32, .ro, .pub, 0, .any, .none, false⟩,
  ⟨0x2380, 4, 1, 10, 1, .u8, .ro, .pub, 0, (.oneOf [0, 1, 2, 3]), .none, false⟩,
  ⟨0x2390, 2, 1, 1, 1, .u8, .rw, .serv, 0, (.oneOf [0, 1, 2]), .now, false⟩,
  ⟨0x2390, 2, 1, 2, 1, .u32, .rw, .serv, 1, (.iv (.lit 1) (.ref 3 1 1 0)), .now, false⟩,
  ⟨0x2390, 2, 1, 3, 1, .u32, .rw, .serv, 1, (.iv (.ref 2 1 1 0) (.lit 16777215)), .now, false⟩,
  ⟨0x2390, 2, 1, 4, 1, .u16, .rw, .serv, 20, (.iv (.lit 10) (.lit 10000)), .now, false⟩,
  ⟨0x2390, 2, 1, 5, 1, .u32, .ro, .pub, 0, .any, .none, false⟩,
  ⟨0x2390, 2, 1, 6, 1, .i64, .ro, .pub, 0, .any, .none, false⟩,
  ⟨0x23A0, 1, 1, 1, 1, .bool, .rw, .serv, 1, (.oneOf [0, 1]), .now, false⟩,
  ⟨0x23A0, 1, 1, 2, 1, .i32, .ro, .pub, 0, .any, .none, false⟩,
  ⟨0x23A0, 1, 1, 3, 1, .u8, .ro, .pub, 0, (.oneOf [0, 1, 2, 3]), .none, false⟩]

/-- All entries of the range. -/
def entries23 : List EntryDef := entries23a ++ entries23b ++ entries23c ++ entries23d

/-- Entries 24xxh, part 1. -/
def entries24a : List EntryDef := [
  ⟨0x2400, 1, 1, 1, 1, .u8, .rw, .serv, 0, (.oneOf [0, 1]), .atReset, false⟩,
  ⟨0x2400, 1, 1, 2, 1, .u32, .rw, .oper, 1040384, (.iv (.ref 3 4 1 0) (.lit 4294967295)), .atCommit, false⟩,
  ⟨0x2400, 1, 1, 3, 1, .u32, .rw, .oper, 46875, (.iv (.lit 1) (.ref 2 1 4 0)), .atCommit, false⟩,
  ⟨0x2400, 1, 1, 4, 1, .u64, .ro, .pub, 0, .any, .none, false⟩,
  ⟨0x2400, 1, 1, 5, 1, .i64, .ro, .pub, 0, .any, .none, false⟩,
  ⟨0x2400, 1, 1, 6, 1, .u64, .ro, .pub, 0, .any, .none, false⟩,
  ⟨0x2400, 1, 1, 7, 1, .i64, .ro, .pub, 0, .any, .none, false⟩,
  ⟨0x2400, 1, 1, 8, 1, .u8, .rw, .serv, 1, (.iv (.lit 1) (.lit 8)), .atReset, false⟩,
  ⟨0x2400, 1, 1, 9, 1, .u32, .rw, .oper, 0, (.mask 16777215), .now, false⟩,
  ⟨0x2400, 1, 1, 10, 1, .u32, .rw, .serv, 250000000, (.iv (.lit 1) (.lit 4294967295)), .atCommit, false⟩,
  ⟨0x2400, 1, 1, 11, 1, .u32, .rw, .serv, 131072, (.iv (.lit 1) (.lit 4294967295)), .atCommit, false⟩,
  ⟨0x2400, 1, 1, 12, 1, .u32, .rw, .serv, 1000, (.iv (.lit 0) (.lit 1000000)), .now, false⟩,
  ⟨0x2401, 1, 1, 1, 1, .u16, .rw, .oper, 950, (.iv (.lit 500) (.lit 1000)), .now, false⟩,
  ⟨0x2401, 1, 1, 2, 1, .u16, .rw, .oper, 10, (.iv (.lit 0) (.lit 100)), .now, false⟩,
  ⟨0x2401, 1, 1, 3, 1, .f32, .ro, .pub, 0, .any, .none, false⟩,
  ⟨0x2401, 1, 1, 4, 1, .bool, .ro, .pub, 0, (.oneOf [0, 1]), .none, false⟩,
  ⟨0x2401, 1, 1, 5, 1, .u16, .rw, .oper, 8, (.iv (.lit 1) (.lit 65535)), .now, false⟩,
  ⟨0x2401, 1, 1, 6, 1, .u16, .rw, .serv, 64, (.iv (.lit 16) (.lit 4096)), .now, false⟩,
  ⟨0x2402, 1, 1, 1, 1, .i64, .rw, .oper, 0, (.iv (.lit 0) (.lit 281474976710656)), .atPage, false⟩,
  ⟨0x2402, 1, 1, 2, 1, .bool, .rw, .oper, 0, (.oneOf [0, 1]), .atPage, false⟩,
  ⟨0x2402, 1, 1, 3, 1, .u16, .rw, .serv, 96, (.iv (.lit 72) (.lit 4096)), .now, false⟩,
  ⟨0x2402, 1, 1, 4, 1, .u64, .ro, .pub, 0, .any, .none, false⟩,
  ⟨0x2402, 1, 1, 5, 1, .i64, .ro, .pub, 0, .any, .none, false⟩,
  ⟨0x2402, 1, 1, 6, 1, .i32, .ro, .pub, 0, .any, .none, false⟩]

/-- Entries 24xxh, part 2. -/
def entries24b : List EntryDef := [
  ⟨0x2402, 1, 1, 7, 1, .u8, .ro, .pub, 0, .any, .none, false⟩,
  ⟨0x2403, 1, 1, 1, 1, .u8, .ro, .pub, 0, (.oneOf [0, 1, 2]), .none, false⟩,
  ⟨0x2403, 1, 1, 2, 1, .u32, .ro, .pub, 0, .any, .none, false⟩,
  ⟨0x2410, 1, 1, 1, 192, .i64, .rw, .oper, 0, (.iv (.lit (-1099511627776)) (.lit 1099511627776)), .atCommit, false⟩,
  ⟨0x2411, 1, 1, 1, 192, .i64, .rw, .oper, 0, (.iv (.lit (-1099511627776)) (.lit 1099511627776)), .atCommit, false⟩,
  ⟨0x2412, 1, 1, 1, 192, .u32, .rw, .oper, 0, (.iv (.lit 0) (.lit 1000000)), .atCommit, false⟩,
  ⟨0x2413, 1, 1, 1, 192, .i32, .rw, .oper, 0, (.iv (.lit (-16777216)) (.lit 16777216)), .atCommit, false⟩,
  ⟨0x2414, 1, 1, 1, 192, .i32, .ro, .pub, 0, .any, .none, false⟩,
  ⟨0x2415, 1, 1, 1, 192, .u8, .rw, .oper, 0, (.iv (.lit 0) (.lit 15)), .atCommit, false⟩,
  ⟨0x2416, 1, 1, 1, 192, .u8, .rw, .oper, 0, (.oneOf [0, 1]), .atCommit, false⟩,
  ⟨0x2417, 1, 1, 1, 192, .u32, .ro, .pub, 0, .any, .none, false⟩,
  ⟨0x2418, 1, 1, 1, 192, .u32, .ro, .pub, 0, .any, .none, false⟩,
  ⟨0x2419, 1, 1, 1, 192, .u64, .ro, .pub, 0, .any, .none, false⟩,
  ⟨0x2420, 1, 1, 1, 16, .i64, .rw, .oper, 0, (.iv (.lit (-1099511627776)) (.lit 1099511627776)), .atCommit, false⟩,
  ⟨0x2421, 1, 1, 1, 16, .i64, .rw, .oper, 0, (.iv (.lit (-1099511627776)) (.lit 1099511627776)), .atCommit, false⟩,
  ⟨0x2422, 1, 1, 1, 16, .i32, .rw, .oper, 0, (.iv (.lit (-16777216)) (.lit 16777216)), .atCommit, false⟩,
  ⟨0x2430, 1, 1, 0, 1, .domain, .ro, .pub, 0, (.bytes (.exactly 24576)), .none, false⟩,
  ⟨0x2440, 1, 1, 1, 1, .u8, .ro, .pub, 0, (.oneOf [0, 1, 2, 3]), .none, false⟩,
  ⟨0x2440, 1, 1, 2, 1, .u8, .ro, .pub, 0, (.mask 7), .none, false⟩,
  ⟨0x2440, 1, 1, 3, 1, .u32, .ro, .pub, 0, .any, .none, false⟩,
  ⟨0x2440, 1, 1, 4, 1, .u32, .ro, .pub, 0, .any, .none, false⟩,
  ⟨0x2440, 1, 1, 5, 1, .u32, .ro, .pub, 0, .any, .none, false⟩,
  ⟨0x2440, 1, 1, 6, 1, .u32, .rw, .serv, 1000000, (.iv (.lit 1000) (.lit 4294967295)), .now, false⟩,
  ⟨0x2440, 1, 1, 7, 1, .u16, .rw, .serv, 500, (.iv (.lit 250) (.lit 2000)), .now, false⟩]

/-- Entries 24xxh, part 3. -/
def entries24c : List EntryDef := [
  ⟨0x2440, 1, 1, 8, 1, .u32, .ro, .pub, 0, .any, .none, false⟩]

/-- All entries of the range. -/
def entries24 : List EntryDef := entries24a ++ entries24b ++ entries24c

/-- Entries 25xxh, part 1. -/
def entries25a : List EntryDef := [
  ⟨0x2500, 1, 1, 1, 24, .u8, .rw, .oper, 0, (.iv (.lit 0) (.lit 15)), .atReset, false⟩,
  ⟨0x2501, 1, 1, 1, 16, .domain, .rw, .serv, 0, (.bytes (.exactly 128)), .atReset, false⟩,
  ⟨0x2502, 1, 1, 1, 1, .u32, .rw, .oper, 0, (.mask 16777215), .now, false⟩,
  ⟨0x2503, 1, 1, 1, 24, .u8, .ro, .pub, 0, (.oneOf [0, 1, 2, 3, 4]), .none, false⟩,
  ⟨0x2504, 1, 1, 1, 192, .bool, .rw, .oper, 1, (.oneOf [0, 1]), .atPage, false⟩,
  ⟨0x2505, 1, 1, 1, 192, .u8, .ro, .pub, 0, (.oneOf [0, 1, 2, 3, 4, 5, 6]), .none, false⟩,
  ⟨0x2506, 1, 1, 1, 192, .u8, .wo, .oper, 0, (.oneOf [1]), .now, false⟩,
  ⟨0x2507, 1, 1, 1, 192, .str, .ro, .pub, 0, (.bytes (.upTo 0 16)), .none, false⟩,
  ⟨0x2508, 1, 1, 1, 192, .domain, .ro, .pub, 0, (.bytes (.exactly 128)), .none, false⟩,
  ⟨0x2509, 1, 1, 1, 192, .domain, .rw, .serv, 0, (.bytes .free), .now, false⟩,
  ⟨0x250A, 1, 1, 1, 192, .u8, .ro, .pub, 0, (.iv (.lit 0) (.lit 64)), .none, false⟩,
  ⟨0x250B, 1, 1, 1, 192, .u32, .ro, .pub, 0, .any, .none, false⟩,
  ⟨0x250C, 1, 1, 1, 192, .u32, .ro, .pub, 0, .any, .none, false⟩,
  ⟨0x250D, 1, 1, 1, 192, .i16, .ro, .pub, 0, .any, .none, false⟩,
  ⟨0x250E, 1, 1, 1, 192, .u16, .ro, .pub, 0, .any, .none, false⟩,
  ⟨0x2510, 1, 1, 1, 24, .u32, .ro, .pub, 0, .any, .none, false⟩,
  ⟨0x2511, 1, 1, 1, 24, .u32, .ro, .pub, 0, .any, .none, false⟩,
  ⟨0x2512, 1, 1, 1, 24, .u16, .ro, .pub, 500, (.iv (.lit 500) (.lit 2000)), .none, false⟩,
  ⟨0x2513, 1, 1, 1, 24, .u32, .ro, .pub, 0, .any, .none, false⟩,
  ⟨0x2514, 1, 1, 1, 24, .u32, .ro, .pub, 0, .any, .none, false⟩,
  ⟨0x2520, 1, 1, 1, 1, .u8, .rw, .serv, 2, (.iv (.lit 1) (.lit 16)), .now, false⟩,
  ⟨0x2520, 1, 1, 2, 1, .u8, .rw, .serv, 3, (.iv (.lit 1) (.lit 16)), .now, false⟩,
  ⟨0x2520, 1, 1, 3, 1, .u8, .rw, .oper, 1, (.oneOf [0, 1]), .now, false⟩,
  ⟨0x2530, 1, 1, 1, 16, .u8, .rw, .oper, 32, (.iv (.lit 0) (.lit 63)), .now, false⟩]

/-- All entries of the range. -/
def entries25 : List EntryDef := entries25a

/-- Entries 26xxh, part 1. -/
def entries26a : List EntryDef := [
  ⟨0x2600, 1, 1, 1, 12, .u32, .ro, .pub, 0, .any, .none, true⟩,
  ⟨0x2601, 1, 1, 1, 1, .u16, .ro, .pub, 0, (.mask 4095), .none, false⟩,
  ⟨0x2601, 1, 1, 2, 1, .u16, .ro, .pub, 0, .any, .none, false⟩,
  ⟨0x2601, 1, 1, 3, 1, .u16, .wo, .oper, 0, (.mask 4095), .now, false⟩,
  ⟨0x2601, 1, 1, 4, 1, .u32, .ro, .pub, 0, .any, .none, false⟩,
  ⟨0x2601, 1, 1, 5, 1, .u32, .ro, .pub, 0, .any, .none, true⟩,
  ⟨0x2601, 1, 1, 6, 1, .bool, .ro, .pub, 0, (.oneOf [0, 1]), .none, true⟩,
  ⟨0x2601, 1, 1, 7, 1, .u32, .ro, .pub, 0, .any, .none, true⟩,
  ⟨0x2602, 1, 1, 1, 12, .u32, .ro, .pub, 0, .any, .none, false⟩,
  ⟨0x2610, 1, 1, 1, 192, .u8, .ro, .pub, 0, (.oneOf [0, 1, 2, 3]), .none, false⟩,
  ⟨0x2611, 1, 1, 1, 192, .i16, .ro, .pub, 0, .any, .none, false⟩,
  ⟨0x2612, 1, 1, 1, 192, .i16, .ro, .pub, 0, .any, .none, false⟩,
  ⟨0x2613, 1, 1, 1, 192, .u32, .ro, .pub, 0, .any, .none, false⟩,
  ⟨0x2620, 1, 1, 1, 1, .u8, .rw, .oper, 0, (.oneOf [0, 1, 2]), .atPage, false⟩,
  ⟨0x2620, 1, 1, 2, 1, .u16, .rw, .serv, 30, (.iv (.lit 5) (.lit 200)), .now, false⟩,
  ⟨0x2620, 1, 1, 3, 1, .u8, .rw, .serv, 4, (.iv (.lit 1) (.lit 64)), .now, false⟩,
  ⟨0x2620, 1, 1, 4, 1, .u32, .rw, .oper, 65536, (.iv (.lit 256) (.lit 16777216)), .atPage, false⟩,
  ⟨0x2620, 1, 1, 5, 1, .u32, .wo, .oper, 0, (.iv (.lit 0) (.lit 16777215)), .now, false⟩,
  ⟨0x2621, 1, 1, 1, 24, .u8, .ro, .pub, 0, .any, .none, false⟩,
  ⟨0x2622, 1, 1, 1, 24, .u32, .ro, .pub, 0, .any, .none, false⟩,
  ⟨0x2623, 1, 1, 1, 24, .u8, .ro, .pub, 0, .any, .none, false⟩,
  ⟨0x2630, 1, 1, 1, 1, .u8, .wo, .oper, 0, (.oneOf [1, 2]), .now, false⟩,
  ⟨0x2630, 1, 1, 2, 1, .u8, .ro, .pub, 0, (.oneOf [0, 1, 2, 3, 4]), .none, false⟩,
  ⟨0x2630, 1, 1, 3, 1, .u8, .rw, .serv, 2, (.oneOf [1, 2]), .atUse, false⟩]

/-- Entries 26xxh, part 2. -/
def entries26b : List EntryDef := [
  ⟨0x2630, 1, 1, 4, 1, .u32, .rw, .oper, 0, (.iv (.lit 0) (.lit 16777215)), .atUse, false⟩,
  ⟨0x2630, 1, 1, 5, 1, .u16, .rw, .oper, 0, (.iv (.lit 0) (.lit 4095)), .atUse, false⟩,
  ⟨0x2630, 1, 1, 6, 1, .u16, .rw, .oper, 4095, (.iv (.ref 5 1 1 0) (.lit 4095)), .atUse, false⟩,
  ⟨0x2630, 1, 1, 7, 1, .u8, .rw, .oper, 4, (.iv (.lit 1) (.lit 64)), .atUse, false⟩,
  ⟨0x2630, 1, 1, 8, 1, .u8, .rw, .oper, 3, (.iv (.lit 1) (.ref 7 1 1 0)), .atUse, false⟩,
  ⟨0x2630, 1, 1, 9, 1, .u16, .rw, .serv, 200, (.iv (.lit 20) (.lit 10000)), .atUse, false⟩,
  ⟨0x2630, 1, 1, 10, 1, .u32, .rw, .serv, 20000, (.iv (.lit 0) (.lit 10000000)), .atUse, false⟩,
  ⟨0x2630, 1, 1, 11, 1, .u32, .rw, .serv, 190000, (.iv (.ref 0x0A 1 1 1) (.lit 10000000)), .atUse, false⟩,
  ⟨0x2630, 1, 1, 12, 1, .u16, .rw, .serv, 200, (.iv (.lit 1) (.lit 65535)), .atUse, false⟩,
  ⟨0x2630, 1, 1, 13, 1, .u8, .rw, .oper, 7, (.iv (.lit 1) (.lit 7)), .atUse, false⟩,
  ⟨0x2630, 1, 1, 14, 1, .u16, .rw, .serv, 2500, (.iv (.lit 0) (.lit 65535)), .atUse, false⟩,
  ⟨0x2630, 1, 1, 15, 1, .u16, .rw, .serv, 400, (.iv (.lit 1) (.lit 65535)), .atUse, false⟩,
  ⟨0x2630, 1, 1, 16, 1, .u16, .rw, .serv, 1200, (.iv (.ref 0x0F 1 1 1) (.lit 65535)), .atUse, false⟩,
  ⟨0x2630, 1, 1, 17, 1, .u16, .rw, .serv, 300, (.iv (.lit 1) (.lit 65535)), .atUse, false⟩,
  ⟨0x2630, 1, 1, 18, 1, .u16, .rw, .oper, 100, (.iv (.lit 1) (.lit 1000)), .atUse, false⟩,
  ⟨0x2630, 1, 1, 19, 1, .u16, .rw, .oper, 1000, (.iv (.lit 1) (.lit 65535)), .atUse, false⟩,
  ⟨0x2630, 1, 1, 20, 1, .bool, .rw, .oper, 1, (.oneOf [0, 1]), .atUse, false⟩,
  ⟨0x2630, 1, 1, 21, 1, .u16, .rw, .oper, 1000, (.iv (.lit 10) (.lit 60000)), .atUse, false⟩,
  ⟨0x2630, 1, 1, 22, 1, .u32, .ro, .pub, 0, .any, .none, false⟩,
  ⟨0x2630, 1, 1, 23, 1, .u8, .rw, .serv, 0, (.mask 15), .atUse, false⟩,
  ⟨0x2631, 1, 1, 1, 24, .u8, .rw, .serv, 0, (.iv (.lit 0) (.lit 3)), .atUse, false⟩,
  ⟨0x2632, 1, 1, 1, 192, .domain, .ro, .pub, 0, (.bytes (.upTo 0 32788)), .none, false⟩]

/-- All entries of the range. -/
def entries26 : List EntryDef := entries26a ++ entries26b

/-- Entries 27xxh, part 1. -/
def entries27a : List EntryDef := [
  ⟨0x2700, 1, 1, 1, 1, .u16, .ro, .pub, 0, (.iv (.lit 0) (.lit 256)), .none, false⟩,
  ⟨0x2700, 1, 1, 2, 1, .u16, .ro, .pub, 0, .any, .none, false⟩,
  ⟨0x2700, 1, 1, 3, 1, .u32, .ro, .pub, 0, .any, .none, false⟩,
  ⟨0x2700, 1, 1, 4, 1, .u16, .ro, .pub, 0, .any, .none, false⟩,
  ⟨0x2700, 1, 1, 5, 1, .u16, .rw, .serv, 16, (.iv (.lit 16) (.lit 256)), .atCommit, false⟩,
  ⟨0x2700, 1, 1, 6, 1, .u32, .ro, .pub, 0, .any, .none, false⟩,
  ⟨0x2700, 1, 1, 7, 1, .u32, .ro, .pub, 0, .any, .none, false⟩,
  ⟨0x2701, 1, 1, 1, 16, .domain, .rw, .oper, 0, (.bytes (.exactly 260)), .atCommit, false⟩,
  ⟨0x2702, 1, 1, 1, 16, .domain, .rw, .oper, 0, (.bytes (.exactly 32772)), .atCommit, false⟩,
  ⟨0x2703, 1, 1, 1, 16, .u8, .rw, .oper, 0, (.iv (.lit 0) (.lit 7)), .atCommit, false⟩,
  ⟨0x2704, 1, 1, 1, 16, .u16, .rw, .oper, 0, (.iv (.lit 0) (.lit 255)), .atCommit, false⟩,
  ⟨0x2705, 1, 1, 1, 16, .u16, .rw, .oper, 0, (.iv (.lit 0) (.lit 255)), .atCommit, false⟩,
  ⟨0x2706, 1, 1, 1, 8, .domain, .rw, .oper, 0, (.bytes (.upTo 0 917524)), .atCommit, false⟩,
  ⟨0x2710, 1, 1, 1, 192, .i32, .rw, .oper, 0, (.iv (.lit (-4096)) (.lit 1048575)), .atCommit, false⟩,
  ⟨0x2711, 1, 1, 1, 192, .u16, .rw, .oper, 0, (.iv (.lit 0) (.lit 4095)), .atCommit, false⟩,
  ⟨0x2712, 1, 1, 1, 192, .u16, .rw, .oper, 4096, (.iv (.lit 0) (.lit 4096)), .atCommit, false⟩,
  ⟨0x2713, 1, 1, 1, 192, .u8, .rw, .oper, 2, (.oneOf [1, 2]), .atCommit, false⟩,
  ⟨0x2720, 1, 1, 1, 192, .domain, .rw, .oper, 0, (.bytes .free), .now, false⟩,
  ⟨0x2721, 1, 1, 1, 192, .domain, .ro, .pub, 0, (.bytes .free), .none, false⟩,
  ⟨0x2722, 1, 1, 1, 192, .u16, .ro, .pub, 0, (.iv (.lit 0) (.lit 4096)), .none, false⟩,
  ⟨0x2730, 1, 1, 1, 1, .u8, .rw, .oper, 0, (.iv (.lit 0) (.lit 191)), .now, false⟩,
  ⟨0x2730, 1, 1, 2, 1, .u16, .rw, .oper, 0, .any, .now, false⟩,
  ⟨0x2730, 1, 1, 3, 1, .u32, .rw, .oper, 16744704, .any, .now, false⟩,
  ⟨0x2730, 1, 1, 4, 1, .u32, .ro, .pub, 16744704, .any, .none, false⟩]

/-- All entries of the range. -/
def entries27 : List EntryDef := entries27a

/-- Entries 28xxh, part 1. -/
def entries28a : List EntryDef := [
  ⟨0x2800, 1, 1, 1, 1, .u16, .ro, .pub, 0, (.iv (.lit 0) (.lit 4096)), .none, false⟩,
  ⟨0x2800, 1, 1, 2, 1, .u8, .ro, .pub, 0, (.oneOf [0, 1, 2]), .none, false⟩,
  ⟨0x2800, 1, 1, 3, 1, .u8, .wo, .oper, 0, (.oneOf [1, 2, 3]), .now, false⟩,
  ⟨0x2800, 1, 1, 4, 1, .u8, .rw, .oper, 0, (.oneOf [0, 1]), .atPage, false⟩,
  ⟨0x2800, 1, 1, 5, 1, .u16, .rw, .serv, 96, (.iv (.lit 72) (.lit 4096)), .now, false⟩,
  ⟨0x2800, 1, 1, 6, 1, .u64, .rw, .serv, 68719476736, (.iv (.lit 1) (.lit 1099511627776)), .now, false⟩,
  ⟨0x2800, 1, 1, 7, 1, .u32, .ro, .pub, 0, .any, .none, false⟩,
  ⟨0x2800, 1, 1, 8, 1, .u32, .ro, .pub, 0, .any, .none, false⟩,
  ⟨0x2800, 1, 1, 9, 1, .u32, .ro, .pub, 0, .any, .none, false⟩,
  ⟨0x2800, 1, 1, 10, 1, .u32, .ro, .pub, 0, .any, .none, false⟩,
  ⟨0x2800, 1, 1, 11, 1, .u64, .ro, .pub, 0, .any, .none, false⟩,
  ⟨0x2810, 16, 1, 1, 1, .u64, .rw, .serv, 0, (.multiple 4096), .atReset, false⟩,
  ⟨0x2810, 16, 1, 2, 1, .u64, .rw, .serv, 0, (.multiple 4096), .atReset, false⟩,
  ⟨0x2810, 16, 1, 3, 1, .bool, .rw, .serv, 0, (.oneOf [0, 1]), .atReset, false⟩,
  ⟨0x2810, 16, 1, 4, 1, .u8, .ro, .pub, 0, (.oneOf [0, 1, 2]), .none, false⟩,
  ⟨0x2810, 16, 1, 5, 1, .u64, .ro, .pub, 0, .any, .none, false⟩,
  ⟨0x2810, 16, 1, 6, 1, .u64, .ro, .pub, 0, .any, .none, false⟩,
  ⟨0x2810, 16, 1, 7, 1, .u64, .ro, .pub, 0, .any, .none, false⟩,
  ⟨0x2810, 16, 1, 8, 1, .u64, .ro, .pub, 0, .any, .none, false⟩,
  ⟨0x2810, 16, 1, 9, 1, .u32, .ro, .pub, 0, .any, .none, false⟩,
  ⟨0x2810, 16, 1, 10, 1, .u32, .ro, .pub, 0, .any, .none, false⟩,
  ⟨0x2820, 1, 1, 1, 1, .u32, .rw, .serv, 262144, (.iv (.lit 1) (.lit 262144)), .now, false⟩,
  ⟨0x2820, 1, 1, 2, 1, .u8, .rw, .oper, 0, (.iv (.lit 0) (.lit 255)), .atPage, false⟩,
  ⟨0x2820, 1, 1, 3, 1, .u32, .ro, .pub, 0, .any, .none, false⟩]

/-- Entries 28xxh, part 2. -/
def entries28b : List EntryDef := [
  ⟨0x2820, 1, 1, 4, 1, .u8, .rw, .oper, 16, (.iv (.lit 1) (.lit 64)), .now, false⟩,
  ⟨0x2820, 1, 1, 5, 1, .bool, .rw, .serv, 1, (.oneOf [0, 1]), .atReset, false⟩,
  ⟨0x2830, 1, 1, 1, 1, .u16, .rw, .serv, 45713, (.iv (.lit 1024) (.lit 65535)), .atReset, false⟩,
  ⟨0x2830, 1, 1, 2, 1, .u16, .rw, .serv, 8952, (.iv (.lit 1024) (.lit 8952)), .atReset, false⟩,
  ⟨0x2830, 1, 1, 3, 1, .u32, .rw, .serv, 262144, (.iv (.lit 65536) (.lit 1048576)), .atReset, false⟩,
  ⟨0x2830, 1, 1, 4, 1, .u32, .rw, .serv, 262144, (.iv (.lit 8192) (.lit 16777216)), .now, false⟩,
  ⟨0x2830, 1, 1, 5, 1, .u16, .rw, .serv, 50, (.iv (.lit 10) (.lit 10000)), .now, false⟩,
  ⟨0x2830, 1, 1, 6, 1, .u32, .ro, .pub, 0, .any, .none, false⟩,
  ⟨0x2840, 1, 1, 1, 255, .u32, .ro, .pub, 4294967295, .any, .none, false⟩,
  ⟨0x2850, 1, 1, 1, 64, .domain, .rw, .oper, 0, (.bytes (.upTo 0 4160)), .now, false⟩,
  ⟨0x2851, 1, 1, 1, 1, .u32, .rw, .oper, 0, .any, .atUse, false⟩,
  ⟨0x2851, 1, 1, 2, 1, .u8, .rw, .oper, 0, (.iv (.lit 0) (.lit 15)), .atUse, false⟩,
  ⟨0x2851, 1, 1, 3, 1, .u16, .rw, .oper, 0, (.iv (.lit 0) (.lit 255)), .atUse, false⟩,
  ⟨0x2851, 1, 1, 4, 1, .u32, .rw, .oper, 0, .any, .atUse, false⟩,
  ⟨0x2851, 1, 1, 5, 1, .u8, .rw, .oper, 0, (.iv (.lit 0) (.lit 63)), .atUse, false⟩,
  ⟨0x2851, 1, 1, 6, 1, .u8, .wo, .oper, 0, (.oneOf [1]), .now, false⟩,
  ⟨0x2851, 1, 1, 7, 1, .u8, .ro, .pub, 0, (.oneOf [0, 1, 2, 3]), .none, false⟩]

/-- All entries of the range. -/
def entries28 : List EntryDef := entries28a ++ entries28b

/-- Entries 29xxh, part 1. -/
def entries29a : List EntryDef := [
  ⟨0x2900, 1, 1, 1, 1, .u8, .ro, .pub, 0, (.oneOf [0, 1, 2, 3, 4, 5]), .none, false⟩,
  ⟨0x2900, 1, 1, 2, 1, .u8, .rw, .serv, 16, (.oneOf [8, 16, 32]), .atReset, false⟩,
  ⟨0x2900, 1, 1, 3, 1, .u8, .rw, .serv, 2, (.oneOf [1, 2]), .atReset, false⟩,
  ⟨0x2900, 1, 1, 4, 1, .u16, .rw, .serv, 6400, (.oneOf [3200, 4267, 5500, 6400]), .atReset, false⟩,
  ⟨0x2900, 1, 1, 5, 1, .bool, .rw, .serv, 0, (.oneOf [0, 1]), .atReset, false⟩,
  ⟨0x2900, 1, 1, 6, 1, .bool, .rw, .serv, 1, (.oneOf [0, 1]), .atReset, false⟩,
  ⟨0x2900, 1, 1, 7, 1, .u64, .ro, .pub, 0, .any, .none, false⟩,
  ⟨0x2900, 1, 1, 8, 1, .u64, .ro, .pub, 0, .any, .none, false⟩,
  ⟨0x2901, 1, 1, 1, 1, .u8, .rw, .serv, 48, (.iv (.ref 2 1 1 1) (.lit 64)), .now, false⟩,
  ⟨0x2901, 1, 1, 2, 1, .u8, .rw, .serv, 16, (.iv (.lit 0) (.ref 1 1 1 (-1))), .now, false⟩,
  ⟨0x2901, 1, 1, 3, 1, .u8, .rw, .serv, 16, (.iv (.lit 1) (.lit 64)), .now, false⟩,
  ⟨0x2901, 1, 1, 4, 1, .u16, .rw, .serv, 1024, (.iv (.lit 256) (.ref 5 1 1 (-1))), .now, false⟩,
  ⟨0x2901, 1, 1, 5, 1, .u16, .rw, .serv, 2048, (.iv (.ref 4 1 1 1) (.lit 4096)), .now, false⟩,
  ⟨0x2901, 1, 1, 6, 1, .u32, .ro, .pub, 0, .any, .none, false⟩,
  ⟨0x2901, 1, 1, 7, 1, .u64, .ro, .pub, 0, .any, .none, false⟩,
  ⟨0x2901, 1, 1, 8, 1, .u8, .rw, .serv, 8, (.iv (.lit 0) (.lit 8)), .now, false⟩,
  ⟨0x2902, 1, 1, 1, 1, .u32, .rw, .serv, 4096, (.iv (.lit 256) (.lit 65535)), .now, false⟩,
  ⟨0x2902, 1, 1, 2, 1, .u8, .rw, .serv, 1, (.oneOf [1, 2]), .now, false⟩,
  ⟨0x2902, 1, 1, 3, 1, .bool, .rw, .serv, 1, (.oneOf [0, 1]), .atReset, false⟩,
  ⟨0x2902, 1, 1, 4, 1, .u64, .ro, .pub, 0, .any, .none, false⟩,
  ⟨0x2902, 1, 1, 5, 1, .u64, .ro, .pub, 0, .any, .none, false⟩,
  ⟨0x2903, 1, 1, 1, 1, .u32, .ro, .pub, 0, .any, .none, false⟩,
  ⟨0x2903, 1, 1, 2, 1, .u32, .ro, .pub, 0, .any, .none, false⟩,
  ⟨0x2903, 1, 1, 3, 1, .u64, .ro, .pub, 0, .any, .none, false⟩]

/-- Entries 29xxh, part 2. -/
def entries29b : List EntryDef := [
  ⟨0x2903, 1, 1, 4, 1, .u16, .rw, .serv, 24, (.iv (.lit 0) (.lit 720)), .now, false⟩,
  ⟨0x2903, 1, 1, 5, 1, .u32, .ro, .pub, 0, .any, .none, false⟩,
  ⟨0x2904, 1, 1, 1, 4, .u32, .ro, .pub, 0, .any, .none, false⟩,
  ⟨0x2905, 1, 1, 1, 4, .u32, .ro, .pub, 0, .any, .none, false⟩,
  ⟨0x2906, 1, 1, 1, 4, .u16, .ro, .pub, 0, .any, .none, false⟩,
  ⟨0x2907, 1, 1, 1, 4, .u16, .ro, .pub, 0, .any, .none, false⟩,
  ⟨0x2908, 1, 1, 1, 1, .u16, .rw, .serv, 100, (.iv (.lit 10) (.lit 1000)), .now, false⟩,
  ⟨0x2908, 1, 1, 2, 4, .u8, .ro, .pub, 4, .any, .none, false⟩]

/-- All entries of the range. -/
def entries29 : List EntryDef := entries29a ++ entries29b

/-- Entries 2Axxh, part 1. -/
def entries2Aa : List EntryDef := [
  ⟨0x2A00, 1, 1, 1, 4, .bool, .rw, .oper, 0, (.oneOf [0, 1]), .now, false⟩,
  ⟨0x2A01, 1, 1, 1, 4, .u8, .ro, .pub, 0, (.oneOf [0, 1, 2, 3, 4]), .none, false⟩,
  ⟨0x2A02, 1, 1, 1, 4, .u8, .rw, .serv, 4, (.oneOf [1, 2, 4]), .atReset, false⟩,
  ⟨0x2A03, 1, 1, 1, 4, .u16, .rw, .serv, 2500, (.iv (.lit 80) (.lit 2500)), .atReset, false⟩,
  ⟨0x2A04, 1, 1, 1, 4, .u8, .rw, .serv, 0, (.oneOf [0, 1]), .atReset, false⟩,
  ⟨0x2A05, 1, 1, 1, 4, .u16, .rw, .serv, 400, (.oneOf [100, 400, 1000]), .atReset, false⟩,
  ⟨0x2A06, 1, 1, 1, 4, .u32, .ro, .pub, 0, .any, .none, false⟩,
  ⟨0x2A07, 1, 1, 1, 4, .u32, .ro, .pub, 0, .any, .none, false⟩,
  ⟨0x2A08, 1, 1, 1, 4, .u32, .ro, .pub, 0, .any, .none, false⟩,
  ⟨0x2A10, 1, 1, 1, 4, .u8, .rw, .oper, 0, (.iv (.lit 0) (.lit 2)), .atUse, false⟩,
  ⟨0x2A11, 1, 1, 1, 4, .i64, .rw, .oper, 0, .any, .atUse, false⟩,
  ⟨0x2A12, 1, 1, 1, 4, .i64, .rw, .oper, 302548923, (.iv (.lit 4096) (.lit 4611686018427387904)), .atUse, false⟩,
  ⟨0x2A13, 1, 1, 1, 4, .u32, .rw, .oper, 13312, (.iv (.lit 1) (.lit 4294967295)), .atUse, false⟩,
  ⟨0x2A14, 1, 1, 1, 4, .u8, .rw, .oper, 3, (.iv (.lit 1) (.lit 16)), .atUse, false⟩,
  ⟨0x2A15, 1, 1, 1, 4, .u16, .rw, .oper, 1024, (.iv (.lit 1) (.lit 16384)), .atUse, false⟩,
  ⟨0x2A16, 1, 1, 1, 4, .u32, .rw, .oper, 1000, (.iv (.lit 10) (.lit 1000000)), .atUse, false⟩,
  ⟨0x2A17, 1, 1, 1, 4, .u8, .rw, .oper, 0, (.oneOf [0, 1]), .now, false⟩,
  ⟨0x2A18, 1, 1, 1, 4, .u8, .wo, .oper, 0, (.oneOf [1, 2]), .now, false⟩,
  ⟨0x2A19, 1, 1, 1, 4, .u8, .ro, .pub, 0, (.oneOf [0, 1]), .none, false⟩,
  ⟨0x2A1A, 1, 1, 1, 4, .u32, .ro, .pub, 0, .any, .none, false⟩,
  ⟨0x2A20, 1, 1, 1, 8, .bool, .rw, .oper, 0, (.oneOf [0, 1]), .now, false⟩,
  ⟨0x2A21, 1, 1, 1, 8, .u8, .rw, .serv, 0, (.iv (.lit 0) (.lit 3)), .atReset, false⟩,
  ⟨0x2A22, 1, 1, 1, 8, .u8, .rw, .serv, 0, (.iv (.lit 0) (.lit 3)), .atReset, false⟩,
  ⟨0x2A23, 1, 1, 1, 8, .u8, .rw, .serv, 43, (.oneOf [42, 43, 44]), .atReset, false⟩]

/-- Entries 2Axxh, part 2. -/
def entries2Ab : List EntryDef := [
  ⟨0x2A24, 1, 1, 1, 8, .u16, .rw, .serv, 16384, (.ivStep 64 16384 2), .atReset, false⟩,
  ⟨0x2A25, 1, 1, 1, 8, .u16, .rw, .oper, 1024, (.iv (.lit 2) (.lit 16384)), .atReset, false⟩,
  ⟨0x2A26, 1, 1, 1, 8, .u8, .rw, .serv, 0, (.iv (.lit 0) (.lit 4)), .atReset, false⟩,
  ⟨0x2A27, 1, 1, 1, 8, .u8, .rw, .oper, 0, (.oneOf [0, 1]), .atReset, false⟩,
  ⟨0x2A28, 1, 1, 1, 8, .u8, .rw, .oper, 0, (.oneOf [0, 1]), .atReset, false⟩,
  ⟨0x2A29, 1, 1, 1, 8, .u8, .rw, .serv, 2, (.iv (.lit 1) (.lit 3)), .atReset, false⟩,
  ⟨0x2A2A, 1, 1, 1, 8, .u8, .rw, .serv, 54, (.iv (.lit 8) (.lit 119)), .atReset, false⟩,
  ⟨0x2A2B, 1, 1, 1, 8, .u8, .rw, .serv, 2, (.oneOf [1, 2]), .atReset, false⟩,
  ⟨0x2A2C, 1, 1, 1, 8, .u8, .rw, .serv, 4, (.iv (.lit 2) (.lit 8)), .atReset, false⟩,
  ⟨0x2A2D, 1, 1, 1, 8, .u32, .rw, .oper, 10000, (.iv (.lit 100) (.lit 10000000)), .now, false⟩,
  ⟨0x2A2E, 1, 1, 1, 8, .u8, .rw, .oper, 128, (.iv (.lit 0) (.lit 255)), .atPage, false⟩,
  ⟨0x2A2F, 1, 1, 1, 8, .u8, .rw, .oper, 64, (.iv (.lit 0) (.lit 255)), .atPage, false⟩,
  ⟨0x2A30, 1, 1, 1, 8, .u16, .rw, .oper, 64, (.iv (.lit 0) (.lit 4095)), .atPage, false⟩,
  ⟨0x2A31, 1, 1, 1, 8, .domain, .rw, .serv, 0, (.bytes .free), .atPage, false⟩,
  ⟨0x2A32, 1, 1, 1, 8, .domain, .rw, .oper, 0, (.bytes (.exactly 24580)), .atPage, false⟩,
  ⟨0x2A33, 1, 1, 1, 8, .domain, .rw, .oper, 0, (.bytes (.upTo 0 65540)), .atPage, false⟩,
  ⟨0x2A34, 1, 1, 1, 8, .domain, .rw, .oper, 0, (.bytes (.exactly 396)), .atPage, false⟩,
  ⟨0x2A35, 1, 1, 1, 8, .domain, .wo, .oper, 0, (.bytes (.upTo 56 184)), .now, false⟩,
  ⟨0x2A36, 1, 1, 1, 8, .u16, .ro, .pub, 0, .any, .none, false⟩,
  ⟨0x2A37, 1, 1, 1, 8, .u8, .ro, .pub, 0, .any, .none, false⟩,
  ⟨0x2A38, 1, 1, 1, 8, .u8, .ro, .pub, 0, (.iv (.lit 0) (.lit 4)), .none, false⟩,
  ⟨0x2A39, 1, 1, 1, 8, .u32, .ro, .pub, 0, .any, .none, false⟩,
  ⟨0x2A3A, 1, 1, 1, 8, .domain, .ro, .pub, 0, (.bytes (.upTo 0 303556)), .none, false⟩,
  ⟨0x2A3B, 1, 1, 1, 8, .u32, .ro, .pub, 0, .any, .none, false⟩]

/-- Entries 2Axxh, part 3. -/
def entries2Ac : List EntryDef := [
  ⟨0x2A3C, 1, 1, 1, 8, .u32, .ro, .pub, 0, .any, .none, false⟩,
  ⟨0x2A3D, 1, 1, 1, 8, .u32, .ro, .pub, 0, .any, .none, false⟩,
  ⟨0x2A3E, 1, 1, 1, 8, .u32, .ro, .pub, 0, .any, .none, false⟩,
  ⟨0x2A40, 1, 1, 1, 1, .u8, .rw, .oper, 0, (.oneOf [0, 1]), .atPage, false⟩,
  ⟨0x2A40, 1, 1, 2, 1, .u16, .rw, .oper, 64, (.iv (.lit 16) (.lit 4096)), .atPage, false⟩,
  ⟨0x2A40, 1, 1, 3, 1, .u16, .ro, .pub, 0, .any, .none, false⟩,
  ⟨0x2A41, 1, 1, 1, 1, .u16, .rw, .oper, 20, (.iv (.lit 1) (.lit 1000)), .now, false⟩]

/-- All entries of the range. -/
def entries2A : List EntryDef := entries2Aa ++ entries2Ab ++ entries2Ac

/-- Entries 2Bxxh, part 1. -/
def entries2Ba : List EntryDef := [
  ⟨0x2B00, 1, 1, 1, 1, .u8, .rw, .oper, 8, (.iv (.lit 0) (.lit 9)), .now, false⟩,
  ⟨0x2B00, 1, 1, 2, 1, .u8, .wo, .oper, 0, (.oneOf [1, 2, 3]), .now, false⟩,
  ⟨0x2B01, 1, 1, 1, 11, .u32, .ro, .pub, 0, .any, .none, false⟩,
  ⟨0x2B02, 1, 1, 1, 11, .u64, .ro, .pub, 0, .any, .none, false⟩,
  ⟨0x2B03, 1, 1, 1, 11, .u8, .ro, .pub, 0, (.oneOf [0, 1, 2, 3, 4]), .none, false⟩,
  ⟨0x2B04, 1, 1, 1, 11, .u32, .ro, .pub, 0, .any, .none, false⟩,
  ⟨0x2B05, 1, 1, 1, 11, .bool, .rw, .oper, 0, (.oneOf [0, 1]), .now, false⟩,
  ⟨0x2B06, 1, 1, 1, 11, .u8, .ro, .pub, 0, (.oneOf [0, 1, 2]), .none, false⟩,
  ⟨0x2B10, 1, 1, 1, 1, .u8, .rw, .oper, 8, (.iv (.lit 1) (.lit 64)), .now, false⟩,
  ⟨0x2B10, 1, 1, 2, 1, .u16, .rw, .oper, 10, (.iv (.lit 0) (.lit 100)), .now, false⟩,
  ⟨0x2B10, 1, 1, 3, 1, .u16, .rw, .serv, 300, (.iv (.lit 10) (.lit 500)), .now, false⟩,
  ⟨0x2B10, 1, 1, 4, 1, .u8, .rw, .serv, 8, (.iv (.lit 1) (.lit 31)), .now, false⟩,
  ⟨0x2B10, 1, 1, 5, 1, .u16, .rw, .serv, 100, (.iv (.lit 1) (.lit 1000)), .now, false⟩,
  ⟨0x2B10, 1, 1, 6, 1, .u32, .rw, .oper, 65536, (.iv (.lit 256) (.lit 4294967295)), .now, false⟩,
  ⟨0x2B10, 1, 1, 7, 1, .i64, .rw, .oper, 0, (.iv (.lit 0) (.lit 281474976710656)), .now, false⟩,
  ⟨0x2B10, 1, 1, 8, 1, .u8, .rw, .oper, 0, (.iv (.lit 0) (.lit 255)), .now, false⟩,
  ⟨0x2B10, 1, 1, 9, 1, .u32, .ro, .pub, 0, .any, .none, false⟩,
  ⟨0x2B11, 1, 1, 1, 16, .u8, .rw, .oper, 128, (.iv (.lit 1) (.lit 255)), .now, false⟩,
  ⟨0x2B12, 1, 1, 1, 16, .u16, .rw, .oper, 0, (.iv (.lit 0) (.lit 4095)), .now, false⟩,
  ⟨0x2B20, 1, 1, 1, 1, .u8, .rw, .oper, 4, (.iv (.lit 1) (.lit 64)), .now, false⟩,
  ⟨0x2B20, 1, 1, 2, 1, .u32, .rw, .serv, 4096, (.iv (.lit 1) (.lit 16777216)), .now, false⟩,
  ⟨0x2B20, 1, 1, 3, 1, .u16, .rw, .serv, 500, (.iv (.lit 1) (.lit 1000)), .now, false⟩,
  ⟨0x2B20, 1, 1, 4, 1, .u32, .rw, .oper, 256, (.iv (.lit 0) (.lit 16777216)), .now, false⟩,
  ⟨0x2B21, 1, 1, 0, 1, .domain, .rw, .oper, 0, (.bytes (.exactly 260)), .atPage, false⟩]

/-- Entries 2Bxxh, part 2. -/
def entries2Bb : List EntryDef := [
  ⟨0x2B30, 1, 1, 1, 1, .u32, .rw, .serv, 5000, (.iv (.lit 0) (.lit 1000000)), .now, false⟩,
  ⟨0x2B30, 1, 1, 2, 1, .u32, .rw, .serv, 200000, (.iv (.ref 1 1 1 0) (.lit 1000000)), .now, false⟩,
  ⟨0x2B30, 1, 1, 3, 1, .u32, .rw, .serv, 5000, (.iv (.lit 1) (.lit 1000000)), .now, false⟩,
  ⟨0x2B30, 1, 1, 4, 1, .u16, .rw, .serv, 50, (.iv (.lit 1) (.lit 1000)), .now, false⟩,
  ⟨0x2B30, 1, 1, 5, 1, .u8, .rw, .oper, 3, (.iv (.lit 0) (.lit 15)), .now, false⟩,
  ⟨0x2B30, 1, 1, 6, 1, .u8, .rw, .oper, 0, (.iv (.lit 0) (.lit 5)), .now, false⟩,
  ⟨0x2B40, 1, 1, 1, 1, .u8, .ro, .pub, 0, (.oneOf [0, 1, 2]), .none, false⟩,
  ⟨0x2B40, 1, 1, 2, 1, .u16, .rw, .serv, 60, (.iv (.lit 10) (.lit 3600)), .now, false⟩,
  ⟨0x2B40, 1, 1, 3, 1, .u8, .ro, .pub, 0, .any, .none, false⟩,
  ⟨0x2B40, 1, 1, 4, 1, .u32, .ro, .pub, 0, .any, .none, false⟩,
  ⟨0x2B40, 1, 1, 5, 1, .u32, .ro, .pub, 0, .any, .none, false⟩,
  ⟨0x2B40, 1, 1, 6, 1, .u8, .wo, .oper, 0, (.oneOf [1]), .now, false⟩,
  ⟨0x2B50, 1, 1, 1, 1, .u8, .rw, .oper, 0, (.iv (.lit 0) (.lit 7)), .now, false⟩,
  ⟨0x2B50, 1, 1, 2, 1, .u8, .wo, .oper, 0, (.oneOf [1]), .now, false⟩,
  ⟨0x2B50, 1, 1, 3, 1, .u8, .ro, .pub, 0, .any, .none, false⟩,
  ⟨0x2B51, 1, 1, 1, 8, .u32, .ro, .pub, 0, .any, .none, false⟩,
  ⟨0x2B60, 1, 1, 1, 16, .i16, .rw, .serv, 0, (.iv (.lit (-655)) (.lit 655)), .now, false⟩,
  ⟨0x2B61, 1, 1, 1, 16, .i16, .rw, .serv, 0, (.iv (.lit (-256)) (.lit 256)), .now, false⟩,
  ⟨0x2B62, 1, 1, 1, 1, .u8, .ro, .pub, 0, .any, .none, true⟩,
  ⟨0x2B63, 1, 1, 1, 3, .u16, .ro, .pub, 0, (.mask 4095), .none, false⟩]

/-- All entries of the range. -/
def entries2B : List EntryDef := entries2Ba ++ entries2Bb

/-- Entries 2Cxxh, part 1. -/
def entries2Ca : List EntryDef := [
  ⟨0x2C00, 1, 1, 1, 1, .u16, .ro, .pub, 0, (.iv (.lit 0) (.lit 1000)), .none, false⟩,
  ⟨0x2C00, 1, 1, 2, 1, .u16, .ro, .pub, 0, (.iv (.lit 0) (.lit 2000)), .none, false⟩,
  ⟨0x2C00, 1, 1, 3, 1, .u64, .ro, .pub, 0, .any, .none, false⟩,
  ⟨0x2C00, 1, 1, 4, 1, .u32, .rw, .oper, 1000, (.iv (.lit 1) (.lit 4294967295)), .now, false⟩,
  ⟨0x2C10, 16, 1, 1, 1, .u32, .rw, .serv, 0, (.iv (.lit 0) (.lit 200000)), .now, false⟩,
  ⟨0x2C10, 16, 1, 2, 1, .u16, .ro, .pub, 0, .any, .none, false⟩,
  ⟨0x2C10, 16, 1, 3, 1, .bool, .rw, .serv, 1, (.oneOf [0, 1]), .now, false⟩,
  ⟨0x2C20, 4, 1, 1, 1, .u16, .rw, .serv, 10000, (.iv (.lit 100) (.lit 20000)), .atReset, false⟩,
  ⟨0x2C20, 4, 1, 2, 1, .u8, .rw, .serv, 0, (.iv (.lit 0) (.lit 3)), .atReset, false⟩,
  ⟨0x2C20, 4, 1, 3, 1, .u32, .ro, .pub, 0, .any, .none, false⟩,
  ⟨0x2C30, 1, 1, 1, 8, .u32, .rw, .serv, 20000, (.iv (.lit 100) (.lit 1000000)), .atReset, false⟩,
  ⟨0x2C31, 1, 1, 1, 64, .u16, .ro, .pub, 0, .any, .none, false⟩,
  ⟨0x2C32, 1, 1, 1, 64, .bool, .rw, .serv, 0, (.oneOf [0, 1]), .atReset, false⟩,
  ⟨0x2C40, 64, 1, 1, 1, .bool, .rw, .oper, 0, (.oneOf [0, 1]), .now, false⟩,
  ⟨0x2C40, 64, 1, 2, 1, .u8, .ro, .pub, 0, (.oneOf [0, 1, 2, 3, 4]), .none, false⟩,
  ⟨0x2C40, 64, 1, 3, 1, .u8, .rw, .serv, 0, (.oneOf [0, 1]), .atReset, false⟩,
  ⟨0x2C40, 64, 1, 4, 1, .u32, .rw, .serv, 1000, (.iv (.lit 100) (.lit 200000)), .atReset, false⟩,
  ⟨0x2C40, 64, 1, 5, 1, .u8, .rw, .serv, 0, (.iv (.lit 0) (.lit 3)), .atReset, false⟩,
  ⟨0x2C40, 64, 1, 6, 1, .u8, .rw, .serv, 0, .any, .atReset, false⟩,
  ⟨0x2C40, 64, 1, 7, 1, .i32, .rw, .serv, 1, .any, .now, false⟩,
  ⟨0x2C40, 64, 1, 8, 1, .u8, .rw, .serv, 0, (.iv (.lit 0) (.lit 31)), .now, false⟩,
  ⟨0x2C40, 64, 1, 9, 1, .i32, .rw, .serv, 0, .any, .now, false⟩,
  ⟨0x2C40, 64, 1, 10, 1, .u32, .rw, .serv, 0, .any, .atReset, false⟩,
  ⟨0x2C40, 64, 1, 11, 1, .u8, .rw, .serv, 0, (.iv (.lit 0) (.lit 4)), .atReset, false⟩]

/-- Entries 2Cxxh, part 2. -/
def entries2Cb : List EntryDef := [
  ⟨0x2C40, 64, 1, 12, 1, .u8, .rw, .serv, 2, (.iv (.lit 1) (.lit 4)), .atReset, false⟩,
  ⟨0x2C40, 64, 1, 13, 1, .u8, .rw, .serv, 0, (.iv (.lit 0) (.lit 31)), .atReset, false⟩,
  ⟨0x2C40, 64, 1, 14, 1, .u8, .rw, .serv, 16, (.iv (.lit 1) (.lit 24)), .atReset, false⟩,
  ⟨0x2C40, 64, 1, 15, 1, .bool, .rw, .serv, 0, (.oneOf [0, 1]), .atReset, false⟩,
  ⟨0x2C40, 64, 1, 16, 1, .u32, .rw, .serv, 0, .any, .now, false⟩,
  ⟨0x2C40, 64, 1, 17, 1, .f32, .rw, .oper, 0, (.f32 none none false), .now, false⟩,
  ⟨0x2C40, 64, 1, 18, 1, .f32, .rw, .oper, 0, (.f32 (some (.lit 0)) none false), .now, false⟩,
  ⟨0x2C40, 64, 1, 19, 4, .f32, .rw, .serv, 0, (.f32 none none false), .now, false⟩,
  ⟨0x2C40, 64, 1, 23, 3, .f32, .rw, .serv, 0, (.f32 none none false), .now, false⟩,
  ⟨0x2C40, 64, 1, 26, 1, .u8, .rw, .serv, 0, (.iv (.lit 0) (.lit 3)), .atReset, false⟩,
  ⟨0x2C40, 64, 1, 27, 1, .f32, .rw, .serv, 0, (.f32 (some (.lit 0xBF800000)) (some (.ref 0x1C 1 1 0)) false), .now, false⟩,
  ⟨0x2C40, 64, 1, 28, 1, .f32, .rw, .serv, 1065353216, (.f32 (some (.ref 0x1B 1 1 0)) (some (.lit 0x3F800000)) false), .now, false⟩,
  ⟨0x2C40, 64, 1, 29, 1, .f32, .rw, .serv, 0, (.f32 (some (.ref 0x1B 1 1 0)) (some (.ref 0x1C 1 1 0)) false), .atReset, false⟩,
  ⟨0x2C40, 64, 1, 30, 1, .u8, .rw, .serv, 1, (.oneOf [0, 1]), .now, false⟩,
  ⟨0x2C40, 64, 1, 31, 1, .u8, .rw, .serv, 255, (.orIv 255 0 63), .atReset, false⟩,
  ⟨0x2C40, 64, 1, 32, 1, .u16, .rw, .serv, 0, (.iv (.lit 0) (.lit 65535)), .now, false⟩,
  ⟨0x2C40, 64, 1, 33, 1, .bool, .rw, .serv, 0, (.oneOf [0, 1]), .now, false⟩,
  ⟨0x2C40, 64, 1, 34, 1, .f32, .rw, .serv, 0, (.f32 none none false), .now, false⟩,
  ⟨0x2C40, 64, 1, 35, 1, .f32, .rw, .serv, 1065353216, (.f32 (some (.lit 0)) (some (.lit 1176256512)) true), .now, false⟩,
  ⟨0x2C40, 64, 1, 36, 1, .f32, .rw, .serv, 0, (.f32 (some (.lit 0)) none false), .now, false⟩,
  ⟨0x2C40, 64, 1, 37, 1, .f32, .rw, .serv, 0, (.f32 none none false), .now, false⟩,
  ⟨0x2C40, 64, 1, 38, 1, .f32, .rw, .serv, 1065353216, (.f32 (some (.lit 0)) none true), .now, false⟩,
  ⟨0x2C40, 64, 1, 39, 1, .u16, .rw, .serv, 100, (.iv (.lit 1) (.lit 65535)), .now, false⟩,
  ⟨0x2C40, 64, 1, 40, 1, .u16, .rw, .serv, 3, (.iv (.lit 1) (.lit 65535)), .now, false⟩]

/-- Entries 2Cxxh, part 3. -/
def entries2Cc : List EntryDef := [
  ⟨0x2C40, 64, 1, 41, 1, .u8, .wo, .oper, 0, (.oneOf [1, 2]), .now, false⟩,
  ⟨0x2C40, 64, 1, 42, 1, .f32, .ro, .pub, 0, .any, .none, false⟩,
  ⟨0x2C40, 64, 1, 43, 1, .f32, .ro, .pub, 0, .any, .none, false⟩,
  ⟨0x2C40, 64, 1, 44, 1, .f32, .ro, .pub, 0, .any, .none, false⟩,
  ⟨0x2C40, 64, 1, 45, 1, .u8, .ro, .pub, 0, (.oneOf [0, 1, 2, 3, 4]), .none, false⟩,
  ⟨0x2C40, 64, 1, 46, 1, .u32, .ro, .pub, 0, .any, .none, false⟩,
  ⟨0x2C40, 64, 1, 47, 1, .u32, .ro, .pub, 0, .any, .none, false⟩]

/-- All entries of the range. -/
def entries2C : List EntryDef := entries2Ca ++ entries2Cb ++ entries2Cc

/-- Entries 2Dxxh, part 1. -/
def entries2Da : List EntryDef := [
  ⟨0x2D00, 2, 8, 1, 1, .bool, .rw, .oper, 1, (.oneOf [0, 1]), .now, false⟩,
  ⟨0x2D00, 2, 8, 2, 1, .u8, .ro, .pub, 0, (.oneOf [0, 1, 2, 3, 4]), .none, false⟩,
  ⟨0x2D00, 2, 8, 3, 1, .u8, .ro, .pub, 0, (.oneOf [0, 1, 2, 3, 4, 5]), .none, false⟩,
  ⟨0x2D00, 2, 8, 4, 1, .u8, .ro, .pub, 0, (.oneOf [0, 2, 4]), .none, false⟩,
  ⟨0x2D00, 2, 8, 5, 1, .u8, .ro, .pub, 0, (.oneOf [0, 1, 2, 3]), .none, false⟩,
  ⟨0x2D00, 2, 8, 6, 1, .u8, .ro, .pub, 255, .any, .none, false⟩,
  ⟨0x2D00, 2, 8, 7, 1, .u8, .ro, .pub, 255, .any, .none, false⟩,
  ⟨0x2D00, 2, 8, 8, 1, .u32, .ro, .pub, 0, .any, .none, false⟩,
  ⟨0x2D00, 2, 8, 9, 1, .i32, .rw, .serv, 0, (.iv (.lit (-100000)) (.lit 100000)), .now, false⟩,
  ⟨0x2D00, 2, 8, 10, 1, .bool, .rw, .oper, 1, (.oneOf [0, 1]), .now, false⟩,
  ⟨0x2D00, 2, 8, 11, 1, .bool, .ro, .pub, 0, .any, .none, false⟩,
  ⟨0x2D00, 2, 8, 12, 1, .u32, .rw, .serv, 2000, (.iv (.lit 100) (.lit 60000)), .now, false⟩,
  ⟨0x2D00, 2, 8, 13, 1, .u32, .rw, .serv, 500, (.iv (.lit 10) (.lit 60000)), .now, false⟩,
  ⟨0x2D00, 2, 8, 14, 1, .u16, .rw, .serv, 10, (.iv (.lit 1) (.lit 3600)), .now, false⟩,
  ⟨0x2D00, 2, 8, 15, 1, .u8, .wo, .oper, 0, (.oneOf [1]), .now, false⟩,
  ⟨0x2D00, 2, 8, 16, 1, .u32, .ro, .pub, 0, .any, .none, false⟩,
  ⟨0x2D00, 2, 8, 17, 1, .u32, .ro, .pub, 0, .any, .none, false⟩,
  ⟨0x2D00, 2, 8, 18, 1, .u32, .ro, .pub, 0, .any, .none, false⟩,
  ⟨0x2D10, 2, 8, 1, 5, .u8, .ro, .pub, 0, (.iv (.lit 0) (.lit 15)), .none, false⟩,
  ⟨0x2D11, 2, 8, 1, 5, .u32, .ro, .pub, 16384, .any, .none, false⟩,
  ⟨0x2D12, 2, 8, 1, 5, .u32, .ro, .pub, 0, .any, .none, false⟩,
  ⟨0x2D13, 2, 8, 1, 5, .u64, .ro, .pub, 0, .any, .none, false⟩,
  ⟨0x2D20, 1, 1, 1, 1, .u8, .ro, .pub, 0, (.oneOf [0, 1, 2, 3, 4, 5]), .none, false⟩,
  ⟨0x2D20, 1, 1, 2, 1, .u8, .ro, .pub, 1, (.iv (.lit 1) (.lit 8)), .none, false⟩]

/-- Entries 2Dxxh, part 2. -/
def entries2Db : List EntryDef := [
  ⟨0x2D20, 1, 1, 3, 1, .u8, .ro, .pub, 255, .any, .none, false⟩,
  ⟨0x2D20, 1, 1, 4, 1, .u8, .ro, .pub, 0, (.iv (.lit 0) (.lit 7)), .none, false⟩,
  ⟨0x2D20, 1, 1, 5, 1, .u8, .ro, .pub, 0, (.iv (.lit 0) (.lit 7)), .none, false⟩,
  ⟨0x2D20, 1, 1, 6, 1, .u8, .ro, .pub, 0, (.oneOf [0, 1, 2, 3, 4]), .none, false⟩,
  ⟨0x2D20, 1, 1, 7, 1, .u8, .ro, .pub, 0, (.oneOf [0, 1, 2]), .none, false⟩,
  ⟨0x2D20, 1, 1, 8, 1, .u32, .ro, .pub, 0, .any, .none, false⟩,
  ⟨0x2D20, 1, 1, 9, 1, .i32, .ro, .pub, 0, .any, .none, false⟩,
  ⟨0x2D20, 1, 1, 10, 1, .u16, .rw, .serv, 10, (.iv (.lit 2) (.lit 1000)), .now, false⟩,
  ⟨0x2D20, 1, 1, 11, 1, .u16, .rw, .serv, 1024, (.iv (.lit 256) (.lit 16384)), .atReset, false⟩,
  ⟨0x2D20, 1, 1, 12, 1, .u16, .rw, .serv, 40, (.iv (.lit 20) (.lit 1000)), .atReset, false⟩,
  ⟨0x2D20, 1, 1, 13, 1, .u32, .rw, .serv, 1000, (.iv (.lit 100) (.lit 100000)), .now, false⟩,
  ⟨0x2D20, 1, 1, 14, 1, .u16, .rw, .serv, 100, (.iv (.lit 20) (.lit 1000)), .now, false⟩,
  ⟨0x2D20, 1, 1, 15, 1, .u16, .rw, .serv, 16, (.iv (.lit 1) (.lit 65535)), .now, false⟩,
  ⟨0x2D20, 1, 1, 16, 1, .u32, .rw, .serv, 1000, (.iv (.lit 10) (.lit 1000000)), .now, false⟩,
  ⟨0x2D20, 1, 1, 17, 1, .bool, .rw, .serv, 1, (.oneOf [0, 1]), .atReset, false⟩,
  ⟨0x2D20, 1, 1, 18, 1, .u16, .rw, .serv, 100, (.iv (.lit 10) (.lit 10000)), .now, false⟩,
  ⟨0x2D30, 1, 1, 1, 1, .u8, .rw, .serv, 0, (.oneOf [0, 1]), .atUse, false⟩,
  ⟨0x2D30, 1, 1, 2, 1, .u8, .rw, .serv, 3, (.iv (.lit 1) (.lit 3)), .atUse, false⟩,
  ⟨0x2D30, 1, 1, 3, 1, .u8, .wo, .serv, 0, (.oneOf [1, 2]), .now, false⟩,
  ⟨0x2D30, 1, 1, 4, 1, .u64, .ro, .pub, 0, .any, .none, false⟩,
  ⟨0x2D40, 1, 1, 1, 8, .u8, .rw, .oper, 0, (.iv (.lit 0) (.lit 255)), .atPage, false⟩,
  ⟨0x2D40, 1, 1, 9, 1, .u32, .ro, .pub, 0, .any, .none, false⟩,
  ⟨0x2D41, 1, 1, 1, 8, .u32, .ro, .pub, 0, .any, .none, false⟩]

/-- All entries of the range. -/
def entries2D : List EntryDef := entries2Da ++ entries2Db

/-- Entries 2Exxh, part 1. -/
def entries2Ea : List EntryDef := [
  ⟨0x2E00, 2, 1, 1, 1, .bool, .rw, .oper, 1, (.oneOf [0, 1]), .now, false⟩,
  ⟨0x2E00, 2, 1, 2, 1, .u8, .rw, .serv, 0, (.iv (.lit 0) (.lit 3)), .atReset, false⟩,
  ⟨0x2E00, 2, 1, 3, 1, .bool, .rw, .serv, 1, (.oneOf [0, 1]), .atReset, false⟩,
  ⟨0x2E00, 2, 1, 4, 1, .u8, .rw, .serv, 0, (.oneOf [0, 1, 2]), .atReset, false⟩,
  ⟨0x2E00, 2, 1, 5, 1, .u8, .ro, .pub, 0, (.oneOf [0, 1, 2, 3, 4]), .none, false⟩,
  ⟨0x2E00, 2, 1, 6, 1, .u8, .ro, .pub, 0, (.mask 15), .none, false⟩,
  ⟨0x2E00, 2, 1, 7, 1, .u64, .ro, .pub, 0, .any, .none, false⟩,
  ⟨0x2E00, 2, 1, 8, 1, .u8, .rw, .serv, 0, (.mask 3), .atReset, false⟩,
  ⟨0x2E00, 2, 1, 9, 1, .u64, .ro, .pub, 0, .any, .none, false⟩,
  ⟨0x2E00, 2, 1, 10, 1, .u32, .ro, .pub, 0, .any, .none, false⟩,
  ⟨0x2E00, 2, 1, 11, 1, .u32, .ro, .pub, 0, .any, .none, false⟩,
  ⟨0x2E00, 2, 1, 12, 1, .u64, .ro, .pub, 0, .any, .none, false⟩,
  ⟨0x2E00, 2, 1, 13, 1, .u32, .ro, .pub, 0, .any, .none, false⟩,
  ⟨0x2E00, 2, 1, 14, 1, .u64, .ro, .pub, 0, .any, .none, false⟩,
  ⟨0x2E00, 2, 1, 15, 1, .u32, .ro, .pub, 0, .any, .none, false⟩,
  ⟨0x2E00, 2, 1, 16, 1, .bool, .rw, .oper, 1, (.oneOf [0, 1]), .now, false⟩,
  ⟨0x2E00, 2, 1, 17, 1, .bool, .ro, .pub, 0, .any, .none, false⟩,
  ⟨0x2E00, 2, 1, 18, 1, .i32, .rw, .serv, 0, (.iv (.lit (-100000)) (.lit 100000)), .now, false⟩,
  ⟨0x2E00, 2, 1, 19, 1, .i32, .rw, .serv, 0, (.iv (.lit (-100000)) (.lit 100000)), .now, false⟩,
  ⟨0x2E00, 2, 1, 20, 1, .u8, .ro, .pub, 0, (.iv (.lit 0) (.lit 64)), .none, false⟩,
  ⟨0x2E00, 2, 1, 21, 1, .u32, .rw, .serv, 2000, (.iv (.lit 100) (.lit 60000)), .now, false⟩,
  ⟨0x2E00, 2, 1, 22, 1, .u32, .rw, .serv, 500, (.iv (.lit 10) (.lit 60000)), .now, false⟩,
  ⟨0x2E00, 2, 1, 23, 1, .u16, .rw, .serv, 10, (.iv (.lit 1) (.lit 3600)), .now, false⟩,
  ⟨0x2E10, 1, 1, 1, 1, .u32, .rw, .serv, 0, .any, .atReset, false⟩]

/-- Entries 2Exxh, part 2. -/
def entries2Eb : List EntryDef := [
  ⟨0x2E10, 1, 1, 2, 1, .u8, .rw, .serv, 24, (.iv (.lit 1) (.lit 32)), .atReset, false⟩,
  ⟨0x2E10, 1, 1, 3, 1, .u32, .rw, .serv, 0, .any, .atReset, false⟩,
  ⟨0x2E10, 1, 1, 4, 1, .domain, .rw, .serv, 0, (.bytes (.exactly 16)), .atReset, false⟩,
  ⟨0x2E10, 1, 1, 5, 1, .u8, .rw, .serv, 0, (.iv (.lit 0) (.lit 128)), .atReset, false⟩,
  ⟨0x2E10, 1, 1, 6, 1, .domain, .rw, .serv, 0, (.bytes (.exactly 16)), .atReset, false⟩,
  ⟨0x2E10, 1, 1, 7, 1, .u64, .ro, .pub, 0, .any, .none, true⟩,
  ⟨0x2E10, 1, 1, 8, 1, .u16, .rw, .serv, 0, (.iv (.lit 0) (.lit 4094)), .atReset, false⟩,
  ⟨0x2E10, 1, 1, 9, 1, .u32, .ro, .pub, 0, .any, .none, false⟩,
  ⟨0x2E10, 1, 1, 10, 1, .u32, .ro, .pub, 0, .any, .none, false⟩,
  ⟨0x2E18, 1, 1, 1, 1, .u8, .rw, .serv, 1, (.oneOf [0, 1]), .atReset, false⟩,
  ⟨0x2E18, 1, 1, 2, 1, .bool, .rw, .serv, 1, (.oneOf [0, 1]), .atReset, false⟩,
  ⟨0x2E18, 1, 1, 3, 1, .u16, .rw, .serv, 300, (.iv (.lit 10) (.lit 3600)), .now, false⟩,
  ⟨0x2E18, 1, 1, 4, 1, .u16, .ro, .pub, 0, (.iv (.lit 0) (.lit 1024)), .none, false⟩,
  ⟨0x2E18, 1, 1, 5, 1, .u64, .ro, .pub, 0, .any, .none, false⟩,
  ⟨0x2E18, 1, 1, 6, 1, .u32, .ro, .pub, 0, .any, .none, false⟩,
  ⟨0x2E20, 1, 1, 1, 1, .domain, .wo, .oper, 0, (.bytes (.upTo 34 9038)), .now, false⟩,
  ⟨0x2E20, 1, 1, 2, 1, .u32, .wo, .oper, 0, .any, .now, false⟩,
  ⟨0x2E20, 1, 1, 3, 1, .u32, .rw, .serv, 10000, (.iv (.lit 2000) (.lit 10000000)), .now, false⟩,
  ⟨0x2E20, 1, 1, 4, 1, .u8, .rw, .oper, 1, (.oneOf [0, 1]), .now, false⟩,
  ⟨0x2E20, 1, 1, 5, 1, .u32, .ro, .pub, 0, .any, .none, false⟩,
  ⟨0x2E20, 1, 1, 6, 1, .u32, .ro, .pub, 0, .any, .none, false⟩,
  ⟨0x2E20, 1, 1, 7, 1, .u32, .ro, .pub, 0, .any, .none, false⟩,
  ⟨0x2E20, 1, 1, 8, 1, .u64, .ro, .pub, 0, .any, .none, false⟩,
  ⟨0x2E30, 1, 1, 1, 1, .u64, .ro, .pub, 0, .any, .none, false⟩]

/-- Entries 2Exxh, part 3. -/
def entries2Ec : List EntryDef := [
  ⟨0x2E30, 1, 1, 2, 1, .u8, .ro, .pub, 0, (.oneOf [0, 1]), .none, false⟩,
  ⟨0x2E31, 2, 1, 1, 1, .u8, .rw, .serv, 0, (.iv (.lit 0) (.lit 4)), .atReset, false⟩,
  ⟨0x2E31, 2, 1, 2, 1, .u8, .rw, .serv, 0, (.iv (.lit 0) (.lit 127)), .atReset, false⟩,
  ⟨0x2E31, 2, 1, 3, 1, .u8, .rw, .serv, 3, (.mask 3), .atReset, false⟩,
  ⟨0x2E31, 2, 1, 4, 1, .f32, .rw, .serv, 1060320051, (.f32 (some (.lit 0)) (some (.lit 1092616192)) false), .now, false⟩,
  ⟨0x2E31, 2, 1, 5, 1, .f32, .rw, .serv, 1050253722, (.f32 (some (.lit 0)) (some (.lit 1092616192)) false), .now, false⟩,
  ⟨0x2E31, 2, 1, 6, 1, .u32, .rw, .serv, 500000, (.iv (.lit 1000) (.lit 1000000)), .now, false⟩,
  ⟨0x2E31, 2, 1, 7, 1, .u32, .rw, .serv, 100, (.iv (.lit 1) (.lit 1000000)), .now, false⟩,
  ⟨0x2E31, 2, 1, 8, 1, .u16, .rw, .serv, 16, (.iv (.lit 1) (.lit 1024)), .now, false⟩,
  ⟨0x2E31, 2, 1, 9, 1, .u32, .rw, .serv, 1000, (.iv (.ref 7 1 1 0) (.lit 10000000)), .now, false⟩,
  ⟨0x2E31, 2, 1, 10, 1, .u32, .rw, .serv, 1000000, (.iv (.ref 9 1 1 0) (.lit 4294967295)), .now, false⟩,
  ⟨0x2E31, 2, 1, 11, 1, .u8, .rw, .serv, 3, (.iv (.lit 2) (.lit 255)), .now, false⟩,
  ⟨0x2E31, 2, 1, 12, 1, .u8, .ro, .pub, 0, (.oneOf [0, 1, 2, 3, 4]), .none, false⟩,
  ⟨0x2E31, 2, 1, 13, 1, .u64, .ro, .pub, 0, .any, .none, false⟩,
  ⟨0x2E31, 2, 1, 14, 1, .i64, .ro, .pub, 0, .any, .none, false⟩,
  ⟨0x2E31, 2, 1, 15, 1, .f32, .ro, .pub, 0, .any, .none, false⟩,
  ⟨0x2E31, 2, 1, 16, 1, .f32, .ro, .pub, 0, .any, .none, false⟩,
  ⟨0x2E31, 2, 1, 17, 1, .u64, .ro, .pub, 0, .any, .none, false⟩,
  ⟨0x2E31, 2, 1, 18, 1, .u16, .ro, .pub, 0, .any, .none, false⟩,
  ⟨0x2E31, 2, 1, 19, 1, .i16, .ro, .pub, 0, .any, .none, false⟩,
  ⟨0x2E33, 1, 1, 1, 1, .u8, .rw, .oper, 0, (.iv (.lit 0) (.lit 4)), .now, false⟩,
  ⟨0x2E33, 1, 1, 2, 1, .u8, .ro, .pub, 0, (.oneOf [0, 1, 2, 3, 4]), .none, false⟩,
  ⟨0x2E33, 1, 1, 3, 1, .u8, .ro, .pub, 0, (.oneOf [0, 1, 2, 3]), .none, false⟩,
  ⟨0x2E33, 1, 1, 4, 1, .u32, .rw, .serv, 10000, (.iv (.lit 100) (.lit 500000)), .now, false⟩]

/-- Entries 2Exxh, part 4. -/
def entries2Ed : List EntryDef := [
  ⟨0x2E33, 1, 1, 5, 1, .f32, .rw, .serv, 1065353216, (.f32 (some (.lit 1008981770)) (some (.lit 1120403456)) false), .now, false⟩,
  ⟨0x2E33, 1, 1, 6, 1, .bool, .rw, .oper, 0, (.oneOf [0, 1]), .now, false⟩,
  ⟨0x2E33, 1, 1, 7, 1, .u16, .rw, .oper, 60, (.iv (.lit 1) (.lit 3600)), .now, false⟩,
  ⟨0x2E33, 1, 1, 8, 1, .u8, .wo, .serv, 0, (.oneOf [1]), .now, false⟩,
  ⟨0x2E33, 1, 1, 9, 1, .u64, .ro, .pub, 0, .any, .none, false⟩,
  ⟨0x2E33, 1, 1, 10, 1, .i64, .ro, .pub, 0, .any, .none, false⟩,
  ⟨0x2E33, 1, 1, 11, 1, .i64, .ro, .pub, 0, .any, .none, false⟩,
  ⟨0x2E33, 1, 1, 12, 1, .u32, .ro, .pub, 0, .any, .none, false⟩]

/-- All entries of the range. -/
def entries2E : List EntryDef := entries2Ea ++ entries2Eb ++ entries2Ec ++ entries2Ed

/-- Entries 2Fxxh, part 1. -/
def entries2Fa : List EntryDef := [
  ⟨0x2F00, 1, 1, 1, 1, .u32, .ro, .pub, 0, .any, .none, false⟩,
  ⟨0x2F00, 1, 1, 2, 1, .u16, .ro, .pub, 0, (.iv (.lit 0) (.lit 1024)), .none, false⟩,
  ⟨0x2F00, 1, 1, 3, 1, .u32, .ro, .pub, 0, .any, .none, false⟩,
  ⟨0x2F00, 1, 1, 4, 1, .domain, .ro, .pub, 0, (.bytes (.upTo 0 32776)), .none, false⟩,
  ⟨0x2F00, 1, 1, 5, 1, .u32, .wo, .oper, 0, .any, .now, false⟩,
  ⟨0x2F00, 1, 1, 6, 1, .u16, .ro, .pub, 0, .any, .none, false⟩,
  ⟨0x2F00, 1, 1, 7, 1, .domain, .ro, .pub, 0, (.bytes (.upTo 0 2052)), .none, false⟩,
  ⟨0x2F00, 1, 1, 8, 1, .u8, .wo, .serv, 0, (.oneOf [1]), .now, false⟩,
  ⟨0x2F10, 1, 1, 1, 24, .u8, .ro, .pub, 0, (.oneOf [0, 1, 2, 3]), .none, false⟩,
  ⟨0x2F11, 1, 1, 1, 1, .u8, .ro, .pub, 0, (.oneOf [0, 1, 2, 3]), .none, false⟩,
  ⟨0x2F11, 1, 1, 2, 1, .u8, .ro, .pub, 255, .any, .none, false⟩,
  ⟨0x2F11, 1, 1, 3, 1, .u8, .rw, .serv, 4, (.iv (.lit 1) (.lit 24)), .now, false⟩,
  ⟨0x2F11, 1, 1, 4, 1, .u32, .ro, .pub, 0, .any, .none, false⟩,
  ⟨0x2F11, 1, 1, 5, 1, .u32, .ro, .pub, 0, .any, .none, false⟩,
  ⟨0x2F11, 1, 1, 6, 1, .u8, .rw, .oper, 1, (.oneOf [0, 1]), .now, false⟩,
  ⟨0x2F11, 1, 1, 7, 1, .bool, .rw, .oper, 0, (.oneOf [0, 1]), .atPage, false⟩,
  ⟨0x2F11, 1, 1, 8, 1, .u16, .rw, .serv, 20, (.iv (.lit 10) (.lit 1000)), .now, false⟩,
  ⟨0x2F11, 1, 1, 9, 1, .u32, .ro, .pub, 0, .any, .none, false⟩,
  ⟨0x2F11, 1, 1, 10, 1, .domain, .ro, .pub, 0, (.bytes (.exactly 80)), .none, false⟩,
  ⟨0x2F12, 1, 1, 1, 24, .u16, .ro, .pub, 0, .any, .none, false⟩,
  ⟨0x2F20, 1, 1, 1, 1, .u8, .rw, .oper, 24, (.iv (.lit 0) (.lit 26)), .now, false⟩,
  ⟨0x2F20, 1, 1, 2, 1, .u8, .wo, .oper, 0, (.oneOf [1, 2]), .now, false⟩,
  ⟨0x2F20, 1, 1, 3, 1, .u8, .ro, .pub, 0, (.oneOf [0, 1, 2, 3, 4]), .none, false⟩,
  ⟨0x2F20, 1, 1, 4, 1, .u32, .rw, .serv, 4096, (.iv (.lit 256) (.lit 16777216)), .atUse, false⟩]

/-- Entries 2Fxxh, part 2. -/
def entries2Fb : List EntryDef := [
  ⟨0x2F20, 1, 1, 5, 1, .u64, .rw, .oper, 1099511627776, (.iv (.lit 1073741824) (.lit 281474976710656)), .atUse, false⟩,
  ⟨0x2F20, 1, 1, 6, 1, .u32, .rw, .serv, 0, (.iv (.lit 0) (.lit 1000)), .atUse, false⟩,
  ⟨0x2F20, 1, 1, 7, 1, .u64, .ro, .pub, 0, .any, .none, false⟩,
  ⟨0x2F21, 1, 1, 1, 27, .u64, .ro, .pub, 0, .any, .none, false⟩]

/-- All entries of the range. -/
def entries2F : List EntryDef := entries2Fa ++ entries2Fb

/-- Entries 30xxh, part 1. -/
def entries30a : List EntryDef := [
  ⟨0x3000, 1, 1, 1, 1, .u32, .ro, .pub, 0, .any, .none, false⟩,
  ⟨0x3000, 1, 1, 2, 1, .u32, .ro, .pub, 0, .any, .none, false⟩,
  ⟨0x3001, 1, 1, 1, 16, .u8, .ro, .pub, 0, (.oneOf [0, 1, 2]), .none, false⟩,
  ⟨0x3002, 1, 1, 1, 16, .u32, .ro, .pub, 0, .any, .none, false⟩,
  ⟨0x3003, 1, 1, 1, 16, .u16, .ro, .pub, 0, .any, .none, false⟩,
  ⟨0x3010, 1, 1, 1, 1, .domain, .rw, .serv, 0, (.bytes (.upTo 0 1048840)), .atReset, false⟩,
  ⟨0x3010, 1, 1, 2, 1, .u32, .ro, .pub, 0, .any, .none, false⟩,
  ⟨0x3010, 1, 1, 3, 1, .u8, .wo, .serv, 0, (.oneOf [1, 2]), .now, false⟩,
  ⟨0x3010, 1, 1, 4, 1, .u8, .ro, .pub, 0, (.oneOf [0, 1, 2, 3, 4]), .none, false⟩,
  ⟨0x3010, 1, 1, 5, 1, .u16, .rw, .serv, 100, (.iv (.lit 10) (.lit 10000)), .now, false⟩,
  ⟨0x3010, 1, 1, 6, 1, .u32, .rw, .serv, 1000, (.iv (.lit 100) (.lit 4000)), .now, false⟩,
  ⟨0x3011, 1, 1, 1, 4, .u32, .ro, .pub, 0, .any, .none, false⟩,
  ⟨0x3012, 1, 1, 1, 4, .u32, .ro, .pub, 0, .any, .none, false⟩,
  ⟨0x3013, 1, 1, 1, 4, .u32, .ro, .pub, 0, .any, .none, false⟩,
  ⟨0x3014, 1, 1, 1, 4, .u32, .ro, .pub, 0, .any, .none, false⟩]

/-- All entries of the range. -/
def entries30 : List EntryDef := entries30a

/-- Entries 3Fxxh, part 1. -/
def entries3Fa : List EntryDef := [
  ⟨0x3F00, 1, 1, 1, 1, .u8, .rw, .oper, 0, (.iv (.lit 0) (.lit 25)), .atUse, false⟩,
  ⟨0x3F00, 1, 1, 2, 1, .u8, .wo, .oper, 0, (.oneOf [1, 2]), .now, false⟩,
  ⟨0x3F00, 1, 1, 3, 1, .u8, .ro, .pub, 0, (.oneOf [0, 1, 2, 3, 4]), .none, false⟩,
  ⟨0x3F00, 1, 1, 4, 1, .u32, .ro, .pub, 0, .any, .none, false⟩,
  ⟨0x3F00, 1, 1, 5, 1, .u32, .ro, .pub, 0, .any, .none, false⟩,
  ⟨0x3F01, 1, 1, 1, 1, .u8, .rw, .oper, 0, (.iv (.lit 0) (.lit 27)), .atUse, false⟩,
  ⟨0x3F01, 1, 1, 2, 1, .u8, .wo, .oper, 0, (.oneOf [1]), .now, false⟩,
  ⟨0x3F01, 1, 1, 3, 1, .u8, .ro, .pub, 0, (.oneOf [0, 1, 2, 3]), .none, false⟩,
  ⟨0x3F01, 1, 1, 4, 1, .u32, .ro, .pub, 0, .any, .none, false⟩,
  ⟨0x3F01, 1, 1, 5, 1, .u32, .ro, .pub, 0, .any, .none, false⟩,
  ⟨0x3F02, 1, 1, 1, 1, .u32, .ro, .pub, 387524413, .any, .none, false⟩]

/-- All entries of the range. -/
def entries3F : List EntryDef := entries3Fa

/-- CiA 1301 communication records (R46, R50): COB-ID, transmission type, inhibit time, event timer. PRESUMED (log entry 41): the
record layout is CiA 1301's, which the spec names and does not print. -/
def entriesPdo : List EntryDef := [
  ⟨0x1400, 16, 1, 1, 1, .u32, .rw, .oper, 0x80000000, .any, .now, false⟩,
  ⟨0x1400, 16, 1, 2, 1, .u8, .rw, .oper, 0, .any, .now, false⟩,
  ⟨0x1400, 16, 1, 3, 1, .u16, .rw, .oper, 0, .any, .now, false⟩,
  ⟨0x1400, 16, 1, 5, 1, .u16, .rw, .oper, 0, .any, .now, false⟩,
  ⟨0x1600, 16, 1, 0, 1, .u8, .rw, .oper, 0, .iv (.lit 0) (.lit 16), .now, false⟩,
  ⟨0x1600, 16, 1, 1, 16, .u32, .rw, .oper, 0, .any, .now, false⟩,
  ⟨0x1800, 16, 1, 1, 1, .u32, .rw, .oper, 0x80000000, .any, .now, false⟩,
  ⟨0x1800, 16, 1, 2, 1, .u8, .rw, .oper, 0, .any, .now, false⟩,
  ⟨0x1800, 16, 1, 3, 1, .u16, .rw, .oper, 0, .any, .now, false⟩,
  ⟨0x1800, 16, 1, 5, 1, .u16, .rw, .oper, 0, .any, .now, false⟩,
  ⟨0x1A00, 16, 1, 0, 1, .u8, .rw, .oper, 0, .iv (.lit 0) (.lit 16), .now, false⟩,
  ⟨0x1A00, 16, 1, 1, 16, .u32, .rw, .oper, 0, .any, .now, false⟩]

/-- The entry rows whose index has the high byte `hb`. -/
def entriesOf (hb : Nat) : List EntryDef :=
  if hb < 0x20 then (if 0x14 ≤ hb ∧ hb ≤ 0x1A then entriesPdo else entries10)
  else if hb = 0x20 then entries20
  else if hb = 0x21 then entries21
  else if hb = 0x22 then entries22
  else if hb = 0x23 then entries23
  else if hb = 0x24 then entries24
  else if hb = 0x25 then entries25
  else if hb = 0x26 then entries26
  else if hb = 0x27 then entries27
  else if hb = 0x28 then entries28
  else if hb = 0x29 then entries29
  else if hb = 0x2A then entries2A
  else if hb = 0x2B then entries2B
  else if hb = 0x2C then entries2C
  else if hb = 0x2D then entries2D
  else if hb = 0x2E then entries2E
  else if hb = 0x2F then entries2F
  else if hb = 0x30 then entries30
  else if hb = 0x3F then entries3F
  else []

end Sys2Proof.Machine
end

