-- ==== Sys2Proof/Machine/Events.lean ====
section
/-! DEFINITION. The event codes (R262) under their names, and the severity of each. -/
namespace Sys2Proof.Machine.Ev

abbrev COMMIT_DONE : Nat := 0x1001
abbrev COMMIT_ABORTED_RING : Nat := 0x1002
abbrev AUTH_LOCKOUT : Nat := 0x1003
abbrev PWR_STATE_ENTERED : Nat := 0x2001
abbrev PWR_REFUSED_WAKE : Nat := 0x2002
abbrev PWR_ROLLBACK : Nat := 0x2003
abbrev PWR_RAIL_FAULT : Nat := 0x2004
abbrev PWR_AON_BROWNOUT : Nat := 0x2005
abbrev PWR_PMBUS_WARNING : Nat := 0x2006
abbrev PWR_VBAR_LOW : Nat := 0x2007
abbrev PWR_TJ_HIGH : Nat := 0x2008
abbrev PWR_TJ_SHUTDOWN : Nat := 0x2009
abbrev CLK_REF_LOST : Nat := 0x2101
abbrev CLK_LANE_REF_LOST : Nat := 0x2102
abbrev CLK_PLL_UNLOCK : Nat := 0x2103
abbrev BOOT_DONE : Nat := 0x2201
abbrev BOOT_IMAGE_FALLBACK : Nat := 0x2202
abbrev BOOT_WORKSHOP_REJECTED : Nat := 0x2203
abbrev RESET_CAUSE : Nat := 0x2204
abbrev STRAP_FAULT : Nat := 0x2205
abbrev FOUNDATION_ERROR : Nat := 0x2206
abbrev POS_QUAD_ERROR : Nat := 0x2301
abbrev POS_LIMIT : Nat := 0x2302
abbrev POS_INDEX_CORRECTED : Nat := 0x2303
abbrev POS_INDEX_SUSPECT : Nat := 0x2304
abbrev POS_INDEX_MISSING : Nat := 0x2305
abbrev POS_REF_REALIGNED : Nat := 0x2306
abbrev POS_REF_ALARM : Nat := 0x2307
abbrev POS_SSI_LOST : Nat := 0x2308
abbrev POS_PT_REVERSE : Nat := 0x2309
abbrev POS_PROBE_OVERFLOW : Nat := 0x230A
abbrev POS_CMP_MISSED : Nat := 0x230B
abbrev POS_QOUT_OVERRUN : Nat := 0x230C
abbrev POS_KA_LOST : Nat := 0x230D
abbrev MANTEL_START_LATE : Nat := 0x2401
abbrev MANTEL_CUE_REPHASE_SKIPPED : Nat := 0x2402
abbrev MANTEL_LOST_START : Nat := 0x2403
abbrev MANTEL_LOST_END : Nat := 0x2404
abbrev MANTEL_OVERSPEED : Nat := 0x2405
abbrev MANTEL_OVERSPEED_CLEAR : Nat := 0x2406
abbrev MANTEL_VOTE_DISAGREE : Nat := 0x2407
abbrev MANTEL_COPY_RETIRED : Nat := 0x2408
abbrev MANTEL_VOTE_HALT : Nat := 0x2409
abbrev MANTEL_EDGE_SPREAD : Nat := 0x240A
abbrev HEAD_ABSENT : Nat := 0x2501
abbrev HEAD_PRESENT : Nat := 0x2502
abbrev HEAD_NEW : Nat := 0x2503
abbrev HEAD_NO_RECORD : Nat := 0x2504
abbrev HEAD_MISMATCH : Nat := 0x2505
abbrev HEAD_ACCEPTED : Nat := 0x2506
abbrev HEAD_SPREAD : Nat := 0x2507
abbrev HEAD_SB_ERROR : Nat := 0x2508
abbrev HEAD_ALERT_UNRESOLVED : Nat := 0x2509
abbrev HEAD_POLL_STRETCHED : Nat := 0x250A
abbrev HEAD_MEM_FAILED : Nat := 0x250B
abbrev HEAD_RANK_MIX : Nat := 0x250C
abbrev HEAD_PROFILE_INVALID : Nat := 0x250D
abbrev INTLK_ASSERTED : Nat := 0x2601
abbrev INTLK_CLEARED : Nat := 0x2602
abbrev INTLK_RELEASED : Nat := 0x2603
abbrev INTLK_RING_RECEIVED : Nat := 0x2604
abbrev THERM_WARN : Nat := 0x2605
abbrev THERM_LIMIT : Nat := 0x2606
abbrev THERM_NORMAL : Nat := 0x2607
abbrev THERM_TRIP : Nat := 0x2608
abbrev THERM_TRIP_RELEASED : Nat := 0x2609
abbrev DT_DONE : Nat := 0x260A
abbrev DT_PAUSED : Nat := 0x260B
abbrev DT_ABORTED : Nat := 0x260C
abbrev ROOM_CONTEXT_WAIT : Nat := 0x2701
abbrev ROOM_CONTEXTS_EXCEEDED : Nat := 0x2702
abbrev ROOM_VOID_COLUMN : Nat := 0x2703
abbrev ROOM_CHECKPOINT_LATE : Nat := 0x2704
abbrev PAGE_STREAM_CONFIG : Nat := 0x2801
abbrev PAGE_NOT_READY : Nat := 0x2802
abbrev PAGE_DISCARDED : Nat := 0x2803
abbrev PAGE_STOPPED : Nat := 0x2804
abbrev QPT_BAD_BLOCK : Nat := 0x2805
abbrev QPT_STREAM_BROKEN : Nat := 0x2806
abbrev QSC_BAD_BLOCK : Nat := 0x2807
abbrev HIST_CAPTURE_MISSED : Nat := 0x2808
abbrev PANTRY_ECC_CORRECTED : Nat := 0x2901
abbrev PANTRY_ECC_UNCORRECTED : Nat := 0x2902
abbrev PANTRY_PANIC : Nat := 0x2903
abbrev PANTRY_TRAINING_FAILED : Nat := 0x2904
abbrev PANTRY_TEMP_DERATE : Nat := 0x2905
abbrev WIN_FRAME_SHORT : Nat := 0x2A01
abbrev WIN_FRAME_LONG : Nat := 0x2A02
abbrev WIN_FRAME_DROPPED : Nat := 0x2A03
abbrev WIN_PSET_LATE : Nat := 0x2A04
abbrev WIN_CCI_ERROR : Nat := 0x2A05
abbrev WIN_FLICKER : Nat := 0x2A06
abbrev WIN_PORT_ERRORS : Nat := 0x2A07
abbrev CAL_APPLIED : Nat := 0x2B01
abbrev CAL_REJECTED : Nat := 0x2B02
abbrev CAL_FACTORY_MISSING : Nat := 0x2B03
abbrev CELLAR_COPY_BAD : Nat := 0x2B04
abbrev CELLAR_RECORD_LOST : Nat := 0x2B05
abbrev CELLAR_WRITE_FAILED : Nat := 0x2B06
abbrev CELLAR_FOREIGN : Nat := 0x2B07
abbrev PROFILE_LOADED : Nat := 0x2B08
abbrev PROFILE_FAILED : Nat := 0x2B09
abbrev LOOP_IMPLAUSIBLE : Nat := 0x2C01
abbrev LOOP_SAFE_STATE : Nat := 0x2C02
abbrev LOOP_RESTORED : Nat := 0x2C03
abbrev LOOP_SATURATED : Nat := 0x2C04
abbrev LOOP_OVERRUN : Nat := 0x2C05
abbrev LOOP_SENSOR_BUS_ERROR : Nat := 0x2C06
abbrev HALL_LINK_UP : Nat := 0x2D01
abbrev HALL_LINK_DOWN : Nat := 0x2D02
abbrev HALL_LANE_SWITCHED : Nat := 0x2D03
abbrev HALL_LANE_DEGRADED : Nat := 0x2D04
abbrev HALL_RING_ENUMERATED : Nat := 0x2D05
abbrev HALL_LATENCY_CHANGED : Nat := 0x2D06
abbrev HALL_PRBS_ERRORS : Nat := 0x2D07
abbrev PORCH_LINK_UP : Nat := 0x2E01
abbrev PORCH_LINK_DOWN : Nat := 0x2E02
abbrev TIME_LOCKED : Nat := 0x2E03
abbrev TIME_LOCK_LOST : Nat := 0x2E04
abbrev TIME_SOURCE_SWITCH : Nat := 0x2E05
abbrev PORCH_LAUNCH_LATE : Nat := 0x2E06
abbrev SHADOW_TRANSIENT : Nat := 0x2F01
abbrev SPARE_TAKEOVER : Nat := 0x2F02
abbrev SPARE_CAUGHT_UP : Nat := 0x2F03
abbrev SPARE_RETIRED : Nat := 0x2F04
abbrev ROOM_SECOND_FAILURE : Nat := 0x2F05
abbrev SHADOW_UNRESOLVED : Nat := 0x2F06
abbrev ROOM_HANDBACK : Nat := 0x2F07
abbrev PROOF_PASSED : Nat := 0x2F08
abbrev PROOF_FAILED : Nat := 0x2F09
abbrev PROOF_ABORTED : Nat := 0x2F0A
abbrev ENG_WATCHDOG : Nat := 0x3001
abbrev ENG_WORKSHOP_TRAP : Nat := 0x3002
abbrev ENG_MAILBOX_OVERFLOW : Nat := 0x3003
abbrev ENG_SRAM_ECC : Nat := 0x3004
abbrev SELFTEST_PASSED : Nat := 0x3F01
abbrev SELFTEST_FAILED : Nat := 0x3F02
abbrev LOOPBACK_FAILED : Nat := 0x3F03

/-- The codes of severity WARN. -/
def warns : List Nat := [0x1003, 0x2003, 0x2006, 0x2007, 0x2008, 0x2202, 0x2301, 0x2304, 0x2305, 0x2307, 0x2308, 0x2309, 0x230A, 0x230C, 0x230D, 0x2401, 0x2403, 0x2405, 0x2407, 0x240A, 0x2503, 0x2504, 0x2507, 0x2508, 0x2509, 0x250C, 0x2605, 0x2606, 0x260B, 0x260C, 0x2701, 0x2703, 0x2704, 0x2802, 0x2805, 0x2807, 0x2903, 0x2905, 0x2A01, 0x2A02, 0x2A03, 0x2A04, 0x2A05, 0x2A06, 0x2A07, 0x2B02, 0x2B03, 0x2B04, 0x2B07, 0x2C04, 0x2C05, 0x2C06, 0x2D03, 0x2D06, 0x2D07, 0x2E02, 0x2E04, 0x2E05, 0x2E06, 0x2F01, 0x2F09, 0x3003, 0x3F03]

/-- The codes of severity FAULT. -/
def faults : List Nat := [0x1002, 0x2005, 0x2102, 0x2203, 0x2206, 0x2302, 0x2408, 0x2501, 0x2505, 0x250B, 0x250D, 0x2608, 0x2702, 0x2801, 0x2806, 0x2902, 0x2B05, 0x2B06, 0x2B09, 0x2C01, 0x2C02, 0x2D02, 0x2D04, 0x2F02, 0x2F04, 0x2F05, 0x3001, 0x3002, 0x3004, 0x3F02]

/-- The codes of severity STOP. -/
def stops : List Nat := [0x2004, 0x2009, 0x2101, 0x2103, 0x2205, 0x2409, 0x2904, 0x2F06]

/-- R262: the fixed severity of an event: 0 INFO, 1 WARN, 2 FAULT, 3 STOP. The two interlock events take theirs from the
input's role (R185). -/
def severity (code : Nat) : Nat :=
  if stops.contains code then 3 else if faults.contains code then 2 else if warns.contains code then 1 else 0

end Sys2Proof.Machine.Ev
end

