-- ==== Sys2Proof/Machine/F32.lean ====
section
/-! DEFINITION. IEEE 754 binary32 arithmetic on bit patterns, round to nearest, ties to even (R25, R271): a finite
value is an exact dyadic m × 2^e, an operation is exact, and one rounding follows. -/
namespace Sys2Proof.Machine

/-- The sign bit of a pattern. -/
def f32Neg (b : Nat) : Bool := bit b 31

/-- A NaN pattern. -/
def f32IsNan (b : Nat) : Bool := field b 30 23 == 255 && field b 22 0 != 0

/-- An infinite pattern. -/
def f32IsInf (b : Nat) : Bool := field b 30 23 == 255 && field b 22 0 == 0

/-- A finite pattern. -/
def f32Finite (b : Nat) : Bool := field b 30 23 != 255

/-- The signed mantissa of a finite pattern: the value is `f32Mant b × 2^(f32Exp b)`. -/
def f32Mant (b : Nat) : Int :=
  let m : Nat := if field b 30 23 = 0 then field b 22 0 else field b 22 0 + 2 ^ 23
  if f32Neg b then -(m : Int) else m

/-- The exponent that goes with `f32Mant`. -/
def f32Exp (b : Nat) : Int := if field b 30 23 = 0 then -149 else (field b 30 23 : Int) - 150

/-- The quiet NaN the device writes for an invalid operation. -/
def f32QNan : Nat := 0x7FC00000

/-- Infinity with a sign. -/
def f32Inf (neg : Bool) : Nat := if neg then 0xFF800000 else 0x7F800000

/-- The binary32 pattern nearest to n × 2^e (ties to even), with the sign given. -/
def f32RoundNat (neg : Bool) (n : Nat) (e : Int) : Nat :=
  let s : Nat := if neg then 2 ^ 31 else 0
  if n = 0 then s else
    let bits : Int := (Nat.log2 n : Int) + 1
    let sh : Int := if bits - 24 < -149 - e then -149 - e else bits - 24
    let q0 : Nat := if sh ≤ 0 then n * 2 ^ (-sh).toNat else n / 2 ^ sh.toNat
    let r : Nat := if sh ≤ 0 then 0 else n % 2 ^ sh.toNat
    let half : Nat := if sh ≤ 0 then 1 else 2 ^ (sh.toNat - 1)
    let up : Bool := decide (half < r) || (decide (half = r) && q0 % 2 == 1 && decide (0 < sh))
    let q1 := if up then q0 + 1 else q0
    let l0 := e + sh
    let q := if q1 = 2 ^ 24 then 2 ^ 23 else q1
    let l := if q1 = 2 ^ 24 then l0 + 1 else l0
    if q < 2 ^ 23 then s + q
    else
      let ef := l + 150
      if 255 ≤ ef then s + 255 * 2 ^ 23 else s + ef.toNat * 2 ^ 23 + (q - 2 ^ 23)

/-- The pattern nearest to m × 2^e. -/
def f32Round (m e : Int) : Nat := f32RoundNat (decide (m < 0)) m.natAbs e

/-- The pattern nearest to an integer. -/
def f32OfInt (v : Int) : Nat := f32Round v 0

/-- The pattern nearest to the quotient num / den of integers (den ≠ 0). -/
def f32OfRat (num den : Int) : Nat :=
  let neg := decide ((num < 0) ≠ (den < 0))
  let n := num.natAbs
  let d := den.natAbs
  if n = 0 ∨ d = 0 then 0 else
    let k := Nat.log2 d + 64
    let q := n * 2 ^ k / d
    let st : Nat := if n * 2 ^ k % d = 0 then 0 else 1
    f32RoundNat neg (2 * q + st) (-(k : Int) - 1)

/-- Change of sign. -/
def f32NegOf (a : Nat) : Nat := if f32Neg a then a - 2 ^ 31 else a + 2 ^ 31

/-- Magnitude. -/
def f32Abs (a : Nat) : Nat := if f32Neg a then a - 2 ^ 31 else a

/-- Exact zero of either sign. -/
def f32IsZero (a : Nat) : Bool := f32Abs a == 0

/-- Addition. -/
def f32Add (a b : Nat) : Nat :=
  if f32IsNan a || f32IsNan b then f32QNan
  else if f32IsInf a then (if f32IsInf b && (f32Neg a != f32Neg b) then f32QNan else a)
  else if f32IsInf b then b
  else if f32IsZero a && f32IsZero b then (if f32Neg a && f32Neg b then 2 ^ 31 else 0)
  else
    let ea := f32Exp a
    let eb := f32Exp b
    let e := if ea ≤ eb then ea else eb
    let m := f32Mant a * (2 ^ (ea - e).toNat : Nat) + f32Mant b * (2 ^ (eb - e).toNat : Nat)
    if m = 0 then 0 else f32Round m e

/-- Subtraction. -/
def f32Sub (a b : Nat) : Nat := f32Add a (f32NegOf b)

/-- Multiplication. -/
def f32Mul (a b : Nat) : Nat :=
  let neg := f32Neg a != f32Neg b
  if f32IsNan a || f32IsNan b then f32QNan
  else if f32IsInf a || f32IsInf b then (if f32IsZero a || f32IsZero b then f32QNan else f32Inf neg)
  else f32RoundNat neg ((f32Mant a).natAbs * (f32Mant b).natAbs) (f32Exp a + f32Exp b)

/-- Division. -/
def f32Div (a b : Nat) : Nat :=
  let neg := f32Neg a != f32Neg b
  if f32IsNan a || f32IsNan b then f32QNan
  else if f32IsInf a then (if f32IsInf b then f32QNan else f32Inf neg)
  else if f32IsInf b then (if neg then 2 ^ 31 else 0)
  else if f32IsZero b then (if f32IsZero a then f32QNan else f32Inf neg)
  else if f32IsZero a then (if neg then 2 ^ 31 else 0)
  else
    let n := (f32Mant a).natAbs
    let d := (f32Mant b).natAbs
    let q := n * 2 ^ 64 / d
    let st : Nat := if n * 2 ^ 64 % d = 0 then 0 else 1
    f32RoundNat neg (2 * q + st) (f32Exp a - f32Exp b - 65)

/-- Less than, false on a NaN. -/
def f32Lt (a b : Nat) : Bool :=
  if f32IsNan a || f32IsNan b then false
  else if f32IsZero a && f32IsZero b then false
  else if f32Neg a && !f32Neg b then true
  else if !f32Neg a && f32Neg b then false
  else if f32Neg a then decide (f32Abs b < f32Abs a)
  else decide (a < b)

/-- Numerical equality. -/
def f32Eq (a b : Nat) : Bool :=
  !(f32IsNan a || f32IsNan b) && (a == b || (f32IsZero a && f32IsZero b))

/-- Less than or equal. -/
def f32Le (a b : Nat) : Bool := f32Lt a b || f32Eq a b

/-- Clamp into lo … hi. -/
def f32Clamp (lo hi v : Nat) : Nat := if f32Lt v lo then lo else if f32Lt hi v then hi else v

/-- round (R461) of a finite pattern scaled by num / den. -/
def f32RoundScaled (b : Nat) (num den : Int) : Int :=
  let e := f32Exp b
  if 0 ≤ e then roundDiv (f32Mant b * (2 ^ e.toNat : Nat) * num) den
  else roundDiv (f32Mant b * num) (den * (2 ^ (-e).toNat : Nat))

end Sys2Proof.Machine
end

