-- ==== Sys2Proof/Machine/Reg.lean ====
section
/-! DEFINITION. The key of every dictionary entry under its name in the spec: index × 256 + subindex of the first unit and first
subindex (R6, R24). `un` and the addition of a number reach the other units and subindices. -/
namespace Sys2Proof.Machine.Reg

abbrev DEVICE_TYPE : Nat := 0x100000
abbrev ERROR_REGISTER : Nat := 0x100100
abbrev DEVICE_NAME : Nat := 0x100800
abbrev HW_VERSION : Nat := 0x100900
abbrev FW_VERSION : Nat := 0x100A00
abbrev HEARTBEAT_MS : Nat := 0x101700
abbrev VENDOR_ID : Nat := 0x101801
abbrev PRODUCT_CODE : Nat := 0x101802
abbrev REVISION : Nat := 0x101803
abbrev SERIAL : Nat := 0x101804
abbrev QDP_UDP_PORT : Nat := 0x110001
abbrev QDP_MAX_PAYLOAD_BYTES : Nat := 0x110002
abbrev SESSION_TIMEOUT_MS : Nat := 0x110003
abbrev SESSIONS_OPEN : Nat := 0x110004
abbrev IPV4_ENABLE : Nat := 0x110005
abbrev REPLY_CACHE_DEPTH : Nat := 0x110006
abbrev DOMAIN_IDLE_TIMEOUT_MS : Nat := 0x110007
abbrev AUTH_FAILURES : Nat := 0x110008
abbrev QDP_DISCARDS : Nat := 0x110009
abbrev OPERATOR_KEY : Nat := 0x111001
abbrev LOCKOUT_THRESHOLD : Nat := 0x111002
abbrev LOCKOUT_S : Nat := 0x111003
abbrev NODE_ID_PORT0 : Nat := 0x128001
abbrev NODE_ID_PORT1 : Nat := 0x128002
abbrev NOMINAL_KBITS : Nat := 0x128003
abbrev DATA_KBITS : Nat := 0x128004
abbrev CAN_ACCESS_LEVEL : Nat := 0x128005
abbrev CAN_PORT_ENABLE : Nat := 0x128006
abbrev EVENT_MIN_SEVERITY : Nat := 0x130001
abbrev EVENT_RESEND_MS : Nat := 0x130002
abbrev EVENTS_UNDELIVERED : Nat := 0x130003
abbrev PROFILE_ACTIVE : Nat := 0x1F1001
abbrev PROFILE_REQUEST : Nat := 0x1F1002
abbrev PROFILE_STATUS : Nat := 0x1F1003
abbrev COMMIT_MODE : Nat := 0x1F8001
abbrev COMMIT_TARGET : Nat := 0x1F8002
abbrev COMMIT_CMD : Nat := 0x1F8003
abbrev COMMIT_STATUS : Nat := 0x1F8004
abbrev COMMIT_PT : Nat := 0x1F8005
abbrev COMMIT_GLC : Nat := 0x1F8006
abbrev COMMITS_DONE : Nat := 0x1F8007
abbrev COMMIT_MIN_LEAD_LINES : Nat := 0x1F8008
abbrev STAGED_COUNT : Nat := 0x1F8009
abbrev RING_ACK_LEAD_LINES : Nat := 0x1F800A
abbrev IN_FORCE_SEL : Nat := 0x1F8101
abbrev IN_FORCE_VALUE : Nat := 0x1F8102
abbrev INC_MODE : Nat := 0x230001
abbrev DIR_INVERT : Nat := 0x230002
abbrev POS_FILTER_CYCLES : Nat := 0x230003
abbrev COUNT : Nat := 0x230004
abbrev QUAD_ERRORS : Nat := 0x230005
abbrev SSI_MODE : Nat := 0x231001
abbrev CLOCK_KHZ : Nat := 0x231002
abbrev LEAD_BITS : Nat := 0x231003
abbrev DATA_BITS : Nat := 0x231004
abbrev STATUS_BITS : Nat := 0x231005
abbrev CHECK : Nat := 0x231006
abbrev GRAY : Nat := 0x231007
abbrev SAMPLE_DELAY_CYCLES : Nat := 0x231008
abbrev MONOFLOP_US : Nat := 0x231009
abbrev PERIOD_US : Nat := 0x23100A
abbrev ABS_SHIFT : Nat := 0x23100B
abbrev ABS_OFFSET : Nat := 0x23100C
abbrev ABS_COUNT : Nat := 0x23100D
abbrev FRAME_ERRORS : Nat := 0x23100E
abbrev STATUS_LAST : Nat := 0x23100F
abbrev STATUS_ERROR_MASK : Nat := 0x231010
abbrev PERIOD_EDGES : Nat := 0x232001
abbrev GATE_US : Nat := 0x232002
abbrev LOW_CPS : Nat := 0x232003
abbrev HIGH_CPS : Nat := 0x232004
abbrev FILTER_SHIFT : Nat := 0x232005
abbrev STALL_MS : Nat := 0x232006
abbrev SPEED_CPS : Nat := 0x232007
abbrev METHOD : Nat := 0x232008
abbrev PT : Nat := 0x233001
abbrev CORR_APPLIED : Nat := 0x233002
abbrev CORR_TARGET : Nat := 0x233003
abbrev CORR_SLEW_DIV : Nat := 0x233004
abbrev PT_SOURCE : Nat := 0x233005
abbrev INTERP_ENABLE : Nat := 0x233006
abbrev INDEX_MODE : Nat := 0x234001
abbrev INDEX_PERIOD : Nat := 0x234002
abbrev INDEX_PHASE : Nat := 0x234003
abbrev INDEX_TOL : Nat := 0x234004
abbrev INDEX_QUAL : Nat := 0x234005
abbrev SUSPECT_POLICY : Nat := 0x234006
abbrev INDEX_STATE : Nat := 0x234007
abbrev LAST_DEVIATION : Nat := 0x234008
abbrev INDEX_COUNT : Nat := 0x234009
abbrev OUT_OF_TOL_COUNT : Nat := 0x23400A
abbrev SUSPECT_CLEAR : Nat := 0x23400B
abbrev REF_SOURCE : Nat := 0x235001
abbrev REF_NUM : Nat := 0x235002
abbrev REF_DEN : Nat := 0x235003
abbrev REF_ANCHOR_CMD : Nat := 0x235004
abbrev REF_DEVIATION : Nat := 0x235005
abbrev REF_ALARM_PU : Nat := 0x235006
abbrev REF_REALIGN_COUNT : Nat := 0x235007
abbrev PROBE_EDGE : Nat := 0x236001
abbrev PROBE_FILTER_CYCLES : Nat := 0x236002
abbrev ROLE : Nat := 0x236003
abbrev WIN_START : Nat := 0x236004
abbrev WIN_END : Nat := 0x236005
abbrev LOCKOUT_PU : Nat := 0x236006
abbrev LATCHES : Nat := 0x236007
abbrev PENDING : Nat := 0x236008
abbrev OVERFLOWS : Nat := 0x236009
abbrev REJECTED : Nat := 0x23600A
abbrev ACK_SEQ : Nat := 0x23600B
abbrev CMP_MODE : Nat := 0x238001
abbrev CMP_PT : Nat := 0x238002
abbrev CMP_PERIOD_PU : Nat := 0x238003
abbrev CMP_REPEATS : Nat := 0x238004
abbrev CMP_WIDTH_NS : Nat := 0x238005
abbrev CMP_POLARITY : Nat := 0x238006
abbrev CMP_ARM : Nat := 0x238007
abbrev CMP_FIRED : Nat := 0x238008
abbrev CMP_MERGED : Nat := 0x238009
abbrev CMP_STATE : Nat := 0x23800A
abbrev QOUT_SOURCE : Nat := 0x239001
abbrev QOUT_NUM : Nat := 0x239002
abbrev QOUT_DEN : Nat := 0x239003
abbrev QOUT_MIN_NS : Nat := 0x239004
abbrev QOUT_OVERRUNS : Nat := 0x239005
abbrev QOUT_COUNT : Nat := 0x239006
abbrev KA_ENABLE : Nat := 0x23A001
abbrev KA_DELTA : Nat := 0x23A002
abbrev KA_STATUS : Nat := 0x23A003
abbrev MODE : Nat := 0x240001
abbrev LINE_NUM : Nat := 0x240002
abbrev LINE_DEN : Nat := 0x240003
abbrev GLC : Nat := 0x240004
abbrev LINE_PT : Nat := 0x240005
abbrev GRID_ORIGIN_GLC : Nat := 0x240006
abbrev GRID_ORIGIN_PT : Nat := 0x240007
abbrev ARM_LINES : Nat := 0x240008
abbrev FIRE_ENABLE : Nat := 0x240009
abbrev COUNT_NM_NUM : Nat := 0x24000A
abbrev COUNT_NM_DEN : Nat := 0x24000B
abbrev PRED_MIN_CPS : Nat := 0x24000C
abbrev OVERSPEED_PERMILLE : Nat := 0x240101
abbrev OVERSPEED_HYST_PERMILLE : Nat := 0x240102
abbrev OVERSPEED_CPS : Nat := 0x240103
abbrev OVERSPEED_ACTIVE : Nat := 0x240104
abbrev DEFER_TOL_DIV : Nat := 0x240105
abbrev TRIM_SLEW_DIV : Nat := 0x240106
abbrev CUE_OFFSET_PU : Nat := 0x240201
abbrev CUE_REPHASE : Nat := 0x240202
abbrev START_MIN_LEAD_LINES : Nat := 0x240203
abbrev LAST_START_GLC : Nat := 0x240204
abbrev LAST_START_PT : Nat := 0x240205
abbrev LAST_START_RESIDUAL_PU : Nat := 0x240206
abbrev LAST_START_FLAGS : Nat := 0x240207
abbrev PASS_DIR : Nat := 0x240301
abbrev PASS_COUNT : Nat := 0x240302
abbrev HEAD_DELAY_PU : Nat := 0x241001
abbrev HEAD_DELAY_REV_PU : Nat := 0x241101
abbrev FLIGHT_NS : Nat := 0x241201
abbrev HEAD_TRIM_PU : Nat := 0x241301
abbrev TRIM_IN_FORCE_PU : Nat := 0x241401
abbrev HEAD_PLANE : Nat := 0x241501
abbrev PHASE_MODE : Nat := 0x241601
abbrev DEFERRED_LINES : Nat := 0x241701
abbrev LOST_LINES : Nat := 0x241801
abbrev LAST_LOST_GLC : Nat := 0x241901
abbrev PLANE_DELAY_PU : Nat := 0x242001
abbrev PLANE_DELAY_REV_PU : Nat := 0x242101
abbrev PLANE_TRIM_PU : Nat := 0x242201
abbrev ROW_GEOMETRY : Nat := 0x243000
abbrev VOTE_STATE : Nat := 0x244001
abbrev COPY_RETIRED : Nat := 0x244002
abbrev DISAGREE_M0 : Nat := 0x244003
abbrev DISAGREE_M1 : Nat := 0x244004
abbrev DISAGREE_M2 : Nat := 0x244005
abbrev RETIRE_WINDOW_LINES : Nat := 0x244006
abbrev EDGE_SPREAD_MAX_PS : Nat := 0x244007
abbrev EDGE_SPREAD_COUNT : Nat := 0x244008
abbrev HG_PROFILE_SEL : Nat := 0x250001
abbrev HEAD_PROFILE : Nat := 0x250101
abbrev HG_ENABLE : Nat := 0x250201
abbrev HG_STATE : Nat := 0x250301
abbrev CH_ENABLE : Nat := 0x250401
abbrev PRESENCE : Nat := 0x250501
abbrev HEAD_ACCEPT : Nat := 0x250601
abbrev KNOWN_SERIAL : Nat := 0x250701
abbrev HEAD_RECORD : Nat := 0x250801
abbrev HEAD_MEM : Nat := 0x250901
abbrev FIFO_LEVEL : Nat := 0x250A01
abbrev FIFO_DISCARDS : Nat := 0x250B01
abbrev NOT_LATCHED : Nat := 0x250C01
abbrev TEMP_DC : Nat := 0x250D01
abbrev DRIVE_MV : Nat := 0x250E01
abbrev PHASE_SPREAD_PU : Nat := 0x251001
abbrev SPREAD_LIMIT_PU : Nat := 0x251101
abbrev POLL_PERIOD_US : Nat := 0x251201
abbrev SB_ERRORS : Nat := 0x251301
abbrev ALERT_COUNT : Nat := 0x251401
abbrev PRESENT_POLLS : Nat := 0x252001
abbrev ABSENT_POLLS : Nat := 0x252002
abbrev RANK_MIX_POLICY : Nat := 0x252003
abbrev RANK_GAIN_CODE : Nat := 0x253001
abbrev QUEUE_DEPTH : Nat := 0x280001
abbrev SCHED_STATE : Nat := 0x280002
abbrev SCHED_CMD : Nat := 0x280003
abbrev NOT_READY_POLICY : Nat := 0x280004
abbrev READY_LEAD_LINES : Nat := 0x280005
abbrev PAGE_PIXEL_LIMIT : Nat := 0x280006
abbrev CURRENT_PAGE : Nat := 0x280007
abbrev LAST_RETIRED_PAGE : Nat := 0x280008
abbrev PAGES_PRINTED : Nat := 0x280009
abbrev PAGES_DISCARDED : Nat := 0x28000A
abbrev STORE_BYTES : Nat := 0x28000B
abbrev STREAM_BASE : Nat := 0x281001
abbrev STREAM_SIZE : Nat := 0x281002
abbrev STREAM_PERSIST : Nat := 0x281003
abbrev STREAM_STATE : Nat := 0x281004
abbrev RECEIVED : Nat := 0x281005
abbrev CHECKED : Nat := 0x281006
abbrev RELEASED : Nat := 0x281007
abbrev LIMIT : Nat := 0x281008
abbrev STREAM_DISCARDS : Nat := 0x281009
abbrev BAD_BLOCKS_INGEST : Nat := 0x28100A
abbrev EXPANSION_LIMIT_PIX : Nat := 0x282001
abbrev BAD_FILL_VALUE : Nat := 0x282002
abbrev BAD_BLOCKS_READ : Nat := 0x282003
abbrev COMP_BLOCK_LINES : Nat := 0x282004
abbrev INGEST_CHECK : Nat := 0x282005
abbrev QPT_UDP_PORT : Nat := 0x283001
abbrev QPT_MAX_DATAGRAM : Nat := 0x283002
abbrev REORDER_BYTES : Nat := 0x283003
abbrev CREDIT_INTERVAL_BYTES : Nat := 0x283004
abbrev CREDIT_IDLE_US : Nat := 0x283005
abbrev QPT_DISCARDS : Nat := 0x283006
abbrev RESIDENT_PAGE : Nat := 0x284001
abbrev HIST_SLOT : Nat := 0x285001
abbrev HIST_PAGE : Nat := 0x285101
abbrev HIST_PLANE : Nat := 0x285102
abbrev HIST_STRIPE : Nat := 0x285103
abbrev HIST_LINE : Nat := 0x285104
abbrev HIST_TARGET_SLOT : Nat := 0x285105
abbrev HIST_CAPTURE_CMD : Nat := 0x285106
abbrev HIST_STATUS : Nat := 0x285107
abbrev CONTEXTS_IN_USE : Nat := 0x270001
abbrev CONTEXTS_PEAK : Nat := 0x270002
abbrev CONTEXT_WAITS : Nat := 0x270003
abbrev LAST_CONTEXT_NEED : Nat := 0x270004
abbrev GAIN_SLEW_LINES : Nat := 0x270005
abbrev CHECKPOINTS_LATE : Nat := 0x270006
abbrev MAP_CHANGES_WAITED : Nat := 0x270007
abbrev TONE_CURVE : Nat := 0x270101
abbrev GAIN_FAMILY : Nat := 0x270201
abbrev MATRIX_SEL : Nat := 0x270301
abbrev MATRIX_ROW_PHASE : Nat := 0x270401
abbrev MATRIX_COL_PHASE : Nat := 0x270501
abbrev MATRIX : Nat := 0x270601
abbrev COL_BASE : Nat := 0x271001
abbrev COL_FIRST : Nat := 0x271101
abbrev COL_COUNT : Nat := 0x271201
abbrev NOZZLES_PER_COL : Nat := 0x271301
abbrev NOZZLE_MAP : Nat := 0x272001
abbrev GAIN_IN_FORCE : Nat := 0x272101
abbrev VOID_COLUMNS : Nat := 0x272201
abbrev SEL_CHANNEL : Nat := 0x273001
abbrev SEL_NOZZLE : Nat := 0x273002
abbrev NOZZLE_WORD : Nat := 0x273003
abbrev WORD_IN_FORCE : Nat := 0x273004
abbrev INTLK_FUSE_WORD : Nat := 0x260001
abbrev INTLK_STATE : Nat := 0x260101
abbrev INTLK_PENDING_ACK : Nat := 0x260102
abbrev INTLK_ACK : Nat := 0x260103
abbrev INTLK_GATED_GROUPS : Nat := 0x260104
abbrev FIRE_SCOPE : Nat := 0x260105
abbrev WORKSHOP_FIRE : Nat := 0x260106
abbrev RING_SCOPE : Nat := 0x260107
abbrev INTLK_COUNT : Nat := 0x260201
abbrev THERM_STATE : Nat := 0x261001
abbrev TEMP_WARN_IN_FORCE : Nat := 0x261101
abbrev TEMP_LIMIT_IN_FORCE : Nat := 0x261201
abbrev LIMIT_COUNT : Nat := 0x261301
abbrev LIMIT_POLICY : Nat := 0x262001
abbrev THERM_HYST_DC : Nat := 0x262002
abbrev CLEAR_POLLS : Nat := 0x262003
abbrev ROTATE_LINES : Nat := 0x262004
abbrev TRIP_ACK : Nat := 0x262005
abbrev TRIP_GATED : Nat := 0x262101
abbrev TRIP_COUNT : Nat := 0x262201
abbrev TRIP_PENDING_ACK : Nat := 0x262301
abbrev DT_CMD : Nat := 0x263001
abbrev DT_STATE : Nat := 0x263002
abbrev DT_MODE : Nat := 0x263003
abbrev DT_GROUPS : Nat := 0x263004
abbrev DT_FIRST_NOZZLE : Nat := 0x263005
abbrev DT_LAST_NOZZLE : Nat := 0x263006
abbrev DT_DROPS : Nat := 0x263007
abbrev DT_MIN_HITS : Nat := 0x263008
abbrev DT_PERIOD_US : Nat := 0x263009
abbrev DT_WIN_START_NS : Nat := 0x26300A
abbrev DT_WIN_END_NS : Nat := 0x26300B
abbrev DT_MIN_WIDTH_NS : Nat := 0x26300C
abbrev DT_CODE : Nat := 0x26300D
abbrev DT_EJECT_NS : Nat := 0x26300E
abbrev DT_H0_UM : Nat := 0x26300F
abbrev DT_H1_UM : Nat := 0x263010
abbrev DT_GAP_UM : Nat := 0x263011
abbrev DT_DEV_PERMILLE : Nat := 0x263012
abbrev DT_EJECT_TOL_NS : Nat := 0x263013
abbrev DT_APPLY : Nat := 0x263014
abbrev DT_GATED_TIMEOUT_MS : Nat := 0x263015
abbrev DT_PROGRESS : Nat := 0x263016
abbrev DT_GATE_INVERT : Nat := 0x263017
abbrev DT_GATE_SEL : Nat := 0x263101
abbrev DT_RESULT : Nat := 0x263201
abbrev WIN_PORT_ENABLE : Nat := 0x2A0001
abbrev WIN_PORT_STATE : Nat := 0x2A0101
abbrev PORT_LANES : Nat := 0x2A0201
abbrev PORT_MBPS : Nat := 0x2A0301
abbrev PORT_CLOCK_MODE : Nat := 0x2A0401
abbrev CCI_KHZ : Nat := 0x2A0501
abbrev HDR_CORRECTED : Nat := 0x2A0601
abbrev PKT_ERRORS : Nat := 0x2A0701
abbrev CCI_ERRORS : Nat := 0x2A0801
abbrev TRIG_MODE : Nat := 0x2A1001
abbrev TRIG_FRAME_PT : Nat := 0x2A1101
abbrev TRIG_PERIOD_PU : Nat := 0x2A1201
abbrev TRIG_PERIOD_LINES : Nat := 0x2A1301
abbrev TRIG_LINE_DIV : Nat := 0x2A1401
abbrev TRIG_LINES : Nat := 0x2A1501
abbrev TRIG_WIDTH_NS : Nat := 0x2A1601
abbrev TRIG_POLARITY : Nat := 0x2A1701
abbrev TRIG_ARM : Nat := 0x2A1801
abbrev TRIG_STATE : Nat := 0x2A1901
abbrev MISSED_TRIGGERS : Nat := 0x2A1A01
abbrev CTX_ENABLE : Nat := 0x2A2001
abbrev CTX_PORT : Nat := 0x2A2101
abbrev CTX_VC : Nat := 0x2A2201
abbrev CTX_DATA_TYPE : Nat := 0x2A2301
abbrev CTX_WIDTH : Nat := 0x2A2401
abbrev CTX_FRAME_LINES : Nat := 0x2A2501
abbrev CTX_MOSAIC : Nat := 0x2A2601
abbrev CTX_RECON : Nat := 0x2A2701
abbrev CTX_STATS_KIND : Nat := 0x2A2801
abbrev SENSOR_DELAY : Nat := 0x2A2901
abbrev CCI_ADDR : Nat := 0x2A2A01
abbrev CCI_REG_BYTES : Nat := 0x2A2B01
abbrev FRAME_BUFFERS : Nat := 0x2A2C01
abbrev FRAME_TIMEOUT_US : Nat := 0x2A2D01
abbrev SNR_STRENGTH : Nat := 0x2A2E01
abbrev TNR_K : Nat := 0x2A2F01
abbrev TNR_THRESH : Nat := 0x2A3001
abbrev FLAT_FIELD : Nat := 0x2A3101
abbrev TONE : Nat := 0x2A3201
abbrev MAP_TABLE : Nat := 0x2A3301
abbrev MEAS_CONFIG : Nat := 0x2A3401
abbrev PSET : Nat := 0x2A3501
abbrev PSET_IN_FORCE : Nat := 0x2A3601
abbrev PSET_STATUS : Nat := 0x2A3701
abbrev PSET_PENDING : Nat := 0x2A3801
abbrev FRAME_NUMBER : Nat := 0x2A3901
abbrev STATS_RECORD : Nat := 0x2A3A01
abbrev FRAMES_SHORT : Nat := 0x2A3B01
abbrev FRAMES_LONG : Nat := 0x2A3C01
abbrev FRAMES_DROPPED : Nat := 0x2A3D01
abbrev LINES_BAD : Nat := 0x2A3E01
abbrev PIPE_SHARE_MODE : Nat := 0x2A4001
abbrev PIPE_STRIPE_LINES : Nat := 0x2A4002
abbrev PIPE_LOAD_PERMILLE : Nat := 0x2A4003
abbrev FLICKER_THRESH_PERMILLE : Nat := 0x2A4101
abbrev CAL_CLASS_SEL : Nat := 0x2B0001
abbrev CAL_CMD : Nat := 0x2B0002
abbrev CAL_COUNT : Nat := 0x2B0101
abbrev CAL_LAST_TB3_NS : Nat := 0x2B0201
abbrev CAL_LAST_RESULT : Nat := 0x2B0301
abbrev CAL_REJECTS : Nat := 0x2B0401
abbrev CAL_AUTO : Nat := 0x2B0501
abbrev CAL_STATE : Nat := 0x2B0601
abbrev DENS_FRAMES : Nat := 0x2B1001
abbrev DENS_DEADBAND_PERMILLE : Nat := 0x2B1002
abbrev DENS_MAX_PERMILLE : Nat := 0x2B1003
abbrev DENS_MAX_STEP : Nat := 0x2B1004
abbrev DENS_HEAD_REJECT_PERMILLE : Nat := 0x2B1005
abbrev DENS_MIN_WEIGHT : Nat := 0x2B1006
abbrev CAM_OFFSET_PU : Nat := 0x2B1007
abbrev DENS_CONTEXTS : Nat := 0x2B1008
abbrev DENS_SATURATED : Nat := 0x2B1009
abbrev DENS_LEVEL : Nat := 0x2B1101
abbrev DENS_TARGET : Nat := 0x2B1201
abbrev REG_FRAMES : Nat := 0x2B2001
abbrev REG_MAX_PU : Nat := 0x2B2002
abbrev REG_GAIN_PERMILLE : Nat := 0x2B2003
abbrev REG_SETTLE_LINES : Nat := 0x2B2004
abbrev REG_MARKS : Nat := 0x2B2100
abbrev FLIGHT_MIN_NS : Nat := 0x2B3001
abbrev FLIGHT_MAX_NS : Nat := 0x2B3002
abbrev FLIGHT_MAX_CHANGE_NS : Nat := 0x2B3003
abbrev NOZ_REJECT_PERMILLE : Nat := 0x2B3004
abbrev NOZ_REVIVE_TESTS : Nat := 0x2B3005
abbrev SHARE_DEFAULT : Nat := 0x2B3006
abbrev CELLAR_STATE : Nat := 0x2B4001
abbrev CELLAR_MIN_WRITE_S : Nat := 0x2B4002
abbrev CELLAR_DIRTY : Nat := 0x2B4003
abbrev CELLAR_WRITES : Nat := 0x2B4004
abbrev CELLAR_CHECK_FAILS : Nat := 0x2B4005
abbrev CELLAR_FLUSH_CMD : Nat := 0x2B4006
abbrev PROFILE_SAVE_SLOT : Nat := 0x2B5001
abbrev PROFILE_SAVE_CMD : Nat := 0x2B5002
abbrev PROFILE_VALID : Nat := 0x2B5003
abbrev PROFILE_GENERATION : Nat := 0x2B5101
abbrev AIN_TRIM_GAIN : Nat := 0x2B6001
abbrev AIN_TRIM_OFFSET : Nat := 0x2B6101
abbrev FACTORY_VALID : Nat := 0x2B6201
abbrev DELAY_SEL_IN_FORCE : Nat := 0x2B6301
abbrev LOG_NEXT_SEQ : Nat := 0x2F0001
abbrev LOG_COUNT : Nat := 0x2F0002
abbrev LOG_OVERWRITTEN : Nat := 0x2F0003
abbrev EVENT_LOG : Nat := 0x2F0004
abbrev FAULT_ACK : Nat := 0x2F0005
abbrev UNACKED_FAULTS : Nat := 0x2F0006
abbrev FAULT_MIRROR : Nat := 0x2F0007
abbrev MIRROR_CLEAR_CMD : Nat := 0x2F0008
abbrev ROOM_STATE : Nat := 0x2F1001
abbrev ROOMS_SPARE_STATE : Nat := 0x2F1101
abbrev SPARE_SERVING : Nat := 0x2F1102
abbrev SHADOW_ROOMS_PER_SLOT : Nat := 0x2F1103
abbrev MISMATCHES : Nat := 0x2F1104
abbrev TRANSIENTS : Nat := 0x2F1105
abbrev SECOND_FAIL_POLICY : Nat := 0x2F1106
abbrev TAKEOVER_PURGE : Nat := 0x2F1107
abbrev ROOM_STALL_US : Nat := 0x2F1108
abbrev TAKEOVERS : Nat := 0x2F1109
abbrev TAKEOVER_RECORD : Nat := 0x2F110A
abbrev CATCHUP_BOUND_SLOTS : Nat := 0x2F1201
abbrev PROOF_UNIT : Nat := 0x2F2001
abbrev PROOF_CMD : Nat := 0x2F2002
abbrev PROOF_STATUS : Nat := 0x2F2003
abbrev PROOF_CHECKS : Nat := 0x2F2004
abbrev PROOF_LANE_BITS : Nat := 0x2F2005
abbrev PROOF_LANE_MAX_ERRORS : Nat := 0x2F2006
abbrev PROOF_LANE_ERRORS : Nat := 0x2F2007
abbrev LAST_PROOF_TB3_NS : Nat := 0x2F2101
abbrev LOOP_LOAD_PERMILLE : Nat := 0x2C0001
abbrev AIN_LOAD_KSPS : Nat := 0x2C0002
abbrev LOOPS_SAFE : Nat := 0x2C0003
abbrev SAT_WARN_SAMPLES : Nat := 0x2C0004
abbrev AIN_MON_HZ : Nat := 0x2C1001
abbrev AIN_CODE : Nat := 0x2C1002
abbrev RAIL_CHECK : Nat := 0x2C1003
abbrev SPI_KHZ : Nat := 0x2C2001
abbrev SPI_MODE : Nat := 0x2C2002
abbrev SPI_ERRORS : Nat := 0x2C2003
abbrev PWM_FREQ_HZ : Nat := 0x2C3001
abbrev PWM_DUTY : Nat := 0x2C3101
abbrev PWM_INVERT : Nat := 0x2C3201
abbrev LOOP_ENABLE : Nat := 0x2C4001
abbrev LOOP_STATE : Nat := 0x2C4002
abbrev FORMAT : Nat := 0x2C4003
abbrev SAMPLE_HZ : Nat := 0x2C4004
abbrev SRC_KIND : Nat := 0x2C4005
abbrev SRC_UNIT : Nat := 0x2C4006
abbrev IN_MUL : Nat := 0x2C4007
abbrev IN_SHIFT : Nat := 0x2C4008
abbrev IN_ADD : Nat := 0x2C4009
abbrev SPI_CMD : Nat := 0x2C400A
abbrev SPI_CMD_BYTES : Nat := 0x2C400B
abbrev SPI_READ_BYTES : Nat := 0x2C400C
abbrev FIELD_LSB : Nat := 0x2C400D
abbrev FIELD_BITS : Nat := 0x2C400E
abbrev FIELD_SIGNED : Nat := 0x2C400F
abbrev STATUS_MASK : Nat := 0x2C4010
abbrev SETPOINT : Nat := 0x2C4011
abbrev SP_SLEW : Nat := 0x2C4012
abbrev B0 : Nat := 0x2C4013
abbrev A1 : Nat := 0x2C4017
abbrev SCALE_SHIFT : Nat := 0x2C401A
abbrev OUT_MIN : Nat := 0x2C401B
abbrev OUT_MAX : Nat := 0x2C401C
abbrev INIT_OUT : Nat := 0x2C401D
abbrev ANTIWINDUP : Nat := 0x2C401E
abbrev OUT_PWM : Nat := 0x2C401F
abbrev SAFE_DUTY : Nat := 0x2C4020
abbrev SAFE_LEVEL : Nat := 0x2C4021
abbrev MODEL_K : Nat := 0x2C4022
abbrev MODEL_TAU_S : Nat := 0x2C4023
abbrev MODEL_DEAD_S : Nat := 0x2C4024
abbrev MODEL_BIAS : Nat := 0x2C4025
abbrev RESID_LIMIT : Nat := 0x2C4026
abbrev RESID_COUNT : Nat := 0x2C4027
abbrev SENSOR_FAIL_SAMPLES : Nat := 0x2C4028
abbrev LOOP_LOOP_CMD : Nat := 0x2C4029
abbrev Y : Nat := 0x2C402A
abbrev U : Nat := 0x2C402B
abbrev RESIDUAL : Nat := 0x2C402C
abbrev SAFE_CAUSE : Nat := 0x2C402D
abbrev SAT_COUNT : Nat := 0x2C402E
abbrev OVERRUNS : Nat := 0x2C402F
abbrev PORCH_PORT_ENABLE : Nat := 0x2E0001
abbrev PORT_MODE : Nat := 0x2E0002
abbrev AUTONEG : Nat := 0x2E0003
abbrev FEC_25G : Nat := 0x2E0004
abbrev PORCH_PORT_STATE : Nat := 0x2E0005
abbrev LINK_UP : Nat := 0x2E0006
abbrev PORT_MAC : Nat := 0x2E0007
abbrev PAUSE : Nat := 0x2E0008
abbrev RX_FRAMES : Nat := 0x2E0009
abbrev RX_DROPS : Nat := 0x2E000A
abbrev FCS_ERRORS : Nat := 0x2E000B
abbrev FEC_CORRECTED : Nat := 0x2E000C
abbrev FEC_UNCORRECTED : Nat := 0x2E000D
abbrev TX_FRAMES : Nat := 0x2E000E
abbrev TX_DISCARDS : Nat := 0x2E000F
abbrev PORCH_HOLD_OWN : Nat := 0x2E0010
abbrev PORCH_HOLD_STATE : Nat := 0x2E0011
abbrev TS_RX_DELAY_PS : Nat := 0x2E0012
abbrev TS_TX_DELAY_PS : Nat := 0x2E0013
abbrev LAUNCH_PENDING : Nat := 0x2E0014
abbrev PORCH_LINK_UP_TIMEOUT_MS : Nat := 0x2E0015
abbrev PORCH_LINK_DOWN_HOLD_MS : Nat := 0x2E0016
abbrev PORCH_HOLD_RETRY_S : Nat := 0x2E0017
abbrev IPV4_ADDR : Nat := 0x2E1001
abbrev IPV4_PREFIX : Nat := 0x2E1002
abbrev IPV4_GATEWAY : Nat := 0x2E1003
abbrev IPV6_ADDR : Nat := 0x2E1004
abbrev IPV6_PREFIX : Nat := 0x2E1005
abbrev IPV6_GATEWAY : Nat := 0x2E1006
abbrev BASE_MAC : Nat := 0x2E1007
abbrev VLAN_ID : Nat := 0x2E1008
abbrev IP_FRAG_DROPS : Nat := 0x2E1009
abbrev CSUM_ERRORS : Nat := 0x2E100A
abbrev SWITCH_MODE : Nat := 0x2E1801
abbrev PORCH_HOLD_PAIRED : Nat := 0x2E1802
abbrev FDB_AGE_S : Nat := 0x2E1803
abbrev FDB_ENTRIES : Nat := 0x2E1804
abbrev FWD_FRAMES : Nat := 0x2E1805
abbrev FWD_DROPS : Nat := 0x2E1806
abbrev LAUNCH_SUBMIT : Nat := 0x2E2001
abbrev LAUNCH_CANCEL : Nat := 0x2E2002
abbrev LAUNCH_MIN_LEAD_NS : Nat := 0x2E2003
abbrev LAUNCH_LATE_POLICY : Nat := 0x2E2004
abbrev LAUNCH_SENT : Nat := 0x2E2005
abbrev LAUNCH_LATE : Nat := 0x2E2006
abbrev LAUNCH_LAST_TAG : Nat := 0x2E2007
abbrev LAUNCH_LAST_NS : Nat := 0x2E2008
abbrev TB0_NS : Nat := 0x2E3001
abbrev TB0_STATUS : Nat := 0x2E3002
abbrev PTP_PROFILE : Nat := 0x2E3101
abbrev PTP_DOMAIN : Nat := 0x2E3102
abbrev PTP_PORTS : Nat := 0x2E3103
abbrev SERVO_KP : Nat := 0x2E3104
abbrev SERVO_KI : Nat := 0x2E3105
abbrev FREQ_MAX_PPB : Nat := 0x2E3106
abbrev LOCK_THRESH_NS : Nat := 0x2E3107
abbrev LOCK_SAMPLES : Nat := 0x2E3108
abbrev UNLOCK_THRESH_NS : Nat := 0x2E3109
abbrev STEP_THRESH_NS : Nat := 0x2E310A
abbrev SYNC_LOSS_INTERVALS : Nat := 0x2E310B
abbrev TB_STATE : Nat := 0x2E310C
abbrev TB_NS : Nat := 0x2E310D
abbrev OFFSET_NS : Nat := 0x2E310E
abbrev FREQ_PPB : Nat := 0x2E310F
abbrev PATH_DELAY_NS : Nat := 0x2E3110
abbrev GM_IDENTITY : Nat := 0x2E3111
abbrev STEPS_REMOVED : Nat := 0x2E3112
abbrev UTC_OFFSET_S : Nat := 0x2E3113
abbrev TB3_MODE : Nat := 0x2E3301
abbrev TB3_SOURCE : Nat := 0x2E3302
abbrev TB3_STATE : Nat := 0x2E3303
abbrev TB3_MAX_SLEW_PPB : Nat := 0x2E3304
abbrev TB3_TC_S : Nat := 0x2E3305
abbrev TB3_REVERT : Nat := 0x2E3306
abbrev TB3_REVERT_HOLD_S : Nat := 0x2E3307
abbrev TB3_STEP_CMD : Nat := 0x2E3308
abbrev TB3_NS : Nat := 0x2E3309
abbrev TB3_OFFSET_NS : Nat := 0x2E330A
abbrev TB_DIFF_NS : Nat := 0x2E330B
abbrev TB3_SWITCHES : Nat := 0x2E330C
abbrev HALL_PORT_ENABLE : Nat := 0x2D0001
abbrev HALL_PORT_STATE : Nat := 0x2D0002
abbrev LINK_STATE : Nat := 0x2D0003
abbrev LANES_ACTIVE : Nat := 0x2D0004
abbrev HALL_SPARE_STATE : Nat := 0x2D0005
abbrev EXCLUDED_IN : Nat := 0x2D0006
abbrev EXCLUDED_OUT : Nat := 0x2D0007
abbrev LATENCY_PS : Nat := 0x2D0008
abbrev ASYM_PS : Nat := 0x2D0009
abbrev HALL_HOLD_OWN : Nat := 0x2D000A
abbrev HALL_HOLD_STATE : Nat := 0x2D000B
abbrev HALL_LINK_UP_TIMEOUT_MS : Nat := 0x2D000C
abbrev HALL_LINK_DOWN_HOLD_MS : Nat := 0x2D000D
abbrev HALL_HOLD_RETRY_S : Nat := 0x2D000E
abbrev LINK_RESET_CMD : Nat := 0x2D000F
abbrev CRC_ERRORS : Nat := 0x2D0010
abbrev REPLAYS : Nat := 0x2D0011
abbrev NEIGHBOUR_SERIAL : Nat := 0x2D0012
abbrev RX_PEAKING : Nat := 0x2D1001
abbrev TX_FFE : Nat := 0x2D1101
abbrev SH_ERRORS : Nat := 0x2D1201
abbrev PRBS_ERRORS : Nat := 0x2D1301
abbrev RING_STATE : Nat := 0x2D2001
abbrev RING_SIZE : Nat := 0x2D2002
abbrev RING_POSITION : Nat := 0x2D2003
abbrev HOPS_DOWN : Nat := 0x2D2004
abbrev HOPS_UP : Nat := 0x2D2005
abbrev TL_STATE : Nat := 0x2D2006
abbrev TL_PATH : Nat := 0x2D2007
abbrev TL_LATENCY_PS : Nat := 0x2D2008
abbrev TL_OFFSET_PS : Nat := 0x2D2009
abbrev COAST_US : Nat := 0x2D200A
abbrev SYNC_PERIOD_NS : Nat := 0x2D200B
abbrev EDGE_MIN_NS : Nat := 0x2D200C
abbrev LAT_CHECK_US : Nat := 0x2D200D
abbrev LAT_TOL_PS : Nat := 0x2D200E
abbrev LANE_ERR_THRESH : Nat := 0x2D200F
abbrev LANE_ERR_WINDOW_US : Nat := 0x2D2010
abbrev HALL_HOLD_PAIRED : Nat := 0x2D2011
abbrev ENUM_TIMEOUT_MS : Nat := 0x2D2012
abbrev PRBS_PORT : Nat := 0x2D3001
abbrev PRBS_PATTERN : Nat := 0x2D3002
abbrev PRBS_CMD : Nat := 0x2D3003
abbrev PRBS_BITS : Nat := 0x2D3004
abbrev STATS_FWD_MASK : Nat := 0x2D4001
abbrev STATS_FWD_DROPS : Nat := 0x2D4009
abbrev RING_MEMBER_STATE : Nat := 0x2D4101
abbrev PANTRY_STATE : Nat := 0x290001
abbrev DEVICE_DENSITY_GBIT : Nat := 0x290002
abbrev RANKS : Nat := 0x290003
abbrev DATA_RATE_MTS : Nat := 0x290004
abbrev ECC_ENABLE : Nat := 0x290005
abbrev BOOT_ZERO : Nat := 0x290006
abbrev PANTRY_BYTES : Nat := 0x290007
abbrev RESERVED_BASE : Nat := 0x290008
abbrev WQ_HIGH : Nat := 0x290101
abbrev WQ_LOW : Nat := 0x290102
abbrev ROW_HIT_LIMIT : Nat := 0x290103
abbrev PANIC_LEVEL_KIB : Nat := 0x290104
abbrev PANIC_CLEAR_KIB : Nat := 0x290105
abbrev PANIC_COUNT : Nat := 0x290106
abbrev PANIC_TIME_US : Nat := 0x290107
abbrev REFRESH_POSTPONE_MAX : Nat := 0x290108
abbrev RH_THRESH : Nat := 0x290201
abbrev RH_RADIUS : Nat := 0x290202
abbrev RFM_ENABLE : Nat := 0x290203
abbrev RH_REFRESHES : Nat := 0x290204
abbrev RFM_COMMANDS : Nat := 0x290205
abbrev ECC_CORRECTED : Nat := 0x290301
abbrev ECC_UNCORRECTED : Nat := 0x290302
abbrev ECC_LAST_ADDR : Nat := 0x290303
abbrev SCRUB_HOURS : Nat := 0x290304
abbrev SCRUB_PASSES : Nat := 0x290305
abbrev BW_READ_MBPS : Nat := 0x290401
abbrev BW_WRITE_MBPS : Nat := 0x290501
abbrev READ_EYE_PS : Nat := 0x290601
abbrev WRITE_EYE_PS : Nat := 0x290701
abbrev RETRAIN_MS : Nat := 0x290801
abbrev REFRESH_MULT : Nat := 0x290802
abbrev SRAM_ECC_CORRECTED : Nat := 0x300001
abbrev SRAM_ECC_UNCORRECTED : Nat := 0x300002
abbrev ENG_STATE : Nat := 0x300101
abbrev ENG_RESTARTS : Nat := 0x300201
abbrev ENG_LOAD_PERMILLE : Nat := 0x300301
abbrev WORKSHOP_IMAGE : Nat := 0x301001
abbrev WORKSHOP_VERSION : Nat := 0x301002
abbrev WORKSHOP_CMD : Nat := 0x301003
abbrev WORKSHOP_STATE : Nat := 0x301004
abbrev WORKSHOP_WDT_MS : Nat := 0x301005
abbrev WORKSHOP_PANTRY_MBPS : Nat := 0x301006
abbrev MB_OVERFLOWS : Nat := 0x301101
abbrev EV_LOST : Nat := 0x301201
abbrev WS_TRAPS : Nat := 0x301301
abbrev BULK_LOST : Nat := 0x301401
abbrev PWR_STATE : Nat := 0x200001
abbrev PWR_REQUEST : Nat := 0x200002
abbrev PWR_STATUS : Nat := 0x200003
abbrev PWR_LAST_AP : Nat := 0x200004
abbrev WAKE_TARGET : Nat := 0x200005
abbrev WAKE_ENABLE : Nat := 0x200006
abbrev WAKE_CAUSE : Nat := 0x200007
abbrev WAKE_TB0_NS : Nat := 0x200008
abbrev WAKE_COUNTS : Nat := 0x200009
abbrev RING_POWER_TIMEOUT_MS : Nat := 0x20000A
abbrev DOMAIN_ON : Nat := 0x20000B
abbrev VBAR_MV : Nat := 0x200101
abbrev VBAR_WARN_MV : Nat := 0x200102
abbrev AON_BROWNOUTS : Nat := 0x200103
abbrev TJ_DC : Nat := 0x200104
abbrev TJ_WARN_DC : Nat := 0x200105
abbrev RAIL_RETRY : Nat := 0x200106
abbrev RAIL_RETRY_S : Nat := 0x200107
abbrev RAIL_USED : Nat := 0x201001
abbrev RAIL_PG_TIMEOUT_MS : Nat := 0x201002
abbrev RAIL_DELAY_US : Nat := 0x201003
abbrev PMBUS_ADDR : Nat := 0x201004
abbrev RAIL_STATE : Nat := 0x201005
abbrev VOUT_MV : Nat := 0x201006
abbrev IOUT_MA : Nat := 0x201007
abbrev RAIL_TEMP_DC : Nat := 0x201008
abbrev PMBUS_STATUS_WORD : Nat := 0x201009
abbrev RESET_CAUSE : Nat := 0x220001
abbrev BOOT_TIME_MS : Nat := 0x220002
abbrev HOUSE_SLOT : Nat := 0x220003
abbrev HOUSE_VERSION : Nat := 0x220004
abbrev STRAP_PROFILE : Nat := 0x220005
abbrev STRAP_ROLE : Nat := 0x220006
abbrev DEVICE_RESET_CMD : Nat := 0x220007
abbrev SUBSYS_RESET_CMD : Nat := 0x220008
abbrev SUBSYS_RESET_STATUS : Nat := 0x220009
abbrev HOUSE_IMAGE : Nat := 0x221001
abbrev HOUSE_MIN_VERSION : Nat := 0x221002
abbrev WORKSHOP_MIN_VERSION : Nat := 0x221003
abbrev SECURITY : Nat := 0x221004
abbrev FOUNDATION_PROGRAM : Nat := 0x222001
abbrev FOUNDATION_READ : Nat := 0x222002
abbrev FOUNDATION_MISMATCH : Nat := 0x222003
abbrev FUSE_VPP_PRESENT : Nat := 0x222004
abbrev XTAL_STATE : Nat := 0x210001
abbrev LANE_REF_STATE : Nat := 0x210002
abbrev BACKUP_ACTIVE : Nat := 0x210003
abbrev PLL_LOCKED : Nat := 0x210004
abbrev LANE_TO_XTAL_PPM : Nat := 0x210005
abbrev CLK_FAULTS : Nat := 0x210006
abbrev CAM_BYTE_KHZ : Nat := 0x210101
abbrev SCLK_KHZ_IN_FORCE : Nat := 0x210201
abbrev SELFTEST_UNIT : Nat := 0x3F0001
abbrev SELFTEST_CMD : Nat := 0x3F0002
abbrev SELFTEST_STATUS : Nat := 0x3F0003
abbrev SELFTEST_FAIL_ADDR : Nat := 0x3F0004
abbrev SELFTEST_GOLDEN : Nat := 0x3F0005
abbrev LOOP_TARGET : Nat := 0x3F0101
abbrev LB_LOOP_CMD : Nat := 0x3F0102
abbrev LOOP_STATUS : Nat := 0x3F0103
abbrev LOOP_FAIL_MAP : Nat := 0x3F0104
abbrev LOOP_OPEN_MAP : Nat := 0x3F0105
abbrev JTAG_IDCODE : Nat := 0x3F0201

/-- The same entry of unit u of a record that exists once per unit with index step 1. -/
def un (k u : Nat) : Nat := k + 256 * u

end Sys2Proof.Machine.Reg
end

