-- ==== Sys2Proof/Machine/StateDict.lean ====
section
/-! DEFINITION. State of the dictionary service (R24 … R51): sessions, authentication, transfers, staged sets,
selections, CANopen state, and the messages the device has sent. -/
namespace Sys2Proof.Machine

/-- A stamp of the position timeline, the line counter and press time, taken in one ENC cycle (R67, R257). -/
structure Stamp where
  pt    : Int := 0
  glc   : Nat := 0
  tb3   : Nat := 0   -- ns
  frac  : Nat := 0   -- 2^-16 ns
deriving DecidableEq, Repr

/-- An event as raised, before it enters the log (R257 … R259). -/
structure EventRec where
  seq    : Nat := 0
  code   : Nat := 0
  sev    : Nat := 0
  unit   : Nat := 0xFF
  glc    : Nat := 0
  detail : List Nat := []
  pt     : Int := 0
  tb3    : Nat := 0
deriving DecidableEq, Repr

/-- A QDP response or a mailbox response, as bytes of payload (R42). -/
structure QdpResp where
  opcode  : Nat
  status  : Nat
  session : Nat
  seq     : Nat
  count   : Nat
  payload : List Nat
deriving DecidableEq, Repr

/-- A response that waits for a head's read-back (R120): a QDP datagram to an address and port, a mailbox response slot,
or a USDO response. -/
inductive Answer where
  | qdp (rx ip port : Nat) (r : QdpResp)
  | box (w slot flags starts : Nat) (r : QdpResp)
  | usdo (port : Nat)
deriving DecidableEq, Repr

/-- R450: how a boundary cell drives its ball: its level, or a pulse or a pulse train of IEEE 1149.6. -/
inductive TapDrive where
  | level | pulse | train
deriving DecidableEq, Repr

/-- A message, frame or pulse that the device puts out. A frame that leaves a Porch port is `wire`: its port and sub-port,
its 802.1Q tag (PCP and VLAN) where it has one of the device's own, its next hop, and the message in it. -/
inductive Tx where
  | qdp (ip port : Nat) (r : QdpResp)
  | event (ip port session seq : Nat) (recs : List EventRec)
  | result (req : Req) (key : Nat) (st : Status)
  | value (req : Req) (st : Status) (bytes : List Nat)
  | can (port cobId : Nat) (data : List Nat)
  | qpt (ip port : Nat) (data : List Nat)
  | hall (port cls : Nat) (lanes : List Nat) (data : List Nat)
  | ident (port role serial exOut exIn : Nat)
  | beat (port word : Nat)
  | prbs (port pattern : Nat)
  | eth (port : Nat) (data : List Nat)
  | cci (port addr : Nat) (data : List Nat)
  | pulse (kind unit : Nat) (at_ width : Nat) (low : Bool := false)
  | cut (kind unit : Nat) (at_ : Nat)
  | ssiClock (ch at_ half periods : Nat) (samples : List Nat)
  | sideband (group : Nat) (data : List Nat)
  | shiftOut (channel : Nat) (codes : List Nat)
  | spi (bus mode at_ : Nat) (data : List Nat)
  | pmbus (addr : Nat) (data : List Nat)
  | pwrEn (slot : Nat) (on : Bool) (at_ : Nat)
  | mailbox (w : Nat) (data : List Nat)
  | answer (port kind dest : Nat)
  | ptp (port t kind : Nat) (vals : List Int)
  | wire (unit : Nat) (tag : Option (Nat × Nat)) (hop : Nat) (body : Tx)
  | pantry (who unit addr : Nat) (data : List Nat) (bad : Bool)
  | tap (ir : Nat) (cells : List (Nat × Bool × TapDrive))
deriving DecidableEq, Repr

/-- A DOMAIN transfer in progress (R41, R44). -/
structure Xfer where
  write   : Bool := false
  key     : Nat := 0
  total   : Nat := 0
  crc     : Nat := 0
  data    : List Nat := []   -- a read's frozen content, or the bytes received so far
  lastOff : Option Nat := none
  lastLen : Nat := 0
  active  : Nat := 0         -- ENC cycle of the last segment
deriving DecidableEq, Repr

/-- An EVENT not yet answered by its session (R45). -/
structure EventOut where
  seq    : Nat
  recs   : List EventRec
  tries  : Nat
  sentAt : Nat
deriving DecidableEq, Repr

/-- One QDP session (R27 … R30, R43, R45). -/
structure Session where
  num      : Nat := 0
  ip       : Nat := 0
  port     : Nat := 0
  rx       : Nat := 0              -- the Porch port and sub-port its last datagram came by
  level    : Level := .pub
  opNonce  : Option (List Nat) := none
  svNonce  : Option (List Nat) := none
  svAt     : Nat := 0
  lastSeen : Nat := 0
  lastSeq  : Option Nat := none
  cache    : List (Nat × QdpResp) := []
  sub      : Option Nat := none
  unacked  : List EventOut := []
  xfer     : Option Xfer := none
  lastDone : Option Xfer := none   -- the last completed write, whose final segment may be repeated
  sel      : Nat := 0
deriving DecidableEq, Repr

/-- A sealed set (R35, R37 … R39). -/
structure Sealed where
  mode    : Nat
  target  : Int
  items   : List (Nat × Val)
  glc     : Option Nat := none     -- the line it will act on, once resolved
  pt      : Int := 0
  late    : Bool := false
  page    : Option Nat := none     -- the queued page whose first line it waits for
  next    : Bool := false          -- waits for the next page to be queued and bound
  acks    : List (Nat × Nat × Nat) := []   -- ring position, count, CRC
  stands  : Bool := true           -- false until the ring acknowledgement check confirms it
deriving DecidableEq, Repr

/-- One CAN FD port (R46): NMT state, heartbeat and PDO times. -/
structure CanPort where
  nmt       : Nat := 127     -- CiA 1301: 4 stopped, 5 operational, 127 pre-operational
  beatAt    : Nat := 0
  beats     : Nat := 0
  tpdoAt    : List (Nat × Nat) := []
  sel       : Nat := 0
deriving DecidableEq, Repr

/-- The dictionary service. -/
structure Dict where
  regs      : Tab Int := []                 -- numeric values in force that differ from their default
  blobs     : List (Nat × List Nat) := []   -- STR and DOMAIN values in force that were ever set
  stored    : List (Nat × Val) := []        -- at-reset writes, kept across resets
  openSet   : List (Nat × Val) := []
  sealed    : Option Sealed := none
  superseded : List (Nat × Nat × Val) := []  -- key, the first grid line of the newer value, the older value (R155)
  pageSet   : List (Nat × Val) := []        -- writes waiting for a page boundary, oldest first
  sessions  : List Session := []
  lastNum   : Nat := 0
  authRun   : Nat := 0                      -- consecutive failed authentications
  lockedAt  : Option Nat := none
  wsSel     : List (Nat × Nat) := []        -- IN_FORCE_SEL of each Workshop engine
  can0      : CanPort := {}
  can1      : CanPort := {}
  profileReq : Option Nat := none           -- a profile read and checked, waiting for its page boundary
  profileItems : List (Nat × Val) := []
  evSeq     : Nat := 0
deriving DecidableEq, Repr

end Sys2Proof.Machine
end

