-- ==== Sys2Proof/Machine/StatePos.lean ====
section
/-! DEFINITION. State of the position unit (R52 … R76): two position channels, the timeline, the reference, probes,
compare outputs, divided outputs and the keep-alive counter. What the dictionary reports and nothing else changes
(COUNT, SPEED_CPS, PT, PENDING and the like) is read from here. -/
namespace Sys2Proof.Machine

/-- R58, R59: the estimator that sets the published speed. -/
inductive SpeedMethod where
  | period | count | stalled
deriving DecidableEq, Repr

/-- The code of METHOD. -/
def SpeedMethod.code : SpeedMethod → Nat
  | .period => 0 | .count => 1 | .stalled => 2

/-- One position channel. -/
structure PosCh where
  c        : Int := 0                        -- raw count C
  a        : Bool := false                   -- accepted levels
  b        : Bool := false
  aAt      : Option Nat := none              -- when each level was last accepted as changed
  bAt      : Option Nat := none
  zAt      : Option Nat := none              -- when POSn_Z was last accepted as risen
  lastDir  : Int := 1
  hist     : List Nat := []                  -- accepted edge times, newest first
  histDir  : Int := 0
  gate     : Option (Nat × Int) := none      -- open gate: its first edge, net count since
  method   : SpeedMethod := .stalled
  v        : Int := 0                        -- Q8.24 pu per ENC cycle
  lastEdge : Nat := 0
  quadAt   : Option Nat := none              -- time of the last quadrature error
  idxAt    : Option Int := none              -- p × 1,024 at the last qualified index
  learn    : Bool := true                    -- INDEX_MODE 2 learns at the next index
  missing  : Bool := false                   -- POS_INDEX_MISSING already raised
  ssiRun   : Option Nat := none              -- cycle in which the frame in progress started
  ssiDone  : Nat := 0                        -- cycle in which the last frame and its monoflop time end
  ssiNext  : Nat := 0                        -- earliest start of the next frame
  sampC    : Int := 0                        -- C and KT and TB3 at the word's sample instant
  sampKt   : Int := 0
  sampTb3  : Nat := 0
  wPrev    : Option Nat := none
  ext      : Int := 0
  bad      : Nat := 0                        -- consecutive invalid or NOT_READY frames
  wordOk   : Bool := false                   -- the absolute word is a valid reference
deriving DecidableEq, Repr

/-- One compare output (R70, R71). -/
structure CmpOut where
  mode   : Nat := 0
  target : Int := 0
  period : Int := 0
  left   : Nat := 0          -- firings left; 0 without end
  endless : Bool := false
  width  : Nat := 0          -- ENC cycles
  from_  : Nat := 0          -- cycle of assertion at the ball
  until_ : Option Nat := none
deriving DecidableEq, Repr

/-- One divided output (R72). -/
structure QoutSt where
  acc    : Int := 0
  queue  : Int := 0          -- queued steps, signed: forward steps positive
  phase  : Nat := 0          -- 0 … 3: (A, B) = 00, 10, 11, 01
  lastAt : Option Nat := none
  overRun   : Bool := false     -- inside an overrun episode
deriving DecidableEq, Repr

/-- A kept probe latch (R69). -/
structure Latch where
  seq     : Nat
  stamp   : Stamp
  stalled : Bool
  suspect : Bool
  rising  : Bool
  input   : Nat
deriving DecidableEq, Repr

/-- One probe input (R67, R68). -/
structure ProbeIn where
  fifo  : List Latch := []
  next  : Nat := 0
  atChg : Option Nat := none -- when the level was last accepted as changed
  pLast : Option Int := none
  full  : Bool := false      -- the overflow since the FIFO was last below full has been reported
deriving DecidableEq, Repr

/-- The keep-alive counter in AON (R73, R74). -/
structure KeepAlive where
  running : Bool := false
  count   : Int := 0
  bad     : Bool := false
  a       : Bool := false
  b       : Bool := false
  aAt     : Option Nat := none   -- when each level was last accepted as changed
  bAt     : Option Nat := none
  winAt   : Nat := 0             -- the present window of 1 ms and the counts in it (R367)
  winN    : Nat := 0
  cFrozen : Int := 0
  kFrozen : Int := 0
  ktFrozen : Int := 0
deriving DecidableEq, Repr

/-- The position unit. -/
structure Pos where
  p0        : PosCh := {}
  p1        : PosCh := {}
  k         : Int := 0
  kt        : Int := 0
  f         : Int := 0
  acc       : Nat := 0
  edgeNow   : Bool := false          -- an edge was accepted in this cycle
  lineNow   : Bool := false          -- a line event occurred in this cycle
  ptRx      : Int := 0               -- PT received by the Hallway (members): the last EDGE's PT
  rxV       : Int := 0               -- its speed, Q8.24 pu per ENC cycle, direction and STALLED flag
  rxDir     : Int := 1
  rxStall   : Bool := true
  ago       : Nat := 0               -- how long before its receipt the edge lay, ps
  ptHigh    : Int := 0               -- highest PT since the last reversal report, and the lowest since then
  ptLow     : Int := 0
  hist      : List Stamp := []       -- the 16-cycle history of R67, newest first
  anchor    : Option (Int × Int) := none   -- r_a and pos_a
  anchorDue : Bool := false
  refAt     : Nat := 0               -- the cycle after which a sample anchors
  refAlarm  : Bool := false
  realign   : Bool := false          -- the next reference sample realigns KT
  realignAt : Nat := 0               -- the cycle of the index that asked for it
  probes    : Tab ProbeIn := []
  cmps      : Tab CmpOut := []
  qouts     : Tab QoutSt := []
  ka        : KeepAlive := {}
deriving DecidableEq, Repr

end Sys2Proof.Machine
end

