-- ==== Sys2Proof/Machine/StateMantel.lean ====
section
/-! DEFINITION. State of the Mantel (R77 … R101) and of the head ports (R102 … R127). Instants finer than an ENC cycle
are picoseconds. -/
namespace Sys2Proof.Machine

/-- A prediction of a strobe instant (R87): when it was ready and the instant, both in ps. -/
structure Pred where
  ready : Nat
  at_   : Nat
deriving DecidableEq, Repr

/-- One armed sub-strobe position of a slot (R82, R84). -/
structure ArmedSub where
  sub     : Nat
  s       : Int                 -- strobe position, pu
  preds   : List Pred := []     -- newest first
  reached : Option Nat := none  -- the ENC cycle in which PT first reached S
deriving DecidableEq, Repr

/-- An armed slot (R82). -/
structure Armed where
  ch    : Nat
  h     : Nat
  s     : Int
  s0    : Int := 0              -- the position of its first sub-strobe (R96)
  subs  : List ArmedSub
  late  : Bool := false
  fireOn : Bool := true         -- the group's FIRE_ENABLE bit at arming (R93 gate 5)
  shift : Nat := 0              -- ps by which a deferral moved the slot
  fired : Bool := false         -- the first sub-strobe has been decided as fired
deriving DecidableEq, Repr

/-- What a page bound to the grid needs while it prints (R79, R83, R89, R132). -/
structure Bound_ where
  page  : Nat
  g0    : Nat
  lines : Nat
  rev   : Bool := false
deriving DecidableEq, Repr

/-- A grid segment: an origin and a pitch. -/
structure GridSeg where
  go  : Int
  po  : Int
  num : Nat
  den : Nat
deriving DecidableEq, Repr

/-- The Mantel. -/
structure Mantel where
  line     : Nat := 0          -- line events since the last Mantel reset; GLC is this modulo 2^48
  go       : Int := 0          -- the grid origin
  po       : Int := 0
  num      : Nat := 1040384    -- N and D in force on the grid
  den      : Nat := 46875
  old      : List GridSeg := []   -- the grids of the lines below go, newest first, while such lines still come (R80)
  rev      : Bool := false     -- the pass runs in reverse (R89)
  hBase    : Nat := 0          -- slot hBase lies on grid line kBase
  kBase    : Int := 0
  anyBound : Bool := false     -- a page has bound since the last Mantel reset
  lastEnd  : Nat := 0          -- the last bound page's last line
  bound    : List Bound_ := [] -- pages bound and not yet retired, oldest first
  armed    : List Armed := []
  overspeed : Bool := false
  clockFault : Bool := false
  resync   : Option (Nat × Nat) := none     -- the dissenting copy and the line of the disagreement
  firstDis : List (Nat × Nat) := []         -- per copy, the line of its first disagreement
  spreadAt : Option Nat := none             -- when MANTEL_EDGE_SPREAD was last raised
  shiftMax : Nat := 0          -- the largest row shift of an enabled channel
deriving DecidableEq, Repr

/-- One entry of a line FIFO (R114): the slot and the head codes of each nozzle. -/
structure FifoEntry where
  slot  : Nat
  codes : List Nat
  crc   : Nat := 0
deriving DecidableEq, Repr

/-- A loss episode (R96). -/
structure LossEp where
  cause : Nat
  count : Nat
  last  : Nat
deriving DecidableEq, Repr

/-- A head memory write in progress (R120). -/
structure HeadWrite where
  data : List Nat
  resp : Option Answer := none   -- the response that waits for the read-back
deriving DecidableEq, Repr

/-- One head channel. -/
structure Chan where
  fifo     : List FifoEntry := []
  next     : Nat := 0                      -- the next slot to shift
  rend     : Nat := 0                      -- the next slot that its Room renders for it
  shifted  : Option (Nat × Bool) := none   -- the slot in the shift register, shifted completely
  shiftCodes : List Nat := []
  latched  : Option Nat := none            -- the slot whose line the head holds
  firing   : Option (Nat × Nat) := none    -- FIRE pulse in progress: rise and fall, ps
  firingSlot : Nat := 0
  firingPos  : Int := 0                    -- S of that slot as fixed at arming
  tPrev    : List (Nat × Nat) := []        -- per sub-strobe, the instant of its last fired strobe, ps
  openIntlk : Nat := 0                     -- slots below stay gated after an interlock's release (R94)
  openTherm : Nat := 0                     -- slots below stay gated after a thermal release (R94)
  lostEarly : Option Nat := none           -- a slot lost at its LAT before its arming (R91)
  latDots  : Bool := false                 -- the latched line holds at least one dot
  loss     : Option LossEp := none
  acks     : Nat := 0                      -- consecutive address ACKs and NACKs
  nacks    : Nat := 0
  polls    : Nat := 0                      -- completed polls that read a temperature
  identAt  : Nat := 0
  write    : Option HeadWrite := none
  thermPend : List (Nat × Nat) := []       -- thermal states decided at polls, waiting for their line event, and when
  clearRun : Nat := 0                      -- consecutive polls below the clearing level
  rotAt    : Nat := 0                      -- line of the last rotation
  rotOn    : Bool := false                 -- LIMIT was entered with the policy ROTATE
  rotA     : Bool := true                  -- which half of the nozzles rests
  alertGated : Bool := false               -- gated by an alert without being identified (R190)
  alerting : Bool := false                 -- identified in the alert in progress
  gateWritten : Bool := false
  memCut   : Bool := false                 -- a memory write was cut short: IDENT at the next enable
deriving DecidableEq, Repr

/-- A LAT pulse (R109), ps. -/
structure LatPulse where
  rise : Nat
  fall : Nat
deriving DecidableEq, Repr

/-- One head group. -/
structure Group where
  prof     : List Nat := []                -- the head profile in force, empty before the first enable
  profNo   : Nat := 0
  round    : Nat := 0
  slots    : List (Nat × Nat) := []        -- the round being shifted: channel and slot
  shiftAt  : Option Nat := none            -- shift in progress since, ps
  shiftEnd : Nat := 0
  ready    : Bool := false                 -- the shift of the next round is complete
  latRise  : Option LatPulse := none       -- LAT pulse in progress
  lastLat  : Nat := 0                      -- trailing edge of the last LAT, ps
  fireFall : Nat := 0                      -- latest FIRE trailing edge of the round, ps
  latSlots : List (Nat × Nat) := []        -- the round latched
  latLate  : Bool := false                 -- the second term of R109 placed the LAT
  pollAt   : Nat := 0                      -- when the next poll cycle is due
  alert    : Option Nat := none            -- the ENC cycle in which ALERT_N was asserted
  alertWin : Bool := false                 -- the alert window is open
  alertFound : Nat := 0                    -- heads identified in the alert, bit map of positions
  alertMask : Nat := 0                     -- positions gated in its step 1 (R190)
  rankSet  : List (Nat × Nat) := []        -- the set of heads last judged for rank mix
  spreadHi : Bool := false
deriving DecidableEq, Repr

/-- The head ports. -/
structure Heads where
  chans  : Tab Chan := []
  groups : Tab Group := []
  sbErrs : List (Nat × Nat) := []   -- per group, when HEAD_SB_ERROR was last raised (R117)
deriving DecidableEq, Repr

end Sys2Proof.Machine
end

