-- ==== Sys2Proof/Machine/StatePages.lean ====
section
/-! DEFINITION. State of the page store, its streams, the page queue, the compressor and the QSC codec (R128 … R152). -/
namespace Sys2Proof.Machine

/-- A plane entry of a descriptor (R130). -/
structure PlaneEnt where
  plane : Nat
  first : Nat
  n     : Nat
deriving DecidableEq, Repr

/-- A stripe entry of a descriptor (R130). -/
structure StripeEnt where
  firstCol : Nat
  width    : Nat
  comp     : Bool        -- KIND 1, a compressor chain
  histFrom : Bool
  stream   : Nat
  slot     : Nat
  offset   : Nat         -- stream offset of the chain, or its tag
  length   : Nat
deriving DecidableEq, Repr

/-- The states of a page (after R132). -/
inductive PageState where
  | queued | ready | bound | printing | retired | discarded
deriving DecidableEq, Repr

/-- The code of a page state in PAGE_STATE (R136), in the order of the table. -/
def PageState.code : PageState → Nat
  | .queued => 0 | .ready => 1 | .bound => 2 | .printing => 3 | .retired => 4 | .discarded => 5

/-- A page in the queue or printing. -/
structure Page where
  num     : Nat
  lines   : Nat
  kind    : Nat            -- START_KIND
  startPt : Int
  flags   : Nat
  slot    : Nat
  job     : Nat
  planes  : List PlaneEnt
  stripes : List StripeEnt
  session : Nat
  ip      : Nat
  port    : Nat
  state   : PageState := .queued
  g0      : Nat := 0
  late    : Option Int := none    -- a START_KIND 2 page converted to a start at this PT (R133)
  converted : Bool := false
  cueT    : Option Int := none    -- the cue latch taken by a cue-mark start
  resumed : Bool := false         -- a START_KIND 2 page that binds at a resumption (R134)
  id      : Nat := 0              -- its place in the order of acceptance: two pages of equal descriptors are two pages
deriving DecidableEq, Repr

/-- A page saved in a resident slot (R132). -/
structure Resident where
  page    : Nat
  lines   : Nat
  planes  : List PlaneEnt
  stripes : List StripeEnt
deriving DecidableEq, Repr

/-- The QSC history (R145). -/
structure Hist where
  ri   : Nat := 0
  acc  : List Nat := []
  n    : List Nat := []
  prev : List Nat := []
deriving DecidableEq, Repr

/-- A compressor chain (R140, R141). -/
structure Chain where
  tag    : Nat
  start  : Nat
  length : Nat
  blocks : Nat
  width  : Nat
  pixels : Nat
  bad    : Bool
  done   : Bool
deriving DecidableEq, Repr

/-- One stream (R128, R129, R137, R138). -/
structure Stream where
  base     : Nat := 0
  size     : Nat := 0
  persist  : Bool := false
  conflict : Bool := false                   -- closed by the check of R128
  holder   : Option (Nat × Nat × Nat) := none  -- session, address, port
  comp     : Bool := false
  received : Nat := 0
  checked  : Nat := 0
  released : Nat := 0
  limit    : Nat := 0
  held     : List (Nat × Nat) := []          -- ranges received above a gap: offset, end
  credited : Nat := 0                        -- CHECKED at the last CREDIT
  dataAt   : Nat := 0
  hist     : Option Hist := none             -- the ingest decoder's history, when it holds one
  rawNext  : Nat := 0
  rawBuf   : List Nat := []                  -- pixels of the open chain not yet coded
  rawHist  : Hist := {}
  chains   : List Chain := []                -- newest first; the head may be open
deriving DecidableEq, Repr

/-- The page store. -/
structure Pages where
  streams   : Tab Stream := []
  queue     : List Page := []                -- pages accepted and not yet retired, queue order
  nextId    : Nat := 0                       -- pages accepted since reset
  residents : Tab (Option Resident) := []
  retiredEnds : List (Nat × Nat) := []       -- per stream, the largest chain end of a retired page
  resumed   : Bool := false                  -- the next binding is at a resumption (R134)
  stopReq   : Bool := false
  printed   : Option Nat := none             -- number of the last page printed
  descAcks  : List (Nat × Nat × List Nat) := []   -- session, TAG, stored DESC_ACK
  descLast  : List (Nat × Nat) := []         -- per session, the last new TAG
  capture   : Option (Nat × Nat × Nat × Nat × Nat) := none  -- page, plane, stripe, line, slot
deriving DecidableEq, Repr

end Sys2Proof.Machine
end

