-- ==== Sys2Proof/Machine/StateRooms.lean ====
section
/-! DEFINITION. State of the Rooms (R153 … R179): nozzle maps with their changes under way, stripe contexts, checkpoints
and render progress; and of head protection and drop detection (R180 … R199). -/
namespace Sys2Proof.Machine

/-- A nozzle's word with the start of its gain ramp: the gain at `leff − 1` is `gw` (R169). The word's STATE carries
the rest overlay. -/
structure NozVal where
  word : Nat := 0x00FF8100
  gw   : Nat := 32
  leff : Nat := 0
deriving DecidableEq, Repr

/-- A change under way (R168 … R170). -/
structure NozChange where
  old : NozVal
  new : NozVal
deriving DecidableEq, Repr

/-- The nozzle map of one channel (R165 … R170). -/
structure NozMap where
  len     : Option Nat := none                -- NOZZLES of the profile the map was last sized for
  written : Tab Nat := []                     -- newest written words, the state underneath a rest
  rested  : List Nat := []                    -- nozzles under rest
  base    : Tab NozVal := []                  -- values whose change has retired
  chg     : Tab (Option NozChange) := []
  wait    : Tab (Option Nat) := []            -- a waiting change's effective word
  void    : List Nat := []                    -- columns reported void under R164
  origin  : Tab Nat := []                     -- origin bytes of the NOZZLE record (R237)
  cls     : Tab Nat := []                     -- class of the last drop test taken into account (R226)
  lastChg : Tab Nat := []                     -- ENC cycle of the last change of a word, by any writer (R228)
deriving DecidableEq, Repr

/-- The block a decoder is in (R142, R143, R148). -/
structure DecBlock where
  kind  : Nat            -- TYPE of the block whose pixels these are: 0 CODED, 1 RAW, 2 FILL
  off   : Nat            -- its place in the stripe's chain, as a stream offset
  lines : Nat
  done  : Nat            -- lines already released
  fill  : Nat            -- value of a FILL, or of the replacing fill
  bad   : Nat            -- outcome under R146, 0 none
  bits  : List Bool      -- coded bits not yet consumed
  used  : Nat            -- coded bits consumed
  pix   : List Nat       -- RAW pixels not yet released
  crcOk : Bool
  next  : Nat            -- stream offset of the block after it
  h0    : Hist           -- the history the block started from
deriving DecidableEq, Repr

/-- A stripe decoder's position in its chain. -/
structure DecState where
  pos    : Nat := 0                    -- stream offset of the next block
  blk    : Option DecBlock := none
  hist   : Hist := {}
  ended  : Bool := false               -- END reached
  filled : Bool := false               -- the rest of the stripe is BAD_FILL_VALUE
  line   : Nat := 0                    -- page line to decode next
deriving DecidableEq, Repr

/-- A checkpoint (R175, R176): its slot, the record while it is being written, the half of the context's two Pantry slots that
holds it and its bytes there, and the state that it records. -/
structure Ckpt where
  slot : Nat
  data : List Nat
  half : Nat := 0
  len  : Nat := 0
  dec  : DecState
deriving DecidableEq, Repr

/-- A decoded line: its page line, its pixels and the decoder's state after it. -/
structure DecLine where
  line : Nat
  pix  : List Nat
  dec  : DecState
deriving DecidableEq, Repr

/-- A stripe context (R172, R173). -/
structure Ctx where
  id     : Nat
  page   : Nat
  plane  : Nat
  stripe : Nat
  shift  : Int
  g0     : Nat
  owner  : Nat                         -- Room, or 24 for the Spare (R176)
  last   : Nat                         -- its last slot
  lines  : Nat                         -- lines of the page
  ent    : StripeEnt
  start  : DecState                    -- the state before page line 0
  dec    : DecState
  buf    : List DecLine := []          -- the lines last decoded, newest first, and those that a checkpoint needs
  pend   : List Ckpt := []             -- checkpoints being written, oldest first
  ck     : List Ckpt := []             -- newest complete first, at most two
deriving DecidableEq, Repr

/-- One rendering unit: Rooms 0 … 23 and the Spare, 24. -/
structure Room where
  next     : Nat := 0                  -- the next slot it has not begun
  started  : Bool := false
  ckDue    : List Nat := []            -- checkpoint slots begun and not complete, oldest first
  ckDone   : Option Nat := none        -- the slot of its last complete checkpoint
  sigs     : List (Nat × Nat × Nat) := []   -- slot, channel, line signature, newest first
  begun    : Option Nat := none        -- ENC cycle from which the slot in progress had its contexts (R248)
deriving DecidableEq, Repr

/-- The Rooms. -/
structure Rooms where
  rooms : Tab Room := []
  maps  : Tab NozMap := []
  ctxs  : List Ctx := []
  peak  : Nat := 0
  freed : List (Nat × Nat × Nat × Int) := []   -- contexts freed of pages still queued: page, g0, stripe, shift (R172)
  waited : List (Nat × Nat) := []              -- pages reported as waiting for a context: page, g0 (R173)
deriving DecidableEq, Repr

/-- The state of an interlock input (R184). -/
inductive IntlkSt where
  | clear | asserted | awaitingAck
deriving DecidableEq, Repr

/-- One interlock input (R183 … R186). -/
structure Intlk where
  st     : IntlkSt := .clear
  at_    : Nat := 0          -- ENC cycle of the assertion
  held   : Nat := 0          -- groups it gated and not yet released
  report : Bool := false     -- INTLK_RELEASED still to be raised
  ringDue : Bool := false    -- the release still to be sent around the ring
deriving DecidableEq, Repr

/-- A gate received over the ring (R186). -/
structure RingGate where
  pos   : Nat
  input : Nat
  role  : Nat
  held  : Nat
  report : Bool                -- it gated a group: INTLK_RELEASED still to be raised
  port  : Nat                  -- the Hallway port on which the assertion came first
  relAt : Option Nat := none   -- GLC of the owner's release
deriving DecidableEq, Repr

/-- The test result of one nozzle (R193 … R195). -/
structure DtRes where
  ch   : Nat
  noz  : Nat
  hits : List (Nat × Nat)      -- t_0 and t_1, ps
  sats : Nat
deriving DecidableEq, Repr

/-- One gate unit of a running drop test (R191 … R193). Instants are ps. -/
structure DtUnit where
  unit    : Nat
  chans   : List Nat := []              -- channels still to test, in order; the head is under test
  noz     : Nat := 0                    -- the nozzle under test
  drop    : Nat := 0                    -- drops of the head completed
  fired   : Option Nat := none          -- the drop in flight
  nextAt  : Nat := 0                    -- when the next drop is due
  waiting : Option Nat := none          -- gate cause that withholds the drop
  p0      : Option Nat := none          -- accepted pulse on the first and second beam, ps after firing
  p1      : Option Nat := none
  sats    : Nat := 0
  hits    : List (Nat × Nat) := []
  void    : Bool := false               -- the drop in flight was cut and does not count
  done    : Bool := false
deriving DecidableEq, Repr

/-- The parameters a drop test took at its start. -/
structure DtConf where
  mode : Nat := 2
  first : Nat := 0
  last : Nat := 0
  drops : Nat := 4
  minHits : Nat := 3
  periodUs : Nat := 200
  winStart : Nat := 0
  winEnd : Nat := 0
  minWidth : Nat := 0
  code : Nat := 7
  ejectNs : Nat := 0
  h0 : Nat := 0
  h1 : Nat := 0
  gap : Nat := 0
  devPm : Nat := 0
  ejectTol : Nat := 0
  apply : Bool := true
  timeoutMs : Nat := 0
  invert : Nat := 0
  groups : Nat := 0
  chans  : List (Nat × Nat) := []   -- the channels tested, with their gate unit
  at_    : Nat := 0                 -- ENC cycle of the start
deriving DecidableEq, Repr

/-- Head protection and drop detection. -/
structure Prot where
  intlk    : Tab Intlk := []
  ring     : List RingGate := []
  conf     : DtConf := {}
  units    : List DtUnit := []
  results  : List DtRes := []
  pausedAt : Option Nat := none
  tested   : List Nat := []          -- the channels of the last test that ended
  relSeen  : List (Nat × Nat × Nat) := []  -- releases taken from the ring: position, input, GLC
  abort    : Bool := false           -- aborting: drops in flight complete their windows
  tripAt   : Tab Nat := []           -- per channel, when it entered TRIP
  tripRel  : List Nat := []          -- channels to be released at the next line event (R190 step 6)
  alertRel : List Nat := []          -- channels to be released at the next line event (R190 step 4)
  gate2Rel : List Nat := []          -- channels whose LIMIT_POLICY 2 gate ends at the next line event
  gate2    : List Nat := []          -- channels gated by LIMIT_POLICY 2
deriving DecidableEq, Repr

end Sys2Proof.Machine
end

