-- ==== Sys2Proof/Machine/StateLog.lean ====
section
/-! DEFINITION. State of the fault log (R257 … R262). -/
namespace Sys2Proof.Machine

/-- The event log, the unacknowledged faults and the Cellar mirror (R259 … R261). -/
structure Log where
  recs        : List EventRec := []     -- oldest first, at most 1,024
  nextSeq     : Nat := 0
  overwritten : Nat := 0
  unacked     : List Nat := []          -- sequences of unacknowledged FAULT and STOP records, oldest first
  mirror      : List EventRec := []     -- the last 64 FAULT and STOP records, oldest first
  raised      : List EventRec := []     -- raised in the present CTRL cycle and not yet in the log
deriving DecidableEq, Repr

end Sys2Proof.Machine
end

