-- ==== Sys2Proof/Machine/StateWindow.lean ====
section
/-! DEFINITION. State of the Window (R200 … R221): camera ports and their trigger outputs, contexts, frames and
parameter sets. -/
namespace Sys2Proof.Machine

/-- A trigger stamp (R205): an ENC cycle's PT, TB3 in 2^-32 ns, and GLC. -/
structure TrigStamp where
  pt  : Int := 0
  t   : Nat := 0
  glc : Nat := 0
deriving DecidableEq, Repr

/-- The stamps of one frame's pulses: the frame start's first (R205, R206). -/
structure TrigTrain where
  id     : Nat
  mode   : Nat                       -- TRIG_MODE in force when it began
  stamps : List TrigStamp
deriving DecidableEq, Repr

/-- One CAM_TRIG output (R205). -/
structure Trig where
  armed   : Bool := false
  mode    : Nat := 0
  startPt : Int := 0
  period  : Int := 0                 -- pu in mode 1, line events in mode 2
  div     : Nat := 1
  count   : Nat := 1                 -- TRIG_LINES
  width   : Nat := 0                 -- ENC cycles
  target  : Int := 0                 -- mode 1: PT of the next frame start
  first   : Option Nat := none       -- mode 2: the line event of the present frame's start
  pulses  : Nat := 0                 -- pulses of the present frame
  lastAt  : Option Nat := none       -- the line event of the last pulse
  until_  : Option Nat := none       -- the pulse's end at the ball
  nextId  : Nat := 1
  trains  : List TrigTrain := []     -- newest first
deriving DecidableEq, Repr

/-- A parameter set (R215). -/
structure PSet where
  id    : Nat := 0
  black : List Nat := [0, 0, 0, 0]
  wb    : List Nat := [4096, 4096, 4096]
  ccm   : List Int := [4096, 0, 0, 0, 4096, 0, 0, 0, 4096]
  cci   : List (Nat × Nat × Nat) := []     -- register, length, value
deriving DecidableEq, Repr

/-- A pending parameter set (R216). -/
structure PSetPend where
  set    : PSet
  sendAt : Nat            -- the frame at whose start its sensor writes go out
  act    : Nat            -- the frame from which it is in force
  sent   : Bool := false
deriving DecidableEq, Repr

/-- One received line (R206): its place in the frame's buffer, where its pixels lie (R204), and its stamp. -/
structure FrameLine where
  row : Nat
  pt  : Int
  t   : Nat
deriving DecidableEq, Repr

/-- What a frame keeps of its context from its start on. -/
structure FrameConf where
  width  : Nat := 0
  limit  : Nat := 0                  -- CTX_FRAME_LINES
  mosaic : Nat := 0
  recon  : Nat := 0
  dt     : Nat := 0
  kind   : Nat := 0
  snr    : Nat := 0
  tnrK   : Nat := 0
  tnrT   : Nat := 0
  ff     : Option (List Nat) := none
  tone   : Option (List Nat) := none
  map    : Option (List Nat) := none
  meas   : Option (List Nat) := none
  pset   : PSet := {}
deriving DecidableEq, Repr

/-- A frame open, waiting or being processed. -/
structure Frame where
  ctx    : Nat
  num    : Nat
  conf   : FrameConf
  stored : Bool                      -- false for a dropped frame
  start  : TrigStamp
  train  : Option Nat                -- the matched train
  lines  : List FrameLine := []      -- newest first
  count  : Nat := 0                  -- good lines received, those beyond the limit among them
  packets : Nat := 0                 -- line packets received
  bad    : Nat := 0
  flags  : Nat := 0
  lastAt : Nat := 0                  -- ENC cycle of the last packet
  ptLast : Int := 0
  done   : Nat := 0                  -- lines processed
  closed : Bool := false
  buf    : Nat := 0                  -- its buffer in the context's ring (R204)
  ring   : List (Nat × Nat) := []    -- the spans of its context's ring as the frame found it
  doneAt : Nat := 0                  -- ENC cycle of its completion
deriving DecidableEq, Repr

/-- One context. -/
structure WinCtx where
  conf    : FrameConf := {}
  port    : Nat := 0
  vc      : Nat := 0
  delay   : Nat := 2
  addr    : Nat := 0x36
  regLen  : Nat := 2
  buffers : Nat := 4
  lastTrain : Nat := 0               -- the last train matched or discarded
  open_   : Option Frame := none
  inForce : PSet := {}
  pend    : List PSetPend := []
  unconf  : List Nat := []           -- frames whose records carry SENSOR_UNCONFIRMED
  cciEnd  : Nat := 0                 -- when its last sensor write ends
  dropping : Bool := false
  ring    : List (Nat × Nat) := []   -- the ring of its buffers: spans of the Window pool, offset and bytes (R204, R334)
  nextBuf : Nat := 0                 -- the ring's next buffer
  shortAt : Option Nat := none
  longAt  : Option Nat := none
  flicker : Bool := false            -- the last flicker frame carried FLICKER
  record  : List Nat := []
deriving DecidableEq, Repr

/-- One camera port. -/
structure WinPort where
  cciEnd  : Nat := 0                 -- ENC cycle in which the CCI master falls idle
  khz     : Nat := 400
  errSeen : Nat := 0                 -- PKT_ERRORS when WIN_PORT_ERRORS was last raised
  errAt   : Option Nat := none
deriving DecidableEq, Repr

/-- The work the pipeline has in progress (R218). -/
structure PipeJob where
  ctx   : Nat
  num   : Nat
  lines : Nat
  endAt : Nat
deriving DecidableEq, Repr

/-- The Window. -/
structure Window where
  ports   : Tab WinPort := []
  trigs   : Tab Trig := []
  ctxs    : Tab WinCtx := []
  waiting : List Frame := []         -- complete frames, in order of completion
  drops   : List Frame := []         -- dropped frames closed, whose records the manager has yet to receive
  job     : Option PipeJob := none
  lastCtx : Option Nat := none       -- the context the pipeline last worked on
  busy    : List (Nat × Nat) := []   -- spans of work of the last 1 s, ENC cycles, newest first
deriving DecidableEq, Repr

end Sys2Proof.Machine
end

