-- ==== Sys2Proof/Machine/StateCal.lean ====
section
/-! DEFINITION. State of the calibration manager (R222 … R235) and of the Cellar (R236 … R242). -/
namespace Sys2Proof.Machine

/-- What a density run has collected for one channel (R228). -/
structure DensCh where
  count : Nat := 0
  cols  : Tab (Nat × Nat) := []      -- head column: ΣSUM and ΣWEIGHT
deriving DecidableEq, Repr

/-- The calibration manager. -/
structure Cal where
  densAt     : Nat := 0                      -- ENC cycle in which the density collection began
  dens       : Tab DensCh := []
  densLeff   : List (Nat × Nat) := []        -- channel and L_eff of its last density change
  regAt      : Nat := 0                      -- ENC cycle in which the registration collection began
  regMeas    : List (Nat × Int) := []        -- mark and e, newest first
  regRefs    : List (Nat × Int) := []        -- mark and the reference PT it waits for
  latches    : List (Nat × Int) := []        -- ROLE 2 latches of the collection: input and PT, newest first
  settle     : List (Nat × Nat) := []        -- trim entry and the line from which its last change acts
  hostWrites : List (Nat × Nat) := []        -- entry and the ENC cycle of its last host write
  delayUser  : List Nat := []                -- user DELAY_SEL of copies M0 … M2, none recorded when empty
  laneEx     : List Nat := [255, 255, 255, 255]  -- LANE_EXCLUDED as recorded
  retired    : Nat := 0                      -- ROOM_RETIRED as recorded
  nozFrom    : List (Nat × Nat) := []        -- channels whose words come from a record not yet matched to a head, and since when
  regX       : List (Nat × Nat) := []        -- cross-web position X of each mark's last camera measurement (R232)
  donePt     : List (Nat × Int) := []        -- class and PT of its last completion (R14)
deriving DecidableEq, Repr

/-- A Cellar slot being written (R240). -/
structure CellarJob where
  key   : Nat                  -- type × 256 + unit
  slot  : Nat
  gen   : Nat
  data  : List Nat
  tries : Nat := 0
deriving DecidableEq, Repr

/-- The Cellar. -/
structure Cellar where
  dirty   : List Nat := []                       -- keys of dirty records
  urgent  : List Nat := []                       -- keys to be written at once
  inUse   : List (Nat × Nat × Nat) := []         -- key, slot and generation of the copy in use
  wroteAt : List (Nat × Nat) := []               -- key and the ENC cycle of its last write
  job     : Option CellarJob := none
  save    : Option (Nat × List Nat) := none      -- a profile save in progress: slot and payload
deriving DecidableEq, Repr

end Sys2Proof.Machine
end

