-- ==== Sys2Proof/Machine/StateRedund.lean ====
section
/-! DEFINITION. State of the redundancy control (R245 … R256) and of the self-tests and loopbacks (R451 … R455). -/
namespace Sys2Proof.Machine

/-- A shadow mismatch being decided (R247). -/
structure ShadowPend where
  room : Nat
  ch   : Nat
  slot : Nat
  line : Nat                     -- the line in whose slot period the last step was made
  sr   : Nat                     -- σR and σS
  ss   : Nat
  again : Option (Nat × Nat) := none   -- σR′ and σS′ when they differ
deriving DecidableEq, Repr

/-- A takeover whose record is not complete (R249, R250). -/
structure Takeover where
  room   : Nat
  cause  : Nat
  hd     : Nat
  purge  : Bool
  ckpt   : Nat
  levels : List Nat              -- FIFO level of each channel of the group at identification
  at_    : Nat
  tb3    : Nat
  lost   : List (Nat × Nat) := []            -- slots lost per channel
  first  : Option (Nat × Int) := none        -- first and last lost slot with the PT of its line event
  last   : Option (Nat × Int) := none
  caught : Option Nat := none                -- catch-up, ENC cycles
deriving DecidableEq, Repr

/-- A proof test in progress (R255, R256). -/
structure Proof_ where
  unit   : Nat
  checks : Nat                   -- PROOF_CHECKS or PROOF_LANE_BITS at the start
  limit  : Nat                   -- PROOF_LANE_MAX_ERRORS at the start
  was    : Nat := 0              -- HALL_SPARE_STATE of the lane before the test
  lines  : List (Nat × Nat × Nat) := []  -- the channel-lines compared, newest first: channel, slot, the signature it must have
  miss   : Option Nat := none    -- how many had been compared before the first that did not match
  loaded : Option (List (Nat × Nat)) := none  -- contexts loaded from checkpoints, with their slots (a Room that the Spare serves)
deriving DecidableEq, Repr

/-- Redundancy control. -/
structure Redund where
  ptr      : Nat := 0                        -- the next Room of the shadow schedule
  turns    : List (Nat × Nat) := []          -- per Room, checks made: its channels are taken in turn
  period   : Option (Nat × Nat) := none      -- the line of the slot period and the Rooms checked in it
  pend     : List ShadowPend := []           -- oldest first
  lastOk   : List (Nat × Nat) := []          -- per Room, the slot of its last matching check
  take     : Option Takeover := none         -- the last takeover
  proof    : Option Proof_ := none
  handback : Option Nat := none              -- the Room that takes its group back at the next h_b
  selftest : Option (Nat × Nat) := none      -- the unit under self-test and the ENC cycle of its start
  loop     : Option (Nat × Nat) := none      -- the target under loopback and the ENC cycle of its start
deriving DecidableEq, Repr

end Sys2Proof.Machine
end

