-- ==== Sys2Proof/Machine/StateBoiler.lean ====
section
/-! DEFINITION. State of the Boiler (R265 … R281). -/
namespace Sys2Proof.Machine

/-- One loop slot. Numbers of FORMAT 0 are the fixed-point integers of R270, numbers of FORMAT 1 binary32 patterns. -/
structure Slot where
  fmt      : Nat := 0                      -- FORMAT and SCALE_SHIFT as taken at enable
  k        : Nat := 0
  out      : Nat := 255                    -- the output it is bound to
  period   : Nat := 0                      -- sample period, CTRL cycles
  sampleAt : Nat := 0                      -- its next sample instant
  fresh    : Bool := false                 -- the next sample runs the enable of R272
  rsp      : Int := 0
  y        : Int := 0
  uc       : Int := 0
  s1       : Int := 0
  s2       : Int := 0
  s3       : Int := 0
  duty     : Nat := 0
  safeDuty : Nat := 0                      -- SAFE_DUTY as it stood when SAFE was entered
  safeHigh : Bool := false                 -- and SAFE_LEVEL
  yhat     : Nat := 0
  alpha    : Nat := 0
  dead     : Nat := 0
  delay    : List Nat := []                -- uc of the last samples, newest first, 255 at most
  remodel  : Bool := false                 -- the model restarts at the next sample (R275)
  overRun     : Nat := 0
  failRun  : Nat := 0
  satRun   : Nat := 0
  satTold  : Bool := false
  safeAt   : Nat := 0
  restore  : Bool := false                 -- LOOP_CMD 02h waits for the next sample instant
  forced   : Bool := false                 -- LOOP_CMD 01h came behind a waiting restore
  stopping : Bool := false                 -- LOOP_ENABLE 0 waits for the next sample instant
  again    : Bool := false                 -- LOOP_ENABLE 1 came during the shutdown
  parked   : Bool := false                 -- the output has taken SAFE_DUTY since STOPPING
  polls    : Nat := 0                      -- polls of the channel at the last kind-3 sample
  overAt   : Option Nat := none            -- when LOOP_OVERRUN was last raised
deriving DecidableEq, Repr

/-- The Boiler. -/
structure Boiler where
  slots  : Tab Slot := []
  pwmAt  : List (Nat × Nat) := []          -- bank: its next period's start
  pwmP   : List (Nat × Nat) := []          -- bank: the period in CTRL cycles
  invert : List Nat := []                  -- outputs asserted low
  ainAt  : List (Nat × Nat) := []          -- analog input: its next monitor conversion
  busErr : List (Nat × Nat) := []          -- bus: when LOOP_SENSOR_BUS_ERROR was last raised
  busTo  : List (Nat × Nat) := []          -- bus: the ps from which its next frame can start
  latch  : List Nat := []                  -- the clamp's own latch: the outputs it holds high (R274, R374)
deriving DecidableEq, Repr

end Sys2Proof.Machine
end

