-- ==== Sys2Proof/Machine/StateTime.lean ====
section
/-! DEFINITION. State of the time bases and the Porch (R282 … R305). -/
namespace Sys2Proof.Machine

/-- A frame queued on a Porch port (R288): its level, its sub-port, its bytes without FCS and without a tag of the device's,
and the message in it. `came` is the ENC cycle in which a forwarded PTP event message arrived (R287). -/
structure TxFrame where
  level : Nat
  sub   : Nat
  len   : Nat
  body  : Tx
  came  : Option Nat := none
deriving DecidableEq, Repr

/-- A master heard of in an Announce: the port it is heard on, what it announced and when. -/
structure Master where
  port : Nat
  ann  : Announce
  at_  : Nat
deriving DecidableEq, Repr

/-- A time base that tracks a PTP domain (R293, R295, R297). -/
structure TimeBase where
  cnt     : Nat := 0                    -- 2^-32 ns
  inc     : Nat := 10995116278          -- added every 2.56 ns
  a       : Nat := 0                    -- the servo's integral, binary32
  masters : List Master := []           -- the last Announce of each sender on each port
  gm      : Option Master := none       -- the grandmaster selected
  syncAt  : Nat := 0                    -- ENC cycle of the last valid Sync, and its interval in ms
  syncMs  : Nat := 125
  lockRun : Nat := 0
  offRun  : Nat := 0
  lockAt  : Nat := 0                    -- ENC cycle in which LOCKED was entered
  delay   : Int := 0                    -- mean path or peer delay, ps
  t1      : Int := 0                    -- the last Sync: master and local time, ps
  t2      : Int := 0
  t3      : Option Int := none          -- the delay request under way, ps
  reqAt   : Nat := 0                    -- when the next delay request is due, and its interval in ms
  reqMs   : Nat := 1000
deriving DecidableEq, Repr

/-- The time bases. Counters are in units of 2^-32 ns. -/
structure TimeBases where
  net    : Nat := 0                     -- 128 × 10^9ths of a NET cycle
  lane   : Int := 0                     -- how far the clock of NET lies from the crystal, ppb (R408)
  inc0   : Nat := 10995116278           -- TB0's increment, steered by LANE_TO_XTAL_PPM
  tb0    : Nat := 0
  b1     : TimeBase := {}
  b2     : TimeBase := {}
  tb3    : Nat := 0
  inc3   : Nat := 10995116278
  updAt  : Nat := 0                     -- when the next update of TB3 is due
  fs     : Nat := 0                     -- frequency of the last source, ppb, binary32
  nightAt : Option Nat := none          -- ENC cycle of the entry to NIGHT
deriving DecidableEq, Repr

/-- A frame queued for launch (R302). -/
structure Launch where
  ns    : Nat
  tag   : Nat
  sub   : Nat
  flags : Nat
  frame : List Nat
  late  : Bool := false
  noted : Bool := false                 -- it is late, counted and reported
deriving DecidableEq, Repr

/-- One Porch port. -/
structure PorchPort where
  trained : Bool := false               -- its own lane calibration and PCS lock are complete
  fallen  : Bool := false               -- HOLD fell under R291 and waits for its retry
  waitAt  : Nat := 0                    -- when HOLD rose, or when the link went down
  wasUp   : Bool := false               -- the link has been up since HOLD rose
  retryAt : Nat := 0
  stopAt  : Nat := 0
  sending : Bool := false               -- the port stops, and a frame in transmission still completes
  mode    : Nat := 0                    -- PORT_MODE as taken at the enable
  pauseRx : Bool := false
  pauseTx : Bool := false
  paused  : Bool := false               -- a PAUSE of 65,535 quanta stands at the partner
  pauseTo : Nat := 0                    -- the partner's PAUSE holds until this ENC cycle
  txq     : List TxFrame := []          -- frames of levels 2 … 4 of R288, in queue order
  launches : List Launch := []          -- by instant
  busyTo  : List (Nat × Nat) := []      -- sub-port: ENC cycle at which it can send again
deriving DecidableEq, Repr

/-- The Porch. -/
structure Porch where
  a   : PorchPort := {}
  b   : PorchPort := {}
  fdb : List (Nat × Nat × Nat) := []    -- MAC address, port and the ENC cycle it was last seen in
deriving DecidableEq, Repr

end Sys2Proof.Machine
end

