-- ==== Sys2Proof/Machine/StateHall.lean ====
section
/-! DEFINITION. State of the Hallway (R306 … R329). -/
namespace Sys2Proof.Machine

/-- A replayed message held by its sender until it is acknowledged (R315). -/
structure HallMsg where
  cls  : Nat
  seq  : Nat
  data : List Nat
  sentAt : Nat
deriving DecidableEq, Repr

/-- A message on its way out of a port (R313, R315): its bytes, and how many of its beats have left. -/
structure HallTx where
  cls  : Nat
  seq  : Nat
  data : List Nat
  sent : Nat := 0
deriving DecidableEq, Repr

/-- One Hallway port: 0 UP, 1 DN. -/
structure HallPort where
  step    : Nat := 0                 -- training step of R309 in progress, 0 none
  stepAt  : Nat := 0                 -- when step 2 was entered
  fallen  : Bool := false            -- HOLD fell under R326 and waits for its retry
  waitAt  : Nat := 0                 -- when HOLD rose, or H0 was lost
  wasUp   : Bool := false
  retryAt : Nat := 0
  stopAt  : Nat := 0
  badIn   : List Nat := []           -- receive lanes that failed since training
  badOut  : List Nat := []           -- transmit lanes that the neighbour reported
  halfIn  : Bool := false            -- each direction is reduced to two lanes (R323)
  halfOut : Bool := false
  ident   : Option (Nat × Nat × Nat) := none  -- the neighbour's role and excluded lanes, out and in, from its IDENT
  samples : List Int := []           -- the last latency probes, ps, at most 256, newest first
  moving  : Bool := false            -- a latency episode is under way
  probeAt : Nat := 0
  probeNo : Nat := 0
  txSeq   : List (Nat × Nat) := []   -- class: the last sequence sent
  rxSeq   : List (Nat × Nat) := []   -- class: the last sequence accepted
  unacked : List HallMsg := []       -- oldest first
  txq     : List HallTx := []        -- in queue order
  beatAt  : Nat := 0                 -- ps from which the next beat can leave
  check   : Nat := 0                 -- the check after an H2 exit (R312): 1 its 16 probes, 2 the full measurement
  shErrs  : List (Nat × Nat × Nat) := []  -- receive lane, ENC cycle and number of its sync-header errors of the last window (R322)
deriving DecidableEq, Repr

/-- One timeline path of a member (R308, R319). -/
structure Path where
  live    : Bool := false            -- a SYNC has come by it since its link entered H0
  aligned : Bool := false
  good    : Nat := 0                 -- consecutive SYNCs within 250 ps, and beyond 500 ps
  bad     : Nat := 0
  acc     : Int := 0                 -- ACC_PS with the incoming latency
deriving DecidableEq, Repr

/-- The line grid as GRID carries it (R314). -/
structure GridMsg where
  go   : Nat
  po   : Int
  num  : Nat
  den  : Nat
  mode : Nat
deriving DecidableEq, Repr

/-- A statistics record arriving in pieces (R316). -/
structure StatsIn where
  ctx   : Nat
  frame : Nat
  total : Nat
  data  : List Nat
deriving DecidableEq, Repr

/-- The Hallway. -/
structure Hall where
  up      : HallPort := {}
  dn      : HallPort := {}
  pUp     : Path := {}
  pDn     : Path := {}
  enumAt  : Option Nat := none       -- when the enumeration under way began
  cntDown : Nat := 0                 -- a member's hops from the master, downstream and upstream, as ENUM counted them
  cntUp   : Nat := 0
  told    : Bool := false            -- HALL_RING_ENUMERATED has been raised for it
  resync  : Bool := true             -- a member's PT and GLC are taken anew at the next EDGE
  coastAt : Nat := 0
  grid    : Option GridMsg := none   -- a member's grid; the master's last GRID sent
  gridAt  : Nat := 0
  syncAt  : Nat := 0
  edgeAt  : Nat := 0                 -- when the master last sent EDGE
  edgeDue : Bool := false            -- an edge waits for EDGE_MIN_NS to pass
  edgePt  : Int := 0                 -- the latest POS0 edge: its PT and its TB3
  edgeTb3 : Nat := 0
  cueTx   : Nat := 0
  cueRx   : Option Nat := none
  statusAt : Nat := 0
  commitNo : Nat := 0                -- number of the ring commit under way
  stats   : List StatsIn := []
  prbs    : Option (Nat × Nat × Nat) := none  -- the port under PRBS, the ENC cycle of its start, and the pattern
deriving DecidableEq, Repr

end Sys2Proof.Machine
end

