-- ==== Sys2Proof/Machine/StatePantry.lean ====
section
/-! DEFINITION. State of the Pantry (R330 … R350). -/
namespace Sys2Proof.Machine

/-- One bank of one rank (R341, R342): its activate counters, in entry order, its rolling activate count, and the row
that it holds open. -/
structure Bank where
  rows : List (Nat × Nat) := []
  raa  : Nat := 0
  row  : Option Nat := none
  span : Nat := 0                      -- the span of that row last accessed (R333)
deriving DecidableEq, Repr

/-- One channel. -/
structure PCh where
  txns    : List PantryReq := []       -- transactions that wait, oldest first; the first 16 are in flight (R335)
  wq      : List PantryReq := []       -- the write queue, oldest first (R337)
  drain   : Bool := false              -- write drain is active
  due     : List (Nat × Option Nat) := []  -- neighbour refreshes due, by bank and row, and RFM, by bank (R341, R342)
  ahead   : Nat × Nat := (0, 0)        -- a bank and the row hits in a row taken in it ahead of an older miss (R336)
  busyTo  : Nat := 0                   -- ENC cycle in which the last command ends
  owed    : Nat := 0                   -- refreshes that are due
  refAt   : Nat := 0                   -- when the next one falls due
  refBank : Nat := 0                   -- the bank whose turn it is, counted over the ranks (R340)
  imt     : Nat := 0                   -- the devices' RAAIMT, multiplier and decrement, read at training (R342)
  mult    : Nat := 0
  dec     : Nat := 0
  delays  : BitVec 64 := 0             -- the write delays in use, as one value (R346, R348)
  dqsNew  : Option Int := none         -- a reading that the next refresh makes the baseline (R348)
  rhAt    : Nat := 0                   -- when the refresh window ends
  mr4At   : Nat := 0
  dqsAt   : Nat := 0
  dqs     : Int := 0                   -- the DQS oscillator's baseline
  told    : Option Nat := none         -- when PANTRY_ECC_CORRECTED was last raised
  sec     : Nat := 0                   -- the second being measured, its bytes read and written, and the last second's
  rd      : Nat := 0
  wr      : Nat := 0
  rdLast  : Nat := 0
  wrLast  : Nat := 0
deriving DecidableEq, Repr

/-- The Pantry. -/
structure Pantry where
  chs     : Tab PCh := []
  banks   : Tab Bank := []             -- channel × 64 + rank × 32 + bank
  poison  : List Nat := []             -- sectors whose POISON was written 111111b, by address / 32 (R343)
  flips   : List (Nat × List Nat) := [] -- sectors with bits that the DRAM holds inverted (R344)
  panic   : Option (Nat × Nat) := none -- start and lowest fill in KiB
  panicTold : Option Nat := none
  wsAt    : Nat := 0                   -- ENC cycle from which a Workshop transaction may go (R361)
  panicCyc : Nat := 0                  -- ENC cycles spent in panic, of which PANIC_TIME_US counts whole µs
  scrub   : Nat := 0                   -- the next span of the patrol
  scrubAt : Nat := 0
  ecc     : Bool := false              -- ECC_ENABLE as trained
  ranks   : Nat := 2                   -- RANKS as trained
  rfm     : Bool := true               -- RFM_ENABLE as taken at reset
deriving DecidableEq, Repr

end Sys2Proof.Machine
end

