-- ==== Sys2Proof/Machine/StateEng.lean ====
section
/-! DEFINITION. State of the engines and the Workshop (R351 … R365), as far as it lies outside the engines' own code. -/
namespace Sys2Proof.Machine

/-- A request posted in a mailbox slot whose response has not come (R355): its slot and TAG. -/
structure MbReq where
  slot   : Nat
  tag    : Nat
  opcode : Nat
deriving DecidableEq, Repr

/-- One Workshop engine W0 … W3: its mailbox, rings and watchdog (R354 … R358, R362). -/
structure Shop where
  on      : Bool := false              -- started and out of reset
  busy    : List MbReq := []           -- MB_BUSY
  done    : List Nat := []             -- MB_DONE
  evMin   : Nat := 4
  evWr    : Nat := 0
  evRd    : Nat := 0
  ring    : List (Nat × EventRec) := []   -- by index EV_WR mod 256
  bulkWr  : Nat := 0
  bulkRd  : Nat := 0
  bulk    : List (Nat × List Nat) := []   -- by index BULK_WR mod 8
  irq     : Nat := 0
  tb3Hi   : Nat := 0                   -- the snapshot of TB3_NS_HI
  kickAt  : Nat := 0                   -- ENC cycle in which the watchdog last started
  xfer    : Option Xfer := none
  lastDone : Option Xfer := none
  resp    : List (Nat × List Nat) := []   -- the bytes of the response slots (R355)
  starts  : Nat := 0                   -- how often the engine has been stopped or started: answers to earlier requests are discarded
deriving DecidableEq, Repr

/-- The engines. -/
structure Eng where
  shops : Tab Shop := []
  tcm   : List Host.Cell := []         -- the tightly coupled memories: engine × 65,536 + address (R351, R353)
  sram  : List Host.Cell := []         -- the shared SRAM: 6 MiB of the house, then the Workshop's from 1000_0000h on
  backAt : List (Nat × Nat) := []      -- a restarted engine and the ENC cycle in which its services resume (R352)
  ovfAt : List (Nat × Nat) := []       -- Workshop engine: when ENG_MAILBOX_OVERFLOW was last raised
deriving DecidableEq, Repr

end Sys2Proof.Machine
end

