-- ==== Sys2Proof/Machine/StatePower.lean ====
section
/-! DEFINITION. State of the power manager, the Doorbell and the AON retention (R366 … R390), of reset and boot
(R391 … R407), and of the test access port (R445 … R450). -/
namespace Sys2Proof.Machine

/-- Where the device stands. `boot n` is step n of R396 in progress. `entry` is an entry of R382 or, with `night`, of
R383, towards power state `final`, with its step in progress; `leave` is the STANDBY exit of R385. -/
inductive Phase where
  | steady
  | entry (final : Nat) (night : Bool) (step : Nat)
  | leave (step : Nat)
  | night
  | off
  | held
  | boot (step : Nat)
  | rom
  | strapFault
deriving DecidableEq, Repr

/-- What the AON domain retains through a reset (R391). -/
structure Aon where
  cause    : Nat := 0                      -- the cause of the last device reset
  nightFrom : Option Nat := none           -- the state left by an entry to NIGHT not yet reported
  rail     : Option (Nat × Nat) := none    -- slot and cause of a rail fault not yet reported
  tjShut   : Option (Int × Nat) := none    -- a junction shutdown not yet reported: 0.1 °C and sensor
  brown    : Option Nat := none            -- the brown-out flag: the power state at the brown-out
  retries  : Nat := 0                      -- consecutive boots after a rail fault
  target   : Nat := 1                      -- WAKE_TARGET at the entry to NIGHT
  before   : Nat := 1                      -- PWR_STATE before the reset
  failed   : List Nat := []                -- house slots that timed out since a reset of another cause
deriving DecidableEq, Repr

/-- A request of the power manager over the ring (R387, R388). -/
structure RingPower where
  number : Nat
  target : Nat
  at_    : Nat
  ready  : List Nat := []                  -- positions that answered PREPARED
deriving DecidableEq, Repr

/-- The power manager. -/
structure Power where
  phase    : Phase := .boot 1
  aon      : Aon := {}
  sleepN   : Bool := true                  -- the filtered level of SLEEP_N
  resetLow : Bool := false                 -- RESET_N is asserted
  sleepReq : Bool := false                 -- a falling edge not yet sampled
  latches  : Nat := 0                      -- the Doorbell's latches (R380)
  wake     : Bool := false                 -- a wake came during the entry in progress
  c0       : Int := 0                      -- POS0's count when the present state was entered
  from_    : Nat := 1                      -- the state in which the entry in progress was requested
  exitTo   : Nat := 1                      -- the state that the exit in progress ends in
  ap       : Nat := 0                      -- the abort point passed last in the entry in progress
  ring     : Option RingPower := none      -- the master's request under way; a member's, once PREPARED
  ringNo   : Nat := 0
  retryAt  : Nat := 0                      -- when OFF ends under RAIL_RETRY
  retryLeft : Bool := false
  vbarLow  : Bool := false
  tjHigh   : Bool := false
  pmWord   : List (Nat × Nat) := []        -- slot: the STATUS_WORD last read
  byGo     : Bool := false                 -- the entry in progress follows the master's GO (R387)
  cmpClamp : List Nat := []                -- the MANTEL clamp's latch: CMP_OUT outputs held high (R373, R374)
  trigClamp : List Nat := []               -- the WINDOW clamp's latch: CAM_TRIG outputs held high
deriving DecidableEq, Repr

/-- What boot keeps of itself (R396 … R406). -/
structure Boot where
  coreAt   : Nat := 0                      -- ENC cycle in which step 6 completed
  fwAt     : Nat := 0                      -- ENC cycle in which step 8 completed
  romAt    : Nat := 0
  released : Bool := false                 -- the xSPI balls are at high impedance
  fallback : List (Nat × Nat) := []        -- slots and reasons to report
  straps   : List (Nat × Nat) := []        -- the three samples of PROFILE and CASC_ROLE
  strapBad : Bool := false
  misAt    : Nat := 0                      -- the lowest differing offset of the Foundation
  misCount : Nat := 0
  noXtal   : Bool := false                 -- step 5 found no crystal
  noLane   : Bool := false                 -- step 5 found no lane reference
  hold     : Bool := false                 -- the boot is held in NIGHT at step 3
  resetAt  : Option Nat := none            -- DEVICE_RESET_CMD: when the device resets
  fromOne  : Bool := false                 -- RESET_N was asserted in OFF or NIGHT
  wake     : Nat := 0                      -- the wake sources of a NIGHT exit
  prof     : List (Nat × Val) := []        -- the items of the profile that the straps selected
deriving DecidableEq, Repr

/-- The test access port. -/
structure TapPort where
  ir       : Nat := 1
  driven   : Bool := false                 -- the instruction holds the device as RESET_N does
  shift    : List Bool := []               -- the register between TDI and TDO as last captured, bit 0 first
  boundary : List Bool := []               -- the boundary register's update stage, one bit for each cell of R449
deriving DecidableEq, Repr

end Sys2Proof.Machine
end

