-- ==== Sys2Proof/Machine/State.lean ====
section
/-! DEFINITION. The state of the QN7192 as plain data: the queue of waiting commands, the byte memories, and the
device with one record per subsystem; the state after reset; why a command may stop. -/
namespace Sys2Proof.Machine

/-- Why the machine may stop with a fault. -/
inductive Fault where
  /-- Raised by nothing in this model: no rule of the spec stops the machine. Safe. -/
  | none
deriving DecidableEq, Repr

/-- Why a command may be refused. -/
inductive Refusal where
  /-- The dispatch raises it for a command that has no meaning yet. Safe: the model stops where the hardware goes on. -/
  | notModelled (mnemonic : String)
deriving DecidableEq, Repr

/-- The byte memories, each a canonical list of cells: the page store (addresses of the store), the two fuse copies of
the Foundation, the xSPI flash, and the memory of each head (channel × 65,536 + address). -/
structure Memories where
  store  : List Host.Cell := []
  fuseA  : List Host.Cell := []
  fuseB  : List Host.Cell := []
  flash  : List Host.Cell := []
  head   : List Host.Cell := []
deriving DecidableEq, Repr

/-- The device: everything but the queue and the byte memories. -/
structure Device where
  now    : Nat := 0                 -- ENC cycles since the model's start; 2.5 ns each
  free   : Nat := 0                 -- the model's own counter of free values used
  role   : Nat := 0                 -- CASC_ROLE in force (R17)
  shadow : List Nat := []           -- the Foundation shadow in AON (R400); all fuses read 0 while empty
  dict   : Dict := {}
  pos    : Pos := {}
  mantel : Mantel := {}
  heads  : Heads := {}
  pages  : Pages := {}
  rooms  : Rooms := {}
  prot   : Prot := {}
  win    : Window := {}
  cal    : Cal := {}
  cellar : Cellar := {}
  red    : Redund := {}
  boiler : Boiler := {}
  log    : Log := {}
  time   : TimeBases := {}
  porch  : Porch := {}
  hall   : Hall := {}
  pantry : Pantry := {}
  eng    : Eng := {}
  pwr    : Power := {}
  boot   : Boot := {}
  tap    : TapPort := {}
  out    : List Tx := []            -- what the device has sent, newest first
deriving DecidableEq, Repr

/-- The whole machine. -/
structure State where
  pending : List Instr := []
  mem     : Memories := {}
  dev     : Device := {}
deriving DecidableEq, Repr

/-- The machine right after reset. -/
def State.reset : State := {}

end Sys2Proof.Machine
end

