-- ==== Sys2Proof/Machine/Ops.lean ====
section
/-! DEFINITION. The named operations over the state: sparse tables, byte memories, dictionary registers, the position
timeline, the line grid, events and the log, outputs and free values. A block has no exception entry: raising an event
is the operation `raise`. -/
namespace Sys2Proof.Machine

/-! ### Sparse tables -/

/-- Read key k. -/
def tget {α : Type} (d : Nat → α) : Tab α → Nat → α
  | [], k => d k
  | (k', v) :: t, k => if k' = k then v else tget d t k

/-- Insert or replace key k, keeping keys rising. -/
def tins {α : Type} (k : Nat) (v : α) : Tab α → Tab α
  | [] => [(k, v)]
  | (k', v') :: t =>
    if k < k' then (k, v) :: (k', v') :: t
    else if k = k' then (k, v) :: t
    else (k', v') :: tins k v t

/-- Remove key k. -/
def tdel {α : Type} (k : Nat) : Tab α → Tab α
  | [] => []
  | (k', v') :: t => if k' = k then tdel k t else (k', v') :: tdel k t

/-- Write key k, keeping the canonical form. -/
def tset {α : Type} [DecidableEq α] (d : Nat → α) (t : Tab α) (k : Nat) (v : α) : Tab α :=
  if v = d k then tdel k t else tins k v t

/-- All keys of the table are above b and rise. -/
def tabSorted {α : Type} : Nat → Tab α → Bool
  | _, [] => true
  | b, (k, _) :: t => decide (b ≤ k) && tabSorted (k + 1) t

/-- The canonical form: rising keys, no entry equal to its key's default. -/
def tabWf {α : Type} [DecidableEq α] (d : Nat → α) (t : Tab α) : Bool :=
  tabSorted 0 t && t.all (fun p => decide (p.2 ≠ d p.1))

/-! ### Byte memories -/

/-- What an unlisted byte of a memory reads as: 0 (log entry 7: the page store after BOOT_ZERO and the unblown fuses
read 0 by the spec; for the flash and head memories a DESIGN CHOICE). -/
def memDefault (_ : Nat) : BitVec 8 := 0

/-- Read one byte. -/
def mget (m : List Host.Cell) (a : Nat) : BitVec 8 := tget memDefault m a

/-- Write one byte. -/
def mset (m : List Host.Cell) (a : Nat) (v : BitVec 8) : List Host.Cell := tset memDefault m a v

/-- The canonical form of a byte memory. -/
def Memory.wf (m : List Host.Cell) : Bool := tabWf memDefault m

/-- n bytes from an address. -/
def mread (m : List Host.Cell) : Nat → Nat → List Nat
  | _, 0 => []
  | a, n + 1 => (mget m a).toNat :: mread m (a + 1) n

/-- Write bytes from an address on. -/
def mwrite : List Host.Cell → Nat → List Nat → List Host.Cell
  | m, _, [] => m
  | m, a, b :: bs => mwrite (mset m a (BitVec.ofNat 8 b)) (a + 1) bs

/-- All memories in canonical form. -/
def Memories.wf (m : Memories) : Bool :=
  Memory.wf m.store && Memory.wf m.fuseA && Memory.wf m.fuseB && Memory.wf m.flash && Memory.wf m.head

/-! ### Dictionary registers -/

/-- Does an entry row cover the key? -/
def EntryDef.covers (e : EntryDef) (key : Nat) : Bool :=
  let idx := key / 256
  let sub := key % 256
  decide (e.index ≤ idx) && (idx - e.index) % e.stride == 0 && decide ((idx - e.index) / e.stride < e.units) &&
    decide (e.sub ≤ sub) && decide (sub < e.sub + e.count)

/-- Does an entry row lie at the index? -/
def EntryDef.atIndex (e : EntryDef) (idx : Nat) : Bool :=
  decide (e.index ≤ idx) && (idx - e.index) % e.stride == 0 && decide ((idx - e.index) / e.stride < e.units)

/-- The entry row of a key. -/
def findEntry (key : Nat) : Option EntryDef := (entriesOf (key / 65536)).find? (fun e => e.covers key)

/-- Is the index listed (R24)? -/
def indexListed (idx : Nat) : Bool := (entriesOf (idx / 256)).any (fun e => e.atIndex idx)

/-- R24: the highest subindex in use at an index. -/
def highestSub (idx : Nat) : Nat :=
  maxN (((entriesOf (idx / 256)).filter (fun e => e.atIndex idx)).map (fun e => e.sub + e.count - 1))

/-- The default of a numeric entry, with the defaults that differ by unit. -/
def dictDefault (key : Nat) : Int :=
  if key = Reg.un Reg.STREAM_PERSIST 1 then 1
  else if key = Reg.un Reg.RAIL_USED 5 then 0
  else if key = Reg.PTP_PROFILE then 1
  else if key = Reg.un Reg.PTP_DOMAIN 1 then 1
  else match findEntry key with
    | some e => e.dflt
    | none => 0

/-- The numeric value in force of a key. -/
def Device.reg (d : Device) (k : Nat) : Int := tget dictDefault d.dict.regs k

/-- The numeric value in force as a natural. -/
def Device.regN (d : Device) (k : Nat) : Nat := (d.reg k).toNat

/-- A BOOL or a U8 flag in force. -/
def Device.regB (d : Device) (k : Nat) : Bool := d.reg k != 0

/-- Set the numeric value in force. -/
def Device.setReg (d : Device) (k : Nat) (v : Int) : Device :=
  { d with dict := { d.dict with regs := tset dictDefault d.dict.regs k v } }

/-- Set the numeric value in force to a natural. -/
def Device.setRegN (d : Device) (k : Nat) (v : Nat) : Device := d.setReg k (v : Int)

/-- Add n to a 32-bit counter that wraps (the Range "Wraps at 2^32"). -/
def Device.addReg (d : Device) (k n : Nat) : Device := d.setRegN k ((d.regN k + n) % 2 ^ 32)

/-- Increment a 32-bit counter that wraps. -/
def Device.incReg (d : Device) (k : Nat) : Device := d.addReg k 1

/-- Add n to a 64-bit counter that wraps. -/
def Device.addReg64 (d : Device) (k n : Nat) : Device := d.setRegN k ((d.regN k + n) % 2 ^ 64)

/-- Look up a key in an unordered list of pairs. -/
def assoc {α : Type} (l : List (Nat × α)) (k : Nat) : Option α := (l.find? (fun p => p.1 == k)).map Prod.snd

/-- Put a key into an unordered list of pairs, in the place it had, else at the end. -/
def assocSet {α : Type} (l : List (Nat × α)) (k : Nat) (v : α) : List (Nat × α) :=
  if l.any (fun p => p.1 == k) then l.map (fun p => if p.1 == k then (k, v) else p) else l ++ [(k, v)]

/-- Remove a key from an unordered list of pairs. -/
def assocDel {α : Type} (l : List (Nat × α)) (k : Nat) : List (Nat × α) := l.filter (fun p => p.1 != k)

/-- The bytes in force of a STR or DOMAIN entry, if any were ever set. -/
def Device.blob? (d : Device) (k : Nat) : Option (List Nat) := assoc d.dict.blobs k

/-- The bytes in force, empty when none were ever set. -/
def Device.blob (d : Device) (k : Nat) : List Nat := (d.blob? k).getD []

/-- Set the bytes in force. -/
def Device.setBlob (d : Device) (k : Nat) (v : List Nat) : Device :=
  { d with dict := { d.dict with blobs := assocSet d.dict.blobs k v } }

/-- Set a value in force. -/
def Device.setVal (d : Device) (k : Nat) : Val → Device
  | .n v => d.setReg k v
  | .b l => d.setBlob k l

/-- R240: a change marks its Cellar record dirty. -/
def Device.markDirty (d : Device) (type unit : Nat) : Device :=
  let k := type * 256 + unit
  if d.cellar.dirty.contains k then d else { d with cellar := { d.cellar with dirty := d.cellar.dirty ++ [k] } }

/-! ### Free values -/

/-- The next value that the spec leaves open, and the device with its counter advanced. -/
def Device.takeFree (d : Device) : BitVec 64 × Device :=
  (Config.freeValue d.free, { d with free := d.free + 1 })

/-- n nonce bytes, and the device with its counter advanced. -/
def Device.takeNonce (d : Device) (n : Nat) : List Nat × Device :=
  ((List.range n).map (fun i => (Config.nonceByte (d.free + i)).toNat), { d with free := d.free + n })

/-! ### Engines -/

/-- R2, R352: house engine e runs and its services are not withheld by a restart. -/
def Device.engUp (d : Device) (e : Nat) : Bool :=
  d.reg (Reg.ENG_STATE + e) == 0 && (match d.eng.backAt.find? (fun p => p.1 == e) with
    | some p => decide (p.2 ≤ d.now)
    | none => true)

/-! ### Outputs -/

/-- Send a message or put out a pulse. -/
def Device.send (d : Device) (t : Tx) : Device := { d with out := t :: d.out }

/-! ### Time, position and the grid -/

/-- The present instant in ps. -/
def Device.ps (d : Device) : Nat := d.now * 2500

/-- ENC cycles in n microseconds. -/
def cycUs (n : Nat) : Nat := n * 400

/-- ENC cycles in n milliseconds. -/
def cycMs (n : Nat) : Nat := n * 400000

/-- ENC cycles in n seconds. -/
def cycS (n : Nat) : Nat := n * 400000000

/-- R17: the device is a ring member. -/
def Device.isMember (d : Device) : Bool := d.role == 2

/-- R17: the device is the ring's master. -/
def Device.isMaster (d : Device) : Bool := d.role == 1

/-- The timeline without its interpolated fraction: C × 1,024 + K, or the value received over the Hallway (R13). -/
def Device.ptExact (d : Device) : Int :=
  if d.isMember then d.pos.ptRx else d.pos.p0.c * 1024 + d.pos.k

/-- R13, R320: the direction, speed and STALLED condition that the timeline moves with. -/
def Device.ptDir (d : Device) : Int := if d.isMember then d.pos.rxDir else d.pos.p0.lastDir
def Device.ptV (d : Device) : Int := if d.isMember then d.pos.rxV else d.pos.p0.v
def Device.ptStalled (d : Device) : Bool := if d.isMember then d.pos.rxStall else d.pos.p0.method == .stalled

/-- R13, R55: the position timeline. -/
def Device.pt (d : Device) : Int := d.ptExact + d.ptDir * d.pos.f

/-- R320, R321: a member's timeline holds until a path is ALIGNED and an EDGE and a GRID have come, and while it is
LOST. -/
def Device.ptHeld (d : Device) : Bool := d.isMember && (d.hall.resync || d.reg Reg.TL_STATE == 4)

/-- R15: the global line counter. -/
def Device.glc (d : Device) : Nat := d.mantel.line % 2 ^ 48

/-- TB3 in whole ns. -/
def Device.tb3Ns (d : Device) : Nat := d.time.tb3 / 2 ^ 32 % 2 ^ 64

/-- The fraction of TB3 in 2^-16 ns. -/
def Device.tb3Frac (d : Device) : Nat := d.time.tb3 / 2 ^ 16 % 2 ^ 16

/-- The stamp of this ENC cycle. -/
def Device.stamp (d : Device) : Stamp := { pt := d.pt, glc := d.glc, tb3 := d.tb3Ns, frac := d.tb3Frac }

/-- R77: B(k) on a grid segment. -/
def GridSeg.boundary (g : GridSeg) (k : Int) : Int := g.po + ((k - g.go) * (g.num : Int) * 1024).fdiv (g.den : Int)

/-- The grid segment in force from its origin on. -/
def Mantel.seg (m : Mantel) : GridSeg := { go := m.go, po := m.po, num := m.num, den := m.den }

/-- R77, R80: the segment on which line k lies, of a segment and the older ones behind it: lines below a moved origin keep
the grid that they had. -/
def segAt (g : GridSeg) : List GridSeg → Int → GridSeg
  | [], _ => g
  | o :: os, k => if k < g.go then segAt o os k else g

/-- R77: the boundary of grid line k. -/
def Mantel.boundary (m : Mantel) (k : Int) : Int := (segAt m.seg m.old k).boundary k

/-- R77: q = floor(N × 1,024 / D). -/
def Mantel.q (m : Mantel) : Nat := m.num * 1024 / m.den

/-- The grid line on which slot h lies: h itself in web mode; along the pass in carriage mode (R89). -/
def Mantel.gridLine (m : Mantel) (h : Nat) : Int :=
  if m.rev then m.kBase - ((h : Int) - (m.hBase : Int)) else m.kBase + ((h : Int) - (m.hBase : Int))

/-- The boundary of slot h's grid line. -/
def Mantel.slotB (m : Mantel) (h : Nat) : Int := m.boundary (m.gridLine h)

/-- The magnitude of the timeline's speed, Q8.24 pu per ENC cycle. -/
def Device.speedAbs (d : Device) : Nat := d.ptV.natAbs

/-- R59: v in counts/s times 2^34, exactly: v × 400,000,000. -/
def speedCps34 (v : Int) : Int := v * 400000000

/-- R59: |v| against a limit in counts/s. -/
def speedAtLeast (v : Int) (cps : Nat) : Bool := decide ((cps : Int) * 2 ^ 34 ≤ speedCps34 (v.natAbs : Int))

/-- R59: SPEED_CPS as binary32. -/
def speedF32 (v : Int) : Nat := f32OfRat (speedCps34 v) (2 ^ 34)

/-- R59: SPEED in whole counts/s, toward zero. -/
def speedInt (v : Int) : Int := (speedCps34 v).tdiv (2 ^ 34)

/-! ### Per-unit records -/

/-- The default record of every channel. -/
def chan0 (_ : Nat) : Chan := {}

/-- The default record of every group. -/
def group0 (_ : Nat) : Group := {}

/-- Channel c. -/
def Device.chan (d : Device) (c : Nat) : Chan := tget chan0 d.heads.chans c

/-- Write channel c. -/
def Device.setChan (d : Device) (c : Nat) (x : Chan) : Device :=
  { d with heads := { d.heads with chans := tset chan0 d.heads.chans c x } }

/-- Group k. -/
def Device.group (d : Device) (k : Nat) : Group := tget group0 d.heads.groups k

/-- Write group k. -/
def Device.setGroup (d : Device) (k : Nat) (x : Group) : Device :=
  { d with heads := { d.heads with groups := tset group0 d.heads.groups k x } }

/-- Position channel 0 or 1. -/
def Device.posCh (d : Device) (n : Nat) : PosCh := if n = 0 then d.pos.p0 else d.pos.p1

/-- Write position channel 0 or 1. -/
def Device.setPosCh (d : Device) (n : Nat) (x : PosCh) : Device :=
  if n = 0 then { d with pos := { d.pos with p0 := x } } else { d with pos := { d.pos with p1 := x } }

/-! ### Events (R257 … R259) -/

/-- A field of an event's DETAIL (R258): its value and its width in bytes, 0 for the last field that takes every byte
left. -/
inductive DF where
  | u (w : Nat) (v : Nat)
  | s (w : Nat) (v : Int)
  | raw (w : Nat) (v : Nat)
deriving DecidableEq, Repr

/-- R258: an unsigned value that does not fit saturates. -/
def satU (w v : Nat) : Nat := if 2 ^ (8 * w) ≤ v then 2 ^ (8 * w) - 1 else v

/-- R258: a signed value that does not fit saturates. -/
def satS (w : Nat) (v : Int) : Int := clampI (-(2 ^ (8 * w - 1) : Nat)) ((2 ^ (8 * w - 1) : Nat) - 1) v

/-- R258: the bytes of DETAIL's fields, `left` bytes remaining. -/
def detailBytes : Nat → List DF → List Nat
  | left, [] => List.replicate left 0
  | left, f :: fs =>
    let w0 := match f with | .u w _ => w | .s w _ => w | .raw w _ => w
    let w := if w0 = 0 ∨ left < w0 then left else w0
    let bs := match f with
      | .u _ v => leBytes w (satU w v)
      | .s _ v => if w = 0 then [] else leBytesI w (satS w v)
      | .raw _ v => leBytes w v
    bs ++ detailBytes (left - w) fs

/-- Raise an event with its severity given (R262). -/
def Device.raiseSev (d : Device) (code sev unit : Nat) (fs : List DF) : Device :=
  { d with log := { d.log with raised := d.log.raised ++
      [{ code := code, sev := sev, unit := unit, glc := d.glc, detail := detailBytes 6 fs, pt := d.pt,
         tb3 := d.tb3Ns }] } }

/-- Raise an event. -/
def Device.raise (d : Device) (code unit : Nat) (fs : List DF) : Device :=
  d.raiseSev code (Ev.severity code) unit fs

/-- Raise an event whose record carries a GLC and a PT of its own (R96, R257). -/
def Device.raiseAt (d : Device) (code unit glc : Nat) (pt : Int) (fs : List DF) : Device :=
  { d with log := { d.log with raised := d.log.raised ++
      [{ code := code, sev := Ev.severity code, unit := unit, glc := glc % 2 ^ 48, detail := detailBytes 6 fs,
         pt := pt, tb3 := d.tb3Ns }] } }

/-- R259: ascending CODE and then ascending UNIT. -/
def evLe (a b : EventRec) : Bool := decide (a.code < b.code) || (a.code == b.code && decide (a.unit ≤ b.unit))

/-- Insert an event, behind those equal to it. -/
def evInsert (e : EventRec) : List EventRec → List EventRec
  | [] => [e]
  | x :: xs => if evLe x e then x :: evInsert e xs else e :: x :: xs

/-- R259: the order in which records raised in one CTRL cycle enter the log. -/
def evSort (l : List EventRec) : List EventRec := l.foldl (fun acc e => evInsert e acc) []

/-- R259 … R261: one record enters the log: it takes the next sequence number, the ring drops its oldest record when it
is full, and a FAULT or STOP record is unacknowledged and mirrored. -/
def Log.enter (g : Log) (e : EventRec) : Log :=
  let r := { e with seq := g.nextSeq }
  let full := decide (1024 ≤ g.recs.length)
  { g with
    recs := (if full then g.recs.drop 1 else g.recs) ++ [r]
    nextSeq := (g.nextSeq + 1) % 2 ^ 32
    overwritten := if full then (g.overwritten + 1) % 2 ^ 32 else g.overwritten
    unacked := if 2 ≤ e.sev then g.unacked ++ [r.seq] else g.unacked
    mirror := if 2 ≤ e.sev then (g.mirror ++ [r]).drop (g.mirror.length + 1 - 64) else g.mirror }

/-! ### The Porch's transmit queues (R288, R289) -/

/-- Port A (0) or B (1). -/
def Device.pport (d : Device) (p : Nat) : PorchPort := if p = 0 then d.porch.a else d.porch.b

/-- Write port A or B. -/
def Device.setPport (d : Device) (p : Nat) (x : PorchPort) : Device :=
  if p = 0 then { d with porch := { d.porch with a := x } } else { d with porch := { d.porch with b := x } }

/-- PORT_STATE of port p. -/
def Device.pportState (d : Device) (p : Nat) : Int := d.reg (Reg.un Reg.PORCH_PORT_STATE p)

/-- R289: a port that is not ON accepts no frames; `rx` is port and sub-port. -/
def Device.rxOpen (d : Device) (rx : Nat) : Bool := d.pportState (rx / 4) == 4

/-- The bytes of a UDP datagram's frame, without FCS: Ethernet, IP and UDP headers and the payload. An address below 2^32 is
IPv4. -/
def udpFrame (ip n : Nat) : Nat := 14 + (if ip < 2 ^ 32 then 20 else 40) + 8 + n

/-- The bytes of a PTP message: common header and body (IEEE 1588). -/
def ptpLen (kind : Nat) : Nat := if kind = 8 then 64 else if kind = 2 ∨ kind = 5 ∨ kind = 6 then 54 else 44

/-- The bytes of a message's frame without FCS. A PTP message takes the longest of its transports; ARP, ND and ICMP
answers take the least frame. -/
def Tx.frameLen : Tx → Nat
  | .qdp ip _ r => udpFrame ip (20 + r.payload.length)
  | .event ip _ _ _ recs => udpFrame ip (24 + 32 * recs.length)
  | .qpt ip _ data => udpFrame ip data.length
  | .ptp _ _ kind _ => 62 + ptpLen kind
  | .eth _ data => data.length
  | _ => 60

/-- R288, R289: a frame of a level is queued on a port; on one that is not ON it is lost. -/
def Device.postFrame (d : Device) (unit : Nat) (f : TxFrame) : Device :=
  let p := unit / 4
  let x := d.pport p
  if p < 2 ∧ d.pportState p = 4 then
    d.setPport p { x with txq := x.txq ++ [{ f with sub := if x.mode = 2 then unit % 4 else 0 }] }
  else d

/-- A message of the device's own is queued on a port. -/
def Device.post (d : Device) (unit level : Nat) (t : Tx) : Device :=
  d.postFrame unit { level := level, sub := 0, len := t.frameLen, body := t }

/-- R257: the 32 bytes of a record. -/
def eventBytes (e : EventRec) : List Nat :=
  leBytes 2 e.code ++ leBytes 1 e.sev ++ leBytes 1 e.unit ++ leBytes 6 e.glc ++ bytesAt e.detail 0 6 ++
    leBytesI 8 e.pt ++ leBytes 8 e.tb3

/-- R48: the EMCY message of an event: error code FF00h + severity, the error register, the event code and the low 24
bits of the GLC. PRESUMED (log entry 41): COB-ID 80h + node-ID and this byte order are CiA 1301's. -/
def emcyBytes (e : EventRec) (errReg : Nat) : List Nat :=
  leBytes 2 (0xFF00 + e.sev) ++ [errReg] ++ leBytes 2 e.code ++ leBytes 3 e.glc

/-- R45: the EVENT of a record goes to every session that subscribed at or below its severity. -/
def Device.notifySessions (d : Device) (e : EventRec) : Device :=
  d.dict.sessions.foldl (fun (d : Device) (ss : Session) =>
    match ss.sub with
    | none => d
    | some m =>
      if m ≤ e.sev then
        let ss' := { ss with unacked := ss.unacked ++ [{ seq := e.seq, recs := [e], tries := 1, sentAt := d.now }] }
        let l := d.dict.sessions.map (fun x => if x.num == ss.num then ss' else x)
        ({ d with dict := { d.dict with sessions := l } } : Device).post ss.rx 3 (.event ss.ip ss.port ss.num e.seq [e])
      else d) d

/-- R48: the EMCY messages of a record, one on each enabled CAN FD port whose NMT state is not stopped. -/
def Device.notifyCan (d : Device) (e : EventRec) : Device :=
  if d.regN Reg.EVENT_MIN_SEVERITY ≤ e.sev then
    let er : Nat := if d.log.unacked.isEmpty then 0 else 1
    [0, 1].foldl (fun (d : Device) (p : Nat) =>
      let st := if p = 0 then d.dict.can0.nmt else d.dict.can1.nmt
      if bit (d.regN Reg.CAN_PORT_ENABLE) p && st != 4 then
        d.send (.can p (0x80 + d.regN (Reg.NODE_ID_PORT0 + p)) (emcyBytes e er))
      else d) d
  else d

/-- The default record of a Workshop engine. -/
def shop0 (_ : Nat) : Shop := {}

/-- Workshop engine w. -/
def Device.shop (d : Device) (w : Nat) : Shop := tget shop0 d.eng.shops w

/-- Write Workshop engine w. -/
def Device.setShop (d : Device) (w : Nat) (x : Shop) : Device :=
  { d with eng := { d.eng with shops := tset shop0 d.eng.shops w x } }

/-- R358: a record is copied into the event ring of each Workshop engine that asked for its severity. -/
def Device.notifyShops (d : Device) (e : EventRec) : Device :=
  [0, 1, 2, 3].foldl (fun (d : Device) (w : Nat) =>
    let x := d.shop w
    if x.on = false ∨ e.sev < x.evMin then d
    else if 256 ≤ (x.evWr + 2 ^ 32 - x.evRd) % 2 ^ 32 then d.incReg (Reg.EV_LOST + w)
    else d.setShop w { x with ring := assocSet x.ring (x.evWr % 256) e, evWr := (x.evWr + 1) % 2 ^ 32 }) d

/-- R259: the records raised in this cycle, by whichever commands, enter the log, in order, and are sent on. -/
def Device.flush (d : Device) : Device :=
  let l := evSort d.log.raised
  let d0 := { d with log := { d.log with raised := [] } }
  l.foldl (fun (d : Device) (e : EventRec) =>
    let r := { e with seq := d.log.nextSeq }
    let d0 := if 2 ≤ e.sev then d.markDirty 3 0 else d
    let d1 := { d0 with log := d0.log.enter e }
    ((d1.notifySessions r).notifyCan r).notifyShops r) d0

/-! ### QDP responses (R42, R43) -/

/-- R42, R43: a response goes out from the port at which the request arrived; the session keeps its last 16. -/
def Device.qdpAnswer (d : Device) (rx ip port : Nat) (r : QdpResp) : Device :=
  let keep (x : Session) : Session :=
    if x.num == r.session then { x with cache := (x.cache ++ [(r.seq, r)]).drop (x.cache.length + 1 - 16) } else x
  ({ d with dict := { d.dict with sessions := d.dict.sessions.map keep } } : Device).post rx 3 (.qdp ip port r)

/-- A prepared response of a write to entry k takes the status that the write came to: in its header, and in the item of
that entry. -/
def QdpResp.withStatus (r : QdpResp) (k : Nat) (st : Status) : QdpResp :=
  let item (i : Nat) : List Nat :=
    let b := bytesAt r.payload (4 * i) 4
    if r.opcode = 0x82 ∧ bytesAt b 0 3 = leBytes 2 (k / 256) ++ [k % 256] then overlay b 3 [st.code] else b
  { r with status := if r.status = 0 then st.code else r.status,
           payload := if r.opcode = 0x82 then (List.range r.count).flatMap item else r.payload }

/-- R355: the response lands in the slot of the same number: the header, with STATUS, and the payload. -/
def Device.mbAnswer (d : Device) (w slot flags st count : Nat) (payload : List Nat) : Device :=
  let x := d.shop w
  match x.busy.find? (fun b => b.slot == slot) with
  | none => d
  | some r =>
    let bytes := [r.opcode, flags] ++ leBytes 2 count ++ leBytes 2 payload.length ++ leBytes 2 r.tag ++ [st] ++
      List.replicate 7 0 ++ payload
    let d1 := d.setShop w { x with
      busy := x.busy.filter (fun b => b.slot != slot)
      done := x.done ++ [slot]
      resp := assocSet x.resp slot bytes }
    d1.send (.mailbox w (slot :: bytes))

/-- R46, R48: the response of a USDO transfer: index, subindex, abort code (0 where it succeeded) and the value read.
PRESUMED (log entry 41): COB-ID 580h + node-ID is CiA 1301's. -/
def Device.usdoAnswer (d : Device) (p k : Nat) (st : Status) (value : List Nat) : Device :=
  d.send (.can p (0x580 + d.regN (Reg.NODE_ID_PORT0 + p))
    (leBytes 2 (k / 256) ++ [k % 256] ++ leBytes 4 st.abortCode ++ value))

/-- A waiting response of a write to entry k goes out with the status that the write came to; one to a Workshop engine that has
been restarted or halted since is discarded (R362). -/
def Device.giveAnswer (d : Device) (k : Nat) (st : Status) : Answer → Device
  | .qdp rx ip port r => d.qdpAnswer rx ip port (r.withStatus k st)
  | .box w slot flags starts r =>
    let r' := r.withStatus k st
    if (d.shop w).starts = starts then d.mbAnswer w slot flags r'.status r'.count r'.payload else d
  | .usdo p => d.usdoAnswer p k st []

/-! ### Lifts -/

/-- The queue replaced. -/
def State.withPending (s : State) (l : List Instr) : State := { s with pending := l }

/-- The device replaced. -/
def State.withDev (s : State) (d : Device) : State := { s with dev := d }

/-- A command that acts on the device alone. The records that it raises wait for the end of the cycle (R259). -/
def State.onDev (s : State) (f : Device → Device) : Host.Outcome State Fault Refusal :=
  .next { s with dev := f s.dev }

/-- A command that reads the memories and acts on the device alone. -/
def State.onDevM (s : State) (f : Memories → Device → Device) : Host.Outcome State Fault Refusal :=
  .next { s with dev := f s.mem s.dev }

/-- A command that acts on the device and the memories. -/
def State.onBoth (s : State) (f : Memories → Device → Memories × Device) : Host.Outcome State Fault Refusal :=
  .next { s with mem := (f s.mem s.dev).1, dev := (f s.mem s.dev).2 }

end Sys2Proof.Machine
end

