-- ==== Sys2Proof/Machine/HallBase.lean ====
section
/-! DEFINITION. Hallway messages: their format, sending, replay and receipt (R312 … R315). -/
namespace Sys2Proof.Machine

/-- Hallway port 0 (UP) or 1 (DN). -/
def Device.hport (d : Device) (p : Nat) : HallPort := if p = 0 then d.hall.up else d.hall.dn

/-- Write a Hallway port. -/
def Device.setHport (d : Device) (p : Nat) (x : HallPort) : Device :=
  if p = 0 then { d with hall := { d.hall with up := x } } else { d with hall := { d.hall with dn := x } }

/-- The entry of a Hallway port: UP has the index listed, DN that index + 8. -/
def hallKey (k p : Nat) : Nat := k + 2048 * p

/-- LINK_STATE. -/
def Device.linkState (d : Device) (p : Nat) : Int := d.reg (hallKey Reg.LINK_STATE p)

/-- R314: the class of a message type. -/
def hallClass (ty : Nat) : Nat := if ty < 0x10 then 0 else if ty < 0x20 then 1 else if ty < 0x30 then 2 else 3

/-- R314: message types that are replayed. -/
def hallReplayed (ty : Nat) : Bool := ty != 1 && ty != 2 && ty != 7

/-- R313: a message: TYPE, LENGTH, HOPS, body and CRC-32C. -/
def hallMsg (ty hops : Nat) (body : List Nat) : List Nat :=
  let m := [ty] ++ leBytes 2 body.length ++ [hops % 256] ++ body
  m ++ leBytes 4 (crc32c m)

/-- The next sequence number of a class: 0000h marks messages that are not replayed. -/
def nextSeq (s : Nat) : Nat := if (s + 1) % 65536 = 0 then 1 else (s + 1) % 65536

/-- R312: a link in H1 or H2 comes to H0 for a message. From H2 a latency check of 16 probes follows. -/
def Device.linkWake (d : Device) (p : Nat) : Device :=
  let st := d.linkState p
  let d1 := if st = 3 ∨ st = 4 then d.setReg (hallKey Reg.LINK_STATE p) 2 else d
  if st = 4 then d1.setHport p { d1.hport p with check := 1, samples := [], moving := false } else d1

/-- R315: a message waits on port p for its beats to leave. -/
def Device.hallQueue (d : Device) (p cls seq : Nat) (data : List Nat) : Device :=
  let x := d.hport p
  d.setHport p { x with txq := x.txq ++ [{ cls := cls, seq := seq, data := data }] }

/-- R312, R315: a message is queued on port p. A link in H1 or H2 wakes for it; a link that is not up carries none. -/
def Device.hallSend (d : Device) (p ty hops : Nat) (body : List Nat) : Device :=
  let st := d.linkState p
  if st ≠ 2 ∧ st ≠ 3 ∧ st ≠ 4 then d
  else
    let d1 := d.linkWake p
    let cls := hallClass ty
    let data := hallMsg ty hops body
    if hallReplayed ty then
      let x := d1.hport p
      let s := nextSeq ((assoc x.txSeq cls).getD 0)
      (d1.setHport p { x with
        txSeq := assocSet x.txSeq cls s
        unacked := x.unacked ++ [{ cls := cls, seq := s, data := data, sentAt := d.now }] }).hallQueue p cls s data
    else d1.hallQueue p cls 0 data

/-- R313: beat i of a message: its header (CLASS, FIRST, LAST, SEQ, BEAT) and 28 bytes of the message, zeros behind its
end. -/
def hallBeat (cls seq : Nat) (data : List Nat) (i : Nat) : List Nat :=
  let first := if i = 0 then 2 ^ 29 else 0
  let last := if data.length ≤ 28 * (i + 1) then 2 ^ 28 else 0
  leBytes 4 (cls * 2 ^ 30 + first + last + seq * 2 ^ 8 + i % 256) ++ bytesAt data (28 * i) 28

/-- R315: the message whose beat leaves next: the first of the lowest class that waits. -/
def nextHallTx (l : List HallTx) : Option HallTx :=
  ((((l.find? (fun m => m.cls == 0)).or (l.find? (fun m => m.cls == 1))).or (l.find? (fun m => m.cls == 2))).or
    (l.find? (fun m => m.cls == 3)))

/-- R319: a SYNC of this device's own is stamped with TB3 as its first block leaves the ball. -/
def Device.hallStamp (d : Device) (m : HallTx) : HallTx :=
  if m.sent = 0 ∧ m.data.getD 0 0 = 2 ∧ m.data.getD 3 0 = 0 ∧ d.isMaster = true then
    { m with data := hallMsg 2 0 (leBytes 8 d.tb3Ns ++ leBytes 2 d.tb3Frac ++ leBytes 4 0) }
  else m

/-- R310, R322, R323: the lanes of a direction in service, `i` 0 out and 1 in, L4 among them once it is switched in. -/
def Device.lanesGood (d : Device) (p i : Nat) (bad : List Nat) : List Nat :=
  let ex := d.regN (hallKey (if i = 0 then Reg.EXCLUDED_OUT else Reg.EXCLUDED_IN) p)
  let l4 := ex != 255 && d.reg (hallKey Reg.HALL_SPARE_STATE p) == 1
  ((List.range 5).filter (fun l => (l != 4 || l4) && l != ex && !bad.contains l))

/-- R310, R323: the lanes that carry the logical lanes of the outgoing direction: the lowest-numbered in service. -/
def Device.laneMap (d : Device) (p : Nat) : List Nat :=
  let x := d.hport p
  (d.lanesGood p 0 x.badOut).take (if x.halfOut then 2 else 4)

/-- R313, R315, R323: a beat leaves a link in H0 every 5.28 ns, at half that rate in a direction reduced to two lanes. -/
def Device.hallTick (d : Device) (p : Nat) : Device :=
  let x := d.hport p
  match if d.linkState p = 2 ∧ x.beatAt ≤ d.ps then nextHallTx x.txq else none with
  | none => d
  | some m0 =>
    let m := d.hallStamp m0
    let m1 := { m with sent := m.sent + 1 }
    let start := if x.beatAt + 2500 ≤ d.ps then d.ps else x.beatAt
    let take := if x.halfOut then 10560 else 5280
    let rest := if m.data.length ≤ 28 * m1.sent then x.txq.erase m0 else x.txq.map (fun y => if y = m0 then m1 else y)
    (d.setHport p { x with txq := rest, beatAt := start + take }).send (.hall p m.cls (d.laneMap p) (hallBeat m.cls m.seq m.data m.sent))

/-- R308: a message of the master's goes out of both ports. -/
def Device.hallBoth (d : Device) (ty : Nat) (body : List Nat) : Device := (d.hallSend 0 ty 0 body).hallSend 1 ty 0 body

/-- A control beat: its name as a code (1 ACK, 2 NAK, 3 LANE_SWITCH, 4 H1_ENTER, 5 RESET, 6 DOWN, 7 ALIGN),
and its argument. -/
def Device.hallCtl (d : Device) (p code : Nat) (arg : List Nat) : Device := d.send (.hall p 4 (d.laneMap p) (code :: arg))

/-- R315: the receipt of a message: whether it is accepted. A failed CRC is counted, and answered with NAK where the
message is replayed; a sequence already accepted, or one beyond the next, is discarded. -/
def Device.hallRecv (d0 : Device) (h : HallHdr) (ty : Nat) : Device × Bool :=
  let d := d0.linkWake h.port
  let x := d.hport h.port
  let cls := hallClass ty
  if d.linkState h.port ≠ 2 ∨ 1 < h.port then (d0, false)
  else if h.crcOk = false then
    let d1 := d.incReg (hallKey Reg.CRC_ERRORS h.port)
    (if hallReplayed ty then d1.hallCtl h.port 2 [cls] else d1, false)
  else if hallReplayed ty = false then (d, true)
  else
    let last := (assoc x.rxSeq cls).getD 0
    if h.seq = nextSeq last then
      ((d.setHport h.port { x with rxSeq := assocSet x.rxSeq cls h.seq }).hallCtl h.port 1 [cls, h.seq % 256, h.seq / 256],
        true)
    else (d.hallCtl h.port 1 [cls, last % 256, last / 256], false)

/-- R315: a cumulative ACK frees the messages of its class up to its sequence. -/
def Device.hallAck (d : Device) (p cls seq : Nat) : Device :=
  let x := d.hport p
  d.setHport p { x with unacked := x.unacked.filter (fun m => !(m.cls == cls && serialAtOrBefore 16 m.seq seq)) }

/-- R315: the messages of a class are sent again from the first unacknowledged one. What of them still waited to leave is
sent in that order. -/
def Device.hallResend (d : Device) (p cls : Nat) : Device :=
  let x := d.hport p
  let l := x.unacked.filter (fun m => m.cls == cls)
  let d1 := d.setHport p { x with
    unacked := x.unacked.map (fun m => if m.cls = cls then { m with sentAt := d.now } else m)
    txq := x.txq.filter (fun m => m.cls != cls || m.seq == 0) }
  l.foldl (fun (d : Device) m => (d.hallQueue p m.cls m.seq m.data).incReg (hallKey Reg.REPLAYS p)) d1

/-- R315: 10 µs have passed without an ACK for a class. -/
def Device.hallReplay (d : Device) (p cls : Nat) : Device :=
  match (d.hport p).unacked.find? (fun m => m.cls == cls) with
  | some m => if m.sentAt + cycUs 10 ≤ d.now then d.hallResend p cls else d
  | none => d

end Sys2Proof.Machine
end

