-- ==== Sys2Proof/Machine/PosOps.lean ====
section
/-! DEFINITION. Operations of the position unit (R52 … R74). -/
namespace Sys2Proof.Machine

/-- R134: the scheduler stops at the end of the last page bound: STOPPING while a bound page has not retired, else
STOPPED at once with PAGE_STOPPED. A scheduler that is not RUNNING is left as it is. -/
def Device.schedStop (d : Device) : Device :=
  if d.reg Reg.SCHED_STATE = 0 then
    if d.mantel.bound.isEmpty then
      (d.setReg Reg.SCHED_STATE 2).raise Ev.PAGE_STOPPED 0xFF [.u 4 (d.pages.printed.getD 0xFFFFFFFF)]
    else d.setReg Reg.SCHED_STATE 1
  else d

/-- What a change of the accepted A and B levels means (R52, R53). -/
inductive EdgeKind where
  | nothing
  | count (dir : Int)
  | quadError
deriving DecidableEq, Repr

/-- R52, R53: the decoding of a level change in each input mode; A leading B counts forward (log entry 8). -/
def decodeEdge (mode : Nat) (a b a' b' : Bool) : EdgeKind :=
  let ca := a != a'
  let cb := b != b'
  let riseA := !a && a'
  let riseB := !b && b'
  if mode = 1 then
    if ca && cb then .quadError
    else if ca then .count (if a' != b then 1 else -1)
    else if cb then .count (if b' == a then 1 else -1)
    else .nothing
  else if mode = 2 then
    if ca && cb then .quadError
    else if riseA then .count (if b then -1 else 1)
    else .nothing
  else if mode = 3 then
    if riseA then .count (if b' then -1 else 1) else .nothing
  else if mode = 4 then
    if riseA && riseB then .nothing
    else if riseA then .count 1
    else if riseB then .count (-1)
    else .nothing
  else .nothing

/-- R52, R67, R73: an input's glitch filter: a level that has stood for `held` of the `need` samples asked for is
accepted, and no sooner than `need` samples after the level before it was. -/
def acceptLevel (need held now : Nat) (at_ : Option Nat) : Bool :=
  decide (need ≤ held) && (match at_ with
    | none => true
    | some t => decide (t + need ≤ now))

/-- R52: the level of an input after a change to `new` has stood for `held` samples, and when it last changed. -/
def filterLevel (need held now : Nat) (old new : Bool) (at_ : Option Nat) : Bool × Option Nat :=
  if old != new && acceptLevel need held now at_ then (new, some now) else (old, at_)

/-- R59: one filtered update of the published speed. -/
def filterSpeed (v vNew : Int) (shift : Nat) : Int := v + (vNew - v).fdiv (2 ^ shift : Nat)

/-- R58: n counts in T cycles as Q8.24 pu per ENC cycle, toward zero. -/
def countsPerCycle (n : Int) (t : Nat) : Int := (n * 2 ^ 34).tdiv t

/-- The parameters of a channel's estimators. -/
structure SpeedConf where
  edges : Nat
  gate  : Nat
  low   : Nat
  high  : Nat
  shift : Nat
deriving DecidableEq, Repr

/-- The estimator parameters in force on a channel. -/
def Device.speedConf (d : Device) (ch : Nat) : SpeedConf :=
  { edges := d.regN (Reg.un Reg.PERIOD_EDGES ch), gate := cycUs (d.regN (Reg.un Reg.GATE_US ch)),
    low := d.regN (Reg.un Reg.LOW_CPS ch), high := d.regN (Reg.un Reg.HIGH_CPS ch),
    shift := d.regN (Reg.un Reg.FILTER_SHIFT ch) }

/-- R58, R59: an accepted edge in direction `dir` at ENC cycle `now` updates both estimators, the published speed and
the method. -/
def PosCh.speedEdge (c : PosCh) (s : SpeedConf) (now : Nat) (dir : Int) : PosCh :=
  let stalled := c.method == .stalled
  let hist := if stalled || c.histDir != dir then [now] else (now :: c.hist).take (s.edges + 1)
  let m := hist.length - 1
  let t := now - hist.getLast!
  let vp := if m = 0 then 0 else countsPerCycle (dir * m) t
  let fastP := decide (m ≠ 0 ∧ s.high * t ≤ m * 400000000)
  let gate0 := if stalled then none else c.gate
  let (closed, gate) : Option (Int × Nat) × Option (Nat × Int) :=
    match gate0 with
    | none => (none, some (now, 0))
    | some (t0, n) => if s.gate ≤ now - t0 then (some (n + dir, now - t0), some (now, 0)) else (none, some (t0, n + dir))
  let c1 := { c with hist := hist, histDir := dir, gate := gate, lastEdge := now, lastDir := dir }
  match c.method with
  | .stalled => { c1 with method := .period, v := filterSpeed c.v vp s.shift }
  | .period =>
    { c1 with v := filterSpeed c.v vp s.shift, method := if fastP then .count else .period }
  | .count =>
    match closed with
    | none => c1
    | some (n, tt) =>
      { c1 with v := filterSpeed c.v (countsPerCycle n tt) s.shift,
                method := if n.natAbs * 400000000 < s.low * tt then .period else .count }

/-- R59: no edge for STALL_MS: v becomes 0 and the method STALLED. -/
def PosCh.stall (c : PosCh) : PosCh := { c with v := 0, method := .stalled, hist := [], histDir := 0, gate := none }

/-- The default record of a divided output. -/
def qout0 (_ : Nat) : QoutSt := {}

/-- R72: one source count updates the accumulator and the queue of a divided output. -/
def Device.qoutCount (d : Device) (q : Nat) (dir : Int) : Device :=
  let x := tget qout0 d.pos.qouts q
  let num := d.reg (Reg.un Reg.QOUT_NUM q)
  let den := d.reg (Reg.un Reg.QOUT_DEN q)
  let a := x.acc + dir * num
  let step : Int := if den ≤ a then 1 else if a < 0 then -1 else 0
  let acc := a - step * den
  let queue := x.queue + step
  let overRun := decide (255 < queue.natAbs)
  let x' := { x with acc := acc, queue := if overRun then x.queue else queue, overRun := x.overRun || overRun }
  let d1 := { d with pos := { d.pos with qouts := tset qout0 d.pos.qouts q x' } }
  if overRun then
    let d2 := d1.incReg (Reg.un Reg.QOUT_OVERRUNS q)
    if x.overRun then d2 else d2.raise Ev.POS_QOUT_OVERRUN q [.u 0 (d2.regN (Reg.un Reg.QOUT_OVERRUNS q))]
  else d1

/-- R56: the limits of C. -/
def cMax : Int := 2 ^ 53 - 1

/-- R56: the limits of C. -/
def cMin : Int := -(2 ^ 53)

/-- An exact count of pu / 1,024, or a free value where the quotient is no whole count (log entry 9). -/
def Device.wholeCounts (d : Device) (pu : Int) : Int × Device :=
  if pu % 1024 = 0 then (pu / 1024, d) else
    let (f, d') := d.takeFree
    (f.toInt, d')

/-- R56: the count of a channel is set to c, held within its limits; reaching one raises POS_LIMIT. -/
def Device.setCount (d : Device) (ch : Nat) (c : Int) : Device :=
  let x := d.posCh ch
  let c' := clampI cMin cMax c
  let d1 := d.setPosCh ch { x with c := c' }
  if c' != x.c && (c' == cMax || c' == cMin) then d1.raise Ev.POS_LIMIT ch [.u 1 (if c' = cMin then 1 else 0)] else d1

/-- R64, R66: the reference is configured and valid. One not yet anchored, or whose new anchor is pending, is not, which R66
leaves open (log entry 188). -/
def Device.refValid (d : Device) : Bool :=
  let src := d.reg Reg.REF_SOURCE
  d.pos.anchor.isSome && !d.pos.anchorDue &&
    (if src = 1 then d.reg (Reg.un Reg.INDEX_STATE 1) != 2
     else if src = 2 then d.pos.p0.wordOk
     else if src = 3 then d.pos.p1.wordOk
     else false)

/-- R64: entering SUSPECT on POS0 realigns at the next reference sample, or asks the scheduler to stop; POS1 does
neither (R65). -/
def Device.enterSuspect (d : Device) (ch : Nat) : Device :=
  let d1 := d.setReg (Reg.un Reg.INDEX_STATE ch) 2
  if ch ≠ 0 then d1
  else if d.refValid then { d1 with pos := { d1.pos with realign := true, realignAt := d.now } }
  else if d.reg Reg.SUSPECT_POLICY = 1 then d1.schedStop
  else d1

/-- p × 1,024 of a channel: C × 1,024 + KT on POS0, C × 1,024 on POS1 (R63, R65). -/
def Device.indexP (d : Device) (ch : Nat) : Int :=
  (d.posCh ch).c * 1024 + (if ch = 0 then d.pos.kt else 0)

/-- R64: p has moved by more than 2 × P since the last qualified index. The counts of the event are whole counts, toward
zero (log entry 137). -/
def Device.indexMissing (d : Device) (ch : Nat) : Device :=
  let x := d.posCh ch
  let per := d.reg (Reg.un Reg.INDEX_PERIOD ch)
  match x.idxAt with
  | none => d
  | some p0 =>
    let moved := d.indexP ch - p0
    if d.reg (Reg.un Reg.INDEX_MODE ch) ≠ 0 ∧ 0 < per ∧ 2 * per * 1024 < (moved.natAbs : Int) ∧ x.missing = false then
      let d1 := d.setPosCh ch { x with missing := true }
      let d2 := if d1.reg (Reg.un Reg.INDEX_STATE ch) = 2 then d1 else d1.enterSuspect ch
      d2.raise Ev.POS_INDEX_MISSING ch [.s 0 (moved.tdiv 1024)]
    else d

/-- R16: PT of this cycle, interpolation included: a decrease of more than one line is reported at the first forward
movement after it, with the lowest PT reached (log entry 10). -/
def Device.ptTrack (d : Device) : Device :=
  let pt := d.pt
  let drop := d.pos.ptHigh - d.pos.ptLow
  if pt ≤ d.pos.ptLow then { d with pos := { d.pos with ptLow := pt } }
  else if d.reg Reg.MODE = 0 ∧ (d.mantel.num : Int) * 1024 < drop * (d.mantel.den : Int) then
    { d.raise Ev.POS_PT_REVERSE 0xFF [.s 0 d.pos.ptLow] with pos := { d.pos with ptHigh := pt, ptLow := pt } }
  else if d.pos.ptHigh ≤ pt then { d with pos := { d.pos with ptHigh := pt, ptLow := pt } }
  else d

/-- R16: what PT does from here on is held against its value now. -/
def Device.ptMark (d : Device) : Device := { d with pos := { d.pos with ptHigh := d.pt, ptLow := d.pt } }

/-- R55, R56: one accepted count on a channel: C, the timeline's fraction, the estimators, the divided outputs and the
index distance. A count beyond the limit is not counted, and no source count of R72 either. -/
def Device.applyCount (d : Device) (ch : Nat) (dir0 : Int) : Device :=
  let dir := if d.regB (Reg.un Reg.DIR_INVERT ch) then -dir0 else dir0
  let x := d.posCh ch
  let x' := x.speedEdge (d.speedConf ch) d.now dir
  let d1 := (d.setPosCh ch x').setCount ch (x.c + dir)
  let d2 := if ch = 0 && !d.isMember then { d1 with pos := { d1.pos with f := 0, acc := 0, edgeNow := true } } else d1
  let d4 := [0, 1].foldl (fun (d : Device) (q : Nat) =>
    if (d.posCh ch).c ≠ x.c ∧ d.regN (Reg.un Reg.QOUT_SOURCE q) = ch + 1 then d.qoutCount q dir else d) d2
  let d5 := d4.indexMissing ch
  if ch = 0 && !d5.isMember then d5.ptTrack else d5

/-- R53: a quadrature error counts, and is reported when the last one lies at least 1 s back. -/
def Device.quadError (d : Device) (ch : Nat) : Device :=
  let x := d.posCh ch
  let d1 := (d.incReg (Reg.un Reg.QUAD_ERRORS ch)).setPosCh ch { x with quadAt := some d.now }
  let quiet := match x.quadAt with
    | none => true
    | some t => decide (cycS 1 ≤ d.now - t)
  if quiet then d1.raise Ev.POS_QUAD_ERROR ch [.u 0 (d1.regN (Reg.un Reg.QUAD_ERRORS ch))] else d1

/-- R52, R53: the levels of a channel's A and B, a and b, have stood for `held` samples: those that the filter accepts
are decoded. -/
def Device.posLevels (d : Device) (ch : Nat) (a b : Bool) (held : Nat) : Device :=
  let x := d.posCh ch
  let need := d.regN (Reg.un Reg.POS_FILTER_CYCLES ch) + 1
  let (a', aAt) := filterLevel need held d.now x.a a x.aAt
  let (b', bAt) := filterLevel need held d.now x.b b x.bAt
  let d1 := d.setPosCh ch { x with a := a', b := b', aAt := aAt, bAt := bAt }
  match decodeEdge (d.regN (Reg.un Reg.INC_MODE ch)) x.a x.b a' b' with
  | .nothing => d1
  | .quadError => d1.quadError ch
  | .count dir => d1.applyCount ch dir

/-- R66: one sample of the reference value r, taken in ENC cycle `at_` with C × 1,024 + KT = `pos`: it anchors where it
lies after the write that asked for an anchor, or gives REF_DEVIATION, the alarm, and the realignment where it lies after
the index that asked for it. -/
def Device.refSample (d : Device) (at_ : Nat) (r pos : Int) : Device :=
  match d.pos.anchor, d.pos.anchorDue with
  | some (ra, pa), false =>
    let refPu := pa + ((r - ra) * 1024 * d.reg Reg.REF_NUM).tdiv (d.reg Reg.REF_DEN)
    let dev := refPu - pos
    let alarm := d.reg Reg.REF_ALARM_PU
    let d1 := d.setReg Reg.REF_DEVIATION dev
    let overRun := decide (alarm ≠ 0 ∧ alarm < (dev.natAbs : Int))
    let d2 :=
      if overRun && !d.pos.refAlarm then
        { d1.raise Ev.POS_REF_ALARM 0xFF [.s 0 dev] with pos := { d1.pos with refAlarm := true } }
      else if decide (2 * (dev.natAbs : Int) ≤ alarm) then { d1 with pos := { d1.pos with refAlarm := false } }
      else d1
    if d2.pos.realign && decide (d.pos.realignAt < at_) then
      let d3 := { d2 with pos := { d2.pos with kt := d2.pos.kt + dev, realign := false } }
      (d3.incReg Reg.REF_REALIGN_COUNT).raise Ev.POS_REF_REALIGNED 0xFF [.s 0 dev]
    else d2
  | _, _ =>
    if d.pos.refAt < at_ then { d with pos := { d.pos with anchor := some (r, pos), anchorDue := false } } else d

/-- R66: with REF_SOURCE 1, POS1's count is sampled at every line event. -/
def Device.refLine (d : Device) : Device :=
  if d.reg Reg.REF_SOURCE = 1 then d.refSample d.now d.pos.p1.c (d.pos.p0.c * 1024 + d.pos.kt) else d

/-- R59, SPEED_STALL: no edge has been accepted for STALL_MS on a channel. -/
def Device.speedStall (d : Device) (ch : Nat) : Device :=
  let x := d.posCh ch
  if x.method == .stalled || decide (d.now < x.lastEdge + cycMs (d.regN (Reg.un Reg.STALL_MS ch))) then d
  else d.setPosCh ch x.stall

/-- R52: POSn_Z has risen and stood for `held` samples: its filter accepts the edge. Between two rising edges lies a
falling one, which the filter has to accept too. -/
def Device.indexAccepted (d : Device) (ch held : Nat) : Bool :=
  let need := d.regN (Reg.un Reg.POS_FILTER_CYCLES ch) + 1
  acceptLevel need held d.now ((d.posCh ch).zAt.map (fun t => t + need))

/-- R63 … R65: an accepted rising edge of POSn_Z on a channel. With INDEX_MODE 0 nothing is checked; the index still counts
as the last qualified one. -/
def Device.indexEdge (d : Device) (ch : Nat) : Device :=
  let x := { d.posCh ch with zAt := some d.now }
  let mode := d.reg (Reg.un Reg.INDEX_MODE ch)
  let qual := d.reg (Reg.un Reg.INDEX_QUAL ch) = 0 ∨ (x.a = true ∧ x.b = true)
  if d.reg (Reg.un Reg.INC_MODE ch) = 0 ∨ ¬ qual then d.setPosCh ch x
  else if mode = 0 then d.setPosCh ch { x with idxAt := some (d.indexP ch), missing := false }
  else
    let p := d.indexP ch
    let per := d.reg (Reg.un Reg.INDEX_PERIOD ch) * 1024
    let d0 := (d.incReg (Reg.un Reg.INDEX_COUNT ch)).setPosCh ch { x with idxAt := some p, missing := false, learn := false }
    if mode = 2 ∧ x.learn = true then
      let (ph, d1) := d0.wholeCounts (if per = 0 then p else p % per)
      (d1.setReg (Reg.un Reg.INDEX_PHASE ch) ph).setReg (Reg.un Reg.INDEX_STATE ch) 1
    else
      let raw := p - d.reg (Reg.un Reg.INDEX_PHASE ch) * 1024
      let dev := if per = 0 then raw else
        let m := raw % per
        if per ≤ 2 * m then m - per else m
      let (devC, d1) := d0.wholeCounts dev
      let d2 := d1.setReg (Reg.un Reg.LAST_DEVIATION ch) (clampI (-(2 ^ 31)) (2 ^ 31 - 1) devC)
      if (dev.natAbs : Int) ≤ d.reg (Reg.un Reg.INDEX_TOL ch) * 1024 then
        let d3 := d2.setReg (Reg.un Reg.INDEX_STATE ch) 1
        if dev = 0 then d3
        else
          let d4 :=
            if ch = 0 then { d3 with pos := { d3.pos with kt := d3.pos.kt - dev } }
            else d3.setCount 1 (d3.pos.p1.c - dev / 1024)
          d4.raise Ev.POS_INDEX_CORRECTED ch [.s 0 devC]
      else
        let d3 := d2.incReg (Reg.un Reg.OUT_OF_TOL_COUNT ch)
        if d.reg (Reg.un Reg.INDEX_STATE ch) = 2 then d3
        else (d3.enterSuspect ch).raise Ev.POS_INDEX_SUSPECT ch [.s 0 devC]

/-- INDEX: an edge that the filter does not accept changes nothing. -/
def Device.indexIn (d : Device) (ch held : Nat) : Device := if d.indexAccepted ch held then d.indexEdge ch else d

/-! ### Absolute word (R60 … R62) -/

/-- R61: the number of check bits. -/
def ssiCheckBits (check : Nat) : Nat :=
  if check = 1 ∨ check = 2 then 1 else if check = 3 then 6 else if check = 4 then 8 else 0

/-- A CRC of w bits over the low n bits of v, most significant first. -/
def crcMsb (w poly v : Nat) : Nat → Nat → Nat
  | 0, c => c
  | n + 1, c =>
    let top := (bit c (w - 1)) != (bit v n)
    let c1 := (2 * c) % 2 ^ w
    crcMsb w poly v n (if top then c1 ^^^ poly else c1)

/-- R61: the check bits that go with n bits of data and status. -/
def ssiCheckOk (check v n c : Nat) : Bool :=
  if check = 1 then (popCount n v + c) % 2 == 0
  else if check = 2 then (popCount n v + c) % 2 == 1
  else if check = 3 then (crcMsb 6 0x03 v n 0) ^^^ 0x3F == c
  else if check = 4 then crcMsb 8 0x07 v n 0 == c
  else true

/-- Gray code to binary over n bits. -/
def grayToBin : Nat → Nat → Nat
  | 0, v => v
  | n + 1, v => grayToBin n (v ^^^ (v >>> 2 ^ n))

/-- R60: half an SSI clock period in ENC cycles. -/
def Device.ssiHalf (d : Device) (ch : Nat) : Nat := ceilDivNat 200000 (d.regN (Reg.un Reg.CLOCK_KHZ ch))

/-- R60: the bits of a frame. -/
def Device.ssiBits (d : Device) (ch : Nat) : Nat :=
  d.regN (Reg.un Reg.LEAD_BITS ch) + d.regN (Reg.un Reg.DATA_BITS ch) + d.regN (Reg.un Reg.STATUS_BITS ch) +
    ssiCheckBits (d.regN (Reg.un Reg.CHECK ch))

/-- R61: an invalid or NOT_READY frame counts; the third in a row ends the reference. -/
def Device.ssiBad (d : Device) (ch : Nat) : Device :=
  let x := d.posCh ch
  let d1 := (d.incReg (Reg.un Reg.FRAME_ERRORS ch)).setPosCh ch
    { x with bad := x.bad + 1, wordOk := if x.bad + 1 < 3 then x.wordOk else false }
  if x.bad + 1 = 3 then d1.raise Ev.POS_SSI_LOST ch [.u 0 (d1.regN (Reg.un Reg.FRAME_ERRORS ch))] else d1

/-- R60 step 4: the delay after a falling edge at which a bit is sampled, in ENC cycles, at most a half period less 1. -/
def Device.ssiDelay (d : Device) (ch : Nat) : Nat :=
  Nat.min (d.regN (Reg.un Reg.SAMPLE_DELAY_CYCLES ch)) (d.ssiHalf ch - 1)

/-- R60: the level of POSn_SCK: it idles high, falls at a frame's first edge, and alternates every half period until the
frame's bits + 1 periods have passed. -/
def Device.ssiSck (d : Device) (ch : Nat) : Bool :=
  match (d.posCh ch).ssiRun with
  | none => true
  | some t0 =>
    let n := (d.now - t0) / d.ssiHalf ch
    decide (2 * (d.ssiBits ch + 1) ≤ n) || n % 2 == 1

/-- R60 steps 1 and 2: a frame starts if POSn_SDA is high and one is due; its sample instant is the first falling
edge. POSn_SCK puts out its clock, and bit j is sampled at falling edge j + 1 plus the delay. -/
def Device.ssiStart (d : Device) (ch : Nat) (sda : Bool) : Device :=
  let x := d.posCh ch
  if d.reg (Reg.un Reg.SSI_MODE ch) ≠ 1 ∨ x.ssiRun.isSome = true ∨ d.now < x.ssiNext then d
  else
    let next := d.now + cycUs (d.regN (Reg.un Reg.PERIOD_US ch))
    if sda then
      (d.setPosCh ch { x with ssiRun := some d.now, ssiNext := next, sampC := d.pos.p0.c, sampKt := d.pos.kt,
                              sampTb3 := d.time.tb3 }).send
        (.ssiClock ch d.now (d.ssiHalf ch) (d.ssiBits ch + 1)
          ((List.range (d.ssiBits ch)).map (fun j => d.now + 2 * (j + 1) * d.ssiHalf ch + d.ssiDelay ch)))
    else (d.setPosCh ch { x with ssiNext := next }).ssiBad ch

/-- R61, R62: the frame's bits have been received (most significant first, as one number). STATUS_LAST takes the status bits
of an invalid word too, and a written ABS_OFFSET shows in ABS_COUNT from the next valid word on (log entries 183 and 184). -/
def Device.ssiDone (d : Device) (ch : Nat) (word : Nat) : Device :=
  let x := d.posCh ch
  match x.ssiRun with
  | none => d
  | some t0 =>
    let half := d.ssiHalf ch
    if d.now < t0 + (d.ssiBits ch + 1) * 2 * half then d
    else
      let cb := ssiCheckBits (d.regN (Reg.un Reg.CHECK ch))
      let sb := d.regN (Reg.un Reg.STATUS_BITS ch)
      let db := d.regN (Reg.un Reg.DATA_BITS ch)
      let c := word % 2 ^ cb
      let v := word / 2 ^ cb % 2 ^ (sb + db)
      let st := v % 2 ^ sb
      let w0 := v / 2 ^ sb
      let done := d.now + cycUs (d.regN (Reg.un Reg.MONOFLOP_US ch))
      let x1 := { x with ssiRun := none, ssiDone := done, ssiNext := Nat.max x.ssiNext done }
      let d1 := (d.setPosCh ch x1).setRegN (Reg.un Reg.STATUS_LAST ch) st
      if !ssiCheckOk (d.regN (Reg.un Reg.CHECK ch)) v (sb + db) c ||
          (st &&& d.regN (Reg.un Reg.STATUS_ERROR_MASK ch)) != 0 then d1.ssiBad ch
      else
        let w := if d.regB (Reg.un Reg.GRAY ch) then grayToBin 6 w0 else w0
        let ext : Int := match x.wPrev with
          | none => (w : Int)
          | some wp => x.ext + toSigned db (w + 2 ^ db - wp)
        let sh := d.reg (Reg.un Reg.ABS_SHIFT ch)
        let shifted := if 0 ≤ sh then ext * (2 ^ sh.toNat : Nat) else ext.fdiv (2 ^ (-sh).toNat : Nat)
        let abs := shifted + d.reg (Reg.un Reg.ABS_OFFSET ch)
        let d2 := (d1.setPosCh ch { x1 with wPrev := some w, ext := ext, bad := 0, wordOk := true }).setReg
          (Reg.un Reg.ABS_COUNT ch) (toSigned 64 (ofSigned 64 abs))
        if d.reg Reg.REF_SOURCE = (ch : Int) + 2 then d2.refSample t0 abs (x.sampC * 1024 + x.sampKt) else d2

/-! ### Probes (R67, R68) -/

/-- The default record of a probe input. -/
def probe0 (_ : Nat) : ProbeIn := {}

/-- The stamp of n ENC cycles ago, from the 16-cycle history (R67). -/
def Device.stampAgo (d : Device) (n : Nat) : Stamp :=
  if n = 0 then d.stamp else d.pos.hist.getD (n - 1) d.stamp

/-- R67, R68: a probe's new level has stood for `held` samples: an edge that its filter accepts is latched with the stamp of
the first of them, windowed and kept. Answers the kept latch. Its STALLED and SUSPECT flags are those of the acceptance (log
entry 186). -/
def Device.probeEdge (d0 : Device) (n : Nat) (rising : Bool) (held : Nat) : Device × Option Latch :=
  let x0 := tget probe0 d0.pos.probes n
  let need := d0.regN (Reg.un Reg.PROBE_FILTER_CYCLES n) + 1
  if acceptLevel need held d0.now x0.atChg = false then (d0, none) else
  let d := { d0 with pos := { d0.pos with probes := tset probe0 d0.pos.probes n { x0 with atChg := some d0.now } } }
  let sense := d.reg (Reg.un Reg.PROBE_EDGE n)
  if !(sense = 3 ∨ (sense = 1 ∧ rising = true) ∨ (sense = 2 ∧ rising = false)) then (d, none)
  else
    let x := tget probe0 d.pos.probes n
    let st := d.stampAgo (Nat.min 16 (held - 1))
    let inWin := decide (d.reg (Reg.un Reg.WIN_START n) ≤ st.pt ∧ st.pt < d.reg (Reg.un Reg.WIN_END n))
    let locked := match x.pLast with
      | none => false
      | some p => decide (p ≤ st.pt ∧ st.pt < p + d.reg (Reg.un Reg.LOCKOUT_PU n))
    if !inWin || locked then (d.incReg (Reg.un Reg.REJECTED n), none)
    else
      let l : Latch := { seq := x.next, stamp := st, stalled := d.ptStalled,
                         suspect := d.reg Reg.INDEX_STATE == 2, rising := rising, input := n }
      let isFull := decide (16 ≤ x.fifo.length)
      let x' := { x with next := (x.next + 1) % 2 ^ 32, pLast := some st.pt,
                         fifo := if isFull then x.fifo else x.fifo ++ [l], full := isFull }
      let d1 := { d with pos := { d.pos with probes := tset probe0 d.pos.probes n x' } }
      if isFull then
        let d2 := d1.incReg (Reg.un Reg.OVERFLOWS n)
        (if x.full then d2 else d2.raise Ev.POS_PROBE_OVERFLOW n [.u 0 (d2.regN (Reg.un Reg.OVERFLOWS n))], some l)
      else (d1, some l)

/-- R68: frees every record at or before the sequence. -/
def Device.probeAck (d : Device) (n seq : Nat) : Device :=
  let x := tget probe0 d.pos.probes n
  let fifo := x.fifo.filter (fun l => !serialAtOrBefore 32 l.seq seq)
  let x' := { x with fifo := fifo, full := x.full && decide (16 ≤ fifo.length) }
  { d with pos := { d.pos with probes := tset probe0 d.pos.probes n x' } }

/-- R69: the 32 bytes of a latch. -/
def latchBytes (l : Latch) : List Nat :=
  let flags := l.input + (if l.rising then 8 else 0) + (if l.suspect then 16 else 0) + (if l.stalled then 32 else 0)
  leBytesI 8 l.stamp.pt ++ leBytes 8 l.stamp.glc ++ leBytes 8 l.stamp.tb3 ++ leBytes 2 l.stamp.frac ++ [flags, 0] ++
    leBytes 4 l.seq

/-! ### Compare outputs (R70, R71) -/

/-- The default record of a compare output. -/
def cmp0 (_ : Nat) : CmpOut := {}

/-- R70: arm a compare output with its entries as they stand; with CMP_MODE 0 it is IDLE (log entry 187). -/
def Device.cmpArm (d : Device) (n : Nat) : Device :=
  let mode := d.regN (Reg.un Reg.CMP_MODE n)
  let base := d.reg (Reg.un Reg.CMP_PT n)
  let per := d.reg (Reg.un Reg.CMP_PERIOD_PU n)
  let pt := d.pt
  let reps := d.regN (Reg.un Reg.CMP_REPEATS n)
  let x := tget cmp0 d.pos.cmps n
  let target := if mode = 2 ∧ base ≤ pt then base + ((pt - base).fdiv per + 1) * per else base
  let x' := { x with mode := mode, target := target, period := per, left := reps, endless := reps == 0,
                     width := ceilDivNat (d.regN (Reg.un Reg.CMP_WIDTH_NS n) * 2) 5 }
  let put (d : Device) (x : CmpOut) : Device := { d with pos := { d.pos with cmps := tset cmp0 d.pos.cmps n x } }
  if mode = 0 then (put d { x with mode := 0 }).setReg (Reg.un Reg.CMP_STATE n) 0
  else if mode = 1 ∧ base ≤ pt then
    ((put d { x with mode := 0 }).setReg (Reg.un Reg.CMP_STATE n) 3).raise Ev.POS_CMP_MISSED n [.s 0 pt]
  else (put d x').setReg (Reg.un Reg.CMP_STATE n) 1

/-- R71: disarm; a pulse in progress completes. -/
def Device.cmpDisarm (d : Device) (n : Nat) : Device := d.setReg (Reg.un Reg.CMP_STATE n) 0

/-- R70, R71: an armed target has been reached: the pulse starts 2 ENC cycles later, or a pulse that has not ended at the
ball is lengthened (log entry 135). -/
def Device.cmpFire (d : Device) (n : Nat) : Device :=
  let x := tget cmp0 d.pos.cmps n
  if d.reg (Reg.un Reg.CMP_STATE n) ≠ 1 ∨ d.pt < x.target then d
  else
    let at_ := d.now + 2
    let merged := match x.until_ with
      | none => false
      | some u => decide (d.now < u)
    let left := x.left - 1
    let done := x.mode = 1 ∨ (x.endless = false ∧ left = 0)
    let x' := { x with from_ := if merged then x.from_ else at_, until_ := some (at_ + x.width), left := left,
                       target := x.target + x.period }
    let d1 := { d with pos := { d.pos with cmps := tset cmp0 d.pos.cmps n x' } }
    let d2 := (d1.incReg (Reg.un Reg.CMP_FIRED n)).send (.pulse 1 n (at_ * 2500) (x.width * 2500) (d.regB (Reg.un Reg.CMP_POLARITY n)))
    let d3 := if merged then d2.incReg (Reg.un Reg.CMP_MERGED n) else d2
    if done then d3.setReg (Reg.un Reg.CMP_STATE n) 2 else d3

/-- R70: the pulse width expires. -/
def Device.cmpPulseEnd (d : Device) (n : Nat) : Device :=
  let x := tget cmp0 d.pos.cmps n
  match x.until_ with
  | none => d
  | some u =>
    if d.now < u then d
    else { d with pos := { d.pos with cmps := tset cmp0 d.pos.cmps n { x with until_ := none } } }

/-! ### Divided outputs (R72) -/

/-- R72: a queued step leaves, at least QOUT_MIN_NS after the previous one. An overrun episode ends with the step that
empties the queue (log entry 136). -/
def Device.qoutStep (d : Device) (q : Nat) : Device :=
  let x := tget qout0 d.pos.qouts q
  let due := match x.lastAt with
    | none => true
    | some t => decide (d.regN (Reg.un Reg.QOUT_MIN_NS q) * 2 ≤ (d.now - t) * 5)
  if x.queue = 0 ∨ due = false then d
  else
    let fwd := decide (0 < x.queue)
    let queue := if fwd then x.queue - 1 else x.queue + 1
    let phase := if fwd then (x.phase + 1) % 4 else (x.phase + 3) % 4
    let x' := { x with queue := queue, phase := phase, lastAt := some d.now, overRun := x.overRun && queue != 0 }
    let d1 := { d with pos := { d.pos with qouts := tset qout0 d.pos.qouts q x' } }
    d1.setReg (Reg.un Reg.QOUT_COUNT q) (d.reg (Reg.un Reg.QOUT_COUNT q) + (if fwd then 1 else -1))

/-- R72: a write of QOUT_SOURCE, QOUT_NUM or QOUT_DEN clears the accumulator and the queue. -/
def Device.qoutClear (d : Device) (q : Nat) : Device :=
  let x := tget qout0 d.pos.qouts q
  { d with pos := { d.pos with qouts := tset qout0 d.pos.qouts q { x with acc := 0, queue := 0, overRun := false } } }

/-! ### Keep-alive (R73, R74) -/

/-- R73: the glitch filter of the keep-alive counter, in ENC cycles. -/
def kaFilter : Nat := 40

/-- R73: the levels of POS0 A/B in NIGHT, which have stood for `held` ns: the changes that the 100 ns filter accepts are
counted in mode 1. The counts of each window of 1 ms give the rate that R367 draws by (log entry 206). -/
def Device.kaCount (d : Device) (a0 b0 : Bool) (held : Nat) : Device :=
  let k := d.pos.ka
  if !k.running then d
  else
    let (a, aAt) := filterLevel kaFilter (held * 2 / 5) d.now k.a a0 k.aAt
    let (b, bAt) := filterLevel kaFilter (held * 2 / 5) d.now k.b b0 k.bAt
    let k1 := { k with a := a, b := b, aAt := aAt, bAt := bAt }
    let k2 := match decodeEdge 1 k.a k.b a b with
      | .nothing => k1
      | .quadError => { k1 with bad := true }
      | .count dir =>
        let n := k.count + (if d.regB Reg.DIR_INVERT then -dir else dir)
        let k3 := if d.now < k.winAt + cycMs 1 then { k1 with winN := k.winN + 1 } else { k1 with winAt := d.now, winN := 1 }
        if n < -(2 ^ 31) ∨ 2 ^ 31 ≤ n then { k3 with bad := true } else { k3 with count := n }
    { d with pos := { d.pos with ka := k2 } }

/-- R73: the position state passes to the AON domain. -/
def Device.kaFreeze (d : Device) : Device :=
  { d with pos := { d.pos with ka :=
    { running := d.regB Reg.KA_ENABLE, count := 0, bad := false, a := d.pos.p0.a, b := d.pos.p0.b, winAt := d.now,
      cFrozen := d.pos.p0.c, kFrozen := d.pos.k, ktFrozen := d.pos.kt } } }

/-- R74: on exit from NIGHT the position state is restored; with KA_ENABLE 0 nothing was frozen. A LOST counter makes the
index state SUSPECT, and nothing else of R64 follows (log entry 138). -/
def Device.kaRestore (d : Device) : Device :=
  let k := d.pos.ka
  if k.running = false then d else
  let p0 := { d.pos.p0 with c := k.cFrozen, a := k.a, b := k.b }.stall
  let d1 := (({ d with pos := { d.pos with p0 := p0, k := k.ktFrozen, kt := k.ktFrozen, f := 0, acc := 0,
                                           ka := { k with running := false } } } : Device).setCount 0 (k.cFrozen + k.count)).ptMark
  let d2 := (d1.setReg Reg.KA_DELTA k.count).setReg Reg.INDEX_STATE 0
  if k.bad then
    ((d2.setReg Reg.KA_STATUS 2).setReg Reg.INDEX_STATE 2).raise Ev.POS_KA_LOST 0 [.s 0 k.count]
  else d2.setReg Reg.KA_STATUS 1

/-- R57: a counter reset of the position subsystem. -/
def Device.posReset (d : Device) : Device :=
  let lv (x : PosCh) : PosCh := { a := x.a, b := x.b }
  let d1 := ({ d with pos := { p0 := lv d.pos.p0, p1 := lv d.pos.p1, ka := d.pos.ka, ptRx := d.pos.ptRx } } : Device).ptMark
  (d1.setReg Reg.INDEX_STATE 0).setReg (Reg.un Reg.INDEX_STATE 1) 0

/-! ### The ENC cycle (R55) -/

/-- R55: the accumulated fraction's bound: 34 bits, and one count of f. On a member the next edge's value is not known before
its EDGE comes, and the timeline runs on until then (R320, R321; log entry 194). -/
def Device.accOf (d : Device) (acc : Nat) : Nat := if d.isMember then acc else Nat.min (2 ^ 34 - 1) acc

/-- R55, R320: the interpolated fraction of an accumulator, pu. -/
def Device.fracOf (d : Device) (acc : Nat) : Int :=
  if !d.regB Reg.INTERP_ENABLE then 0 else if d.isMember then (acc / 2 ^ 24 : Nat) else (Nat.min 1023 (acc / 2 ^ 24) : Nat)

/-- R55: the ENC cycle ends: the history of R67 takes its stamp, and C, f and K are those of the next cycle, in which no
edge has been accepted yet. K moves in the cycle after a line event. -/
def Device.posTick (d : Device) : Device :=
  let p := d.pos
  let v := d.ptV
  let moving := !d.ptHeld && !d.ptStalled && (decide (0 < v ∧ d.ptDir = 1) || decide (v < 0 ∧ d.ptDir = -1))
  let acc := if moving then d.accOf (p.acc + v.natAbs) else p.acc
  let f : Int := if moving || !d.regB Reg.INTERP_ENABLE then d.fracOf acc else p.f
  let step : Int := ((d.mantel.q / Nat.max 1 (d.regN Reg.CORR_SLEW_DIV) : Nat) : Int)
  let k := if p.lineNow then p.k + clampI (-step) step (p.kt - p.k) else p.k
  { d with pos := { p with acc := acc, f := f, k := k, edgeNow := false, lineNow := false,
                           hist := (d.stamp :: p.hist).take 16 } }

end Sys2Proof.Machine
end

