-- ==== Sys2Proof/Machine/HeadBase.lean ====
section
/-! DEFINITION. Head profiles (R105 … R107), which channels are enabled (R104), row geometry (R83, R84, R89), and the
value of an entry in force for a grid line (R38, R82, R155). -/
namespace Sys2Proof.Machine

/-! ### Values in force for a grid line -/

/-- The value that the newest staged or superseded record gives key k for grid line g, if any (R38, R155): a value
superseded at a line above g, else the sealed set's when it acts at or below g. A ring set counts from its sealing,
because lines are rendered before R39 confirms it (log entry 31). -/
def Device.lineVal (d : Device) (k g : Nat) : Option Val :=
  let older := d.dict.superseded.filter (fun p => p.1 == k && decide (g < p.2.1))
  match older with
  | p :: ps => some (ps.foldl (fun (best : Nat × Nat × Val) (x : Nat × Nat × Val) =>
      if x.2.1 < best.2.1 then x else best) p).2.2
  | [] =>
    match d.dict.sealed with
    | none => none
    | some s =>
      match s.glc with
      | none => none
      | some gc => if gc ≤ g then assoc s.items k else none

/-- R242: the value that the profile waiting for its page boundary gives key k there; an at-reset entry is stored. -/
def Device.profVal (d : Device) (k : Nat) : Option Val :=
  match d.dict.profileReq, findEntry k with
  | some _, some e => if e.takes = .atReset then none else assoc d.dict.profileItems k
  | _, _ => none

/-- The page-boundary value pending for grid line g: it acts at the first line of the next page to start (R9); a write
overrides the profile (R34). -/
def Device.pageVal (d : Device) (k g : Nat) : Option Val :=
  match d.mantel.bound.find? (fun b => decide (d.mantel.line < b.g0)) with
  | none => none
  | some b =>
    if b.g0 ≤ g then
      match d.dict.pageSet.reverse.find? (fun p => p.1 == k) with
      | some p => some p.2
      | none => d.profVal k
    else none

/-- A numeric entry in force for grid line g. -/
def Device.regAt (d : Device) (k g : Nat) : Int :=
  match d.lineVal k g with
  | some (.n v) => v
  | _ =>
    match d.pageVal k g with
    | some (.n v) => v
    | _ => d.reg k

/-- A DOMAIN entry in force for grid line g. -/
def Device.blobAt (d : Device) (k g : Nat) : Option (List Nat) :=
  match d.lineVal k g with
  | some (.b l) => some l
  | _ =>
    match d.pageVal k g with
    | some (.b l) => some l
    | _ => d.blob? k

/-! ### Head profile fields (R105) -/

def hpNozzles (p : List Nat) : Nat := fieldAt p 0 2
def hpRows (p : List Nat) : Nat := fieldAt p 2 1
def hpDepth (p : List Nat) : Nat := fieldAt p 3 1
def hpLayout (p : List Nat) : Nat := fieldAt p 4 1
def hpOrder (p : List Nat) : Nat := fieldAt p 5 1
def hpFlags (p : List Nat) : Nat := fieldAt p 6 1
def hpSubs (p : List Nat) : Nat := fieldAt p 7 1
def hpSubMap (p : List Nat) : Nat := fieldAt p 8 2
def hpMinPeriod (p : List Nat) : Nat := fieldAt p 12 4
def hpMinSub (p : List Nat) : Nat := fieldAt p 16 2
def hpLatWidth (p : List Nat) : Nat := fieldAt p 18 2
def hpLatToFire (p : List Nat) : Nat := fieldAt p 20 2
def hpFireWidth (p : List Nat) : Nat := fieldAt p 22 2
def hpFireToLat (p : List Nat) : Nat := fieldAt p 24 2
def hpLatToShift (p : List Nat) : Nat := fieldAt p 26 2
def hpShiftToLat (p : List Nat) : Nat := fieldAt p 28 2
def hpSclk (p : List Nat) : Nat := fieldAt p 30 2
def hpDropMap (p : List Nat) (i : Nat) : Nat := fieldAt p (32 + i) 1
def hpRowOff (p : List Nat) (j : Nat) : Int := fieldAtI p (40 + 4 * j) 4
def hpRowCross (p : List Nat) (j : Nat) : Int := fieldAtI p (72 + 4 * j) 4
def hpPitch (p : List Nat) : Nat := fieldAt p 104 4
def hpSbBase (p : List Nat) : Nat := fieldAt p 108 1
def hpMemBase (p : List Nat) : Nat := fieldAt p 109 1
def hpTempReg (p : List Nat) : Nat := fieldAt p 110 1
def hpTempShift (p : List Nat) : Nat := fieldAt p 111 1
def hpTempFrac (p : List Nat) : Nat := fieldAt p 112 1
def hpSbRate (p : List Nat) : Nat := fieldAt p 113 1
def hpMemBytes (p : List Nat) : Nat := fieldAt p 114 2
def hpMemPage (p : List Nat) : Nat := fieldAt p 116 1
def hpMemWriteMs (p : List Nat) : Nat := fieldAt p 117 1
def hpTempWarn (p : List Nat) : Int := fieldAtI p 118 2
def hpTempLimit (p : List Nat) : Int := fieldAtI p 120 2

/-- R104: the line size in bytes. -/
def hpLineBytes (p : List Nat) : Nat := 8 * ceilDivNat (hpNozzles p * hpDepth p) 64

/-- The row of a nozzle (R105 ROW_LAYOUT). -/
def hpRowOf (p : List Nat) (n : Nat) : Nat :=
  if hpLayout p = 0 then n % Nat.max 1 (hpRows p) else n / Nat.max 1 (hpNozzles p / Nat.max 1 (hpRows p))

/-- The index of a nozzle within its row. -/
def hpRowIdx (p : List Nat) (n : Nat) : Nat :=
  if hpLayout p = 0 then n / Nat.max 1 (hpRows p) else n % Nat.max 1 (hpNozzles p / Nat.max 1 (hpRows p))

/-- The sub-strobe of a row. -/
def hpSubOf (p : List Nat) (j : Nat) : Nat := field (hpSubMap p) (2 * j + 1) (2 * j)

/-- R107: the nozzles of a lane in ascending order, before SHIFT_FLAGS[1]. -/
def hpLane (p : List Nat) (lane : Nat) : List Nat :=
  let all := List.range (hpNozzles p)
  if hpOrder p = 0 then
    if lane = 0 then all.take (hpNozzles p / 2) else all.drop (hpNozzles p / 2)
  else if hpOrder p = 1 then
    (((List.range (hpRows p)).filter (fun j => j % 2 == lane)).map (fun j => all.filter (fun n => hpRowOf p n == j))).flatten
  else all.filter (fun n => n % 2 == lane)

/-- R107: the shift takes this many SCLK edges. -/
def hpEdges (p : List Nat) : Nat :=
  Nat.max ((hpLane p 0).length * hpDepth p) ((hpLane p 1).length * hpDepth p)

/-- R107: the number of nozzles of the longer lane times BIT_DEPTH, without listing them. -/
def hpEdgesN (p : List Nat) : Nat :=
  let n := hpNozzles p
  let perRow := n / Nat.max 1 (hpRows p)
  let l0 := if hpOrder p = 1 then perRow * ((hpRows p + 1) / 2) else if hpOrder p = 0 then n / 2 else (n + 1) / 2
  Nat.max l0 (n - l0) * hpDepth p

/-- R107: the shift time in ps, rounded up. -/
def hpShiftPs (p : List Nat) : Nat := ceilDivNat (hpEdgesN p * 1000000) (2 * Nat.max 1 (hpSclk p))

/-- R107: the bits of one code, in the order shifted. -/
def codeBits (depth : Nat) (lsbFirst : Bool) (c : Nat) : List Bool :=
  let l := (List.range depth).map (bit c)
  if lsbFirst then l else l.reverse

/-- R107: the bits a lane shifts, padded with leading zeros to the longer lane. -/
def laneBits (p : List Nat) (lane : Nat) (codes : List Nat) : List Bool :=
  let order := if bit (hpFlags p) 1 then (hpLane p lane).reverse else hpLane p lane
  let lsb := bit (hpFlags p) 0
  let bits :=
    if bit (hpFlags p) 2 then
      let planes := if lsb then List.range (hpDepth p) else (List.range (hpDepth p)).reverse
      (planes.map (fun b => order.map (fun n => bit (codes.getD n 0) b))).flatten
    else (order.map (fun n => codeBits (hpDepth p) lsb (codes.getD n 0))).flatten
  List.replicate (hpEdges p - bits.length) false ++ bits

/-- R106: the profile's checks, in their order: CHECK, then RESERVED, then RANGE. -/
def hpVerify (p : List Nat) : Status :=
  if crc32c (p.take 124) != fieldAt p 124 4 then .check
  else if fieldAt p 10 2 != 0 || fieldAt p 122 2 != 0 || (hpFlags p) / 8 != 0 then .reserved
  else
    let inR (v lo hi : Nat) : Bool := decide (lo ≤ v ∧ v ≤ hi)
    let rows := List.range (hpRows p)
    let okFields :=
      inR (hpNozzles p) 1 4096 && inR (hpRows p) 1 8 && inR (hpDepth p) 1 3 && inR (hpLayout p) 0 1 &&
      inR (hpOrder p) 0 2 && inR (hpSubs p) 1 4 && inR (hpMinPeriod p) 2000 10000000 &&
      inR (hpLatWidth p) 10 1000 && inR (hpLatToFire p) 20 10000 && inR (hpFireWidth p) 10 20000 &&
      inR (hpFireToLat p) 0 10000 && inR (hpLatToShift p) 10 10000 && inR (hpShiftToLat p) 5 10000 &&
      inR (hpSclk p) 50 300 && inR (hpSbBase p) 0 0x78 && inR (hpMemBase p) 0 0x78 && inR (hpTempShift p) 0 15 &&
      inR (hpTempFrac p) 0 8 && inR (hpSbRate p) 0 1 && inR (hpMemBytes p) 128 8192 && inR (hpMemPage p) 1 128 &&
      inR (hpMemWriteMs p) 1 50
    let okRest :=
      decide (hpLineBytes p ≤ 1536) && hpNozzles p % Nat.max 1 (hpRows p) == 0 && hpDropMap p 0 == 0 &&
      (List.range 8).all (fun i => decide (hpDropMap p i < 2 ^ hpDepth p)) &&
      rows.all (fun j => decide (hpSubOf p j < hpSubs p)) &&
      !(hpOrder p == 1 && hpRows p % 2 == 1) &&
      decide (hpShiftPs p + (hpLatWidth p + hpLatToShift p + hpShiftToLat p) * 1000 ≤ hpMinPeriod p * 1000) &&
      hpRowOff p 0 == 0
    if okFields && okRest then .ok else .range

/-! ### The Foundation shadow -/

/-- A field of the Foundation shadow. -/
def Device.fuse (d : Device) (off n : Nat) : Nat := fieldAt d.shadow off n

/-- A signed field of the Foundation shadow. -/
def Device.fuseI (d : Device) (off n : Nat) : Int := fieldAtI d.shadow off n

/-! ### Which channels work -/

/-- The profile in force of a channel's group. -/
def Device.prof (d : Device) (c : Nat) : List Nat := (d.group (c / 8)).prof

/-- HG_STATE of a group. -/
def Device.hgState (d : Device) (k : Nat) : Int := d.reg (Reg.HG_STATE + k)

/-- R104: the channel is not disabled by its profile's line size. -/
def Device.fifoUsable (d : Device) (c : Nat) : Bool :=
  !(decide (768 < hpLineBytes (d.prof c)) && c % 2 == 1)

/-- R95, R104: CH_ENABLE is set, R104 does not disable the channel and its group is ON. -/
def Device.chanOn (d : Device) (c : Nat) : Bool :=
  d.regB (Reg.CH_ENABLE + c) && d.fifoUsable c && d.hgState (c / 8) == 4

/-- R123: the channel is PRESENT. -/
def Device.present (d : Device) (c : Nat) : Bool := d.reg (Reg.PRESENCE + c) == 6

/-- R95: an enabled channel: ON, and its group's FIRE_ENABLE bit is set. -/
def Device.fireEnabled (d : Device) (c : Nat) : Bool :=
  d.chanOn c && bit (d.regN Reg.FIRE_ENABLE) (c / 8)

/-- All channels. -/
def allChans : List Nat := List.range 192

/-- The channels of a group. -/
def groupChans (k : Nat) : List Nat := (List.range 8).map (fun i => 8 * k + i)

/-! ### Row geometry (R83) -/

/-- R83: a row's offset in pu. -/
def Device.rowOffsetPu (d : Device) (p : List Nat) (j : Nat) : Int :=
  roundDiv (hpRowOff p j * 1024 * d.reg Reg.COUNT_NM_DEN) (d.reg Reg.COUNT_NM_NUM)

/-- R83: the row shift s_j in lines for an offset of o pu. -/
def Mantel.rowShift (m : Mantel) (o : Int) : Int :=
  (2 * o * m.den + (m.num : Int) * 1024).fdiv (2 * (m.num : Int) * 1024)

/-- R83: the remainder φ_j. -/
def Mantel.rowFrac (m : Mantel) (o : Int) : Int := o - (m.rowShift o * (m.num : Int) * 1024).fdiv m.den

/-- The offset a row acts with: a reverse pass meets the rows in the opposite order (R89; log entry 11). -/
def Device.rowOff (d : Device) (p : List Nat) (rev : Bool) (j : Nat) : Int :=
  if rev then -(d.rowOffsetPu p j) else d.rowOffsetPu p j

/-- The shift of row j of channel c in the present pass direction. -/
def Device.shiftOf (d : Device) (c j : Nat) : Int := d.mantel.rowShift (d.rowOff (d.prof c) d.mantel.rev j)

/-- All row shifts of a channel. -/
def Device.shifts (d : Device) (c : Nat) : List Int := (List.range (hpRows (d.prof c))).map (d.shiftOf c)

/-- The largest of a list of integers, `b` of none. -/
def maxI (b : Int) (l : List Int) : Int := l.foldl (fun m x => if m < x then x else m) b

/-- The smallest of a list of integers, `b` of none. -/
def minI (b : Int) (l : List Int) : Int := l.foldl (fun m x => if x < m then x else m) b

/-- s_max of a channel (at least 0). -/
def Device.sMax (d : Device) (c : Nat) : Int := maxI 0 (d.shifts c)

/-- s_min of a channel (at most 0: row 0 has shift 0). -/
def Device.sMin (d : Device) (c : Nat) : Int := minI 0 (d.shifts c)

/-- The largest row shift of any enabled channel. -/
def Device.sMaxAll (d : Device) : Int :=
  maxI 0 ((allChans.filter (fun c => d.chanOn c)).map (fun c => d.sMax c))

/-- The largest row shift of any channel enabled in FIRE_ENABLE (R80). -/
def Device.sMaxFire (d : Device) : Int :=
  maxI 0 ((allChans.filter (fun c => d.fireEnabled c)).map (fun c => d.sMax c))

/-- R78: a changed pitch acts at line k, which keeps its boundary: on the segment on which k lies; origins that lie ahead
keep their place and take the new pitch. Answers the segments, newest first. -/
def pitchSegs (k : Int) (num den : Nat) (g : GridSeg) : List GridSeg → List GridSeg
  | [] => [{ go := k, po := g.boundary k, num := num, den := den }]
  | o :: os =>
    if k < g.go then { g with num := num, den := den } :: pitchSegs k num den o os
    else [{ go := k, po := g.boundary k, num := num, den := den }]

/-- The Mantel with its grid segments. -/
def Mantel.withSegs (m : Mantel) : List GridSeg → Mantel
  | [] => m
  | g :: os => { m with old := os, go := g.go, po := g.po, num := g.num, den := g.den }

/-- R78: a changed pitch acts at line `g`. -/
def Mantel.setPitch (m : Mantel) (g : Nat) (num den : Nat) : Mantel :=
  m.withSegs (pitchSegs (m.gridLine g) num den m.seg m.old)

/-- The grid as it will stand for slot h: with a pitch that the sealed set brings between the present line and h. -/
def Device.gridFor (d : Device) (h : Nat) : Mantel :=
  match d.dict.sealed with
  | none => d.mantel
  | some s =>
    match s.glc with
    | none => d.mantel
    | some gc =>
      if d.mantel.line < gc ∧ gc < h ∧ d.isMember = false then
        match assoc s.items Reg.LINE_NUM, assoc s.items Reg.LINE_DEN with
        | some (.n a), some (.n b) => d.mantel.setPitch gc a.toNat b.toNat
        | some (.n a), _ => d.mantel.setPitch gc a.toNat d.mantel.den
        | _, some (.n b) => d.mantel.setPitch gc d.mantel.num b.toNat
        | _, _ => d.mantel
      else d.mantel

/-- R84: the sub-strobes of a channel at slot h with their offsets Φ_p, in ascending order, by the entries in force for the
slot (R82); a channel that is not phased has the one sub-strobe 0 at offset 0. -/
def Device.subOffsets (d : Device) (c : Nat) (rev : Bool) (h : Nat) : List (Nat × Int) :=
  let p := d.prof c
  if d.regAt (Reg.PHASE_MODE + c) h = 0 then [(0, 0)]
  else
    let off (j : Nat) : Int :=
      let o := roundDiv (hpRowOff p j * 1024 * d.regAt Reg.COUNT_NM_DEN h) (d.regAt Reg.COUNT_NM_NUM h)
      if rev then -o else o
    let m := d.gridFor h
    let subs := (List.range (hpSubs p)).filterMap (fun sb =>
      let rows := (List.range (hpRows p)).filter (fun j => hpSubOf p j == sb)
      if rows.isEmpty then none
      else some (sb, roundDiv (sumI (rows.map (fun j => m.rowFrac (off j)))) rows.length))
    subs.foldl (fun (acc : List (Nat × Int)) (x : Nat × Int) =>
      (acc.filter (fun y => decide (y.2 ≤ x.2))) ++ [x] ++ (acc.filter (fun y => !decide (y.2 ≤ x.2)))) []

/-- R101: the 16 bytes of ROW_GEOMETRY for row j of channel c. -/
def Device.rowGeometry (d : Device) (c j : Nat) : List Nat :=
  let p := d.prof c
  if hpRows p ≤ j then List.replicate 16 0
  else
    let o := d.rowOffsetPu p j
    let m := d.mantel
    leBytesI 2 (m.rowShift o) ++ leBytesI 2 (m.rowShift (-o)) ++ [hpSubOf p j, 0, 0, 0] ++
      leBytesI 4 (m.rowFrac o) ++ leBytesI 4 (m.rowFrac (-o))

end Sys2Proof.Machine
end

