-- ==== Sys2Proof/Machine/PantryBase.lean ====
section
/-! DEFINITION. The Pantry as its writers and readers see it: the address map (R330, R333), the check fields and what a
sector decodes as (R343, R344), and the write queues that every writer waits for (R335 … R338). -/
namespace Sys2Proof.Machine

/-- At most one event of a kind per second. -/
def oncePerSecond (now : Nat) (t : Option Nat) : Bool :=
  match t with
  | none => true
  | some t => decide (cycS 1 ≤ now - t)

/-- Default records. -/
def pch0 (_ : Nat) : PCh := {}
def bank0 (_ : Nat) : Bank := {}

/-- Channel c of the Pantry. -/
def Device.pch (d : Device) (c : Nat) : PCh := tget pch0 d.pantry.chs c
def Device.setPch (d : Device) (c : Nat) (x : PCh) : Device :=
  { d with pantry := { d.pantry with chs := tset pch0 d.pantry.chs c x } }

/-- A bank by its number: channel × 64 + rank × 32 + bank. -/
def Device.bank (d : Device) (b : Nat) : Bank := tget bank0 d.pantry.banks b
def Device.setBank (d : Device) (b : Nat) (x : Bank) : Device :=
  { d with pantry := { d.pantry with banks := tset bank0 d.pantry.banks b x } }

/-! ### The address map (R330, R333) -/

/-- R330: the capacity of the configuration in bytes: four channels of two x16 channels, each of the density. -/
def pantryFitted (density ranks : Nat) : Nat := 8 * density * ranks * 2 ^ 27

/-- R333: data bytes per span. -/
def Device.spanBytes (d : Device) : Nat := if d.pantry.ecc then 480 else 512

/-- R333: the span index of an address. -/
def Device.spanOf (d : Device) (a : Nat) : Nat := a / d.spanBytes

/-- R333: the width of the row address: the span index has 9 + x bits per rank. -/
def Device.rowBits (d : Device) : Nat :=
  Nat.log2 (pantryFitted (d.regN Reg.DEVICE_DENSITY_GBIT) 1 / 512) - 9

/-- R333: channel, bank number and row of a span. -/
def Device.place (d : Device) (i : Nat) : Nat × Nat × Nat :=
  let ch := field i 1 0 ^^^ field i 11 10
  let bank := field i 8 5 ^^^ field i 15 12
  let x := d.rowBits
  let row := field i (x + 8) 9
  let rank := if d.pantry.ranks = 2 then field i (x + 9) (x + 9) else 0
  (ch, ch * 64 + rank * 32 + bank, row)

/-- R333: the span's place within its 4 KiB row. -/
def spanInRow (i : Nat) : Nat := field i 4 2

/-! ### Check fields (R343, R344) -/

/-- The sectors that a range of bytes touches. -/
def sectorsOf (a n : Nat) : List Nat :=
  if n = 0 then [] else (List.range ((a + n - 1) / 32 - a / 32 + 1)).map (fun i => a / 32 + i)

/-- R343: a write of n bytes at a covers sector s whole. -/
def coversSector (a n s : Nat) : Bool := decide (a ≤ 32 * s ∧ 32 * s + 32 ≤ a + n)

/-- The bits of sector s that the DRAM holds inverted: 0 … 255 its data, 256 … 265 CODE, 266 … 271 POISON. -/
def Device.flipsOf (d : Device) (s : Nat) : List Nat := (assoc d.pantry.flips s).getD []

/-- The bits of a list that toggle another. -/
def toggleBits (l bits : List Nat) : List Nat :=
  bits.foldl (fun l b => if l.contains b then l.filter (fun x => x != b) else l ++ [b]) l

/-- The sector's bits come right: it is written, or corrected. -/
def Device.mendSector (d : Device) (s : Nat) : Device :=
  { d with pantry := { d.pantry with flips := d.pantry.flips.filter (fun e => e.1 != s) } }

/-- The DRAM inverts bits of sector s. -/
def Device.hitSector (d : Device) (s : Nat) (bits : List Nat) : Device :=
  let l := toggleBits (d.flipsOf s) bits
  let d1 := d.mendSector s
  if l.isEmpty then d1 else { d1 with pantry := { d1.pantry with flips := d1.pantry.flips ++ [(s, l)] } }

/-- R343: POISON of sector s as the DRAM holds it. -/
def Device.poisonField (d : Device) (s : Nat) : Nat :=
  ((d.flipsOf s).filter (fun b => decide (266 ≤ b))).foldl (fun w b => w ^^^ 2 ^ (b - 266))
    (if d.pantry.poison.contains s then 63 else 0)

/-- R343: the check field of sector s: POISON, and CODE over its data and its address bits [34:5]. -/
def Device.checkField (m : List Host.Cell) (d : Device) (s : Nat) : Nat :=
  ((d.flipsOf s).filter (fun b => decide (256 ≤ b ∧ b < 266))).foldl (fun w b => w ^^^ 2 ^ (b - 256))
    (d.poisonField s * 2 ^ 10 + (Config.eccCode (mread m (32 * s) 32) (field (32 * s) 34 5)).toNat)

/-- R343: sector 15 of span i. -/
def Device.spanChecks (m : List Host.Cell) (d : Device) (i : Nat) : List Nat :=
  ((List.range 15).flatMap (fun s => leBytes 2 (d.checkField m (15 * i + s)))) ++ [0, 0]

/-- What a sector decodes as. -/
inductive SectorSt where
  | good | single | bad
deriving DecidableEq, Repr

/-- R343, R344: what sector s decodes as: any POISON but 000000b is poisoned or uncorrectable; a single-bit error is
corrected, two are uncorrectable, and what more come to the code does not say (log entry 200). -/
def Device.sectorState (d : Device) (s : Nat) : SectorSt :=
  if d.poisonField s ≠ 0 then .bad
  else
    match d.flipsOf s with
    | [] => .good
    | [_] => .single
    | [_, _] => .bad
    | l => if Config.eccMany l = 0 then .good else if Config.eccMany l = 1 then .single else .bad

/-- R344: a read of the range meets a sector that decodes as bad. -/
def Device.rangeBad (d : Device) (a n : Nat) : Bool :=
  d.pantry.ecc && !(d.pantry.poison.isEmpty && d.pantry.flips.isEmpty) &&
    (sectorsOf a n).any (fun s => d.sectorState s == .bad)

/-- The channel of a sector. -/
def Device.sectorCh (d : Device) (s : Nat) : Nat := (d.place (d.spanOf (32 * s))).1

/-- R344: a corrected bit. -/
def Device.eccFixed (d : Device) (s : Nat) : Device :=
  let c := d.sectorCh s
  let d1 := (d.mendSector s).incReg Reg.ECC_CORRECTED
  let x := d1.pch c
  if oncePerSecond d.now x.told then
    (d1.setPch c { x with told := some d.now }).raise Ev.PANTRY_ECC_CORRECTED c [.u 0 (d1.regN Reg.ECC_CORRECTED)]
  else d1

/-- R344: an uncorrectable or poisoned sector. -/
def Device.eccBad (d : Device) (s : Nat) : Device :=
  ((d.incReg Reg.ECC_UNCORRECTED).setRegN Reg.ECC_LAST_ADDR (32 * s)).raise Ev.PANTRY_ECC_UNCORRECTED (d.sectorCh s)
    [.raw 6 (32 * s % 2 ^ 48)]

/-- R343, R344: sector s is read; `wrong` lists those that this access takes from another location. -/
def Device.eccSector (d : Device) (wrong : List Nat) (s : Nat) : Device :=
  if wrong.contains s then d.eccBad s
  else
    match d.sectorState s with
    | .good => d
    | .single => d.eccFixed s
    | .bad => d.eccBad s

/-- R344: the sectors of a range of bytes are read. -/
def Device.eccRead (d : Device) (a n : Nat) (wrong : List Nat) : Device :=
  if d.pantry.ecc then (sectorsOf a n).foldl (fun (d : Device) s => d.eccSector wrong s) d else d

/-- R343: one sector is written: whole, it becomes valid; in part, it is read and merged, and a merge into a bad one writes
POISON. -/
def Device.eccMerge (d : Device) (wrong : List Nat) (a n s : Nat) : Device :=
  if coversSector a n s then
    let d1 := d.mendSector s
    { d1 with pantry := { d1.pantry with poison := d1.pantry.poison.filter (fun x => x != s) } }
  else if wrong.contains s || d.sectorState s == .bad then
    let d1 := (d.eccSector wrong s).mendSector s
    if d1.pantry.poison.contains s then d1 else { d1 with pantry := { d1.pantry with poison := d1.pantry.poison ++ [s] } }
  else d.eccSector wrong s

/-- R343: n bytes at a are written. -/
def Device.eccWrite (d : Device) (a n : Nat) (wrong : List Nat) : Device :=
  if d.pantry.ecc then (sectorsOf a n).foldl (fun (d : Device) s => d.eccMerge wrong a n s) d else d

/-- R338, R343: what a queued write of n bytes at a covers whole reads as written from now on. -/
def Device.eccQueued (d : Device) (a n : Nat) : Device :=
  if d.pantry.ecc then
    ((sectorsOf a n).filter (coversSector a n)).foldl (fun (d : Device) s => d.eccMerge [] a n s) d
  else d

/-! ### Transactions and the write queues (R335 … R338) -/

/-- The bytes of a transaction. -/
def txnLen (t : PantryReq) : Nat := if t.write then t.data.length else t.len

/-- The channel of a transaction, its bank and its row (R333). -/
def Device.txnPlace (d : Device) (t : PantryReq) : Nat × Nat × Nat := d.place (d.spanOf t.addr)

/-- The bytes of transaction t all lie in those of u. -/
def txnWithin (t u : PantryReq) : Bool :=
  decide (u.addr ≤ t.addr ∧ t.addr + txnLen t ≤ u.addr + txnLen u)

/-- The bytes of two transactions meet. -/
def txnMeets (t u : PantryReq) : Bool :=
  decide (u.addr < t.addr + txnLen t ∧ t.addr < u.addr + txnLen u)

/-- R338: two queued writes that meet as one: the bytes of the later, t, stand. -/
def txnUnion (u t : PantryReq) : PantryReq :=
  let lo := Nat.min u.addr t.addr
  let hi := Nat.max (u.addr + txnLen u) (t.addr + txnLen t)
  { t with
    addr := lo
    data := (List.range (hi - lo)).map (fun i =>
      let a := lo + i
      if t.addr ≤ a ∧ a < t.addr + txnLen t then t.data.getD (a - t.addr) 0 else u.data.getD (a - u.addr) 0) }

/-- R338: what stays of a queued write u beside a later one that meets it and with which it makes more than 256 bytes. -/
def txnRest (u t : PantryReq) : PantryReq :=
  if u.addr < t.addr then { u with data := u.data.take (t.addr - u.addr) }
  else { u with addr := t.addr + txnLen t, data := u.data.drop (t.addr + txnLen t - u.addr) }

/-- R338: a write enters the queue; a queued write to bytes that it writes is merged with it, and the later data stands. -/
def wqAdd : List PantryReq → PantryReq → List PantryReq
  | [], t => [t]
  | u :: q, t =>
    if txnMeets t u = false then u :: wqAdd q t
    else if (txnUnion u t).data.length ≤ 256 then wqAdd q (txnUnion u t)
    else txnRest u t :: wqAdd q t

/-- R335: how many transactions of a channel are in flight at most. -/
def inFlight : Nat := 16

/-- R361: a transaction of a Workshop engine. -/
def isShopTxn (t : PantryReq) : Bool := t.who == 2 && decide (12 ≤ t.unit)

/-- R361: the Workshop's limit admits transaction t now. -/
def Device.shopMay (d : Device) (t : PantryReq) : Bool := !isShopTxn t || decide (d.pantry.wsAt ≤ d.now)

/-- R361: a transaction of the Workshop goes: the next one waits as long as its bytes last at WORKSHOP_PANTRY_MBPS. -/
def Device.shopWent (d : Device) (t : PantryReq) : Device :=
  if isShopTxn t then
    { d with pantry := { d.pantry with
        wsAt := d.now + ceilDivNat (txnLen t * 400) (Nat.max 1 (d.regN Reg.WORKSHOP_PANTRY_MBPS)) } }
  else d

/-- R337: the writes in flight of channel c enter its write queue as far as it has space; the others wait. -/
def Device.takeWrites (c : Nat) : Nat → Device → Device
  | 0, d => d
  | n + 1, d =>
    let x := d.pch c
    match (x.txns.take inFlight).find? (fun t => t.write && d.shopMay t) with
    | some t =>
      if 64 ≤ x.wq.length then d
      else Device.takeWrites c n ((d.setPch c { x with txns := x.txns.erase t, wq := wqAdd x.wq t }).shopWent t)
    | none => d

/-- A transaction waits at its channel, behind the others. -/
def Device.txnWaits (d : Device) (t : PantryReq) : Device :=
  let c := (d.txnPlace t).1
  d.setPch c { d.pch c with txns := (d.pch c).txns ++ [t] }

/-! ### The Porch as a writer (R337) -/

/-- R128: the store address of a stream offset. -/
def Stream.addr (x : Stream) (o : Nat) : Nat := x.base + o % Nat.max 1 x.size

/-- R335: bytes that stream s writes from an offset on, as transactions: within one span, the window and 256 bytes, cut at
sectors; the first argument bounds their number. -/
def Stream.writes (x : Stream) (span s : Nat) : Nat → Nat → List Nat → List PantryReq
  | 0, _, _ => []
  | _, _, [] => []
  | k + 1, o, b :: bs =>
    let a := x.addr o
    let n := Nat.min (256 - a % 32) (Nat.min (span - a % span) (Nat.max 1 x.size - o % Nat.max 1 x.size))
    { write := true, who := 4, unit := s, off := o, addr := a, data := (b :: bs).take n } ::
      Stream.writes x span s k (o + n) ((b :: bs).drop n)

/-- R337: the Porch writes bytes of stream s from an offset on: each transaction takes its place in a write queue, or waits
for one. -/
def Device.porchWrite (d : Device) (x : Stream) (s o : Nat) (bs : List Nat) : Device :=
  if d.reg Reg.PANTRY_STATE ≠ 3 then d
  else
    let d1 := (x.writes d.spanBytes s bs.length o bs).foldl (fun (d : Device) t =>
      (d.eccQueued t.addr (txnLen t)).txnWaits t) d
    [0, 1, 2, 3].foldl (fun (d : Device) c => Device.takeWrites c inFlight d) d1

/-- The writes of the Porch that wait for a write queue. -/
def Device.porchWaits (d : Device) : List PantryReq :=
  ([0, 1, 2, 3].flatMap (fun c => (d.pch c).txns)).filter (fun t => t.write && t.who == 4)

/-- R337: how far the bytes of stream s from its start on have reached the Pantry: up to the first that waits. -/
def Device.landed (d : Device) (s upTo : Nat) : Nat :=
  minN upTo (upTo :: (d.porchWaits.filter (fun t => t.unit == s)).map (fun t => t.off))

end Sys2Proof.Machine
end

