-- ==== Sys2Proof/Machine/Qsc.lean ====
section
/-! DEFINITION. The QSC codec (R142 … R149): headers, the CODED algorithm in both directions, the outcomes of a bad
block, a stripe decoder that releases one line at a time, the ingest check of one block, and the compressor. -/
namespace Sys2Proof.Machine

/-- R142: CRC-8 over bytes, most significant bit first. -/
def crc8 (l : List Nat) : Nat := l.foldl (fun c b => crcMsb 8 0x07 b 8 c) 0

/-- The run-length table J. -/
def qscJ (i : Nat) : Nat :=
  [0, 0, 0, 0, 1, 1, 1, 1, 2, 2, 2, 2, 3, 3, 3, 3, 4, 4, 5, 5, 6, 6, 7, 7, 8, 9, 10, 11, 12, 13, 14, 15].getD i 15

/-- qz of the CODED algorithm. -/
def qz (d : Nat) : Nat := if d = 0 then 0 else if d ≤ 3 then 1 else if d ≤ 15 then 2 else 3

/-- The distance of two pixels. -/
def pixDist (a b : Nat) : Nat := if a ≤ b then b - a else a - b

/-- The median predictor. -/
def qscMed (a b c : Nat) : Nat :=
  if Nat.max a b ≤ c then Nat.min a b else if c ≤ Nat.min a b then Nat.max a b else a + b - c

/-- The context of a pixel. -/
def qscCtx (a b c : Nat) : Nat := 4 * qz (pixDist b c) + qz (pixDist a c)

/-- The Golomb parameter: the least k ≤ 7 with n × 2^k ≥ acc. -/
def qscK (n acc : Nat) : Nat → Nat → Nat
  | 0, k => k
  | f + 1, k => if k < 7 ∧ n * 2 ^ k < acc then qscK n acc f (k + 1) else k

/-- R145: the history at HIST_RESET for a width. -/
def histReset (w : Nat) : Hist :=
  { ri := 0, acc := List.replicate 16 4, n := List.replicate 16 1, prev := List.replicate w 0 }

/-- The statistics update. -/
def Hist.update (h : Hist) (ctx m : Nat) : Hist :=
  let a := h.acc.getD ctx 0 + m
  let n := h.n.getD ctx 0 + 1
  if n = 64 then { h with acc := h.acc.set ctx (a / 2), n := h.n.set ctx 32 }
  else { h with acc := h.acc.set ctx a, n := h.n.set ctx n }

/-- What a decoder step answers: a value with the bits left, or the outcome of R146. -/
inductive Dec (α : Type) where
  | ok (v : α) (bits : List Bool)
  | bad (outcome : Nat)
deriving Repr

/-- n bits, most significant first; SHORT past the end. -/
def getBits : Nat → Nat → List Bool → Dec Nat
  | 0, acc, bs => .ok acc bs
  | _ + 1, _, [] => .bad 1
  | n + 1, acc, b :: bs => getBits n (2 * acc + (if b then 1 else 0)) bs

/-- The unary count of zeros; more than 23 is SYNTAX. -/
def getUnary (q : Nat) : List Bool → Dec Nat
  | [] => .bad 1
  | true :: bs => .ok q bs
  | false :: bs => if 23 < q + 1 then .bad 7 else getUnary (q + 1) bs

/-- decode_regular. -/
def decodeRegular (h : Hist) (a b c : Nat) (bits : List Bool) : Dec (Nat × Hist) :=
  let ctx := qscCtx a b c
  let p := qscMed a b c
  let k := qscK (h.n.getD ctx 1) (h.acc.getD ctx 0) 8 0
  match getUnary 0 bits with
  | .bad o => .bad o
  | .ok q bs =>
    let r := if q < 23 then
        match getBits k 0 bs with
        | .ok lo bs' => Dec.ok (q * 2 ^ k + lo) bs'
        | .bad o => .bad o
      else getBits 8 0 bs
    match r with
    | .bad o => .bad o
    | .ok m bs' =>
      if 255 < m then .bad 7
      else
        let e : Int := if m % 2 = 0 then (m / 2 : Nat) else -(((m + 1) / 2 : Nat) : Int)
        .ok ((((p : Int) + e) % 256).toNat, h.update ctx m) bs'

/-- The state inside a line: pixels so far (newest first), how many, and the previous line's pixels from j on with the
pixel upper-left. -/
structure LineSt where
  out  : List Nat
  j    : Nat
  left : Nat          -- a
  ul   : Nat          -- c
  up   : List Nat     -- previous line from j on
deriving Repr

/-- Put n pixels of value v into the line. -/
def LineSt.fill (s : LineSt) (n v : Nat) : LineSt :=
  if n = 0 then s
  else
    { out := List.replicate n v ++ s.out, j := s.j + n, left := v, ul := (s.up.drop (n - 1)).headD 0,
      up := s.up.drop n }

/-- The neighbours a, b, c of pixel j. -/
def LineSt.nbr (s : LineSt) : Nat × Nat × Nat :=
  let b := s.up.headD 0
  if s.j = 0 then (b, b, b) else (s.left, b, s.ul)

/-- The chunks of a run: stops at the line's end or at a 0 bit. Answers the state, the new RI and whether the line has
ended. -/
def decodeRun (w a : Nat) : Nat → LineSt → Nat → List Bool → Dec (LineSt × Nat × Bool)
  | 0, s, ri, bs => .ok (s, ri, true) bs
  | f + 1, s, ri, bs =>
    if s.j = w then .ok (s, ri, true) bs
    else match bs with
      | [] => .bad 1
      | false :: bs' => .ok (s, ri, false) bs'
      | true :: bs' =>
        let cnt := Nat.min (2 ^ qscJ ri) (w - s.j)
        decodeRun w a f (s.fill cnt a) (if cnt = 2 ^ qscJ ri ∧ ri < 31 then ri + 1 else ri) bs'

/-- decode_line: the pixels of one line of width w. -/
def decodeLineGo (w : Nat) : Nat → LineSt → Hist → List Bool → Dec (List Nat × Hist)
  | 0, _, _, _ => .bad 7
  | f + 1, s, h, bs =>
    if s.j = w then .ok (s.out.reverse, { h with prev := s.out.reverse }) bs
    else
      let (a, b, c) := s.nbr
      if a = b ∧ b = c then
        match decodeRun w a (w + 1) s h.ri bs with
        | .bad o => .bad o
        | .ok (s1, ri1, ended) bs1 =>
          if ended then .ok (s1.out.reverse, { h with ri := ri1, prev := s1.out.reverse }) bs1
          else match getBits (qscJ ri1) 0 bs1 with
            | .bad o => .bad o
            | .ok rem bs2 =>
              if w ≤ s1.j + rem then .bad 7
              else
                let s2 := s1.fill rem a
                let h2 := { h with ri := if 0 < ri1 then ri1 - 1 else ri1 }
                let (a2, b2, c2) := s2.nbr
                match decodeRegular h2 a2 b2 c2 bs2 with
                | .bad o => .bad o
                | .ok (x, h3) bs3 => decodeLineGo w f (s2.fill 1 x) h3 bs3
      else match decodeRegular h a b c bs with
        | .bad o => .bad o
        | .ok (x, h1) bs1 => decodeLineGo w f (s.fill 1 x) h1 bs1

/-- One line of width w from the history. -/
def decodeLine (w : Nat) (h : Hist) (bits : List Bool) : Dec (List Nat × Hist) :=
  decodeLineGo w (w + 1) { out := [], j := 0, left := 0, ul := 0, up := h.prev } h bits

/-- The bits of bytes, most significant first. -/
def bytesBits (l : List Nat) : List Bool := (l.map (fun b => (List.range 8).reverse.map (bit b))).flatten

/-! ### The encoder (R141) -/

/-- put_bits. -/
def putBits (v n : Nat) : List Bool := (List.range n).reverse.map (bit v)

/-- code_regular: the bits and the history after them. -/
def codeRegular (h : Hist) (x a b c : Nat) : List Bool × Hist :=
  let ctx := qscCtx a b c
  let p := qscMed a b c
  let e : Int := (((x : Int) - p + 128) % 256) - 128
  let m : Nat := if 0 ≤ e then (2 * e).toNat else (-2 * e - 1).toNat
  let k := qscK (h.n.getD ctx 1) (h.acc.getD ctx 0) 8 0
  let q := m / 2 ^ k
  let bits := if q < 23 then List.replicate q false ++ [true] ++ putBits (m % 2 ^ k) k
    else List.replicate 23 false ++ [true] ++ putBits m 8
  (bits, h.update ctx m)

/-- The length of the run of v at the front. -/
def runLen (v : Nat) : List Nat → Nat
  | [] => 0
  | x :: xs => if x = v then 1 + runLen v xs else 0

/-- The full chunks of a run of `rem`: bits, what remains, the new RI. -/
def codeRun : Nat → Nat → Nat → List Bool × Nat × Nat
  | 0, rem, ri => ([], rem, ri)
  | f + 1, rem, ri =>
    if 2 ^ qscJ ri ≤ rem then
      let (bs, r, ri') := codeRun f (rem - 2 ^ qscJ ri) (if ri < 31 then ri + 1 else ri)
      (true :: bs, r, ri')
    else ([], rem, ri)

/-- encode_line. -/
def encodeLineGo (w : Nat) : Nat → LineSt → Hist → List Nat → List Bool × Hist
  | 0, _, h, _ => ([], h)
  | _ + 1, _, h, [] => ([], h)
  | f + 1, s, h, x :: xs =>
    let (a, b, c) := s.nbr
    if a = b ∧ b = c then
      let r := runLen a (x :: xs)
      let (bs, rem, ri) := codeRun (r + 1) r h.ri
      if s.j + r = w then (bs ++ (if 0 < rem then [true] else []), { h with ri := ri })
      else
        let bs2 := bs ++ [false] ++ putBits rem (qscJ ri)
        let h2 := { h with ri := if 0 < ri then ri - 1 else ri }
        let s2 := s.fill r a
        match (x :: xs).drop r with
        | [] => (bs2, h2)
        | y :: ys =>
          let (a2, b2, c2) := s2.nbr
          let (bs3, h3) := codeRegular h2 y a2 b2 c2
          let (bs4, h4) := encodeLineGo w f (s2.fill 1 y) h3 ys
          (bs2 ++ bs3 ++ bs4, h4)
    else
      let (bs, h1) := codeRegular h x a b c
      let (bs2, h2) := encodeLineGo w f (s.fill 1 x) h1 xs
      (bs ++ bs2, h2)

/-- One line coded from the history. -/
def encodeLine (h : Hist) (line : List Nat) : List Bool × Hist :=
  let (bs, h') := encodeLineGo line.length (line.length + 1) { out := [], j := 0, left := 0, ul := 0, up := h.prev } h line
  (bs, { h' with prev := line })

/-- Several lines. -/
def encodeLines (h : Hist) : List (List Nat) → List Bool × Hist
  | [] => ([], h)
  | l :: ls =>
    let (b1, h1) := encodeLine h l
    let (b2, h2) := encodeLines h1 ls
    (b1 ++ b2, h2)

/-- Bits packed into bytes, most significant first, the final byte completed with zeros. -/
def packBits : Nat → List Bool → List Nat
  | 0, _ => []
  | _ + 1, [] => []
  | f + 1, bs =>
    let t := bs.take 8
    let v := (t ++ List.replicate (8 - t.length) false).foldl (fun acc b => 2 * acc + (if b then 1 else 0)) 0
    v :: packBits f (bs.drop 8)

/-! ### Headers (R142) -/

/-- A block header's fields. -/
structure QscHdr where
  aux   : Nat
  plen  : Nat
  width : Nat
  lines : Nat
  reset : Bool
  type  : Nat
deriving DecidableEq, Repr

/-- The header of 8 bytes, none on a HEADER outcome (R146). -/
def qscHdr (b : List Nat) : Option QscHdr :=
  let v := fieldAt b 0 8
  let h : QscHdr := { aux := field v 55 48, plen := field v 45 26, width := field v 25 14 + 1,
                      lines := field v 13 8 + 1, reset := bit v 3, type := field v 2 0 }
  if crc8 (bytesAt b 0 7) != field v 63 56 || field v 47 46 != 0 || field v 7 4 != 0 || decide (4 < h.type) ||
      (h.type != 2 && h.aux != 0) || (h.type == 4 && (h.lines != 1 || h.width != 1 || h.plen != 0)) ||
      (h.type == 3 && h.plen != 8) then none
  else some h

/-- The 8 bytes of a header. -/
def qscHdrBytes (h : QscHdr) : List Nat :=
  let v := h.type + (if h.reset then 8 else 0) + (h.lines - 1) * 2 ^ 8 + (h.width - 1) * 2 ^ 14 + h.plen * 2 ^ 26 +
    h.aux * 2 ^ 48
  let b := leBytes 7 v
  b ++ [crc8 b]

/-- The bytes a block takes in the stream. -/
def qscBlockLen (h : QscHdr) : Nat := 8 + 8 * ceilDivNat h.plen 8

/-- The LIMIT and SHORT conditions on PAYLOAD_LEN (R146); 0 when none holds. -/
def qscLenOutcome (h : QscHdr) (limit : Nat) : Nat :=
  let px := h.lines * h.width
  if limit < px ∨ ((h.type = 0 ∨ h.type = 1) ∧ px + 4 < h.plen) then 4
  else if (h.type = 0 ∧ h.plen < 4) ∨ (h.type = 1 ∧ h.plen < px + 4) then 1
  else 0

/-! ### A stripe decoder (R144, R145, R148) -/

/-- What a stripe decoder is told. -/
structure DecConf where
  width  : Nat
  stream : Nat
  chainEnd : Nat
  limit  : Nat       -- EXPANSION_LIMIT_PIX
  fill   : Nat       -- BAD_FILL_VALUE
deriving DecidableEq, Repr

/-- A block at its start, from its header and payload (of the block named, for a REPEAT) and its own place in the chain. -/
def blockOf (h : QscHdr) (off next : Nat) (payload : List Nat) (h0 : Hist) : DecBlock :=
  let body := payload.take (h.plen - 4)
  { kind := h.type, off := off, lines := h.lines, done := 0, fill := h.aux, bad := 0,
    bits := if h.type = 0 then bytesBits body else [], used := 0, pix := if h.type = 1 then body else [],
    crcOk := h.type = 2 || crc32c body == fieldAt payload (h.plen - 4) 4, next := next, h0 := h0 }

/-- A block replaced by BAD_FILL_VALUE. -/
def badBlock (outcome lines fill off next : Nat) (h0 : Hist) : DecBlock :=
  { kind := 2, off := off, lines := lines, done := 0, fill := fill, bad := outcome, bits := [],
    used := 0, pix := [], crcOk := true, next := next, h0 := h0 }

/-- R144: the block that a REPEAT names, when it meets the rule. `persist` says whether a stream is resident. -/
def repeatTarget (rd : Nat → Nat → Nat → List Nat) (persist : Nat → Bool) (h : QscHdr) (payload : List Nat) :
    Option (Nat × Nat × QscHdr) :=
  let v := fieldAt payload 0 8
  let st := v / 2 ^ 56
  let off := v % 2 ^ 56
  match qscHdr (rd st off 8) with
  | none => none
  | some g =>
    if persist st && g.lines == h.lines && g.width == h.width && g.type != 3 && g.type != 4 &&
        (g.type != 0 || g.reset) then some (st, off, g) else none

/-- Open the block at the decoder's position. Answers the state and the outcome reported now (0 none). `poison` tells of bytes
of a stream that are delivered poisoned: a block whose header is fails as HEADER, one whose payload is, or whose REPEAT
names such a one, as CRC (R344). -/
def decOpen (rd : Nat → Nat → Nat → List Nat) (poison : Nat → Nat → Nat → Bool) (persist : Nat → Bool) (c : DecConf)
    (s : DecState) : DecState × Nat :=
  if c.chainEnd < s.pos + 8 then ({ s with filled := true, ended := true }, 8)
  else match (if poison c.stream s.pos 8 then none else qscHdr (rd c.stream s.pos 8)) with
    | none => ({ s with filled := true }, 5)
    | some h =>
      let next := s.pos + qscBlockLen h
      if h.type = 4 then ({ s with filled := true, ended := true }, 8)
      else if c.chainEnd < next then ({ s with filled := true }, 8)
      else
        let h1 := if h.reset then histReset c.width else s.hist
        let put (b : DecBlock) : DecState := { s with pos := next, blk := some b, hist := h1 }
        let bad (o : Nat) : DecState × Nat := (put (badBlock o h.lines c.fill s.pos next h1), o)
        if h.width ≠ c.width ∨ (h.type = 0 ∧ h.reset = false ∧ s.hist.acc.isEmpty = true) then bad 6
        else if h.type = 3 then
          match repeatTarget rd persist h (rd c.stream (s.pos + 8) 8) with
          | none => bad 6
          | some (st, off, g) =>
            let o := qscLenOutcome g c.limit
            let h2 := if g.reset then histReset c.width else h1
            if o ≠ 0 then bad o
            else if poison c.stream (s.pos + 8) 8 || poison st off (8 + g.plen) then bad 3
            else ({ put (blockOf g s.pos next (rd st (off + 8) g.plen) h2) with hist := h2 }, 0)
        else
          let o := qscLenOutcome h c.limit
          if o ≠ 0 then bad o
          else if poison c.stream (s.pos + 8) h.plen then bad 3
          else (put (blockOf h s.pos next (rd c.stream (s.pos + 8) h.plen) h1), 0)

/-- The rest of a block replaced after `outcome` was found. -/
def DecBlock.spoil (b : DecBlock) (outcome fill : Nat) : DecBlock :=
  { b with kind := 2, fill := fill, bad := outcome, bits := [], pix := [] }

/-- Release the next line of the open block. Answers the line, the state and the outcome found with this line. -/
def decRelease (c : DecConf) (s : DecState) (b : DecBlock) : List Nat × DecState × Nat :=
  let lastLine := b.done + 1 = b.lines
  let close (b' : DecBlock) : Option DecBlock := if lastLine then none else some { b' with done := b'.done + 1 }
  let fillLine (v : Nat) : List Nat := List.replicate c.width v
  let asFill (o : Nat) : List Nat × DecState × Nat :=
    let ln := fillLine c.fill
    (ln, { s with blk := close (b.spoil o c.fill), line := s.line + 1, hist := { b.h0 with prev := ln } }, o)
  if b.kind = 2 then
    let ln := fillLine b.fill
    (ln, { s with blk := close b, line := s.line + 1, hist := { s.hist with prev := ln } }, 0)
  else if b.kind = 1 then
    if lastLine ∧ b.crcOk = false then asFill 3
    else
      let ln := b.pix.take c.width
      (ln, { s with blk := close { b with pix := b.pix.drop c.width }, line := s.line + 1,
                    hist := { s.hist with prev := ln } }, 0)
  else
    match decodeLine c.width s.hist b.bits with
    | .bad o => asFill o
    | .ok (ln, h') rest =>
      if lastLine ∧ b.crcOk = false then asFill 3
      else if lastLine ∧ (8 ≤ rest.length ∨ rest.any id = true) then asFill 2
      else (ln, { s with blk := close { b with bits := rest, used := b.used + (b.bits.length - rest.length) },
                         line := s.line + 1, hist := h' }, 0)

/-- The next line of a stripe. Answers the line, the state, the outcome reported with it (0 none) and the page line of
the block's first line. -/
def decNext (rd : Nat → Nat → Nat → List Nat) (poison : Nat → Nat → Nat → Bool) (persist : Nat → Bool) (c : DecConf)
    (s : DecState) : List Nat × DecState × Nat × Nat :=
  if s.filled then (List.replicate c.width c.fill, { s with line := s.line + 1 }, 0, s.line)
  else match s.blk with
    | some b =>
      let (ln, s', o) := decRelease c s b
      (ln, s', o, s.line - b.done)
    | none =>
      let (s1, o1) := decOpen rd poison persist c s
      match s1.blk with
      | none =>
        let ln := List.replicate c.width c.fill
        (ln, { s1 with line := s.line + 1, hist := { s1.hist with prev := ln } }, o1, s.line)
      | some b =>
        let (ln, s2, o2) := decRelease c s1 b
        (ln, s2, if o1 = 0 then o2 else o1, s.line)

/-- R148: the lines of the open block beyond the page's last line, decoded and discarded; n bounds them. Answers the state
and the outcome found (0 none). -/
def decTail (c : DecConf) : Nat → DecState → DecState × Nat
  | 0, s => (s, 0)
  | n + 1, s =>
    match s.blk with
    | none => (s, 0)
    | some b =>
      let (_, s', o) := decRelease c s b
      if o = 0 then decTail c n s' else (s', o)

/-! ### History records (R149) -/

/-- The record of a history for width w. -/
def histBytes (h : Hist) (w : Nat) : List Nat :=
  let st := ((List.range 16).map (fun i => leBytes 2 (h.acc.getD i 0) ++ [h.n.getD i 0])).flatten
  let b := [0x51, 0x59, 1, h.ri] ++ leBytes 2 w ++ [0, 0] ++ st ++ [0, 0, 0, 0] ++ bytesAt h.prev 0 w
  b ++ leBytes 4 (crc32c b)

/-- The history a record holds. -/
def histOf (l : List Nat) : Hist :=
  { ri := fieldAt l 3 1, acc := (List.range 16).map (fun i => fieldAt l (8 + 3 * i) 2),
    n := (List.range 16).map (fun i => fieldAt l (10 + 3 * i) 1), prev := bytesAt l 60 (fieldAt l 4 2) }

/-- R149: the checks of a written record. -/
def histVerify (l : List Nat) : Status :=
  let w := fieldAt l 4 2
  if l.length ≠ 64 + w then .length
  else if crc32c (l.take (60 + w)) != fieldAt l (60 + w) 4 then .check
  else if fieldAt l 6 2 != 0 || fieldAt l 56 4 != 0 then .reserved
  else if fieldAt l 0 2 != 0x5951 || fieldAt l 2 1 != 1 || decide (31 < fieldAt l 3 1) ||
      (List.range 16).any (fun i =>
        let a := fieldAt l (8 + 3 * i) 2
        let n := fieldAt l (10 + 3 * i) 1
        decide (n < 1 ∨ 63 < n ∨ 255 * n + 4 < a)) then .range
  else .ok

/-! ### Ingest check of one block (R147) -/

/-- All lines of a CODED block: the outcome (0 none) and the history after it. -/
def decodeAll (w : Nat) : Nat → Hist → List Bool → Nat × Hist
  | 0, h, bits => (if 8 ≤ bits.length ∨ bits.any id = true then 2 else 0, h)
  | n + 1, h, bits =>
    match decodeLine w h bits with
    | .bad o => (o, h)
    | .ok (_, h') rest => decodeAll w n h' rest

/-- R147: the history after the payload of a CODED or RAW block, or a FILL, with the outcome (0 none). `hi` is the history
that the block starts from, where one is held. -/
def ingestBody (h : QscHdr) (payload : List Nat) (hi : Option Hist) : Nat × Option Hist :=
  if h.type = 2 then (0, hi.map (fun x => { x with prev := List.replicate h.width h.aux }))
  else
    let body := payload.take (h.plen - 4)
    if crc32c body != fieldAt payload (h.plen - 4) 4 then (3, hi)
    else if h.type = 1 then (0, hi.map (fun x => { x with prev := body.drop ((h.lines - 1) * h.width) }))
    else match hi with
      | none => (0, none)
      | some x =>
        if x.prev.length ≠ h.width then (0, none)
        else
          let (o2, x2) := decodeAll h.width h.lines x (bytesBits body)
          if o2 = 0 then (0, some x2) else (o2, some x)

/-- R144, R147: the history after a REPEAT: that after the block it names, or that of the fill which replaces it on reading
where it names none or a bad one. The check itself finds no fault in it (log entry 159). -/
def ingestRepeat (rd : Nat → Nat → Nat → List Nat) (persist : Nat → Bool) (fill : Nat) (h : QscHdr) (payload : List Nat)
    (limit : Nat) (hi : Option Hist) : Option Hist :=
  let filled := hi.map (fun (x : Hist) => { x with prev := List.replicate h.width fill })
  match repeatTarget rd persist h payload with
  | none => filled
  | some (st, off, g) =>
    let r := ingestBody g (rd st (off + 8) g.plen) (if g.reset then some (histReset g.width) else hi)
    if qscLenOutcome g limit ≠ 0 ∨ r.1 ≠ 0 then filled else r.2

/-- The ingest outcome of a block with a valid header and its whole payload: outcome and history after it. `rd` reads a
stream, `persist` says which are resident and `fill` is BAD_FILL_VALUE. -/
def ingestOutcome (rd : Nat → Nat → Nat → List Nat) (persist : Nat → Bool) (fill : Nat) (h : QscHdr) (payload : List Nat)
    (limit : Nat) (hist : Option Hist) : Nat × Option Hist :=
  let hi := if h.reset then some (histReset h.width) else hist
  let o := qscLenOutcome h limit
  if h.type = 4 then (0, none)
  else if o ≠ 0 then (o, hi)
  else if h.type = 3 then (0, ingestRepeat rd persist fill h payload limit hi)
  else ingestBody h payload hi

/-! ### Compressor blocks (R141) -/

/-- Split into lines of w pixels. -/
def splitLines (w : Nat) : Nat → List Nat → List (List Nat)
  | 0, _ => []
  | n + 1, l => l.take w :: splitLines w n (l.drop w)

/-- R141: one block of n lines of width w: its bytes and the history after it. -/
def compressBlock (hist : Hist) (first : Bool) (w n : Nat) (px : List Nat) : List Nat × Hist :=
  let h0 := if first then histReset w else hist
  let v := px.headD 0
  let pad (l : List Nat) : List Nat := l ++ List.replicate ((8 - l.length % 8) % 8) 0
  let lastLine := px.drop ((n - 1) * w)
  if px.all (fun x => x == v) then
    (qscHdrBytes { aux := v, plen := 0, width := w, lines := n, reset := first, type := 2 },
     { h0 with prev := lastLine })
  else
    let (bits, h1) := encodeLines h0 (splitLines w n px)
    let coded := packBits (bits.length + 1) bits
    if n * w ≤ coded.length then
      (pad (qscHdrBytes { aux := 0, plen := n * w + 4, width := w, lines := n, reset := first, type := 1 } ++ px ++
        leBytes 4 (crc32c px)), { h0 with prev := lastLine })
    else
      (pad (qscHdrBytes { aux := 0, plen := coded.length + 4, width := w, lines := n, reset := first, type := 0 } ++
        coded ++ leBytes 4 (crc32c coded)), h1)

/-- The END block. -/
def endBlock : List Nat := qscHdrBytes { aux := 0, plen := 0, width := 1, lines := 1, reset := false, type := 4 }

end Sys2Proof.Machine
end

