-- ==== Sys2Proof/Machine/PagesOps.lean ====
section
/-! DEFINITION. The page store: streams and credit (R128, R129, R136 … R138), the ingest check (R147), the compressor
(R140, R141), page descriptors and the page queue (R130 … R135, R139). -/
namespace Sys2Proof.Machine

/-! ### Streams -/

/-- The default record of a stream. -/
def stream0 (_ : Nat) : Stream := {}

/-- Stream s. -/
def Device.stream (d : Device) (s : Nat) : Stream := tget stream0 d.pages.streams s

/-- Write stream s. -/
def Device.setStream (d : Device) (s : Nat) (x : Stream) : Device :=
  { d with pages := { d.pages with streams := tset stream0 d.pages.streams s x } }

/-- R129: LIMIT. -/
def Stream.limitOf (x : Stream) : Nat := if x.persist then x.size else x.released + x.size

/-- n bytes of a stream from an offset. -/
def Stream.read (x : Stream) (m : List Host.Cell) : Nat → Nat → List Nat
  | _, 0 => []
  | o, n + 1 => (mget m (x.addr o)).toNat :: Stream.read x m (o + 1) n

/-- Write bytes into a stream from an offset on. -/
def Stream.write (x : Stream) : List Host.Cell → Nat → List Nat → List Host.Cell
  | m, _, [] => m
  | m, o, b :: bs => Stream.write x (mset m (x.addr o) (BitVec.ofNat 8 b)) (o + 1) bs

/-- R344: a read of n bytes of stream s from an offset on meets a sector that decodes as bad. -/
def Device.poisoned (d : Device) (s o n : Nat) : Bool :=
  d.pantry.ecc && !(d.pantry.poison.isEmpty && d.pantry.flips.isEmpty) &&
    (List.range n).any (fun i => d.rangeBad ((d.stream s).addr (o + i)) 1)

/-- What a stripe decoder reads: stream, offset, length. -/
def Device.storeReader (d : Device) (m : Memories) (s o n : Nat) : List Nat := (d.stream s).read m.store o n

/-- R128: the windows of two streams overlap. -/
def windowsMeet (a b : Stream) : Bool :=
  decide (0 < a.size ∧ 0 < b.size ∧ a.base < b.base + b.size ∧ b.base < a.base + a.size)

/-- R152: the defaults of the stream windows that depend on STORE_BYTES: streams 0 and 1 where nothing is stored for
them. -/
def Device.windowDefaults (d : Device) : Device :=
  let gib := 2 ^ 30
  [(Reg.STREAM_SIZE, d.regN Reg.STORE_BYTES - gib), (Reg.un Reg.STREAM_BASE 1, d.regN Reg.STORE_BYTES - gib),
   (Reg.un Reg.STREAM_SIZE 1, gib)].foldl (fun (d : Device) (p : Nat × Nat) =>
    if (assoc d.dict.stored p.1).isSome then d else d.setRegN p.1 p.2) d

/-- R128, R137: the windows are loaded and checked at reset; every stream starts CLOSED with its offsets 0. -/
def Device.pagesReset (d0 : Device) : Device :=
  let d := d0.windowDefaults
  let load (s : Nat) : Stream :=
    { base := d.regN (Reg.un Reg.STREAM_BASE s), size := d.regN (Reg.un Reg.STREAM_SIZE s),
      persist := d.regB (Reg.un Reg.STREAM_PERSIST s) }
  let all := List.range 16
  let clash (s : Nat) : Option Nat :=
    (all.find? (fun t => t != s && windowsMeet (load s) (load t))).orElse
      (fun _ => if 0 < (load s).size ∧ d.regN Reg.STORE_BYTES < (load s).base + (load s).size then some s else none)
  all.foldl (fun (d : Device) (s : Nat) =>
    let c := clash s
    let d1 := (d.setStream s { load s with conflict := c.isSome }).setReg (Reg.un Reg.STREAM_STATE s) 0
    match c with
    | none => d1
    | some t => d1.raise Ev.PAGE_STREAM_CONFIG s [.u 0 t])
    { d with pages := {} }

/-! ### QPT datagrams -/

/-- R136: a datagram the device sends: header, payload and CRC-32C. -/
def qptBytes (type stream offset tag aux session : Nat) (payload : List Nat) : List Nat :=
  let b := [0x51, 0x50, 1, type, stream, 0] ++ leBytes 2 payload.length ++ leBytes 8 offset ++ leBytes 4 tag ++
    leBytes 4 aux ++ leBytes 2 session ++ [0, 0, 0, 0, 0, 0] ++ payload
  b ++ leBytes 4 (crc32c b)

/-- The session that a QPT datagram names, when R136 accepts it: open, at OPERATOR level or above, from its address. -/
def Device.qptSession (d : Device) (h : QptHdr) : Option Session :=
  if h.magic ≠ 0x5051 ∨ h.version ≠ 1 ∨ h.crcOk = false ∨ h.arrivedLen ≠ h.payloadLen ∨
      d.regN Reg.QPT_MAX_DATAGRAM < 36 + h.payloadLen then none
  else (d.dict.sessions.find? (fun s => s.num == h.session)).filter
    (fun s => s.level.holds .oper && s.ip == h.srcIp)

/-- R136: a discarded datagram is counted. -/
def Device.qptDiscard (d : Device) : Device := d.incReg Reg.QPT_DISCARDS

/-- R141: the raw input offset up to which the stream has room for the worst case: each full block of the width in
use costs its pixels and 12 bytes rounded up to 8, and END costs 8 (log entry 12). -/
def Device.rawLimit (d : Device) (x : Stream) : Nat :=
  if x.comp = false then 0
  else
    let w := match x.chains with
      | c :: _ => if c.done then 1 else c.width
      | [] => 1
    let full := w * d.regN Reg.COMP_BLOCK_LINES
    let per := 8 * ceilDivNat (full + 12) 8
    let avail := (x.limitOf - x.received) - 8
    let part := Nat.min full (avail % per / 8 * 8 - 12)
    x.rawNext + ((avail / per * full + part) - x.rawBuf.length)

/-- The Porch port by which a session's last datagram came. -/
def Device.sessRx (d : Device) (n : Nat) : Nat :=
  match d.dict.sessions.find? (fun s => s.num == n) with
  | some s => s.rx
  | none => 0

/-- R136: a CREDIT of stream s to a session. -/
def Device.creditTo (d : Device) (s sess ip port : Nat) : Device :=
  let x := d.stream s
  d.post (d.sessRx sess) 3 (.qpt ip port (qptBytes 3 s x.checked 0 0 sess
    (leBytes 8 x.limitOf ++ leBytes 8 x.released ++ leBytes 8 (d.rawLimit x))))

/-- R136, R138: a CREDIT to the stream's holder. -/
def Device.sendCredit (d : Device) (s : Nat) : Device :=
  let x := d.stream s
  match x.holder with
  | none => d
  | some (sess, ip, port) => (d.setStream s { x with credited := x.checked }).creditTo s sess ip port

/-- R136, R138: a NAK to the sender, and a CREDIT with it. A CREDIT that so goes to a session that does not hold the
stream is not the one from which the holder's next is counted (log entry 158). -/
def Device.sendNak (d : Device) (h : QptHdr) (code : Nat) : Device :=
  let x := d.stream h.stream
  let d1 := d.post h.rx 3 (.qpt h.srcIp h.srcPort (qptBytes 4 h.stream x.received 0 code h.session []))
  if x.holder = some (h.session, h.srcIp, h.srcPort) then d1.sendCredit h.stream
  else d1.creditTo h.stream h.session h.srcIp h.srcPort

/-- A NAK whose status code the spec does not state: the code is a free value (log entry 13). -/
def Device.sendNakOpen (d : Device) (h : QptHdr) : Device :=
  let (v, d1) := d.takeFree
  d1.sendNak h (v.toNat % 256)

/-- R138: a CREDIT when CHECKED has advanced far enough. -/
def Device.creditCheck (d : Device) (s : Nat) : Device :=
  let x := d.stream s
  if d.regN Reg.CREDIT_INTERVAL_BYTES ≤ x.checked - x.credited then d.sendCredit s else d

/-! ### The ingest check (R147) -/

/-- R147: one block at CHECKED. Answers none when no whole block is there or parsing has stopped. -/
def Device.ingestOne (d : Device) (m : List Host.Cell) (s : Nat) : Option (List Host.Cell × Device) :=
  let x := d.stream s
  let there := d.landed s x.received
  if d.reg (Reg.un Reg.STREAM_STATE s) = 2 ∨ there < x.checked + 8 then none
  else
    let hb := x.read m x.checked 8
    match qscHdr hb with
    | none => some (m, ((d.setReg (Reg.un Reg.STREAM_STATE s) 2).incReg (Reg.un Reg.BAD_BLOCKS_INGEST s)).raise
        Ev.QPT_STREAM_BROKEN s [.raw 0 x.checked])
    | some h =>
      let len := qscBlockLen h
      if there < x.checked + len then none
      else
        let (o, hist) := ingestOutcome (fun st o n => (d.stream st).read m o n)
          (fun st => decide (st < 16) && (d.stream st).persist) (d.regN Reg.BAD_FILL_VALUE) h
          (x.read m (x.checked + 8) h.plen) (d.regN Reg.EXPANSION_LIMIT_PIX) x.hist
        if o = 0 then some (m, d.setStream s { x with checked := x.checked + len, hist := hist })
        else
          let v := d.regN Reg.BAD_FILL_VALUE
          let m1 := x.write m x.checked (qscHdrBytes { h with type := 2, aux := v } ++ List.replicate (len - 8) 0)
          let hist' := hist.map (fun (y : Hist) => { y with prev := List.replicate h.width v })
          some (m1, (((d.porchWrite x s x.checked (qscHdrBytes { h with type := 2, aux := v })).setStream s
            { x with checked := x.checked + len, hist := hist' }).incReg (Reg.un Reg.BAD_BLOCKS_INGEST s)).raise Ev.QPT_BAD_BLOCK s [.raw 1 o, .raw 0 x.checked])

/-- R147: parse on while whole blocks are there; each block is at least 8 bytes long. -/
def Device.ingest (m : List Host.Cell) (d : Device) (s : Nat) : Nat → List Host.Cell × Device
  | 0 => (m, d)
  | n + 1 =>
    match d.ingestOne m s with
    | none => (m, d)
    | some (m', d') => Device.ingest m' d' s n

/-- R138, R337: CHECKED follows what the Pantry has taken of RECEIVED: through the ingest check, or at once when
INGEST_CHECK is 0 or the compressor wrote it. -/
def Device.advance (m : List Host.Cell) (d : Device) (s : Nat) : List Host.Cell × Device :=
  let x := d.stream s
  if d.regB Reg.INGEST_CHECK && !x.comp then Device.ingest m d s ((x.received - x.checked) / 8 + 1)
  else (m, d.setStream s { x with checked := Nat.max x.checked (d.landed s x.received) })

/-! ### Pages -/

/-- R140: the most recent completed chain of a tag, when it is good. -/
def Stream.goodChain (x : Stream) (tag : Nat) : Option Chain :=
  match x.chains.find? (fun c => c.tag == tag && c.done) with
  | none => none
  | some c => if c.bad then none else some c

/-- R132: the chain of a stripe is checked. -/
def Device.stripeReady (d : Device) (e : StripeEnt) : Bool :=
  let x := d.stream e.stream
  if e.comp then
    match x.goodChain e.offset with
    | some c => decide (c.start + c.length ≤ x.checked)
    | none => false
  else decide (e.offset + e.length ≤ x.checked)

/-- A compressor chain named by its tag becomes a chain named by its place. -/
def Device.resolveStripe (d : Device) (e : StripeEnt) : StripeEnt :=
  if e.comp then
    match (d.stream e.stream).goodChain e.offset with
    | none => e
    | some c => { e with comp := false, offset := c.start, length := c.length }
  else e

/-- R132: queued pages whose chains are all checked become READY. -/
def Device.readyPages (d : Device) : Device :=
  { d with pages := { d.pages with queue := d.pages.queue.map (fun p =>
      if p.state = .queued ∧ p.stripes.all d.stripeReady = true then
        { p with state := .ready, stripes := p.stripes.map d.resolveStripe }
      else p) } }

/-- The chain starts of a page in stream s. -/
def Device.chainStarts (d : Device) (s : Nat) (p : Page) : List Nat :=
  p.stripes.filterMap (fun e =>
    if e.stream ≠ s then none
    else
      let r := d.resolveStripe e
      if r.comp then none else some r.offset)

/-- R129: RELEASED of a ring advances; it never decreases. -/
def Device.releaseStream (d : Device) (s : Nat) : Device :=
  let x := d.stream s
  if x.persist then d
  else
    let starts := (d.pages.queue.map (d.chainStarts s)).flatten
    let r := match starts with
      | [] => (assoc d.pages.retiredEnds s).getD 0
      | y :: ys => minN 0 (y :: ys)
    if x.released < r then d.setStream s { x with released := r } else d

/-- RELEASED of every stream. -/
def Device.releaseAll (d : Device) : Device := (List.range 16).foldl Device.releaseStream d

/-- A page's chain ends join those of the retired pages. -/
def Device.noteEnds (d : Device) (p : Page) : Device :=
  p.stripes.foldl (fun (d : Device) (e0 : StripeEnt) =>
    let e := d.resolveStripe e0
    let old := (assoc d.pages.retiredEnds e.stream).getD 0
    if e.comp then d
    else { d with pages := { d.pages with
             retiredEnds := assocSet d.pages.retiredEnds e.stream (Nat.max old (e.offset + e.length)) } }) d

/-- R136, R139: PAGE_STATE to the session that queued the page, while that session is open. -/
def Device.sendPageState (d : Device) (p : Page) (st : PageState) : Device :=
  if d.dict.sessions.any (fun s => s.num == p.session) then
    d.post (d.sessRx p.session) 3 (.qpt p.ip p.port (qptBytes 9 0xFF 0 0 0 p.session
      (leBytes 4 p.num ++ [st.code, 0, 0, 0] ++ leBytes 8 p.g0 ++
        leBytes 8 (if p.state = .bound ∨ p.state = .printing then p.g0 + p.lines - 1 else 0))))
  else d

/-- Is the page bound or printing? -/
def Page.isBound (p : Page) : Bool := p.state == .bound || p.state == .printing

/-- The pages not yet bound, in queue order. -/
def Device.unbound (d : Device) : List Page := d.pages.queue.filter (fun p => !p.isBound)

/-- QUEUE_DEPTH: the pages accepted and not yet bound (log entry 14). -/
def Device.queueDepth (d : Device) : Nat := d.unbound.length

/-- R133, R134: pages removed without printing: reported one by one; their chains are released. -/
def Device.discardPages (d : Device) (l : List Page) : Device :=
  let d1 := { d with pages := { d.pages with queue := d.pages.queue.filter (fun p => !l.contains p) } }
  let d2 := l.foldl (fun (d : Device) (p : Page) =>
    ((d.noteEnds p).sendPageState { p with state := .discarded } .discarded).incReg Reg.PAGES_DISCARDED) d1
  d2.releaseAll

/-- R134: STOPPED is entered. -/
def Device.enterStopped (d : Device) : Device :=
  (d.setReg Reg.SCHED_STATE 2).raise Ev.PAGE_STOPPED 0xFF [.u 4 (d.pages.printed.getD 0xFFFFFFFF)]

/-- R134: the scheduler returns to RUNNING; a START_KIND 2 page at the head binds as at a resumption. -/
def Device.schedResume (d : Device) : Device :=
  if d.reg Reg.SCHED_STATE = 0 then d
  else
    let q := match d.unbound with
      | p :: _ => d.pages.queue.map (fun x => if x = p then { x with resumed := true } else x)
      | [] => d.pages.queue
    let d1 := d.setReg Reg.SCHED_STATE 0
    { d1 with pages := { d1.pages with queue := q, resumed := d.unbound.isEmpty } }

/-- R134: every queued page is discarded, with one event for the set. -/
def Device.schedFlush (d : Device) : Device :=
  match d.unbound with
  | [] => d
  | p :: ps => (d.discardPages (p :: ps)).raise Ev.PAGE_DISCARDED 0xFF [.u 4 p.num, .u 0 (ps.length + 1)]

/-- R150: a capture whose page retires without its block ends as MISSED. -/
def Device.captureMissed (d : Device) (num : Nat) : Device :=
  match d.pages.capture with
  | none => d
  | some (pg, _) =>
    if pg = num then
      ({ d with pages := { d.pages with capture := none } }.setReg Reg.HIST_STATUS 3).raise
        Ev.HIST_CAPTURE_MISSED 0xFF [.u 0 num]
    else d

/-- R134: in STOPPING with no page bound any more, STOPPED is entered. -/
def Device.stopIfDrained (d : Device) : Device :=
  if d.reg Reg.SCHED_STATE = 1 ∧ d.pages.queue.any Page.isBound = false then d.enterStopped else d

/-- The page leaves the queue as printed. -/
def Device.dropPrinted (d : Device) (p : Page) : Device :=
  { d with pages := { d.pages with queue := d.pages.queue.filter (fun x => x != p), printed := some p.num } }

/-- R132, R135: a page retires. -/
def Device.retirePage (d : Device) (p : Page) : Device :=
  let d2 := (((d.dropPrinted p).incReg Reg.PAGES_PRINTED).setRegN Reg.LAST_RETIRED_PAGE p.num).noteEnds p
  ((d2.sendPageState p .retired).captureMissed p.num).releaseAll.stopIfDrained

/-! ### Descriptors (R130 … R132) -/

/-- The plane entries of a descriptor. -/
def descPlanes (b : List Nat) : List PlaneEnt :=
  (List.range (fieldAt b 10 1)).map (fun i =>
    { plane := fieldAt b (32 + 8 * i) 1, first := fieldAt b (34 + 8 * i) 2, n := fieldAt b (36 + 8 * i) 2 })

/-- Where the stripe entries begin. -/
def descStripeBase (b : List Nat) : Nat := 32 + 8 * fieldAt b 10 1

/-- The stripe entries of a descriptor. -/
def descStripes (b : List Nat) : List StripeEnt :=
  (List.range (fieldAt b 12 2)).map (fun i =>
    let o := descStripeBase b + 24 * i
    { firstCol := fieldAt b o 4, width := fieldAt b (o + 4) 2, comp := fieldAt b (o + 6) 1 % 4 == 1,
      histFrom := bit (fieldAt b (o + 6) 1) 2, stream := fieldAt b (o + 7) 1, slot := fieldAt b (o + 8) 1,
      offset := if fieldAt b (o + 6) 1 % 4 == 1 then fieldAt b (o + 12) 4 else fieldAt b (o + 12) 8,
      length := if fieldAt b (o + 6) 1 % 4 == 1 then 0 else fieldAt b (o + 20) 4 })

/-- R131: two stripes of one plane overlap. -/
def stripesMeet : List StripeEnt → Bool
  | [] => false
  | e :: es =>
    es.any (fun x => decide (e.firstCol < x.firstCol + x.width ∧ x.firstCol < e.firstCol + e.width)) || stripesMeet es

/-- Plane numbers that repeat. -/
def planesRepeat : List PlaneEnt → Bool
  | [] => false
  | e :: es => es.any (fun x => x.plane == e.plane) || planesRepeat es

/-- R131: the RANGE conditions on a chain of KIND 0. -/
def Device.chainInRange (d : Device) (e : StripeEnt) : Bool :=
  let x := d.stream e.stream
  e.comp || (e.offset % 8 == 0 && decide (x.released ≤ e.offset ∧ e.offset + e.length ≤ x.limitOf ∧
    e.offset % Nat.max 1 x.size + e.length ≤ x.size))

/-- The default content of a resident slot: empty. -/
def resident0 (_ : Nat) : Option Resident := none

/-- R131: a reserved field or bit of a descriptor is set. -/
def descReserved (b : List Nat) : Bool :=
  let fl (i : Nat) : Nat := fieldAt b (descStripeBase b + 24 * i + 6) 1
  fieldAt b 9 1 / 8 != 0 || fieldAt b 14 2 != 0 || fieldAt b 28 4 != 0 ||
  (List.range (fieldAt b 10 1)).any (fun i => fieldAt b (33 + 8 * i) 1 != 0 || fieldAt b (38 + 8 * i) 2 != 0) ||
  (List.range (fieldAt b 12 2)).any (fun i =>
    decide (8 ≤ fl i) || fieldAt b (descStripeBase b + 24 * i + 9) 3 != 0)

/-- R130: the fields of a descriptor lie in their ranges. -/
def descFieldsOk (b : List Nat) : Bool :=
  let inR (v lo hi : Nat) : Bool := decide (lo ≤ v) && decide (v ≤ hi)
  let flags := fieldAt b 9 1
  inR (fieldAt b 4 4) 1 16777215 && inR (fieldAt b 8 1) 0 2 && inR (fieldAt b 12 2) 0 256 &&
  (if bit flags 1 then fieldAt b 10 1 == 0 && fieldAt b 12 2 == 0 else inR (fieldAt b 10 1) 1 16) &&
  !((bit flags 0 || bit flags 1) && fieldAt b 11 1 == 255) &&
  (List.range (fieldAt b 12 2)).all (fun i => inR (fieldAt b (descStripeBase b + 24 * i + 6) 1 % 4) 0 1)

/-- R130: the entries of a page lie in their ranges. -/
def entsOk (planes : List PlaneEnt) (stripes : List StripeEnt) : Bool :=
  planes.all (fun p => decide (p.plane ≤ 15)) &&
  stripes.all (fun e => decide (1 ≤ e.width ∧ e.width ≤ 4096) && decide (e.stream ≤ 15) &&
    (!e.histFrom || decide (e.slot ≤ 63)))

/-- R131: every stripe lies in exactly one plane entry, no plane repeats and no two stripes of a plane overlap. -/
def entsCover (planes : List PlaneEnt) (stripes : List StripeEnt) : Bool :=
  planes.all (fun p => decide (p.first + p.n ≤ stripes.length)) &&
  (List.range stripes.length).all (fun i =>
    (planes.filter (fun p => decide (p.first ≤ i) && decide (i < p.first + p.n))).length == 1) &&
  !planesRepeat planes &&
  planes.all (fun p => !stripesMeet ((stripes.drop p.first).take p.n))

/-- The page a checked descriptor describes. -/
def descPage (b : List Nat) (planes : List PlaneEnt) (stripes : List StripeEnt) (sess ip port : Nat) : Page :=
  { num := fieldAt b 0 4, lines := fieldAt b 4 4, kind := fieldAt b 8 1, startPt := fieldAtI b 16 8,
    flags := fieldAt b 9 1, slot := fieldAt b 11 1, job := fieldAt b 24 4, planes := planes, stripes := stripes,
    session := sess, ip := ip, port := port }

/-- R131, R132: what a descriptor comes to: a status, and the page when it is OK. -/
def Device.descCheck (d : Device) (b : List Nat) (sess ip port : Nat) : Status × Option Page :=
  if b.length < 36 ∨ crc32c (b.take (b.length - 4)) ≠ fieldAt b (b.length - 4) 4 then (.check, none)
  else if b.length ≠ 32 + 8 * fieldAt b 10 1 + 24 * fieldAt b 12 2 + 4 then (.length, none)
  else if descReserved b then (.reserved, none)
  else if 4096 ≤ d.queueDepth then (.busy, none)
  else
    let save := bit (fieldAt b 9 1) 0
    let replay := bit (fieldAt b 9 1) 1
    let rs := tget resident0 d.pages.residents (fieldAt b 11 1)
    let planes := if replay then ((rs.map Resident.planes).getD []) else descPlanes b
    let stripes := if replay then ((rs.map Resident.stripes).getD []) else descStripes b
    let saveOk := !save || stripes.all (fun e => (d.stream e.stream).persist)
    let replayOk := !replay || (match rs with | none => false | some r => r.lines == fieldAt b 4 4)
    if (descFieldsOk b && entsOk planes stripes && entsCover planes stripes && stripes.all d.chainInRange && saveOk &&
        replayOk) = false then (.range, none)
    else if d.regN Reg.PAGE_PIXEL_LIMIT < fieldAt b 4 4 * (stripes.map StripeEnt.width).foldl (· + ·) 0 then
      (.tooLarge, none)
    else (.ok, some (descPage b planes stripes sess ip port))

/-- R132, R133: an accepted page joins the queue, a page of its own whatever its descriptor; a SAVE stores its entries. -/
def Device.acceptPage (d : Device) (p : Page) : Device :=
  let first := d.pages.resumed && d.unbound.isEmpty
  let d1 := { d with pages := { d.pages with queue := d.pages.queue ++ [{ p with resumed := first, id := d.pages.nextId }],
                                             nextId := d.pages.nextId + 1, resumed := d.pages.resumed && !first } }
  let d2 :=
    if bit p.flags 0 then
      let r : Resident := { page := p.num, lines := p.lines, planes := p.planes, stripes := p.stripes }
      ({ d1 with pages := { d1.pages with residents := tset resident0 d1.pages.residents p.slot (some r) } }).setRegN
        (Reg.RESIDENT_PAGE + p.slot) p.num
    else d1
  d2.readyPages

/-- R139: a DESC: answered from the stored acknowledgements, refused when its TAG is stale, or checked and queued. -/
def Device.qptDesc (d : Device) (h : QptHdr) (b : List Nat) : Device :=
  match d.qptSession h with
  | none => d.qptDiscard
  | some _ =>
    let mine := d.pages.descAcks.filter (fun a => a.1 == h.session)
    match mine.find? (fun a => a.2.1 == h.tag) with
    | some a => d.post h.rx 3 (.qpt h.srcIp h.srcPort a.2.2)
    | none =>
      let stale := match assoc d.pages.descLast h.session with
        | none => false
        | some t => !serialAfter 32 h.tag t
      let reply (d : Device) (st : Status) : List Nat := qptBytes 8 0xFF d.queueDepth h.tag st.code h.session []
      if stale then d.post h.rx 3 (.qpt h.srcIp h.srcPort (reply d .sequence))
      else
        let (st, pg) := if h.flags ≠ 0 ∨ h.rsv ≠ 0 then (Status.reserved, none)
          else d.descCheck b h.session h.srcIp h.srcPort
        let d1 := match pg with
          | none => d
          | some p => d.acceptPage p
        let ack := reply d1 st
        let others := d1.pages.descAcks.filter (fun a => a.1 != h.session)
        let kept := ((h.session, h.tag, ack) :: mine).take 16
        ({ d1 with pages := { d1.pages with descAcks := kept ++ others,
                                            descLast := assocSet d1.pages.descLast h.session h.tag } } : Device).post
          h.rx 3 (.qpt h.srcIp h.srcPort ack)

/-! ### Opening and closing (R137) -/

/-- R137: a page not yet retired uses the stream. -/
def Device.streamInUse (d : Device) (s : Nat) : Bool :=
  d.pages.queue.any (fun p => p.stripes.any (fun e => e.stream == s))

/-- R137: resident slots whose chains lie in the stream are emptied. -/
def Device.emptySlots (d : Device) (s : Nat) : Device :=
  d.pages.residents.foldl (fun (d : Device) (r : Nat × Option Resident) =>
    match r.2 with
    | none => d
    | some x =>
      if x.stripes.any (fun e => e.stream == s) then
        { d with pages := { d.pages with residents := tset resident0 d.pages.residents r.1 none } }.setReg
          (Reg.RESIDENT_PAGE + r.1) 0xFFFFFFFF
      else d) d

/-- R137: the stream is bound to the sender and answered with CREDIT. -/
def Device.bindStream (d : Device) (h : QptHdr) (x : Stream) : Device :=
  ((d.setStream h.stream { x with holder := some (h.session, h.srcIp, h.srcPort), comp := bit h.flags 2 }).setReg
    (Reg.un Reg.STREAM_STATE h.stream) 1).sendCredit h.stream

/-- R137: OPEN. -/
def Device.qptOpen (m : List Host.Cell) (d : Device) (h : QptHdr) : List Host.Cell × Device :=
  match d.qptSession h with
  | none => (m, d.qptDiscard)
  | some _ =>
    let x := d.stream h.stream
    let heldByOther := match x.holder with
      | none => false
      | some (sess, _) => sess != h.session
    if 16 ≤ h.stream then (m, d.qptDiscard)
    else if 8 ≤ h.flags ∨ h.rsv ≠ 0 then (m, d.sendNak h Status.reserved.code)
    else if heldByOther then (m, d.sendNak h Status.busy.code)
    else if x.size = 0 ∨ x.conflict = true then (m, d.sendNakOpen h)
    else if bit h.flags 0 then
      if x.persist = false then (m, d.sendNakOpen h)
      else if d.streamInUse h.stream then (m, d.sendNak h Status.busy.code)
      else (m, (d.emptySlots h.stream).bindStream h
        { x with received := 0, checked := 0, released := 0, held := [], credited := 0, hist := none, rawBuf := [],
                 chains := [] })
    else if bit h.flags 1 then
      if d.reg (Reg.un Reg.STREAM_STATE h.stream) ≠ 2 ∨ h.offset % 8 ≠ 0 ∨ h.offset ≤ x.checked then
        (m, d.sendNakOpen h)
      else (m, d.bindStream h { x with received := h.offset, checked := h.offset, held := [], hist := none })
    else if h.offset ≠ x.received then (m, d.sendNak h Status.sequence.code)
    else
      let st := d.reg (Reg.un Reg.STREAM_STATE h.stream)
      let d1 := d.bindStream h x
      if st = 2 then (m, d1.setReg (Reg.un Reg.STREAM_STATE h.stream) 2)
      else
        let (m2, d2) := Device.advance m d1 h.stream
        (m2, d2.readyPages)

/-- R137: a stream is closed; its offsets survive. -/
def Device.closeStream (d : Device) (s : Nat) : Device :=
  (d.setStream s { d.stream s with holder := none, held := [] }).setReg (Reg.un Reg.STREAM_STATE s) 0

/-- R137: CLOSE. -/
def Device.qptClose (d : Device) (h : QptHdr) : Device :=
  match d.qptSession h with
  | none => d.qptDiscard
  | some _ =>
    match (d.stream h.stream).holder with
    | none => d
    | some (sess, _) => if sess = h.session ∧ h.stream < 16 then d.closeStream h.stream else d

/-- R139: the DESC_ACKs and the sequence number kept for a session go with it. -/
def Device.forgetDescs (d : Device) (sess : Nat) : Device :=
  { d with pages := { d.pages with descAcks := d.pages.descAcks.filter (fun a => a.1 != sess),
                                   descLast := d.pages.descLast.filter (fun a => a.1 != sess) } }

/-- R137: the close of a session closes its streams. -/
def Device.closeStreamsOf (d0 : Device) (sess : Nat) : Device :=
  let d := d0.forgetDescs sess
  (List.range 16).foldl (fun (d : Device) (s : Nat) =>
    match (d.stream s).holder with
    | none => d
    | some (n, _) => if n = sess then d.closeStream s else d) d

/-! ### Data (R138) -/

/-- R138: RECEIVED passes every held range that the gap has reached. -/
def absorb : Nat → Nat → List (Nat × Nat) → Nat × List (Nat × Nat)
  | 0, r, l => (r, l)
  | n + 1, r, l =>
    let hit := l.filter (fun p => decide (p.1 ≤ r))
    if hit.isEmpty then (r, l)
    else absorb n (Nat.max r (maxN (hit.map Prod.snd))) (l.filter (fun p => decide (r < p.1)))

/-- R347: where the Pantry failed its training, and R286, R382: from the STANDBY entry's step 3 until the Pantry has left self-refresh, DATA and RAW are answered with NAK
carrying STATE. -/
def Device.pantryHeld (d : Device) : Bool :=
  d.reg Reg.PANTRY_STATE == 5 ||
  match d.pwr.phase with
  | .entry _ night n => night || decide (3 ≤ n)
  | .leave n => decide (n ≤ 3)
  | .steady => d.reg Reg.PWR_STATE == 2
  | _ => false

/-- R138: DATA. -/
def Device.qptData (m : List Host.Cell) (d : Device) (h : QptHdr) (data : List Nat) : List Host.Cell × Device :=
  match d.qptSession h with
  | none => (m, d.qptDiscard)
  | some _ =>
    let x := d.stream h.stream
    let mine := match x.holder with
      | none => false
      | some (sess, _) => sess == h.session
    let e := h.offset + data.length
    if 16 ≤ h.stream then (m, d.qptDiscard)
    else if h.flags ≠ 0 ∨ h.rsv ≠ 0 then (m, d.sendNak h Status.reserved.code)
    else if d.pantryHeld = true then (m, d.sendNak h Status.state.code)
    else if mine = false ∨ x.comp = true ∨ h.offset % 8 ≠ 0 ∨ data.length % 8 ≠ 0 then (m, d.sendNakOpen h)
    else if e ≤ x.received then (m, d)
    else if x.received + d.regN Reg.REORDER_BYTES < e ∨ x.limitOf < e then
      (m, (d.incReg (Reg.un Reg.STREAM_DISCARDS h.stream)).sendNakOpen h)
    else
      let skip := x.received - h.offset
      let m1 := x.write m (h.offset + skip) (data.drop skip)
      let (r, held) := absorb (x.held.length + 1) x.received (x.held ++ [(h.offset, e)])
      let d1 := (d.porchWrite x h.stream (h.offset + skip) (data.drop skip)).setStream h.stream
        { x with received := r, held := held, dataAt := d.now }
      let (m2, d2) := Device.advance m1 d1 h.stream
      (m2, (d2.creditCheck h.stream).readyPages)

/-- R138: CREDIT_IDLE_US after data last arrived, a CREDIT if CHECKED has moved. -/
def Device.creditIdle (d : Device) (s : Nat) : Device :=
  let x := d.stream s
  if x.holder.isNone = true ∨ x.checked = x.credited ∨ d.now < x.dataAt + cycUs (d.regN Reg.CREDIT_IDLE_US) then d
  else d.sendCredit s

/-! ### The compressor (R140, R141) -/

/-- R141: code n lines of the open chain and write the block at the stream's output offset. -/
def Device.codeLines (m : List Host.Cell) (d : Device) (s n : Nat) : List Host.Cell × Device :=
  let x := d.stream s
  match x.chains with
  | [] => (m, d)
  | c :: cs =>
    let (blk, h1) := compressBlock x.rawHist (c.blocks == 0) c.width n (x.rawBuf.take (n * c.width))
    let r := x.received + blk.length
    (x.write m x.received blk,
     (d.porchWrite x s x.received blk).setStream s { x with
                            received := r, rawBuf := x.rawBuf.drop (n * c.width), rawHist := h1,
                            chains := { c with blocks := c.blocks + 1, length := c.length + blk.length } :: cs })

/-- R141: every full block of COMP_BLOCK_LINES lines that the buffer holds. -/
def Device.codeFull (m : List Host.Cell) (d : Device) (s : Nat) : Nat → List Host.Cell × Device
  | 0 => (m, d)
  | k + 1 =>
    let x := d.stream s
    let n := Nat.max 1 (d.regN Reg.COMP_BLOCK_LINES)
    match x.chains with
    | [] => (m, d)
    | c :: _ =>
      if x.rawBuf.length < n * c.width then (m, d)
      else
        let (m', d') := Device.codeLines m d s n
        Device.codeFull m' d' s k

/-- R140, R141: the open chain ends: its last short block, END, and CHAIN_DONE to the stream's holder. -/
def Device.endChain (m : List Host.Cell) (d : Device) (s : Nat) (cut : Bool) : List Host.Cell × Device :=
  match (d.stream s).chains with
  | [] => (m, d)
  | c0 :: _ =>
    let n := (d.stream s).rawBuf.length / Nat.max 1 c0.width
    let (m1, d1) := if 0 < n then Device.codeLines m d s n else (m, d)
    let x := d1.stream s
    match x.chains with
    | [] => (m1, d1)
    | c :: cs =>
      let m2 := x.write m1 x.received endBlock
      let bad := cut || c.pixels % Nat.max 1 c.width != 0
      let c' := { c with length := c.length + 8, blocks := c.blocks + 1, bad := bad, done := true }
      let r := x.received + 8
      let d2 := (d1.porchWrite x s x.received endBlock).setStream s { x with
        received := r
        rawBuf := []
        chains := c' :: cs }
      let d3 := match x.holder with
        | none => d2
        | some (sess, ip, port) =>
          d2.post (d2.sessRx sess) 3 (.qpt ip port (qptBytes 6 s 0 c.tag 0 sess
            (leBytes 8 c'.start ++ leBytes 8 c'.length ++ leBytes 4 c'.blocks ++ [if bad then 1 else 0, 0, 0, 0])))
      (m2, d3)

/-- R140: RAW. -/
def Device.qptRaw (m : List Host.Cell) (d : Device) (h : QptHdr) (data : List Nat) : List Host.Cell × Device :=
  match d.qptSession h with
  | none => (m, d.qptDiscard)
  | some _ =>
    let x := d.stream h.stream
    let mine := match x.holder with
      | none => false
      | some (sess, _) => sess == h.session
    if 16 ≤ h.stream then (m, d.qptDiscard)
    else if 2 ≤ h.flags ∨ h.rsv ≠ 0 ∨ 4096 ≤ h.aux then (m, d.sendNak h Status.reserved.code)
    else if d.pantryHeld = true then (m, d.sendNak h Status.state.code)
    else if mine = false ∨ x.comp = false then (m, d.sendNakOpen h)
    else if h.offset + data.length ≤ x.rawNext ∧ 0 < data.length then (m, d)
    else if h.offset ≠ x.rawNext ∨ d.rawLimit x < h.offset + data.length then
      (m, (d.incReg (Reg.un Reg.STREAM_DISCARDS h.stream)).sendNakOpen h)
    else
      let openTag := match x.chains with
        | c :: _ => if c.done then none else some c.tag
        | [] => none
      let (m1, d1) := if openTag.isSome = true ∧ openTag ≠ some h.tag then Device.endChain m d h.stream true
        else (m, d)
      let y := d1.stream h.stream
      let y1 := if openTag = some h.tag then y
        else { y with chains := { tag := h.tag, start := y.received, length := 0, blocks := 0, width := h.aux + 1,
                                  pixels := 0, bad := false, done := false } :: y.chains,
                      rawBuf := [], rawHist := {} }
      let y2 := { y1 with rawNext := y1.rawNext + data.length, rawBuf := y1.rawBuf ++ data, dataAt := d.now,
                          chains := match y1.chains with
                            | c :: cs => { c with pixels := c.pixels + data.length } :: cs
                            | [] => [] }
      let d2 := d1.setStream h.stream y2
      let (m3, d3) := Device.codeFull m1 d2 h.stream (y2.rawBuf.length + 1)
      let (m4, d4) := if bit h.flags 0 then Device.endChain m3 d3 h.stream false else (m3, d3)
      let (m5, d5) := Device.advance m4 d4 h.stream
      (m5, (d5.creditCheck h.stream).readyPages)

/-- R337: the Porch's writes have moved on into the write queues: CHECKED of the streams that waited moves on, with the
credits and the pages that wait for it. -/
def Device.streamsMove (m : List Host.Cell) (d : Device) : List Nat → List Host.Cell × Device
  | [] => (m, d)
  | s :: ss =>
    let r := Device.advance m d s
    Device.streamsMove r.1 (r.2.creditCheck s).readyPages ss

/-! ### History capture (R150) -/

/-- R150: a capture is armed with the entries as they stand. -/
def Device.captureArm (d : Device) : Device :=
  { d with pages := { d.pages with capture := some (d.regN Reg.HIST_PAGE, d.regN Reg.HIST_PLANE,
      d.regN Reg.HIST_STRIPE, d.regN Reg.HIST_LINE, d.regN Reg.HIST_TARGET_SLOT) } }.setReg Reg.HIST_STATUS 1

end Sys2Proof.Machine
end

