-- ==== Sys2Proof/Machine/MantelOps.lean ====
section
/-! DEFINITION. The Mantel (R77 … R101): the line grid, page binding, strobe positions and arming, prediction, gates,
loss episodes, the voter, overspeed, and the phase spread of R112. -/
namespace Sys2Proof.Machine

/-! ### The grid -/

/-- A domain of R373 is powered. -/
def Device.domainOn (d : Device) (n : Nat) : Bool := bit (d.regN Reg.DOMAIN_ON) n

/-- R80: the origin moves to (go, po) for the lines from go on; the lines below keep their grid. -/
def Mantel.rephase (m : Mantel) (go po : Int) : Mantel := { m with old := m.seg :: m.old, go := go, po := po }

/-- R80: a segment is needed while lines below the origin after it still come. -/
def keepSegs (k : Int) (g : GridSeg) : List GridSeg → List GridSeg
  | [] => []
  | o :: os => if k < g.go then o :: keepSegs k o os else []

/-- R78: the reset of the Mantel: GLC 0 and the origin at the present PT; R394 says what else it does. The gate of a clock
fault stays: only a device reset releases it (R93, R417). -/
def Device.gridReset (d : Device) : Device :=
  { d with mantel := { po := d.pt, num := d.regN Reg.LINE_NUM, den := d.regN Reg.LINE_DEN, clockFault := d.mantel.clockFault } }

/-- R78, R89: the next line event is due: PT has reached the next boundary, in the pass direction, and no line event
has occurred in this ENC cycle. In carriage mode no line event occurs between passes. -/
def Device.lineDue (d : Device) : Bool :=
  let b := d.mantel.slotB (d.mantel.line + 1)
  d.domainOn 56 && !d.pos.lineNow && !d.ptHeld &&
    (if d.reg Reg.MODE = 1 then
      d.reg Reg.PASS_DIR != 0 && (if d.mantel.rev then decide (d.pt ≤ b) else decide (b ≤ d.pt))
    else decide (b ≤ d.pt))

/-- R78: GLC increments. -/
def Device.lineAdvance (d : Device) : Device :=
  let m := d.mantel
  let old := keepSegs (m.gridLine (m.line + 1)) m.seg m.old
  { d with mantel := { m with line := m.line + 1, old := old }, pos := { d.pos with lineNow := true } }

/-- The first grid line k with B(k) ≥ x, by the newest grid. -/
def Mantel.firstAt (m : Mantel) (x : Int) : Int :=
  m.go + ceilDiv ((x - m.po) * (m.den : Int)) ((m.num : Int) * 1024)

/-- The last grid line k with B(k) ≤ x, by the newest grid. -/
def Mantel.lastAt (m : Mantel) (x : Int) : Int := m.firstAt (x + 1) - 1

/-! ### Page binding (R79, R80, R89, R133) -/

/-- The page at the head of the queue: the first one not yet bound. -/
def Device.headPage (d : Device) : Option Page := d.unbound.head?

/-- R79, R133: the start of a page: its target T, and the line it takes when it follows the previous page. -/
def Device.pageTarget (d : Device) (p : Page) : Option (Int × Option Nat) :=
  let m := d.mantel
  let lead := d.pt + d.reg Reg.START_MIN_LEAD_LINES * (m.q : Int)
  match p.late with
  | some t => some (t, none)
  | none =>
    if p.kind = 0 then some (p.startPt, none)
    else if p.kind = 1 then p.cueT.map (fun x => (x + d.reg Reg.CUE_OFFSET_PU, none))
    else if m.anyBound = false ∨ p.resumed = true then some (lead, none)
    else
      let b := m.slotB (m.lastEnd + 1)
      if b < lead then some (b, none) else some (b, some (m.lastEnd + 1))

/-- What a binding comes to: first line, its boundary, residual, flags and the grid it leaves. -/
structure BindPlan where
  g0     : Nat
  pt     : Int
  resid  : Int
  flags  : Nat
  grid   : Mantel
deriving DecidableEq, Repr

/-- R79, R80: the binding of a web-mode page with target T. A ring member leaves the grid to its master, which rephases and
sends the new origin. -/
def Device.bindWeb (d : Device) (p : Page) (t : Int) : BindPlan :=
  let m := d.mantel
  let lead := d.pt + d.reg Reg.START_MIN_LEAD_LINES * (m.q : Int)
  let x := if t < lead then lead else t
  let g0 := (m.firstAt x).toNat
  let lateBit := if t < lead then 1 else 0
  let plain (fl : Nat) : BindPlan := { g0 := g0, pt := m.slotB g0, resid := m.slotB g0 - t, flags := fl, grid := m }
  if p.kind = 1 ∧ d.regB Reg.CUE_REPHASE = true then
    if lead ≤ t ∧ (m.anyBound = false ∨ (m.lastEnd : Int) ≤ (g0 : Int) - 2 - d.sMaxFire) then
      { g0 := g0, pt := t, resid := 0, flags := lateBit + 2,
        grid := if d.isMember then m else m.rephase g0 t }
    else plain (lateBit + 4)
  else plain lateBit

/-- R89: the binding of a pass. The grid lines run from the one PT stands on, in the direction of the pass; the lead of
R79 is taken along the pass (log entry 15). A target at PT itself gives a forward pass (log entry 139). -/
def Device.bindPass (d : Device) (p : Page) (t : Int) : BindPlan :=
  let m := d.mantel
  let pt := d.pt
  let rev := decide (t < pt)
  let lead := d.reg Reg.START_MIN_LEAD_LINES * (m.q : Int)
  let late := if rev then decide (pt - lead < t) else decide (t < pt + lead)
  let x := if late then (if rev then pt - lead else pt + lead) else t
  let k0 := if rev then m.lastAt x else m.firstAt x
  let kc := if rev then m.firstAt pt else m.lastAt pt
  let g0 := m.line + (if rev then kc - k0 else k0 - kc).toNat
  let m' := { m with rev := rev, hBase := m.line, kBase := kc }
  let b := m'.slotB g0
  { g0 := g0, pt := b, resid := b - t,
    flags := (if late then 1 else 0) + (if p.kind = 1 ∧ d.regB Reg.CUE_REPHASE = true then 4 else 0), grid := m' }

/-- R79: the binding takes effect. -/
def Device.bindPage (d : Device) (p : Page) (b : BindPlan) : Device :=
  let carriage := d.reg Reg.MODE = 1
  let p' := { p with state := .bound, g0 := b.g0 }
  let d1 := { d with
    mantel := { b.grid with anyBound := true, lastEnd := b.g0 + p.lines - 1,
                            bound := b.grid.bound ++ [(⟨p.num, b.g0, p.lines, b.grid.rev⟩ : Bound_)] }
    pages := { d.pages with queue := d.pages.queue.map (fun x => if x = p then p' else x) } }
  let d2 := (((((d1.setRegN Reg.LAST_START_GLC (b.g0 % 2 ^ 48)).setReg Reg.LAST_START_PT b.pt).setReg
    Reg.LAST_START_RESIDUAL_PU (clampI (-(2 ^ 31)) (2 ^ 31 - 1) b.resid)).setRegN Reg.LAST_START_FLAGS b.flags).setRegN
    Reg.CURRENT_PAGE p.num)
  let d3 := if carriage then
      (d2.incReg Reg.PASS_COUNT).setReg Reg.PASS_DIR (if b.grid.rev then 2 else 1) else d2
  let d4 := if bit b.flags 0 then d3.raise Ev.MANTEL_START_LATE 0xFF [.u 4 p.num, .s 0 b.resid] else d3
  let d5 := if bit b.flags 2 then d4.raise Ev.MANTEL_CUE_REPHASE_SKIPPED 0xFF [.u 4 p.num, .s 0 b.resid] else d4
  d5.sendPageState p' .bound

/-- R79, R133: the page at the head of the queue binds: the scheduler is RUNNING, the page is READY and its target is
known; in carriage mode the previous pass has ended (log entry 15). -/
def Device.pageBind (d : Device) : Device :=
  match d.headPage with
  | none => d
  | some p =>
    let free := d.reg Reg.MODE = 0 ∨ d.mantel.bound.isEmpty = true
    if d.reg Reg.SCHED_STATE ≠ 0 ∨ p.state ≠ .ready ∨ ¬ free then d
    else match d.pageTarget p with
      | none => d
      | some (t, follow) =>
        if d.reg Reg.MODE = 1 then d.bindPage p (d.bindPass p t)
        else match follow with
          | some g0 => d.bindPage p { g0 := g0, pt := t, resid := 0, flags := 0, grid := d.mantel }
          | none => d.bindPage p (d.bindWeb p t)

/-- R133: a START_KIND 2 page at the head is not READY by line g0 − READY_LEAD_LINES: NOT_READY_POLICY decides. -/
def Device.pageNotReady (d : Device) : Device :=
  match d.headPage with
  | none => d
  | some p =>
    let m := d.mantel
    let g0 := m.lastEnd + 1
    if p.kind ≠ 2 ∨ p.state ≠ .queued ∨ p.late.isSome = true ∨ m.anyBound = false ∨ p.resumed = true ∨
        d.reg Reg.SCHED_STATE ≠ 0 ∨ m.line + d.regN Reg.READY_LEAD_LINES < g0 then d
    else
      let pol := d.regN Reg.NOT_READY_POLICY
      let d1 := d.raise Ev.PAGE_NOT_READY 0xFF [.u 4 p.num, .u 1 pol]
      if pol = 1 then d1.discardPages [p]
      else { d1 with pages := { d1.pages with queue := d1.pages.queue.map (fun x =>
               if x = p then { p with late := some (m.slotB g0) } else x) } }

/-- R79: the next kept latch of a ROLE 1 probe gives the waiting cue-mark page its cue. -/
def Device.cueLatch (d : Device) (pt : Int) : Device :=
  match d.headPage with
  | none => d
  | some p =>
    if p.kind = 1 ∧ p.state = .ready ∧ p.cueT.isNone = true then
      { d with pages := { d.pages with queue := d.pages.queue.map (fun x =>
          if x = p then { p with cueT := some pt } else x) } }
    else d

/-! ### Arming (R81 … R86, R89) -/

/-- The published speed predicts: |v| is at least PRED_MIN_CPS and the method is not STALLED (R88). -/
def Device.predicts (d : Device) : Bool :=
  !d.ptStalled && speedAtLeast d.ptV (d.regN Reg.PRED_MIN_CPS)

/-- R81, R88: round(v × FLIGHT_NS) in pu; 0 where the Mantel does not predict. -/
def Device.flightPu (d : Device) (ns : Int) : Int :=
  if d.predicts then roundDiv (2 * d.ptV * ns) (2 ^ 24 * 5) else 0

/-- HEAD_PLANE in force for slot h. -/
def Device.planeAt (d : Device) (c h : Nat) : Nat := (d.regAt (Reg.HEAD_PLANE + c) h).toNat

/-- R85: the trim target G_c(h). -/
def Device.trimTarget (d : Device) (c h : Nat) : Int :=
  d.regAt (Reg.HEAD_TRIM_PU + c) h + d.regAt (Reg.PLANE_TRIM_PU + d.planeAt c h) h

/-- R85: T_c(h) from T_c(h − 1). -/
def Device.trimNext (d : Device) (c h : Nat) : Int :=
  let t := d.reg (Reg.TRIM_IN_FORCE_PU + c)
  let step : Int := ((d.mantel.q / Nat.max 1 (d.regN Reg.TRIM_SLEW_DIV) : Nat) : Int)
  t + clampI (-step) step (d.trimTarget c h - t)

/-- R81, R89: S(c, h) with trim t. -/
def Device.strobePos (d : Device) (c h : Nat) (t : Int) : Int :=
  let m := d.gridFor h
  let pl := d.planeAt c h
  let fl := d.flightPu (d.regAt (Reg.FLIGHT_NS + c) h)
  if m.rev then
    m.slotB h - d.regAt (Reg.HEAD_DELAY_REV_PU + c) h - d.regAt (Reg.PLANE_DELAY_REV_PU + pl) h - t - fl
  else m.slotB h + d.regAt (Reg.HEAD_DELAY_PU + c) h + d.regAt (Reg.PLANE_DELAY_PU + pl) h + t - fl

/-- The direction in which PT passes strobe positions. -/
def Mantel.dir (m : Mantel) : Int := if m.rev then -1 else 1

/-- R82, R84: slot h of channel c is armed. In a reverse pass the sub-strobes follow S along the pass, at S − Φ_p of the
reverse remainders (log entry 140). A slot already lost at its LAT is not armed. -/
def Device.armSlot (d : Device) (c h : Nat) : Device :=
  let t := d.trimNext c h
  let s := d.strobePos c h t
  let σ := d.mantel.dir
  let subs := (d.subOffsets c d.mantel.rev h).map (fun x => ({ sub := x.1, s := s + σ * x.2 } : ArmedSub))
  let a : Armed := { ch := c, h := h, s := s, s0 := (subs.head?.map ArmedSub.s).getD s, subs := subs, late := decide (σ * (s - d.pt) ≤ 1024),
                     fireOn := bit (d.regN Reg.FIRE_ENABLE) (c / 8) }
  let d1 := d.setReg (Reg.TRIM_IN_FORCE_PU + c) t
  if (d.chan c).lostEarly = some h then d1
  else { d1 with mantel := { d1.mantel with armed := d1.mantel.armed ++ [a] } }

/-- R191: a running drop test names the group; no line slot is armed for it. -/
def Device.underTest (d : Device) (k : Nat) : Bool :=
  (d.reg Reg.DT_STATE == 1 || d.reg Reg.DT_STATE == 2) && bit d.prot.conf.groups k

/-- R82, R89, R373: the line event arms slot line + ARM_LINES of every channel that is on; outside RUN, and in carriage
mode between passes, no slot is armed. -/
def Device.armLine (d : Device) : Device :=
  let h := d.mantel.line + d.regN Reg.ARM_LINES
  if d.reg Reg.PWR_STATE ≠ 0 ∨ (d.reg Reg.MODE = 1 ∧ d.reg Reg.PASS_DIR = 0) then d
  else (allChans.filter (fun c => d.chanOn c && !d.underTest (c / 8))).foldl (fun d c => d.armSlot c h) d

/-! ### Prediction (R87, R88, R409) -/

/-- R409: the start, in ps, of the MANTEL cycle in which ENC cycle n is first seen. -/
def seenStart (n : Nat) : Nat := 2000 * ceilDivNat ((n + 1) * 2500 + 2000) 2000

/-- R16, R89: the last edge moved PT in the direction of the pass; against it no strobe fires (log entry 141). -/
def Device.ptAlong (d : Device) : Bool := d.ptDir == d.mantel.dir

/-- R87: the instant at which PT reaches s, resolved to the nearest 250 ps tap (log entry 16). t_e is the start of the
edge's ENC cycle, on a member less the time since the edge lay there (log entry 142). -/
def Device.predictAt (d : Device) (s : Int) : Option Nat :=
  let pe := d.ptExact
  let v := d.ptV
  let σ := d.mantel.dir
  if σ * v ≤ 0 ∨ σ * (s - pe) < 0 ∨ 2048 ≤ σ * (s - pe) then none
  else
    let ago := if d.isMember then d.pos.ago else 0
    let taps := roundDiv (((d.ps : Int) - ago) * v.natAbs + (s - pe).natAbs * 2 ^ 24 * 2500) (250 * v.natAbs : Int)
    some (taps.toNat * 250)

/-- R16, R87: an accepted edge predicts every armed strobe position in its window, and notes those that PT has reached;
an edge against the pass takes back what has not fired yet. -/
def Device.predictEdge (d : Device) : Device :=
  let ready := seenStart d.now + 16000
  let σ := d.mantel.dir
  let upd (x : ArmedSub) : ArmedSub :=
    if !d.ptAlong then { x with preds := [], reached := none }
    else
      let x1 := match (if d.predicts then d.predictAt x.s else none) with
        | none => x
        | some t => { x with preds := { ready := ready, at_ := t } :: x.preds }
      if x1.reached.isNone = true ∧ σ * (x1.s - d.pt) ≤ 0 then { x1 with reached := some d.now } else x1
  { d with mantel := { d.mantel with armed := d.mantel.armed.map (fun a => { a with subs := a.subs.map upd }) } }

/-- PT, moving along the pass, has reached these strobe positions in this cycle. -/
def Device.noteReached (d : Device) : Device :=
  let σ := d.mantel.dir
  let pt := d.pt
  { d with mantel := { d.mantel with armed := d.mantel.armed.map (fun a => { a with subs := a.subs.map (fun x =>
      if d.ptAlong = true ∧ x.reached.isNone = true ∧ σ * (x.s - pt) ≤ 0 then { x with reached := some d.now } else x) }) } }

/-- R87, R88: the instant at which a strobe position fires: the newest prediction ready 16 ns before it, or the cycle in
which PT is seen to have reached it, whichever is earlier. A prediction stands when the speed falls below PRED_MIN_CPS or
the method becomes STALLED after it (log entry 143). -/
def Device.subInstant (d : Device) (late : Bool) (x : ArmedSub) : Option Nat :=
  let pred := if late then none else
    ((x.preds.find? (fun p => decide (p.ready + 16000 ≤ p.at_))).map Pred.at_)
  let fall := x.reached.map (fun n => seenStart n + (if d.predicts || late then 0 else 4000))
  match pred, fall with
  | some a, some b => some (Nat.min a b)
  | some a, none => some a
  | none, b => b

/-- The end of the present ENC cycle, ps: what lies before it is due. -/
def Device.dueBy (d : Device) : Nat := (d.now + 1) * 2500

/-! ### Gates and loss (R93 … R96) -/

/-- The default record of an interlock input. -/
def intlk0 (_ : Nat) : Intlk := {}

/-- Interlock input n. -/
def Device.intlkIn (d : Device) (n : Nat) : Intlk := tget intlk0 d.prot.intlk n

/-- Write interlock input n. -/
def Device.setIntlk (d : Device) (n : Nat) (x : Intlk) : Device :=
  { d with prot := { d.prot with intlk := tset intlk0 d.prot.intlk n x } }

/-- R184, R186: the groups an interlock gates. -/
def Device.intlkMask (d : Device) : Nat :=
  (d.prot.ring.map RingGate.held).foldl (· ||| ·) (((List.range 12).map (fun n => (d.intlkIn n).held)).foldl (· ||| ·) 0)

/-- R95: the highest active gate of precedence 1 to 4 on channel c, as its cause (0 none), apart from the slots that a
release leaves gated. -/
def Device.outputGate (d : Device) (c : Nat) : Nat :=
  if !d.domainOn (27 + c / 8) then 1
  else if d.mantel.clockFault then 8
  else if d.reg Reg.VOTE_STATE = 3 then 2
  else if bit d.intlkMask (c / 8) then 3
  else if bit (d.regN (Reg.TRIP_GATED + c / 8)) (c % 8) || d.prot.gate2.contains c then 4
  else 0

/-- R93, R94: the cause that gates slot h of channel c at the output stage (0 none). -/
def Device.gateCause (d : Device) (c h : Nat) : Nat :=
  let x := d.chan c
  let g := d.outputGate c
  if g = 1 ∨ g = 2 ∨ g = 8 ∨ g = 3 then g
  else if h < x.openIntlk then 3
  else if g = 4 ∨ h < x.openTherm then 4
  else 0

/-- R95: FIRE_EN_OUT. -/
def Device.fireEnOut (d : Device) : Bool :=
  d.regN Reg.FIRE_ENABLE != 0 && d.reg Reg.VOTE_STATE != 3 &&
    allChans.any (fun c => d.fireEnabled c && d.outputGate c == 0)

/-- R250: a slot of the group being taken over came to its shift with no FIFO entry: the takeover record holds it. -/
def Device.noteTakeoverLoss (d : Device) (c h : Nat) : Device :=
  match d.red.take with
  | none => d
  | some t =>
    if c / 8 = t.room ∧ t.caught = none then
      let n := (assoc t.lost c).getD 0 + 1
      let x : Nat × Int := (h % 2 ^ 48, d.mantel.slotB h)
      let first := match t.first with
        | none => x
        | some f => if h < f.1 then x else f
      let last := match t.last with
        | none => x
        | some f => if f.1 < h then x else f
      { d with red := { d.red with take := some { t with
          lost := assocSet t.lost c n, first := some first, last := some last } } }
    else d

/-- R96: slot h of channel c, armed at S or never armed at B(h), is lost. -/
def Device.loseSlot (d : Device) (c h cause : Nat) (s : Int) : Device :=
  let x := d.chan c
  let d1 := (d.incReg (Reg.LOST_LINES + c)).setRegN (Reg.LAST_LOST_GLC + c) (h % 2 ^ 48)
  let start (d : Device) : Device :=
    (d.setChan c { x with loss := some { cause := cause, count := 1, last := h } }).raiseAt
      Ev.MANTEL_LOST_START c h s [.u 1 cause]
  match x.loss with
  | none => start d1
  | some e =>
    if e.cause = cause then d1.setChan c { x with loss := some { e with count := e.count + 1, last := h } }
    else start (d1.raise Ev.MANTEL_LOST_END c [.u 2 e.count, .raw 4 e.last])

/-- R96: the next fired slot ends the episode. -/
def Device.endLoss (d : Device) (c : Nat) : Device :=
  let x := d.chan c
  match x.loss with
  | none => d
  | some e => (d.setChan c { x with loss := none }).raise Ev.MANTEL_LOST_END c [.u 2 e.count, .raw 4 e.last]

/-- R184, R186: group k is held by an input not CLEAR, or by a ring gate whose release has not come. -/
def Device.groupHeld (d : Device) (k : Nat) : Bool :=
  (List.range 12).any (fun n => bit (d.intlkIn n).held k && (d.intlkIn n).st != .clear) ||
    d.prot.ring.any (fun r => bit r.held k && (match r.relAt with
      | none => true
      | some g => decide (d.mantel.line < g)))

/-- R192: the gate that withholds a test drop of channel c; an interlock is judged by its inputs, for the test is
released at its next drop (R184). -/
def Device.dtGate (d : Device) (c : Nat) : Nat :=
  let g := d.outputGate c
  if g = 3 then (if d.groupHeld (c / 8) then 3 else
    (if bit (d.regN (Reg.TRIP_GATED + c / 8)) (c % 8) || d.prot.gate2.contains c then 4 else 0)) else g

/-- Replace a gate unit. -/
def Device.setDtUnit (d : Device) (x : DtUnit) : Device :=
  { d with prot := { d.prot with units := d.prot.units.map (fun y => if y.unit = x.unit then x else y) } }

/-- R191: the gate unit whose drop in flight is on channel c. -/
def Device.dropOn (d : Device) (c : Nat) : Option DtUnit :=
  d.prot.units.find? (fun x => x.fired.isSome && x.chans.head? == some c)

/-- R192: a gate acts on channel c before the FIRE pulse of its test drop has ended: the pulse is cut, and the drop is
not counted and is fired again. In a test being aborted its window still ends, without counting. -/
def Device.withholdDrop (d : Device) (c cause : Nat) : Device :=
  match d.dropOn c with
  | none => d
  | some x =>
    if x.fired.getD 0 + hpFireWidth (d.prof c) * 1000 ≤ d.ps then d
    else
      let d1 := d.send (.cut 0 c d.ps)
      if d.prot.abort then d1.setDtUnit { x with void := true }
      else
        let d2 := d1.setDtUnit { x with fired := none, waiting := some cause, p0 := none, p1 := none }
        if d.reg Reg.DT_STATE = 2 then d2
        else
          let d3 := { d2 with prot := { d2.prot with pausedAt := some d.now } }
          (d3.setReg Reg.DT_STATE 2).raise Ev.DT_PAUSED x.unit [.u 0 cause]

/-- R93, R96: a gate of precedence 1 to 4 acts on a channel: a FIRE pulse in progress is cut and its slot lost, with the
sub-strobes of the slot that were still to come. -/
def Device.cutFire (d : Device) (c cause : Nat) : Device :=
  let x := d.chan c
  match x.firing with
  | none => d.withholdDrop c cause
  | some (_, fall) =>
    if fall ≤ d.ps then d
    else
      let armed := d.mantel.armed.filter (fun a => a.ch != c || a.h != x.firingSlot)
      let d1 := { d with mantel := { d.mantel with armed := armed } }
      ((d1.setChan c { x with firing := none }).send (.cut 0 c d.ps)).loseSlot c x.firingSlot cause x.firingPos

/-- The cut of every channel that the gates now stop. -/
def Device.cutGated (d : Device) : Device :=
  allChans.foldl (fun (d : Device) (c : Nat) =>
    if (d.chan c).firing.isSome && d.outputGate c != 0 then d.cutFire c (d.outputGate c)
    else if (d.dropOn c).isSome && d.dtGate c != 0 then d.withholdDrop c (d.dtGate c)
    else d) d

/-- R83, R93: a row of channel c prints a page line at slot h. -/
def Device.slotHasPage (d : Device) (c h : Nat) : Bool :=
  (d.shifts c).any (fun (s : Int) => d.mantel.bound.any (fun b =>
    decide ((b.g0 : Int) ≤ (h : Int) - s ∧ (h : Int) - s < ((b.g0 + b.lines : Nat) : Int))))

/-! ### The voter (R97 … R99) -/

/-- R99: HALTED. -/
def Device.voteHalt (d : Device) : Device :=
  if d.reg Reg.VOTE_STATE = 3 then d
  else ((d.setReg Reg.VOTE_STATE 3).raise Ev.MANTEL_VOTE_HALT 0xFF [.u 0 (d.regN Reg.COPY_RETIRED)]).cutGated

/-- R98: copy i disagrees: its counter and its event. -/
def Device.voteDisagree (d : Device) (i c item : Nat) : Device :=
  (d.incReg (Reg.DISAGREE_M0 + i)).raise Ev.MANTEL_VOTE_DISAGREE i [.u 1 c, .u 0 item]

/-- R99: copy i is retired. -/
def Device.retireCopy (d : Device) (i : Nat) : Device :=
  let d1 := (d.setRegN Reg.COPY_RETIRED (setBit (d.regN Reg.COPY_RETIRED) i)).setReg Reg.VOTE_STATE 2
  { d1 with mantel := { d1.mantel with resync := none } }.raise Ev.MANTEL_COPY_RETIRED i
    [.u 0 (d.regN (Reg.DISAGREE_M0 + i))]

/-- R98, R99: one dissenting copy. -/
def Device.voteDissent (d : Device) (i c item : Nat) : Device :=
  let d1 := d.voteDisagree i c item
  if d.reg Reg.VOTE_STATE ≠ 0 then d1.voteHalt
  else
    let line := d.mantel.line
    let again := match assoc d.mantel.firstDis i with
      | none => false
      | some l => decide (line ≤ l + d.regN Reg.RETIRE_WINDOW_LINES)
    if again then d1.retireCopy i
    else
      let d2 := d1.setReg Reg.VOTE_STATE 1
      { d2 with mantel := { d2.mantel with resync := some (i, line), firstDis := assocSet d2.mantel.firstDis i line } }

/-- R97: the spread of a pulse's edges. -/
def Device.edgeSpread (d : Device) (c : Nat) (v : Vote) : Device :=
  let hi := Nat.max v.e0 (Nat.max v.e1 v.e2)
  let lo := Nat.min v.e0 (Nat.min v.e1 v.e2)
  if hi - lo ≤ d.regN Reg.EDGE_SPREAD_MAX_PS then d
  else
    let d1 := d.incReg Reg.EDGE_SPREAD_COUNT
    let quiet := match d.mantel.spreadAt with
      | none => true
      | some t => decide (cycS 1 ≤ d.now - t)
    if quiet then
      { d1 with mantel := { d1.mantel with spreadAt := some d.now } }.raise Ev.MANTEL_EDGE_SPREAD c [.u 0 (hi - lo)]
    else d1

/-- R97: the majority edge: the second of the three. -/
def voteSecond (v : Vote) : Nat :=
  let hi := Nat.max v.e0 (Nat.max v.e1 v.e2)
  let lo := Nat.min v.e0 (Nat.min v.e1 v.e2)
  v.e0 + v.e1 + v.e2 - hi - lo

/-- R97 … R99: one comparison of the copies at an item of channel c. -/
def Device.voteItem (d : Device) (c : Nat) (v : Vote) : Device :=
  if d.reg Reg.VOTE_STATE = 3 then d
  else if v.threeWay then d.voteHalt
  else match v.dissent with
    | none => d
    | some i =>
      if 3 ≤ i ∨ bit (d.regN Reg.COPY_RETIRED) i = true ∨ d.mantel.resync.map Prod.fst = some i then d
      else d.voteDissent i c v.item

/-- R97 … R99: one comparison of the copies at a pulse of channel c: its edges' spread and its request. -/
def Device.vote (d : Device) (c : Nat) (v : Vote) : Device :=
  if d.reg Reg.VOTE_STATE = 3 then d else (d.edgeSpread c v).voteItem c v

/-- R98: a line event brings RESYNC forward: the copy is reloaded at the first, TRIPLEX resumes at the second. -/
def Device.voteLine (d : Device) : Device :=
  match d.mantel.resync with
  | none => d
  | some (_, l) =>
    if d.reg Reg.VOTE_STATE = 1 ∧ l + 2 ≤ d.mantel.line then
      { d.setReg Reg.VOTE_STATE 0 with mantel := { d.mantel with resync := none } }
    else d

/-! ### Firing (R84, R87 … R91) -/

/-- R90: the tolerance of a deferral, pu. -/
def Device.deferTol (d : Device) : Nat := d.mantel.q / Nat.max 1 (d.regN Reg.DEFER_TOL_DIV)

/-- R90: PT at an earlier or later instant exceeds S by at most the tolerance; PT between now and then moves at v. -/
def Device.nearAt (d : Device) (s : Int) (at_ : Nat) : Bool :=
  let past : Int := d.mantel.dir * (d.pt - s) * 2 ^ 24 * 2500
  decide (past + (d.speedAbs : Int) * ((at_ : Int) - d.ps) ≤ (d.deferTol : Int) * 2 ^ 24 * 2500)

/-- R90: |v| × Δ ≤ tolerance, with Δ in ps. -/
def Device.tolerates (d : Device) (dt : Nat) : Bool := decide (d.speedAbs * dt ≤ d.deferTol * 2 ^ 24 * 2500)

/-- The armed record without sub-strobe `sub`; dropped when none is left. -/
def Mantel.dropSub (m : Mantel) (a : Armed) (sub : Nat) (a' : Armed) : Mantel :=
  let rest := a.subs.filter (fun x => x.sub != sub)
  { m with armed := m.armed.filterMap (fun x => if x = a then (if rest.isEmpty then none else some { a' with subs := rest })
                                                 else some x) }

/-- The slot is no longer armed. -/
def Device.disarm (d : Device) (a : Armed) : Device :=
  { d with mantel := { d.mantel with armed := d.mantel.armed.filter (fun x => x != a) } }

/-- A FIRE pulse leaves at instant t (ps). -/
def Device.fireAt (d : Device) (a : Armed) (sub t : Nat) (shift : Nat) : Device :=
  let c := a.ch
  let x := d.chan c
  let w := hpFireWidth (d.prof c) * 1000
  let g := d.group (c / 8)
  let d1 := d.setChan c { x with firing := some (t, t + w), firingSlot := a.h, firingPos := a.s0, tPrev := assocSet x.tPrev sub t }
  let d2 := d1.setGroup (c / 8) { g with fireFall := Nat.max g.fireFall (t + w) }
  let d3 := { d2 with mantel := d2.mantel.dropSub a sub { a with fired := true, shift := shift } }
  (d3.send (.pulse 0 c t w)).endLoss c

/-- R90, R91: what becomes of a slot whose first sub-strobe is due at t: fired at an instant (with whether it counts as
deferred), or lost with a cause. -/
inductive FireFate where
  | fire (at_ : Nat) (deferred : Bool)
  | lost (cause : Nat)
deriving DecidableEq, Repr

/-- R113: an instant on the next 250 ps tap. -/
def onTap (t : Nat) : Nat := 250 * ceilDivNat t 250

/-- R90, R91: the earliest instant after the latch. -/
def Device.latBound (d : Device) (c : Nat) : Nat := onTap ((d.group (c / 8)).lastLat + hpLatToFire (d.prof c) * 1000)

/-- R90, R91: minimum period, late slots and late latches. A late slot is judged by where PT is at the instant after the
minimum period (cause 6), and where its round's LAT came late, by where PT is after the latch (cause 7). -/
def Device.fireFate (d : Device) (a : Armed) (sub : Nat) (s : Int) (t : Nat) : FireFate :=
  let x := d.chan a.ch
  let tp := match assoc x.tPrev sub with
    | none => t
    | some p => Nat.max t (onTap (p + hpMinPeriod (d.prof a.ch) * 1000))
  let lb := d.latBound a.ch
  let t2 := Nat.max tp lb
  let latLate := (d.group (a.ch / 8)).latLate
  if a.late then
    (if d.dueBy < tp then .fire t2 true
     else if d.nearAt s tp = false then .lost 6
     else if tp < lb ∧ latLate = true ∧ lb ≤ d.dueBy ∧ d.nearAt s lb = false then .lost 7
     else .fire t2 true)
  else if d.tolerates (tp - t) = false then .lost 6
  else if latLate && !d.tolerates (t2 - t) then .lost 7
  else .fire t2 (decide (t < tp) || (latLate && decide (t < lb)))

/-- R91: the LAT of the slot's round is still to come. -/
def Device.latAhead (d : Device) (c h : Nat) : Bool :=
  decide ((d.chan c).next ≤ h) || (d.group (c / 8)).slots.contains (c, h)

/-- R111, R123: the FIFO entries up to a slot that a channel not PRESENT loses are discarded with it. -/
def Device.dropEntries (d : Device) (c h : Nat) : Device :=
  if d.present c then d
  else
    let x := d.chan c
    d.setChan c { x with fifo := x.fifo.filter (fun e => decide (h < e.slot)) }

/-- R91, R93: the first sub-strobe of a slot is due at t. A fate that lies ahead waits, and so does a slot whose round's
LAT is still to come. -/
def Device.fireFirst (d : Device) (a : Armed) (x : ArmedSub) (t off : Nat) : Device :=
  let c := a.ch
  let d := d.dropEntries c a.h
  let g := d.gateCause c a.h
  let held := (d.chan c).latched == some a.h
  if !d.slotHasPage c a.h then d.disarm a
  else if held && !(d.chan c).latDots then d.disarm a
  else if g ≠ 0 then (d.disarm a).loseSlot c a.h g a.s0
  else if !a.fireOn then d.disarm a
  else if !d.present c || !held then
    match d.fireFate a x.sub x.s t with
    | .lost 6 => (d.disarm a).loseSlot c a.h 6 a.s0
    | _ => if d.present c && d.latAhead c a.h then d else (d.disarm a).loseSlot c a.h 7 a.s0
  else match d.fireFate a x.sub x.s t with
    | .lost cause => (d.disarm a).loseSlot c a.h cause a.s0
    | .fire t2 deferred =>
      if d.dueBy < t2 then d
      else
        let d1 := if deferred then d.incReg (Reg.DEFERRED_LINES + c) else d
        d1.fireAt a x.sub (t2 + off) (t2 - t)

/-- R84: a later sub-strobe of a slot that fires: moved with the slot, kept at the minimum spacing, and held to the minimum
period from its own previous strobe. -/
def Device.fireLater (d : Device) (a : Armed) (x : ArmedSub) (t off : Nat) : Device :=
  let c := a.ch
  let g := d.gateCause c a.h
  let prev := maxN ((d.chan c).tPrev.map Prod.snd)
  let own := match assoc (d.chan c).tPrev x.sub with
    | none => 0
    | some p => onTap (p + hpMinPeriod (d.prof c) * 1000)
  let t2 := Nat.max (Nat.max (t + a.shift) (onTap (prev + hpMinSub (d.prof c) * 1000))) own
  if g ≠ 0 then (d.disarm a).loseSlot c a.h g a.s0
  else if d.dueBy < t2 then d
  else d.fireAt a x.sub (t2 + off) a.shift

/-- R87 … R99: the instant of a sub-strobe of slot h on channel c has come; they fire in their order (R84). A group that is not ON, and a power state
other than RUN, fires nothing and counts nothing. -/
def Device.strobeFire (d : Device) (c h sub : Nat) (v : Vote) : Device :=
  match d.mantel.armed.find? (fun a => a.ch == c && a.h == h) with
  | none => d
  | some a =>
    match a.subs.find? (fun x => x.sub == sub) with
    | none => d
    | some x =>
      match d.subInstant a.late x with
      | none => d
      | some t =>
        if d.dueBy < t ∨ a.subs.head? ≠ some x then d
        else if !d.chanOn c then d.disarm a
        else
          let d1 := d.vote c v
          if a.fired then d1.fireLater a x t (voteSecond v) else d1.fireFirst a x t (voteSecond v)

/-- R93: a FIRE pulse ends. -/
def Device.firePulseEnd (d : Device) (c : Nat) : Device :=
  let x := d.chan c
  match x.firing with
  | none => d
  | some (_, fall) => if d.dueBy < fall then d else d.setChan c { x with firing := none }

/-! ### Overspeed and the phase spread (R92, R112) -/

/-- R92: MIN_PERIOD_NS of the slowest channel that is present and enabled in FIRE_ENABLE; 0 with none. -/
def Device.slowest (d : Device) : Nat :=
  maxN ((allChans.filter (fun c => d.present c && d.fireEnabled c)).map (fun c => hpMinPeriod (d.prof c)))

/-- R92: OVERSPEED_CPS as the quotient of two integers; 0 / 1 with no channel enabled. -/
def Device.overspeedRat (d : Device) : Nat × Nat :=
  let p := d.slowest
  if p = 0 then (0, 1)
  else (d.regN Reg.OVERSPEED_PERMILLE * 1000000000 * d.mantel.num, 1000 * p * d.mantel.den)

/-- R92: OVERSPEED_N follows |v|. -/
def Device.overspeedCheck (d : Device) : Device :=
  let (n, m) := d.overspeedRat
  let d1 := d.setRegN Reg.OVERSPEED_CPS (if n = 0 then 0 else f32OfRat n m)
  let v := d.speedAbs * 400000000 * m
  let hi := n * 2 ^ 34
  let lo := hi * (1000 - d.regN Reg.OVERSPEED_HYST_PERMILLE)
  let put (d : Device) (b : Bool) : Device :=
    { d with mantel := { d.mantel with overspeed := b } }.setReg Reg.OVERSPEED_ACTIVE (if b then 1 else 0)
  let sp := speedInt d.ptV
  if d.mantel.overspeed then
    if n = 0 ∨ v * 1000 ≤ lo then (put d1 false).raise Ev.MANTEL_OVERSPEED_CLEAR 0xFF [.s 0 sp] else d1
  else if n ≠ 0 ∧ hi < v then (put d1 true).raise Ev.MANTEL_OVERSPEED 0xFF [.s 0 sp]
  else d1

/-- R92, R97: a speed update drives OVERSPEED_N, which the voter compares like every other item. -/
def Device.overspeedVote (d : Device) (v : Vote) : Device := (d.overspeedCheck).voteItem v.chan v

/-- R112: the channels whose phases count in group k. -/
def Device.spreadChans (d : Device) (k : Nat) : List Nat :=
  (groupChans k).filter (fun c => d.present c && d.fireEnabled c)

/-- R112: a channel's interval on the circle: its phase and its end. -/
def Device.phase (d : Device) (c : Nat) : Int × Int :=
  let q : Int := d.mantel.q
  let s := (d.reg (Reg.HEAD_DELAY_PU + c) + d.reg (Reg.PLANE_DELAY_PU + d.regN (Reg.HEAD_PLANE + c)) +
    d.reg (Reg.TRIM_IN_FORCE_PU + c)) % q
  (s, s + maxI 0 ((d.subOffsets c d.mantel.rev d.mantel.line).map Prod.snd))

/-- Put an interval in the order of its start. -/
def insertPhase (x : Int × Int) : List (Int × Int) → List (Int × Int)
  | [] => [x]
  | y :: ys => if x.1 ≤ y.1 then x :: y :: ys else y :: insertPhase x ys

/-- The gaps between intervals in order of their starts, from a first covered end on. -/
def phaseGaps : Int → List (Int × Int) → List Int
  | _, [] => []
  | reach, (a, b) :: t => (a - reach) :: phaseGaps (if reach < b then b else reach) t

/-- R112: PHASE_SPREAD_PU. -/
def Device.phaseSpread (d : Device) (k : Nat) : Nat :=
  let q : Int := d.mantel.q
  let l := ((d.spreadChans k).map d.phase).foldl (fun acc x => insertPhase x acc) []
  match l with
  | [] => 0
  | (a0, b0) :: t =>
    let endMax := maxI b0 (t.map Prod.snd)
    let wrapGap := a0 + q - endMax
    let start := if endMax - q < b0 then b0 else endMax - q
    (q - maxI 0 (wrapGap :: phaseGaps start t)).toNat

/-- R112: SPREAD_LIMIT_PU; a negative limit reads 0. -/
def Device.spreadLimit (d : Device) (k : Nat) : Nat :=
  let p := (d.group k).prof
  let x : Int := hpLatWidth p + hpLatToFire p + hpFireWidth p + hpFireToLat p
  let sl : Int := d.slowest
  let base : Int := d.mantel.num * 1024
  let v := if sl = 0 then base.fdiv d.mantel.den
    else (base * (1000 * sl - x * d.reg Reg.OVERSPEED_PERMILLE)).fdiv (d.mantel.den * 1000 * sl)
  v.toNat

/-- R112: both values of a group are recomputed; passing beyond the limit is reported. -/
def Device.spreadGroup (d : Device) (k : Nat) : Device :=
  let sp := d.phaseSpread k
  let lim := d.spreadLimit k
  let g := d.group k
  let hi := decide (lim < sp)
  let d1 := ((d.setRegN (Reg.PHASE_SPREAD_PU + k) sp).setRegN (Reg.SPREAD_LIMIT_PU + k) lim).setGroup k
    { g with spreadHi := hi }
  if hi && !g.spreadHi then d1.raise Ev.HEAD_SPREAD k [.u 0 sp] else d1

/-! ### Retiring (R132) -/

/-- R132: every slot of the page's last line, behind the largest row shift, has been decided. -/
def Device.pageOver (d : Device) (b : Bound_) : Bool :=
  let last := ((b.g0 + b.lines - 1 : Nat) : Int) + d.sMaxAll
  decide (last ≤ ((d.mantel.line + d.regN Reg.ARM_LINES : Nat) : Int)) &&
    d.mantel.armed.all (fun a => decide (last < (a.h : Int)))

/-- R132: bound pages that are over retire, oldest first; in carriage mode the pass ends with its page. -/
def Device.retireOver (d : Device) : Device :=
  match d.mantel.bound with
  | [] => d
  | b :: bs =>
    if d.pageOver b then
      let d1 := { d with mantel := { d.mantel with bound := bs } }
      let d2 := if d.reg Reg.MODE = 1 ∧ bs.isEmpty = true then d1.setReg Reg.PASS_DIR 0 else d1
      match d.pages.queue.find? (fun p => p.isBound && p.num == b.page && p.g0 == b.g0) with
      | none => d2
      | some p => d2.retirePage p
    else d

end Sys2Proof.Machine
end

