-- ==== Sys2Proof/Machine/HeadOps.lean ====
section
/-! DEFINITION. The head ports (R102 … R125): rounds of shift and latch, the line FIFO, group enable and shutdown,
presence, head memory records. -/
namespace Sys2Proof.Machine

/-! ### Rounds (R109 … R111) -/

/-- The next slot of a channel: the first armed slot not yet shifted, else the first slot that will be armed. -/
def Device.nextSlot (d : Device) (c : Nat) : Nat :=
  let x := d.chan c
  let hs := (d.mantel.armed.filter (fun a => a.ch == c && decide (x.next ≤ a.h))).map Armed.h
  match hs with
  | [] => Nat.max x.next (d.mantel.line + d.regN Reg.ARM_LINES + 1)
  | h :: t => minN h (h :: t)

/-- Where slot h of channel c strobes: as armed, else with the trim in force. -/
def Device.slotS (d : Device) (c h : Nat) : Int :=
  match d.mantel.armed.find? (fun a => a.ch == c && a.h == h) with
  | some a => a.s
  | none => d.strobePos c h (d.reg (Reg.TRIM_IN_FORCE_PU + c))

/-- R96: the position a lost slot is reported at: the first sub-strobe's as armed, or B(h) for a slot never armed. -/
def Device.lossPos (d : Device) (c h : Nat) : Int :=
  match d.mantel.armed.find? (fun a => a.ch == c && a.h == h) with
  | some a => a.s0
  | none => (d.gridFor h).slotB h

/-- R109, R123: the channels of a group that take part in rounds. -/
def Device.roundChans (d : Device) (k : Nat) : List Nat := (groupChans k).filter (fun c => d.chanOn c && d.present c)

/-- A channel's next slot and where it strobes, by position. -/
def insertPos (x : Nat × Nat × Int) : List (Nat × Nat × Int) → List (Nat × Nat × Int)
  | [] => [x]
  | y :: ys => if x.2.2 < y.2.2 then x :: y :: ys else y :: insertPos x ys

/-- R109, R112: of slots in the order of their positions, within one line q of the first, the round holds those up to the
largest gap on the circle, of equal gaps the last (log entry 17). `best` is the largest gap so far and the slots up to it. -/
def roundCut (stop : Int) (done best : List (Nat × Nat × Int)) (gap : Int) : List (Nat × Nat × Int) → List (Nat × Nat × Int)
  | [] => best
  | x :: xs =>
    let d' := done ++ [x]
    let g := (match xs with | y :: _ => y.2.2 | [] => stop) - x.2.2
    if gap ≤ g then roundCut stop d' d' g xs else roundCut stop d' best gap xs

/-- R109: the slots of the next round. -/
def Device.roundSlots (d : Device) (k : Nat) : List (Nat × Nat) :=
  let σ := d.mantel.dir
  let l := (d.roundChans k).foldl (fun acc c => insertPos (c, d.nextSlot c, σ * d.slotS c (d.nextSlot c)) acc) []
  match l with
  | [] => []
  | x :: _ =>
    let stop := x.2.2 + (d.mantel.q : Int)
    (roundCut stop [] [] 0 (l.filter (fun y => decide (y.2.2 < stop)))).map (fun y => (y.1, y.2.1))

/-- R109: where the LAT leading edge of a slot's round lies for this slot: ahead of the predicted instant of its first
sub-strobe, or, where there is no prediction, at the cycle in which PT is seen to have reached it, whichever is earlier. -/
def Device.slotLat (d : Device) (c h ahead : Nat) : Option Nat :=
  match d.mantel.armed.find? (fun a => a.ch == c && a.h == h) with
  | none => none
  | some a =>
    match a.subs with
    | [] => none
    | x :: _ =>
      let fall := x.reached.map seenStart
      match (if a.late then none else x.preds.head?.map (fun p => p.at_ - ahead)), fall with
      | some p, some f => some (Nat.min p f)
      | some p, none => some p
      | none, f => f

/-- The earliest of the known instants. -/
def minOpt (l : List (Option Nat)) : Option Nat :=
  match l.filterMap id with
  | [] => none
  | x :: xs => some (minN x (x :: xs))

/-- R113: the LAT width in ps, on 2 ns cycles. -/
def latWidthPs (p : List Nat) : Nat := 2000 * ceilDivNat (hpLatWidth p) 2

/-- R109: the LAT leading edge of a round: its two terms, on 2 ns cycles. -/
def Device.latTerms (d : Device) (k : Nat) (slots : List (Nat × Nat)) : Option (Nat × Nat) :=
  let g := d.group k
  match minOpt (slots.map (fun x => d.slotLat x.1 x.2 (hpLatToFire g.prof * 1000 + latWidthPs g.prof))) with
  | none => none
  | some t =>
    let t1 := t / 2000 * 2000
    let t2 := if g.fireFall = 0 then g.lastLat else 2000 * ceilDivNat (g.fireFall + hpFireToLat g.prof * 1000) 2000
    some (t1, t2)

/-- R110: the latest start of the shift, when the next LAT is predicted. -/
def Device.latestShift (d : Device) (k : Nat) (slots : List (Nat × Nat)) : Option Nat :=
  let g := d.group k
  (d.latTerms k slots).map (fun t => Nat.max t.1 t.2 - hpShiftToLat g.prof * 1000 - hpShiftPs g.prof)

/-- R114: before a shift, entries older than the slot are discarded and counted, and the slot's own entry is taken. -/
def Device.takeEntry (d : Device) (c h : Nat) : Option FifoEntry × Device :=
  let x := d.chan c
  let old := (x.fifo.filter (fun e => decide (e.slot < h))).length
  let d1 := d.setChan c { x with fifo := x.fifo.filter (fun e => decide (h < e.slot)) }
  (x.fifo.find? (fun e => e.slot == h), if old = 0 then d1 else d1.addReg (Reg.FIFO_DISCARDS + c) old)

/-- R107, R110: channel c shifts the codes of slot h, or zeros when they have not arrived. -/
def Device.shiftChan (d : Device) (c h : Nat) : Device :=
  let (e, d1) := d.takeEntry c h
  let p := d.prof c
  let codes := match e with
    | some x => x.codes
    | none => List.replicate (hpNozzles p) 0
  let lane (l : Nat) : List Nat := (laneBits p l codes).map (fun b => if b then 1 else 0)
  let y := d1.chan c
  ((d1.setChan c { y with shifted := some (h, e.isSome), shiftCodes := codes, next := h + 1 }).send
    (.shiftOut (2 * c) (lane 0))).send (.shiftOut (2 * c + 1) (lane 1))

/-- R110: a group starts the shift of its next round. -/
def Device.shiftStart (d : Device) (k : Nat) : Device :=
  let g := d.group k
  let slots := d.roundSlots k
  let earliest := g.lastLat + hpLatToShift g.prof * 1000
  let allIn := (d.roundChans k).all (fun c => (d.chan c).fifo.any (fun e => e.slot == d.nextSlot c))
  let pressed := match d.latestShift k slots with
    | none => false
    | some t => decide (t ≤ d.dueBy)
  if d.hgState k ≠ 4 ∨ d.underTest k = true ∨ slots.isEmpty = true ∨ g.slots.isEmpty = false ∨ d.dueBy < earliest ∨
      ¬ (allIn = true ∨ pressed = true) then d
  else
    let start := Nat.max d.ps earliest
    (slots.foldl (fun d x => d.shiftChan x.1 x.2) d).setGroup k
      { g with slots := slots, shiftAt := some start, shiftEnd := start + hpShiftPs g.prof, ready := false }

/-- R107: the shift completes on its last SCLK edge. -/
def Device.shiftDone (d : Device) (k : Nat) : Device :=
  let g := d.group k
  match g.shiftAt with
  | none => d
  | some _ => if d.dueBy < g.shiftEnd then d else d.setGroup k { g with shiftAt := none, ready := true }

/-- R111: a channel at the LAT leading edge: its slot is latched when it was shifted completely, else it is lost at once,
unless its group's FIRE_ENABLE bit is clear (R96), and in a takeover one that was shifted with no entry is noted (R250); a slot whose arming is still to come is told of at the arming. -/
def Device.latchChan (d : Device) (complete : Bool) (c h : Nat) : Device :=
  let x := d.chan c
  if complete && x.shifted == some (h, true) then
    d.setChan c { x with latched := some h, latDots := x.shiftCodes.any (fun v => v != 0), shifted := none }
  else
    let a := d.mantel.armed.find? (fun a => a.ch == c && a.h == h)
    let fires := match a with
      | some y => y.fireOn
      | none => bit (d.regN Reg.FIRE_ENABLE) (c / 8)
    let d1 := (d.setChan c { x with shifted := none, fifo := x.fifo.filter (fun e => e.slot != h),
                                    lostEarly := if a.isNone && fires then some h else x.lostEarly }).incReg
      (Reg.NOT_LATCHED + c)
    let empty := x.shifted == some (h, false)
    let d2 := if d.slotHasPage c h && fires then
        (if empty then d1.noteTakeoverLoss c h else d1).loseSlot c h 7 (d.lossPos c h)
      else d1
    { d2 with mantel := { d2.mantel with armed := d2.mantel.armed.filter (fun a => !(a.ch == c && a.h == h)) } }

/-- R109: a slot of the latched round still waits for its strobe, or for its arming. -/
def Device.roundOpen (d : Device) (k : Nat) : Bool :=
  (d.group k).latSlots.any (fun x => decide (d.mantel.line + d.regN Reg.ARM_LINES < x.2) ||
    d.mantel.armed.any (fun a => x.1 == a.ch && x.2 == a.h))

/-- R109: the LAT of a round: placed at the later of its two terms, once every slot of the round before it has been
decided; a shift that has ended is followed by SHIFT_TO_LAT_NS (R113; log entry 144), an unfinished one is not waited for
(R111). The pulse leaves at the second copy's edge (R97; log entry 145). -/
def Device.latch (d : Device) (k : Nat) (v : Vote) : Device :=
  let g := d.group k
  match d.latTerms k g.slots with
  | none => d
  | some (t1, t2) =>
    let t0 := Nat.max t1 t2
    let complete := decide (g.shiftEnd ≤ t0)
    let t := if complete then Nat.max t0 (2000 * ceilDivNat (g.shiftEnd + hpShiftToLat g.prof * 1000) 2000) else t0
    if d.hgState k ≠ 4 ∨ g.slots.isEmpty = true ∨ g.latRise.isSome = true ∨ d.roundOpen k = true ∨ d.dueBy < t then d
    else
      let rise := t + voteSecond v
      let w := latWidthPs g.prof
      let d0 := d.vote (8 * k) v
      let d1 := g.slots.foldl (fun d x => d.latchChan complete x.1 x.2) d0
      (d1.setGroup k { d1.group k with
        round := g.round + 1, slots := [], shiftAt := none, ready := false, latRise := some ⟨rise, rise + w⟩,
        lastLat := rise + w, fireFall := 0, latSlots := g.slots, latLate := decide (t1 < t) }).send (.pulse 2 k rise w)

/-- R109: the LAT pulse ends. -/
def Device.latPulseEnd (d : Device) (k : Nat) : Device :=
  let g := d.group k
  match g.latRise with
  | none => d
  | some p => if d.dueBy < p.fall then d else d.setGroup k { g with latRise := none }

/-! ### FIFO (R114, R115) -/

/-- R114: the lines a channel's FIFO holds. -/
def fifoDepth : Nat := 64

/-- R115: a channel's FIFO is emptied. -/
def Device.emptyFifo (d : Device) (c : Nat) : Device :=
  let x := d.chan c
  d.setChan c { x with fifo := [], shifted := none, latched := none }

/-! ### Presence (R123) -/

/-- A channel's presence state. -/
def Device.presence (d : Device) (c : Nat) : Int := d.reg (Reg.PRESENCE + c)

/-- R104, R123: the channel is enabled, whatever its group's state. -/
def Device.chanEnabled (d : Device) (c : Nat) : Bool := d.regB (Reg.CH_ENABLE + c) && d.fifoUsable c

/-- R123: nozzle counts of the record and of the profile agree. -/
def recNozzles (r : List Nat) : Nat := fieldAt r 40 2

/-- R122: the first check that a record fails, 0 none. -/
def recordFail (r : List Nat) : Nat :=
  let dead := fieldAt r 50 1
  if bytesAt r 0 2 ≠ [0x51, 0x48] then 1
  else if fieldAt r 2 1 ≠ 1 then 2
  else if fieldAt r 3 1 ≠ 128 then 3
  else if crc32c (bytesAt r 0 124) ≠ fieldAt r 124 4 then 4
  else if 15 < fieldAt r 42 1 ∨ 15 < fieldAt r 43 1 then 5
  else if 32 < dead then 6
  else if (List.range dead).any (fun i => decide (recNozzles r ≤ fieldAt r (52 + 2 * i) 2)) then 7
  else 0

/-- A string field without its 00h padding. -/
def unpad (l : List Nat) : List Nat := (l.reverse.dropWhile (fun b => b == 0)).reverse

/-- R121: the SERIAL field without its padding. -/
def recSerial (r : List Nat) : List Nat := unpad (bytesAt r 20 16)

/-- R122: the smaller of two thresholds when a valid record gives one. -/
def thermMin (valid : Bool) (p r : Int) : Int := if valid && decide (r < p) then r else p

/-- R122: the thresholds in force for channel c with record r. -/
def Device.setThresholds (d : Device) (c : Nat) (r : List Nat) (valid : Bool) : Device :=
  let p := d.prof c
  (d.setReg (Reg.TEMP_WARN_IN_FORCE + c) (thermMin valid (hpTempWarn p) (fieldAtI r 46 2))).setReg
    (Reg.TEMP_LIMIT_IN_FORCE + c) (thermMin valid (hpTempLimit p) (fieldAtI r 48 2))

/-- The valid record last read from a channel's head, if any. -/
def Device.validRecord (d : Device) (c : Nat) : Option (List Nat) :=
  match d.blob? (Reg.HEAD_RECORD + c) with
  | none => none
  | some r => if recordFail r = 0 then some r else none

/-- R125: the PRESENT heads of a group with their DRIVE_RANK. -/
def Device.rankSet (d : Device) (k : Nat) : List (Nat × Nat) :=
  (groupChans k).filterMap (fun c =>
    if d.present c then (d.validRecord c).map (fun r => (c, fieldAt r 42 1)) else none)

/-- R125: HEAD_RANK_MIX, once per change of the group's set of heads. -/
def Device.rankCheck (d : Device) (k : Nat) : Device :=
  let s := d.rankSet k
  let g := d.group k
  if s = g.rankSet then d
  else
    let d1 := d.setGroup k { g with rankSet := s }
    let rs := s.map Prod.snd
    let lo := minN 15 rs
    let hi := maxN rs
    if d.reg Reg.RANK_MIX_POLICY = 1 ∧ rs.isEmpty = false ∧ lo < hi then
      d1.raise Ev.HEAD_RANK_MIX k [.u 2 lo, .u 0 hi]
    else d1

/-- A channel leaves PRESENT, or is set to another presence state (R115, R125). -/
def Device.setPresence (d : Device) (c : Nat) (st : Int) : Device :=
  let d1 := d.setReg (Reg.PRESENCE + c) st
  if d.presence c = 6 ∧ st ≠ 6 then (d1.emptyFifo c).rankCheck (c / 8) else d1

/-- R123: a channel's DISABLED condition ends or begins, in a group that polls. -/
def Device.chEnableChanged (d : Device) (c : Nat) : Device :=
  let polls := d.hgState (c / 8) = 4 ∨ d.hgState (c / 8) = 3
  if d.chanEnabled c = true ∧ polls then
    if d.presence c = 0 then
      let x := d.chan c
      (d.setChan c { x with acks := 0, nacks := 0, rend := Nat.max x.rend (d.mantel.line + d.regN Reg.ARM_LINES + 1) }).setPresence c 1
    else d
  else (d.setPresence c 0).emptyFifo c

/-- R123: the channel becomes PRESENT; its first slot is the next one to be armed. -/
def Device.enterPresent (d : Device) (c : Nat) : Device :=
  let x := d.chan c
  let dr := match d.validRecord c with
    | none => 0
    | some r => fieldAt r 44 2
  (((d.setReg (Reg.PRESENCE + c) 6).setChan c { x with next := d.mantel.line + d.regN Reg.ARM_LINES + 1 }).setRegN
    (Reg.DRIVE_MV + c) dr).rankCheck (c / 8)

/-- R120: the word address of the head memory of a profile. -/
def memWordAddr (p : List Nat) (a : Nat) : List Nat := if hpMemBytes p ≤ 256 then [a % 256] else [a / 256 % 256, a % 256]

/-- The address of byte a of the head memory of channel c among the head memories. -/
def headAddr (c a : Nat) : Nat := c * 65536 + a

/-- R117: a sideband error of a group; the event at most once per second. -/
def Device.sbError (d : Device) (k : Nat) : Device :=
  let d1 := d.incReg (Reg.SB_ERRORS + k)
  let quiet := match assoc d.heads.sbErrs k with
    | none => true
    | some t => decide (cycS 1 ≤ d.now - t)
  if quiet then
    ({ d1 with heads := { d1.heads with sbErrs := assocSet d1.heads.sbErrs k d.now } } : Device).raise
      Ev.HEAD_SB_ERROR k [.u 0 (d1.regN (Reg.SB_ERRORS + k))]
  else d1

/-- The default nozzle map. -/
def map0 (_ : Nat) : NozMap := {}

/-- The nozzle map of channel c. -/
def Device.nozMap (d : Device) (c : Nat) : NozMap := tget map0 d.rooms.maps c

/-- Write the nozzle map of channel c. -/
def Device.setNozMap (d : Device) (c : Nat) (m : NozMap) : Device :=
  { d with rooms := { d.rooms with maps := tset map0 d.rooms.maps c m } }

/-- R238: the words of a NOZZLE record that came with another head are not used: those not written since take the default. -/
def Device.dropForeign (d : Device) (c : Nat) : Device :=
  match assoc d.cal.nozFrom c with
  | none => d
  | some t =>
    let m := d.nozMap c
    let old (n : Nat) : Bool := decide (tget (fun _ => 0) m.lastChg n ≤ t)
    let d1 := d.setNozMap c { m with
      written := m.written.filter (fun p => !old p.1), base := m.base.filter (fun p => !old p.1)
      origin := m.origin.filter (fun p => !old p.1), cls := [] }
    { d1 with cal := { d1.cal with nozFrom := assocDel d1.cal.nozFrom c } }

/-- R121 … R123: what the record of a head in IDENT makes of its channel. -/
def Device.identify (d0 : Device) (c : Nat) (r : List Nat) : Device :=
  let f := recordFail r
  let same := f == 0 && recSerial r == unpad (d0.blob (Reg.KNOWN_SERIAL + c))
  let d := if f ≠ 0 then d0 else if same then { d0 with cal := { d0.cal with nozFrom := assocDel d0.cal.nozFrom c } }
    else d0.dropForeign c
  let d1 := (d.setBlob (Reg.HEAD_RECORD + c) r).setThresholds c r (f == 0)
  if f ≠ 0 then (d1.setReg (Reg.PRESENCE + c) 3).raise Ev.HEAD_NO_RECORD c [.u 0 f]
  else if recNozzles r ≠ hpNozzles (d.prof c) then
    (d1.setReg (Reg.PRESENCE + c) 4).raise Ev.HEAD_MISMATCH c [.u 0 (recNozzles r)]
  else if recSerial r ≠ unpad (d.blob (Reg.KNOWN_SERIAL + c)) then
    (d1.setReg (Reg.PRESENCE + c) 5).raise Ev.HEAD_NEW c [.raw 0 (leNat (bytesAt r 20 6))]
  else (d1.enterPresent c).raise Ev.HEAD_PRESENT c [.u 0 6]

/-- R117, R120 … R123: the memory of a head in IDENT is read: it becomes the contents of the channel's head memory (log
entry 146), and its first 128 bytes are the record. A transaction that ends in an error leaves the channel in IDENT. -/
def Device.recordRead (m : Memories) (d : Device) (c : Nat) (data : List Nat) (err : Bool) : Memories × Device :=
  if d.presence c ≠ 2 then (m, d)
  else
    let d1 := d.send (.sideband (c / 8) ((hpMemBase (d.prof c) + c % 8) :: memWordAddr (d.prof c) 0))
    if err then (m, d1.sbError (c / 8))
    else
      let all := bytesAt data 0 (hpMemBytes (d.prof c))
      ({ m with head := mwrite m.head (headAddr c 0) all }, d1.identify c (bytesAt all 0 128))

/-- R118: the cycle time of a group's poll in tenths of a microsecond. -/
def Device.pollCycle (d : Device) (k : Nat) : Nat :=
  let fast := hpSbRate (d.group k).prof = 1
  ((groupChans k).map (fun c =>
    if !d.chanEnabled c then 0
    else if d.presence c = 1 then (if fast then 115 else 288)
    else (if fast then 485 else 1213))).foldl (· + ·) 0

/-- R118: POLL_PERIOD_US, and HEAD_POLL_STRETCHED when it rises above 500. -/
def Device.pollPeriod (d : Device) (k : Nat) : Device :=
  let p := 500 * Nat.max 1 (ceilDivNat (d.pollCycle k) 5000)
  let d1 := d.setRegN (Reg.POLL_PERIOD_US + k) p
  if d.regN (Reg.POLL_PERIOD_US + k) ≤ 500 ∧ 500 < p then d1.raise Ev.HEAD_POLL_STRETCHED k [.u 0 p] else d1

/-- R117: TEMP_DC of a raw reading. A result outside I16 is not limited, which the rule leaves open (log entry 189). -/
def tempDc (p : List Nat) (raw : Nat) : Int :=
  roundDiv ((toSigned 16 raw).fdiv (2 ^ hpTempShift p : Nat) * 10) ((2 ^ hpTempFrac p : Nat) : Int)

/-- R123: consecutive NACKs of a head. -/
def Device.pollNack (d : Device) (c : Nat) : Device :=
  let x := d.chan c
  let d1 := d.setChan c { x with acks := 0, nacks := x.nacks + 1 }
  if d.presence c ≠ 1 ∧ d.regN Reg.ABSENT_POLLS ≤ x.nacks + 1 then
    let d2 := d1.setPresence c 1
    if d.presence c = 6 then d2.raise Ev.HEAD_ABSENT c [.s 0 (d.reg (Reg.TEMP_DC + c))] else d2
  else d1

/-- R117, R122, R123: a head answered with its temperature; one newly detected has no record yet. -/
def Device.pollAck (d : Device) (c raw : Nat) : Device :=
  let x := d.chan c
  let d1 := (d.setChan c { x with acks := x.acks + 1, nacks := 0, polls := x.polls + 1 }).setReg (Reg.TEMP_DC + c) (tempDc (d.prof c) raw)
  if d.presence c = 1 ∧ d.regN Reg.PRESENT_POLLS ≤ x.acks + 1 then
    ((d1.setChan c { d1.chan c with identAt := d.now }).setThresholds c [] false).setReg (Reg.PRESENCE + c) 2
  else d1

/-! ### Group enable and shutdown (R116) -/

/-- A stored value of an at-reset entry comes into force. -/
def Device.loadStored (d : Device) (k : Nat) : Device :=
  match assoc d.dict.stored k with
  | none => d
  | some v => d.setVal k v

/-- The default record of a Room. -/
def room0 (_ : Nat) : Room := {}

/-- R167: at a group's enable a map of another length takes the default in every word. -/
def Device.sizeMap (d : Device) (c : Nat) : Device :=
  let n := hpNozzles (d.prof c)
  if (d.nozMap c).len = some n then d else d.setNozMap c { len := some n }

/-- A Room is ACTIVE while its group is enabled and IDLE after its group leaves ON, unless it is RETIRED or PROVING (log
entry 18). -/
def Device.roomIdle (d : Device) (k : Nat) (idle : Bool) : Device :=
  if d.regN (Reg.ROOM_STATE + k) < 2 then d.setReg (Reg.ROOM_STATE + k) (if idle then 1 else 0) else d

/-- R451: the Room of group k is under self-test. -/
def Device.roomTested (d : Device) (k : Nat) : Bool :=
  match d.red.selftest with
  | some (u, _) => u == k
  | none => false

/-- R116, R122: a channel at its group's enable; until a record is read the profile's thresholds are in force. -/
def Device.startChan (d : Device) (c : Nat) : Device :=
  let x := d.chan c
  let d1 := d.setChan c { x with fifo := [], shifted := none, latched := none, acks := 0, nacks := 0, memCut := false,
                                 next := d.mantel.line + d.regN Reg.ARM_LINES + 1 }
  (d1.setThresholds c [] false).setReg (Reg.PRESENCE + c) (if d.chanEnabled c then (if x.memCut then 2 else 1) else 0)

/-- R190, R394: what the thermal supervisor holds of a group: the alert in progress. -/
def Group.thermal (g : Group) : Group :=
  { alert := g.alert, alertWin := g.alertWin, alertFound := g.alertFound, alertMask := g.alertMask }

/-- R189, R190, R394: what the thermal supervisor and the interlocks hold of a channel, and its loss episode (R96). -/
def Chan.thermal (x : Chan) : Chan :=
  { openIntlk := x.openIntlk, openTherm := x.openTherm, loss := x.loss, thermPend := x.thermPend, clearRun := x.clearRun,
    rotAt := x.rotAt, rotOn := x.rotOn, rotA := x.rotA, alertGated := x.alertGated, alerting := x.alerting }

/-- R116, R126: the enable sequence: the profile is loaded, polling starts. A profile slot never validly written leaves
the group OFF. -/
def Device.startGroup (d : Device) (k : Nat) : Device :=
  let d1 := d.loadStored (Reg.HG_PROFILE_SEL + k)
  let n := d1.regN (Reg.HG_PROFILE_SEL + k) % 16
  let d2 := d1.loadStored (Reg.HEAD_PROFILE + n)
  match d2.blob? (Reg.HEAD_PROFILE + n) with
  | none => (d2.setReg (Reg.HG_STATE + k) 0).raise Ev.HEAD_PROFILE_INVALID k [.u 0 n]
  | some p =>
    let g : Group := { (d.group k).thermal with prof := p, profNo := n, pollAt := d.now }
    let d3 := ((d2.setGroup k g).setReg (Reg.HG_STATE + k) 3).roomIdle k false
    (groupChans k).foldl (fun (d : Device) c => (d.startChan c).sizeMap c)
      { d3 with rooms := { d3.rooms with rooms := tset room0 d3.rooms.rooms k {} } }

/-- R116 step 1: the shutdown begins: no round begins, armed slots are dropped uncounted, the shift stops. -/
def Device.stopGroup (d : Device) (k : Nat) : Device :=
  let g := d.group k
  let d1 := ((d.setReg (Reg.HG_STATE + k) 1).roomIdle k true).setGroup k { g with slots := [], shiftAt := none, ready := false }
  let d2 := { d1 with mantel := { d1.mantel with armed := d1.mantel.armed.filter (fun a => a.ch / 8 != k) } }
  (groupChans k).foldl (fun (d : Device) c => (d.setReg (Reg.PRESENCE + c) 0).emptyFifo c) d2

/-- R116: a set bit of HG_ENABLE. -/
def Device.hgSet (d : Device) (k : Nat) : Device :=
  if d.hgState k = 0 ∧ d.roomTested k = true then d.setReg (Reg.HG_STATE + k) 2
  else if d.hgState k = 0 then d.startGroup k
  else if d.hgState k = 1 then d.setReg (Reg.HG_STATE + k) 2
  else d

/-- R116: a clear bit of HG_ENABLE. -/
def Device.hgClear (d : Device) (k : Nat) : Device :=
  if d.hgState k = 2 then d.setReg (Reg.HG_STATE + k) 1
  else if d.hgState k = 3 ∨ d.hgState k = 4 then d.stopGroup k
  else d

/-- R116: HG_ENABLE takes its new value. -/
def Device.hgWrite (d : Device) (v : Nat) : Device :=
  (List.range 24).foldl (fun (d : Device) (k : Nat) => if bit v k then d.hgSet k else d.hgClear k)
    (d.setRegN Reg.HG_ENABLE v)

/-- R120: a head memory write of channel c comes to a status: its response goes out. -/
def Device.answerMem (d : Device) (c : Nat) (w : HeadWrite) (st : Status) : Device :=
  match w.resp with
  | none => d
  | some a => d.giveAnswer (Reg.HEAD_MEM + c) st a

/-- R116 steps 2 to 4: a memory write cut short completes with STATE; the channel re-enters IDENT at the next enable. -/
def Device.cutMem (d : Device) (c : Nat) : Device :=
  let x := d.chan c
  match x.write with
  | none => d
  | some w => (d.setChan c { x with write := none, memCut := true }).answerMem c w .state

/-- R120: a HEAD_MEM write begins: its pages go out on the group's sideband, each behind the head's memory address and
the word address; to a channel with CH_ENABLE 0 too, which R117 leaves open (log entry 190). -/
def Device.startMem (d : Device) (c : Nat) (l : List Nat) : Device :=
  let p := d.prof c
  let page := Nat.max 1 (hpMemPage p)
  let d1 := d.setChan c { d.chan c with write := some { data := l } }
  (List.range (ceilDivNat l.length page)).foldl (fun (d : Device) i =>
    d.send (.sideband (c / 8) ([hpMemBase p + c % 8] ++ memWordAddr p (i * page) ++ (l.drop (i * page)).take page))) d1

/-- HEAD_MEM_WRITE_DONE (R117, R120): the pages are written and `back` is what the head's memory then holds there, as far as
a transaction that ended in an error brought it. -/
def Device.memDone (m : Memories) (d00 : Device) (c : Nat) (back : List Nat) (err : Bool) : Memories × Device :=
  let d := if err && (d00.chan c).write.isSome then d00.sbError (c / 8) else d00
  let x := d.chan c
  match x.write with
  | none => (m, d)
  | some w =>
    let b := bytesAt back 0 w.data.length
    let m1 := { m with head := mwrite m.head (headAddr c 0) b }
    let d0 := d.setChan c { x with write := none }
    let d1 := if d.presence c = 0 then d0 else d0.setPresence c 2
    if b = w.data then (m1, d1.answerMem c w .ok)
    else
      let off := ((List.range b.length).find? (fun i => b.getD i 0 != w.data.getD i 0)).getD 0
      (m1, (d1.answerMem c w .check).raise Ev.HEAD_MEM_FAILED c [.u 0 off])

/-- R116: the pulses of a group have ended. -/
def Device.groupQuiet (d : Device) (k : Nat) : Bool :=
  (match (d.group k).latRise with | none => true | some p => decide (p.fall ≤ d.dueBy)) &&
    (groupChans k).all (fun c => match (d.chan c).firing with | none => true | some (_, f) => decide (f ≤ d.dueBy))

/-- R116 step 4: the sideband has finished: OFF; a pending enable starts. -/
def Device.hgOff (d : Device) (k : Nat) : Device :=
  let st := d.hgState k
  if ¬ (st = 1 ∨ st = 2) ∨ d.groupQuiet k = false ∨ (st = 2 ∧ d.roomTested k = true) then d
  else
    let d1 := (groupChans k).foldl (fun (d : Device) c => d.setChan c { d.chan c with firing := none }) d
    let d2 := d1.setGroup k { (d.group k).thermal with prof := (d.group k).prof, profNo := (d.group k).profNo }
    let d3 := (groupChans k).foldl Device.cutMem (d2.setReg (Reg.HG_STATE + k) 0)
    if st = 2 then d3.startGroup k else d3

/-! ### Outputs low (R103) -/

/-- R103: the FIRE pulse of a test drop on channel c ends with the group's outputs; the drop is not counted (R192). -/
def Device.dropLow (d : Device) (c : Nat) : Device :=
  match d.dropOn c with
  | none => d
  | some x =>
    if x.fired.getD 0 + hpFireWidth (d.prof c) * 1000 ≤ d.ps then d
    else (d.send (.cut 0 c d.ps)).setDtUnit { x with fired := none, waiting := some 1, p0 := none, p1 := none }

/-- R103: the outputs of a group are driven low: pulses in progress end, those of test drops too, the shift and SCLK stop. -/
def Device.groupLow (d : Device) (k : Nat) : Device :=
  let g := d.group k
  let d1 := match g.latRise with
    | some p => if d.ps < p.fall then d.send (.cut 2 k d.ps) else d
    | none => d
  let d2 := (groupChans k).foldl (fun (d : Device) c =>
    match (d.chan c).firing with
    | some (_, f) => (if d.ps < f then d.send (.cut 0 c d.ps) else d).setChan c { d.chan c with firing := none }
    | none => d.dropLow c) d1
  d2.setGroup k { g with latRise := none, shiftAt := none, slots := [], ready := false }

/-- R103: the gates cut what they gate, and the outputs of every group are driven low: in reset, and under the clamps. -/
def Device.headsLow (d : Device) : Device :=
  (List.range 24).foldl (fun (d : Device) k => d.groupLow k) d.cutGated

/-! ### Head memory (R120) -/

/-- R120: the memory of the head on channel c. -/
def Device.headMem (d : Device) (m : Memories) (c : Nat) : List Nat :=
  mread m.head (headAddr c 0) (hpMemBytes (d.prof c))

/-- The first offset at which two byte lists differ. -/
def firstDiff : Nat → List Nat → List Nat → Option Nat
  | _, [], _ => none
  | n, _ :: _, [] => some n
  | n, a :: as, b :: bs => if a = b then firstDiff (n + 1) as bs else some n

end Sys2Proof.Machine
end

