-- ==== Sys2Proof/Machine/RoomsOps.lean ====
section
/-! DEFINITION. The Rooms (R153 … R177): nozzle maps and how their changes land, columns, the rendering pipeline,
stripe contexts and checkpoints. -/
namespace Sys2Proof.Machine

/-! ### Rooms and their slots -/

/-- The render progress of head group k. -/
def Device.room (d : Device) (k : Nat) : Room := tget room0 d.rooms.rooms k

/-- Write the render progress of head group k. -/
def Device.setRoom (d : Device) (k : Nat) (r : Room) : Device :=
  { d with rooms := { d.rooms with rooms := tset room0 d.rooms.rooms k r } }

/-- R249: the Spare serves group k. -/
def Device.spareServes (d : Device) (k : Nat) : Bool :=
  d.reg Reg.ROOMS_SPARE_STATE == 1 && d.reg Reg.SPARE_SERVING == k

/-- R153, R249, R373: group k is rendered: the device is in RUN, the group is ON, and its Room or the Spare in its place
works. -/
def Device.rendering (d : Device) (k : Nat) : Bool :=
  d.reg Reg.PWR_STATE == 0 && d.hgState k == 4 &&
    ((decide (d.regN (Reg.ROOM_STATE + k) < 2) && d.domainOn (2 + k)) || (d.spareServes k && d.domainOn 26))

/-- R153: the first slot of a Room that has not begun. -/
def Device.firstSlot (d : Device) : Nat := d.mantel.line + d.regN Reg.ARM_LINES + 1

/-- R168: h_n, the next slot that the Room of group k has not begun. -/
def Device.roomNext (d : Device) (k : Nat) : Nat :=
  let r := d.room k
  if r.started && d.rendering k then r.next else d.firstSlot

/-! ### The nozzle word (R165 … R170) -/

/-- The default word of a nozzle. -/
def nozDefault : Nat := 0x00FF8100

def nozState (w : Nat) : Nat := field w 2 0
def nozGain (w : Nat) : Nat := field w 8 3
def nozShare (w : Nat) : Nat := field w 11 9
def nozBoost (w : Nat) : Nat := field w 15 12
def nozHealth (w : Nat) : Nat := field w 23 16

/-- A word with another STATE. -/
def nozWithState (w st : Nat) : Nat := w / 8 * 8 + st

/-- A word of its fields. -/
def nozWord (health boost share gain st : Nat) : Nat :=
  health * 2 ^ 16 + boost * 2 ^ 12 + share * 2 ^ 9 + gain * 8 + st

/-- The newest value written of nozzle n, the state underneath a rest. -/
def NozMap.newest (m : NozMap) (n : Nat) : Nat := tget (fun _ => nozDefault) m.written n

/-- R166, R167: what a read returns: the newest written value with the rest overlay. -/
def NozMap.shown (m : NozMap) (n : Nat) : Nat :=
  if m.rested.contains n then nozWithState (m.newest n) 5 else m.newest n

/-- R169, R171: GAIN_SLEW_LINES over the grid lines: the first line of each stretch, ascending, and its value. -/
abbrev SlewPlan := List (Nat × Nat)

/-- The multiples of s from a up to, not including, e. -/
def multiplesIn (s a e : Nat) : Nat := ceilDivNat e (Nat.max 1 s) - ceilDivNat a (Nat.max 1 s)

/-- R169, R171: the gain steps at the grid lines from a up to, not including, e: one at each line that is a multiple of
the GAIN_SLEW_LINES in force for it. -/
def gainSteps : SlewPlan → Nat → Nat → Nat
  | [], _, _ => 0
  | [(g, s)], a, e => multiplesIn s (Nat.max a g) e
  | (g, s) :: (g', s') :: t, a, e => multiplesIn s (Nat.max a g) (Nat.min e g') + gainSteps ((g', s') :: t) a e

/-- R169: the gain of a ramp after so many steps. -/
def NozVal.stepped (v : NozVal) (steps : Nat) : Nat :=
  let gt := nozGain v.word
  if v.gw ≤ gt then v.gw + Nat.min (gt - v.gw) steps else v.gw - Nat.min (v.gw - gt) steps

/-- R169: the gain in force at grid line g. -/
def nozGainAt (v : NozVal) (plan : SlewPlan) (g : Nat) : Nat := v.stepped (gainSteps plan v.leff (g + 1))

/-- Put a number into an ascending list, once. -/
def insAsc (x : Nat) : List Nat → List Nat
  | [] => [x]
  | y :: t => if x < y then x :: y :: t else if x = y then y :: t else y :: insAsc x t

/-- R171: GAIN_SLEW_LINES in force over the grid lines: it changes where a value was superseded and where a sealed set
acts. -/
def Device.slewPlan (d : Device) : SlewPlan :=
  let old := (d.dict.superseded.filter (fun p => p.1 == Reg.GAIN_SLEW_LINES)).map (fun p => p.2.1)
  let new := match d.dict.sealed with
    | some s => s.glc.toList
    | none => []
  ((old ++ new).foldl (fun l g => insAsc g l) [0]).map (fun g => (g, (d.regAt Reg.GAIN_SLEW_LINES g).toNat))

/-- The default value of a nozzle whose changes have retired. -/
def nozVal0 (_ : Nat) : NozVal := {}

/-- No change is under way. -/
def nozChg0 (_ : Nat) : Option NozChange := none

/-- No change waits. -/
def nozWait0 (_ : Nat) : Option Nat := none

/-- R168: the value of nozzle n in force for grid line g. -/
def NozMap.valAt (m : NozMap) (n g : Nat) : NozVal :=
  match tget nozChg0 m.chg n with
  | some x => if x.new.leff ≤ g then x.new else x.old
  | none => tget nozVal0 m.base n

/-- R168: L_eff of a change of channel c made now. -/
def Device.leff (d : Device) (c : Nat) : Nat := ((d.roomNext (c / 8) : Int) - d.sMin c).toNat

/-- R228, R240: the word of nozzle n of channel c changes now, and the channel's NOZZLE record becomes dirty. -/
def Device.touchNoz (d : Device) (c n : Nat) : Device :=
  let m := d.nozMap c
  (d.setNozMap c { m with lastChg := tset (fun _ => 0) m.lastChg n d.now }).markDirty 4 c

/-- The origin byte of a nozzle (R237). -/
def NozMap.originOf (m : NozMap) (n : Nat) : Nat := tget (fun _ => 0) m.origin n

/-- Write the origin byte of nozzle n of channel c. -/
def Device.setOrigin (d : Device) (c n o : Nat) : Device :=
  let m := d.nozMap c
  (d.setNozMap c { m with origin := tset (fun _ => 0) m.origin n o }).markDirty 4 c

/-- R228: a change of a gain, by any writer, starts a ramp that a density measurement of the channel does not use (log entry
199). -/
def Device.gainRamps (d : Device) (c old w : Nat) : Device :=
  if nozGain w = nozGain old then d
  else { d with cal := { d.cal with densLeff := assocSet d.cal.densLeff c (d.leff c) } }

/-- R168 … R170: nozzle n of channel c takes effective word w: a change begins, or waits behind one not yet retired.
With no Room rendering the change retires at once. -/
def Device.changeNoz (d0 : Device) (c n w : Nat) : Device :=
  let d := d0.touchNoz c n
  let m := d.nozMap c
  match tget nozChg0 m.chg n with
  | some _ =>
    (d.setNozMap c { m with wait := tset nozWait0 m.wait n (some w) }).incReg Reg.MAP_CHANGES_WAITED
  | none =>
    let l := d.leff c
    let old := tget nozVal0 m.base n
    let new : NozVal := { word := w, gw := old.stepped (gainSteps d.slewPlan old.leff l), leff := l }
    let d1 := d.gainRamps c old.word w
    if d.rendering (c / 8) then
      d1.setNozMap c { m with chg := tset nozChg0 m.chg n (some { old := old, new := new }) }
    else d1.setNozMap c { m with base := tset nozVal0 m.base n new }

/-- Only HEALTH differs. -/
def healthOnly (a b : Nat) : Bool := a % 2 ^ 16 == b % 2 ^ 16

/-- A word with the HEALTH of another. -/
def withHealth (w h : Nat) : Nat := w % 2 ^ 16 + nozHealth h * 2 ^ 16

/-- R167: a change of HEALTH alone acts at once. -/
def Device.healthNow (d0 : Device) (c n w : Nat) : Device :=
  let d := d0.touchNoz c n
  let m := d.nozMap c
  match tget nozChg0 m.chg n with
  | some x =>
    let wait := match tget nozWait0 m.wait n with
      | none => m.wait
      | some y => tset nozWait0 m.wait n (some (withHealth y w))
    d.setNozMap c { m with
      chg := tset nozChg0 m.chg n (some { x with new := { x.new with word := withHealth x.new.word w } }), wait := wait }
  | none =>
    let v := tget nozVal0 m.base n
    d.setNozMap c { m with base := tset nozVal0 m.base n { v with word := withHealth v.word w } }

/-- R166, R167: one written word of a nozzle: only a word that differs from the newest value is a change. -/
def Device.writeNoz (d : Device) (c n w0 : Nat) : Device :=
  let m := d.nozMap c
  let old := m.newest n
  let w := if nozState w0 = 5 then nozWithState w0 (nozState old) else w0
  if w = old then d
  else
    let d1 := d.setNozMap c { m with written := tset (fun _ => nozDefault) m.written n w }
    let eff := (d1.nozMap c).shown n
    if healthOnly w old then d1.healthNow c n eff else d1.changeNoz c n eff

/-- R165, R166: a written word is acceptable for nozzle n. -/
def NozMap.wordCheck (m : NozMap) (n w : Nat) : Status :=
  if w / 2 ^ 24 ≠ 0 ∨ 6 ≤ nozState w ∨ 6 ≤ nozShare w then .reserved
  else if nozState w = 5 ∧ m.rested.contains n = false then .range
  else .ok

/-- The nozzles of a channel's map. -/
def Device.mapLen (d : Device) (c : Nat) : Nat := ((d.nozMap c).len).getD 0

/-- The n-th word of a map's bytes. -/
def mapWord (l : List Nat) (n : Nat) : Nat := fieldAt l (4 * n) 4

/-- R167: the checks of a NOZZLE_MAP write. -/
def Device.mapCheck (d : Device) (c : Nat) (l : List Nat) : Status :=
  let m := d.nozMap c
  let n := d.mapLen c
  if l.length ≠ 4 * n then .length
  else
    let st := (List.range n).map (fun i => m.wordCheck i (mapWord l i))
    if st.any (fun s => s == .reserved) then .reserved
    else if st.any (fun s => s == .range) then .range
    else .ok

/-- R167: a NOZZLE_MAP write is applied. -/
def Device.mapWrite (d : Device) (c : Nat) (l : List Nat) : Device :=
  (List.range (d.mapLen c)).foldl (fun (d : Device) n => d.writeNoz c n (mapWord l n)) d

/-- R167: NOZZLE_MAP as it reads. -/
def Device.mapBytes (d : Device) (c : Nat) : List Nat :=
  ((List.range (d.mapLen c)).map (fun n => leBytes 4 ((d.nozMap c).shown n))).flatten

/-- R166: the rest overlay of a channel is set to the listed nozzles; every nozzle whose overlay changes is one change. -/
def Device.setRest (d : Device) (c : Nat) (l : List Nat) : Device :=
  let was := (d.nozMap c).rested
  let d1 := d.setNozMap c { d.nozMap c with rested := l }
  ((List.range (d.mapLen c)).filter (fun n => was.contains n != l.contains n)).foldl
    (fun (d : Device) n => d.changeNoz c n ((d.nozMap c).shown n)) d1

/-- R170: the change of nozzle n retires, and a waiting one begins. -/
def Device.retireNoz (d : Device) (c n : Nat) (v : NozVal) : Device :=
  let m := d.nozMap c
  let w := tget nozWait0 m.wait n
  let d1 := d.setNozMap c { m with base := tset nozVal0 m.base n v, chg := tdel n m.chg, wait := tdel n m.wait }
  match w with
  | none => d1
  | some x => d1.changeNoz c n x

/-- R170: the checkpoint of slot h retires the changes of channel c that no re-render can use. -/
def Device.retireChanges (d : Device) (c h : Nat) : Device :=
  (d.nozMap c).chg.foldl (fun (d : Device) (p : Nat × Option NozChange) =>
    match p.2 with
    | none => d
    | some x => if (x.new.leff : Int) + d.sMax c - 1 ≤ (h : Int) then d.retireNoz c p.1 x.new else d) d

/-! ### Columns (R156) -/

/-- The cross-web position of a nozzle, nm. -/
def nozX (p : List Nat) (n : Nat) : Int :=
  hpRowCross p (hpRowOf p n) + (hpRowIdx p n : Int) * (hpPitch p : Int)

/-- R156: the order of two nozzles in rank: by position, then by row, then by number. -/
def rankLe (p : List Nat) (a b : Nat) : Bool :=
  decide (nozX p a < nozX p b) ||
    (nozX p a == nozX p b && (decide (hpRowOf p a < hpRowOf p b) ||
      (hpRowOf p a == hpRowOf p b && decide (a ≤ b))))

/-- R156: the nozzles of a head in order of rank. -/
def rankOrder (p : List Nat) : List Nat := (List.range (hpNozzles p)).mergeSort (rankLe p)

/-- Cut a list into pieces of n; the first argument bounds their number. -/
def chunks (n : Nat) : Nat → List Nat → List (List Nat)
  | 0, _ => []
  | f + 1, l => if l.isEmpty then [] else l.take (Nat.max 1 n) :: chunks n f (l.drop (Nat.max 1 n))

/-- R156: the head columns, each with its nozzle A and B. -/
def columnsOf (p : List Nat) (npc : Nat) : List (List Nat) := chunks npc (hpNozzles p) (rankOrder p)

/-- The pixels of one stripe on one line. -/
structure StripeLine where
  first : Nat
  pix   : List Nat
deriving DecidableEq, Repr

/-- What the pipeline needs of one channel on one grid line: everything in force for that line. -/
structure LineCfg where
  line    : Nat             -- grid line
  pageLine : Nat
  cols    : List (List Nat)
  base    : Int             -- COL_BASE
  first   : Nat
  count   : Nat
  npc     : Nat
  tone    : Option (List Nat)
  gains   : Option (List Nat)
  matrix  : List Nat
  rowPh   : Nat
  colPh   : Nat
  slew    : SlewPlan
  src     : List StripeLine
deriving DecidableEq, Repr

/-- R159: the tone curve. -/
def LineCfg.toneOf (g : LineCfg) (x : Nat) : Nat :=
  match g.tone with
  | none => x
  | some l => l.getD x 0

/-- R160: the default gain curve. -/
def gainDefault (k y : Nat) : Nat := Nat.min 4095 ((2 * y * 4095 * (96 + k) + 255 * 128) / (2 * 255 * 128))

/-- R160: curve k at y. -/
def LineCfg.gainOf (g : LineCfg) (k y : Nat) : Nat :=
  match g.gains with
  | none => gainDefault k y
  | some l => fieldAt l (512 * k + 2 * y) 2 % 4096

/-- R162: the matrix of slot 0 by default. -/
def matrixDefault : List Nat :=
  let b := [0x51, 0x4D, 1, 7, 1, 0, 1, 0, 0, 0, 0, 0, 0, 0, 0, 0] ++
    ((List.range 7).map (fun i => leBytes 2 (585 * (i + 1) - 292))).flatten
  b ++ leBytes 4 (crc32c b)

def mxLevels (m : List Nat) : Nat := fieldAt m 3 1
def mxWidth (m : List Nat) : Nat := fieldAt m 4 2
def mxHeight (m : List Nat) : Nat := fieldAt m 6 2

/-- R162: threshold t[i] of the cell at column col, page line l. -/
def LineCfg.thr (g : LineCfg) (col l i : Nat) : Nat :=
  let w := Nat.max 1 (mxWidth g.matrix)
  let r := (l + g.rowPh) % Nat.max 1 (mxHeight g.matrix)
  fieldAt g.matrix (16 + 14 * (r * w + (col + g.colPh) % w) + 2 * (i - 1)) 2 % 4096

/-- R158: level(v, cell). -/
def LineCfg.level (g : LineCfg) (v col : Nat) : Nat :=
  ((List.range (mxLevels g.matrix)).filter (fun i => decide (g.thr col g.pageLine (i + 1) ≤ v))).length

/-- R131: the contone of a column; 0 where no stripe covers it. -/
def LineCfg.contone (g : LineCfg) (col : Nat) : Nat :=
  match g.src.find? (fun s => decide (s.first ≤ col ∧ col < s.first + s.pix.length)) with
  | none => 0
  | some s => s.pix.getD (col - s.first) 0

/-- R156: the contone column of head column i, when it is active. -/
def LineCfg.active (g : LineCfg) (i : Nat) : Option Nat :=
  if g.first ≤ i ∧ i < g.first + g.count ∧ i < g.cols.length ∧ 0 ≤ g.base + i then some (g.base + i).toNat else none

/-- R163: A is designated under a share policy. -/
def shareA (share l col : Nat) : Bool :=
  match share with
  | 0 => l % 2 == 0
  | 1 => (l + col) % 2 == 0
  | 2 => true
  | 3 => false
  | 4 => decide (l % 4 < 2)
  | _ => !bit ((l * 2654435761 + col * 40503) % 2 ^ 32) 31

/-- A nozzle is able (R163). -/
def nozAble (w : Nat) : Bool := nozState w == 0 || nozState w == 1

/-- R163: the designated nozzle of head column i, none when the column is void. -/
def LineCfg.designated (g : LineCfg) (m : NozMap) (i col : Nat) : Option Nat :=
  let wd (n : Nat) : Nat := (m.valAt n g.line).word
  match g.cols.getD i [] with
  | [a] => if nozAble (wd a) || nozState (wd a) == 2 then some a else none
  | [a, b] =>
    let wa := wd a
    let wb := wd b
    if nozAble wa && nozAble wb then
      if shareA (nozShare wa) g.pageLine col then some a else some b
    else if nozAble wa then some a
    else if nozAble wb then some b
    else if nozState wa = 2 then some a
    else if nozState wb = 2 then some b
    else none
  | _ => none

/-- R158 stage 6: what neighbour column i lends. -/
def LineCfg.loan (g : LineCfg) (m : NozMap) (i : Nat) : Nat :=
  match g.active i with
  | none => 0
  | some col =>
    if (g.designated m i col).isSome then 0
    else
      let a := (g.cols.getD i []).headD 0
      let u := g.gainOf 32 (g.toneOf (g.contone col))
      g.level u col * nozBoost (m.valAt a g.line).word

/-- R158: the level of head column i and its designated nozzle, if one fires. -/
def LineCfg.column (g : LineCfg) (m : NozMap) (i : Nat) : Option (Nat × Nat) :=
  match g.active i with
  | none => none
  | some col =>
    match g.designated m i col with
    | none => none
    | some n =>
      let y := g.toneOf (g.contone col)
      let v := g.gainOf (nozGainAt (m.valAt n g.line) g.slew g.line) y
      let acc := (if i = 0 then 0 else g.loan m (i - 1)) + g.loan m (i + 1)
      some (n, Nat.min (mxLevels g.matrix) (g.level v col + (acc + g.thr col g.pageLine 1 % 16) / 16))

/-- R158: the codes of the nozzles of row j on this line: nozzle and head code. -/
def LineCfg.rowCodes (g : LineCfg) (m : NozMap) (p : List Nat) (j : Nat) : List (Nat × Nat) :=
  (List.range g.cols.length).filterMap (fun i =>
    match g.column m i with
    | none => none
    | some (n, lv) => if hpRowOf p n = j then some (n, hpDropMap p lv) else none)

/-- R164: the contone columns that are void with no neighbour able to take their loan. -/
def LineCfg.voids (g : LineCfg) (m : NozMap) : List Nat :=
  let serves (i : Nat) : Bool := match g.active i with
    | none => false
    | some col => (g.designated m i col).isSome
  (List.range g.cols.length).filterMap (fun i =>
    match g.active i with
    | none => none
    | some col =>
      if serves i || (decide (0 < i) && serves (i - 1)) || serves (i + 1) then none else some col)

/-! ### Stripe contexts (R172, R173) -/

/-- R154: the bound page that a grid line (as a slot number) belongs to. -/
def Device.pageAt (d : Device) (l : Int) : Option Bound_ :=
  d.mantel.bound.find? (fun b => decide ((b.g0 : Int) ≤ l ∧ l < ((b.g0 + b.lines : Nat) : Int)))

/-- The queued record of a bound page. -/
def Device.pageOf (d : Device) (b : Bound_) : Option Page :=
  d.pages.queue.find? (fun p => p.isBound && p.num == b.page && p.g0 == b.g0)

/-- The stripes of a plane with their indices. -/
def Page.planeStripes (p : Page) (pl : Nat) : List (Nat × StripeEnt) :=
  match p.planes.find? (fun e => e.plane == pl) with
  | none => []
  | some e => (List.range e.n).filterMap (fun i => (p.stripes[e.first + i]?).map (fun s => (e.first + i, s)))

/-- R156: the contone columns of channel c that are active on line g: first and one past the last. -/
def Device.chanCols (d : Device) (c g : Nat) : Int × Int :=
  let base := d.regAt (Reg.COL_BASE + c) g
  let f := d.regAt (Reg.COL_FIRST + c) g
  let npc := Nat.max 1 (d.regAt (Reg.NOZZLES_PER_COL + c) g).toNat
  let top := minI (f + d.regAt (Reg.COL_COUNT + c) g) [((hpNozzles (d.prof c) / npc : Nat) : Int)]
  (maxI 0 [base + f], base + top)

/-- The channel has an active column inside the stripe. -/
def Device.meetsStripe (d : Device) (c g : Nat) (e : StripeEnt) : Bool :=
  let r := d.chanCols c g
  decide (r.1 < ((e.firstCol + e.width : Nat) : Int) ∧ (e.firstCol : Int) < r.2 ∧ r.1 < r.2)

/-- R104, R153: the channels of a group that its Room renders for. -/
def Device.roomChans (d : Device) (k : Nat) : List Nat := (groupChans k).filter (fun c => d.chanOn c)

/-- R172: the groups that read the context of a stripe at a shift, lowest first. -/
def Device.readers (d : Device) (pl g : Nat) (e : StripeEnt) (s : Int) : List Nat :=
  (List.range 24).filter (fun k => (groupChans k).any (fun c =>
    d.chanOn c && d.planeAt c g == pl && (d.shifts c).contains s && d.meetsStripe c g e))

/-- Every row shift of the enabled channels, once each. -/
def Device.allShifts (d : Device) : List Int :=
  ((allChans.filter (fun c => d.chanOn c)).map (fun c => d.shifts c)).flatten.foldl
    (fun (acc : List Int) s => if acc.contains s then acc else acc ++ [s]) []

/-- R172: the context need of a page. -/
def Device.contextNeed (d : Device) (p : Page) : Nat :=
  let g := d.mantel.lastEnd + 1
  let sh := d.allShifts
  (p.planes.map (fun e => ((p.planeStripes e.plane).map (fun s =>
    (sh.filter (fun x => !(d.readers e.plane g s.2 x).isEmpty)).length)).foldl (· + ·) 0)).foldl (· + ·) 0

/-- R149, R145: the history a stripe's chain starts from; an invalid slot leaves no statistics. -/
def Device.startHist (d : Device) (e : StripeEnt) : Hist :=
  if e.histFrom then
    match d.blob? (Reg.HIST_SLOT + e.slot) with
    | none => {}
    | some l => if histVerify l = .ok ∧ fieldAt l 4 2 = e.width then histOf l else { prev := List.replicate e.width 0 }
  else histReset e.width

/-- The decoder settings of a stripe. -/
def Device.decConf (d : Device) (e : StripeEnt) (g : Nat) : DecConf :=
  { width := e.width, stream := e.stream, chainEnd := e.offset + e.length, limit := d.regN Reg.EXPANSION_LIMIT_PIX,
    fill := (d.regAt Reg.BAD_FILL_VALUE g).toNat }

/-- R144: which streams are resident. -/
def Device.isResident (d : Device) (s : Nat) : Bool := decide (s < 16) && (d.stream s).persist

/-- The context of a page, a stripe and a shift. -/
def Device.findCtx (d : Device) (page g0 stripe : Nat) (s : Int) : Option Ctx :=
  d.rooms.ctxs.find? (fun x => x.page == page && x.g0 == g0 && x.stripe == stripe && x.shift == s)

/-- The lowest free context number, if any. -/
def Device.freeCtx (d : Device) : Option Nat :=
  (List.range 256).find? (fun i => d.rooms.ctxs.all (fun x => x.id != i))

/-- Replace a context. -/
def Device.putCtx (d : Device) (x : Ctx) : Device :=
  { d with rooms := { d.rooms with ctxs := d.rooms.ctxs.map (fun y => if y.id = x.id then x else y) } }

/-- R150: a block of the armed capture has been completed with its page line. -/
def Device.captureStep (d : Device) (x : Ctx) (e : StripeEnt) (line : Nat) (before after : DecState) (o : Nat) :
    Device :=
  match d.pages.capture with
  | none => d
  | some (pg, pl, st, ln, slot) =>
    if pg = x.page ∧ pl = x.plane ∧ st = x.stripe ∧ ln = line ∧ after.blk = none ∧ after.filled = false then
      let d1 := { d with pages := { d.pages with capture := none } }
      let bad := o != 0 || (match before.blk with | some b => b.bad != 0 | none => false)
      if bad then (d1.setReg Reg.HIST_STATUS 3).raise Ev.HIST_CAPTURE_MISSED 0xFF [.u 0 pg]
      else (d1.setReg Reg.HIST_STATUS 2).setBlob (Reg.HIST_SLOT + slot) (histBytes after.hist e.width)
    else d

/-- R148: a bad block that context x found is counted and reported, with the page line of its first line. -/
def Device.badBlockRead (d : Device) (x : Ctx) (o first : Nat) : Device :=
  if o = 0 then d
  else (d.incReg Reg.BAD_BLOCKS_READ).raise Ev.QSC_BAD_BLOCK x.owner
    [.u 1 o, .u 1 x.plane, .u 1 x.stripe, .raw 0 (first % 2 ^ 24)]

/-- R175: the lines that a context keeps: the last 64, those of checkpoint slots and the page's last. -/
def Ctx.keep (x : Ctx) (l : List DecLine) : List DecLine :=
  l.take 64 ++ (l.drop 64).filter (fun b =>
    ((x.g0 + b.line : Nat) + x.shift) % 32 == 31 || b.line + 1 == x.lines)

/-- R148, R173: a context decodes its next line; with the page's last line, the rest of the block is decoded too. -/
def Device.ctxNext (m : Memories) (d : Device) (x : Ctx) (e : StripeEnt) : Device :=
  let cf := d.decConf e (x.g0 + x.dec.line)
  let line := x.dec.line
  let (ln, dec', o, first) := decNext (d.storeReader m) d.poisoned d.isResident cf x.dec
  let tail := if line + 1 = x.lines then decTail cf 64 dec' else (dec', 0)
  let d1 := d.putCtx { x with dec := { tail.1 with line := dec'.line }, buf := x.keep (⟨line, ln, dec'⟩ :: x.buf) }
  ((d1.captureStep x e line x.dec dec' o).badBlockRead x o first).badBlockRead x tail.2 first

/-- A context decodes on until page line l is decoded; n bounds the lines. -/
def Device.ctxAdvance (m : Memories) (d : Device) (id l : Nat) (e : StripeEnt) : Nat → Device
  | 0 => d
  | n + 1 =>
    match d.rooms.ctxs.find? (fun x => x.id == id) with
    | none => d
    | some x => if l < x.dec.line then d else Device.ctxAdvance m (Device.ctxNext m d x e) id l e n

/-- A line of a stripe decoded afresh from the start of its chain, for a reader behind the kept lines. -/
def Device.freshLine (m : Memories) (d : Device) (e : StripeEnt) (cf : DecConf) (l : Nat) : List Nat :=
  ((List.range (l + 1)).foldl (fun (acc : List Nat × DecState) _ =>
    let r := decNext (d.storeReader m) d.poisoned d.isResident cf acc.2
    (r.1, r.2.1)) ([], { pos := e.offset, hist := d.startHist e })).1

/-- The pixels of page line l of a context. -/
def Device.ctxLine (m : Memories) (d : Device) (x : Ctx) (e : StripeEnt) (l : Nat) : List Nat :=
  match x.buf.find? (fun b => b.line == l) with
  | some b => b.pix
  | none => Device.freshLine m d e (d.decConf e (x.g0 + l)) l

/-- What a slot of group k asks of the contexts: page, stripe index, stripe, shift, page line. -/
structure CtxAsk where
  bnd    : Bound_
  plane  : Nat
  stripe : Nat
  ent    : StripeEnt
  shift  : Int
  line   : Nat
deriving DecidableEq, Repr

/-- The contexts that slot h of the channels cs reads. -/
def Device.slotAsks (d : Device) (cs : List Nat) (h : Nat) : List CtxAsk :=
  let one (c : Nat) (s : Int) : List CtxAsk :=
    match d.pageAt ((h : Int) - s) with
    | none => []
    | some b =>
      match d.pageOf b with
      | none => []
      | some p =>
        let g := ((h : Int) - s).toNat
        let pl := d.planeAt c g
        ((p.planeStripes pl).filter (fun e => d.meetsStripe c g e.2)).map (fun e =>
          { bnd := b, plane := pl, stripe := e.1, ent := e.2, shift := s, line := g - b.g0 })
  (cs.map (fun c => ((d.shifts c).map (one c)).flatten)).flatten.foldl
    (fun (acc : List CtxAsk) a => if acc.contains a then acc else acc ++ [a]) []

/-- R172: the context of a page, a stripe and a shift has been freed; a group that still reads it decodes the line
again (log entry 160). -/
def Device.ctxFreed (d : Device) (b : Bound_) (stripe : Nat) (s : Int) : Bool :=
  d.rooms.freed.contains (b.page, b.g0, stripe, s)

/-- R249: the unit that renders group k: its Room, or the Spare (24) in its place. -/
def Device.unitOf (d : Device) (k : Nat) : Nat := if d.spareServes k then 24 else k

/-- R249: the group that a context's owner renders. -/
def Device.ownerGroup (d : Device) (x : Ctx) : Nat := if x.owner = 24 then d.regN Reg.SPARE_SERVING else x.owner

/-- R172, R173: the context of one ask is allocated if it is new. The flag says that none is free. -/
def Device.allocCtx (d : Device) (k : Nat) (a : CtxAsk) : Device × Bool :=
  match d.findCtx a.bnd.page a.bnd.g0 a.stripe a.shift with
  | some _ => (d, true)
  | none =>
    if d.ctxFreed a.bnd a.stripe a.shift then (d, true)
    else
    match d.freeCtx with
    | none => (d, false)
    | some id =>
      let owner := d.unitOf ((d.readers a.plane (a.bnd.g0 + a.line) a.ent a.shift).headD k)
      let s0 : DecState := { pos := a.ent.offset, hist := d.startHist a.ent }
      let x : Ctx := { id := id, page := a.bnd.page, plane := a.plane, stripe := a.stripe, shift := a.shift,
                       g0 := a.bnd.g0, owner := owner,
                       last := (((a.bnd.g0 + a.bnd.lines - 1 : Nat) : Int) + a.shift).toNat,
                       lines := a.bnd.lines, ent := a.ent, start := s0, dec := s0 }
      let d1 := { d with rooms := { d.rooms with ctxs := d.rooms.ctxs ++ [x] } }
      ({ d1 with rooms := { d1.rooms with peak := Nat.max d1.rooms.peak d1.rooms.ctxs.length } }, true)

/-- R173: a context whose owner can no longer decode it passes to the lowest Room among the groups that read it, and one that
none reads is freed (log entry 163). -/
def Device.passOn (d : Device) (lost : Ctx → Bool) : Device :=
  let works (k : Nat) : Bool := decide (d.regN (Reg.ROOM_STATE + k) < 2) || d.spareServes k
  let heir (x : Ctx) : Option Nat := (d.readers x.plane (x.g0 + x.dec.line) x.ent x.shift).find? works
  let one (x : Ctx) : Option Ctx :=
    if lost x then (heir x).map (fun k => { x with owner := d.unitOf k, pend := [] }) else some x
  { d with rooms := { d.rooms with ctxs := d.rooms.ctxs.filterMap one } }

/-- R173, R174: the contexts owned for groups that have left ON. -/
def Device.passIdle (d : Device) : Device := d.passOn (fun x => d.hgState (d.ownerGroup x) != 4)

/-- All asks of a slot; the page and stripe of the first for which no context is free. -/
def Device.allocAll (d : Device) (k : Nat) : List CtxAsk → Device × Option CtxAsk
  | [] => (d, none)
  | a :: t =>
    let r := d.allocCtx k a
    if r.2 then r.1.allocAll k t else (r.1, some a)

/-! ### Rendering a slot -/

/-- R155, R162: the matrix in force for plane pl on grid line g; an empty slot prints nothing. -/
def Device.matrixAt (d : Device) (pl g : Nat) : List Nat :=
  let sel := (d.regAt (Reg.MATRIX_SEL + pl) g).toNat
  match d.blobAt (Reg.MATRIX + sel) g with
  | some l => l
  | none => if sel = 0 then matrixDefault else []

/-- R155: everything in force for channel c on the grid line of slot h and shift s, when that line is on a page. -/
def Device.lineCfg (m : Memories) (d : Device) (c : Nat) (h : Nat) (s : Int) : Option LineCfg :=
  match d.pageAt ((h : Int) - s) with
  | none => none
  | some b =>
    match d.pageOf b with
    | none => none
    | some p =>
      let g := ((h : Int) - s).toNat
      let pl := d.planeAt c g
      let npc := (d.regAt (Reg.NOZZLES_PER_COL + c) g).toNat
      let line (e : Nat × StripeEnt) : Option (List Nat) :=
        match d.findCtx b.page b.g0 e.1 s with
        | some x => some (Device.ctxLine m d x e.2 (g - b.g0))
        | none =>
          if d.ctxFreed b e.1 s && d.meetsStripe c g e.2 then
            some (Device.freshLine m d e.2 (d.decConf e.2 g) (g - b.g0))
          else none
      let src := (p.planeStripes pl).filterMap (fun e =>
        (line e).map (fun l => ({ first := e.2.firstCol, pix := l } : StripeLine)))
      some { line := g, pageLine := g - b.g0, cols := columnsOf (d.prof c) npc, base := d.regAt (Reg.COL_BASE + c) g,
             first := (d.regAt (Reg.COL_FIRST + c) g).toNat, count := (d.regAt (Reg.COL_COUNT + c) g).toNat,
             npc := npc, tone := d.blobAt (Reg.TONE_CURVE + pl) g, gains := d.blobAt (Reg.GAIN_FAMILY + pl) g,
             matrix := d.matrixAt pl g, rowPh := (d.regAt (Reg.MATRIX_ROW_PHASE + pl) g).toNat,
             colPh := (d.regAt (Reg.MATRIX_COL_PHASE + pl) g).toNat,
             slew := d.slewPlan, src := src }

/-- Put codes into their nozzles' places. -/
def placeCodes (n : Nat) (l : List (Nat × Nat)) : List Nat :=
  (List.range n).map (fun i => ((l.find? (fun p => p.1 == i)).map Prod.snd).getD 0)

/-- R153, R158: the codes of channel c for slot h. -/
def Device.renderCodes (m : Memories) (d : Device) (c h : Nat) : List Nat :=
  let p := d.prof c
  let mp := d.nozMap c
  let l := (List.range (hpRows p)).map (fun j =>
    match Device.lineCfg m d c h (d.shiftOf c j) with
    | none => []
    | some g => g.rowCodes mp p j)
  placeCodes (hpNozzles p) l.flatten

/-- R104, R177: the LB bytes of a FIFO entry: the codes packed from nozzle 0 on, least significant bit first (log entry
19). -/
def entryBytes (p : List Nat) (codes : List Nat) : List Nat :=
  leBytes (hpLineBytes p) (codes.reverse.foldl (fun (acc : Nat) c => acc * 2 ^ hpDepth p + c) 0)

/-- R114, R177: the entry of slot h joins the FIFO of channel c with its line signature; no slot is held twice. -/
def Device.pushEntry (d : Device) (k c h : Nat) (codes : List Nat) : Device :=
  let crc := crc32c (entryBytes (d.prof c) codes)
  let x := d.chan c
  let r := d.room k
  if x.fifo.any (fun e => e.slot == h) then d
  else
    (d.setChan c { x with fifo := x.fifo ++ [{ slot := h, codes := codes, crc := crc }] }).setRoom k
      { r with sigs := ((h, c, crc) :: r.sigs).take 512 }

/-- R164: VOID_COLUMNS of channel c and the columns that enter the condition, on the newest line of slot h. -/
def Device.voidCheck (m : Memories) (d : Device) (c h : Nat) : Device :=
  match Device.lineCfg m d c h (d.sMin c) with
  | none => d
  | some g =>
    let mp := d.nozMap c
    let v := g.voids mp
    let d1 := (d.setNozMap c { mp with void := v }).setRegN (Reg.VOID_COLUMNS + c) v.length
    (v.filter (fun col => !mp.void.contains col)).foldl (fun (d : Device) col =>
      d.raise Ev.ROOM_VOID_COLUMN c [.u 2 col, .raw 4 g.line]) d1

/-- R132: a bound page of which a line is now rendered is PRINTING. -/
def Device.markPrinting (d : Device) (k h : Nat) : Device :=
  let on (p : Page) : Bool := (groupChans k).any (fun c => d.chanOn c && (d.shifts c).any (fun s =>
    decide ((p.g0 : Int) ≤ (h : Int) - s ∧ (h : Int) - s < ((p.g0 + p.lines : Nat) : Int))))
  { d with pages := { d.pages with queue := d.pages.queue.map (fun p =>
      if p.state = .bound ∧ on p = true then { p with state := .printing } else p) } }

/-- R114: the FIFO of channel c has space. -/
def Device.fifoSpace (d : Device) (c : Nat) : Bool := decide ((d.chan c).fifo.length < fifoDepth)

/-- R153: a Room that has not begun starts every channel of its group at its first slot. -/
def Device.beginRoom (d : Device) (k : Nat) : Device :=
  if (d.room k).started then d
  else
    let f := d.firstSlot
    (groupChans k).foldl (fun (d : Device) c => d.setChan c { d.chan c with rend := f })
      (d.setRoom k { d.room k with next := f, started := true })

/-- R114, R153: the lowest slot that a channel with FIFO space still needs, and the channels that need it. -/
def Device.nextRender (d : Device) (k : Nat) : Option (Nat × List Nat) :=
  match (d.roomChans k).filter (fun c => d.fifoSpace c) with
  | [] => none
  | c :: cs =>
    let h := minN 0 ((c :: cs).map (fun x => (d.chan x).rend))
    some (h, (c :: cs).filter (fun x => (d.chan x).rend == h))

/-! ### Checkpoints (R175, R176) -/

/-- R176: COMMITS_DONE of the tables in force for grid line g: a sealed set that acts at or below it counts. -/
def Device.commitGen (d : Device) (g : Nat) : Nat :=
  let ahead := match d.dict.sealed with
    | some s => (match s.glc with | some gc => decide (gc ≤ g) | none => false)
    | none => false
  ((d.regAt Reg.COMMITS_DONE g).toNat + if ahead then 1 else 0) % 2 ^ 32

/-- R176: the bytes of a checkpoint of context x after slot h with decoder state s. BLOCK is the block's place in the
stripe's own chain, also for a REPEAT (log entry 161). -/
def Device.ckptBytes (d : Device) (x : Ctx) (h : Nat) (s : DecState) : List Nat :=
  let (blkLine, blkOff, used, bad) := match s.blk with
    | none => (0, s.pos, 0, false)
    | some b => (b.done, b.off, b.used, b.bad != 0)
  let g := x.g0 + s.line
  let mx := d.matrixAt x.plane g
  let row := (s.line + (d.regAt (Reg.MATRIX_ROW_PHASE + x.plane) g).toNat) % Nat.max 1 (mxHeight mx)
  let flags := (if d.mantel.rev then 1 else 0) + (if s.ended then 2 else 0) + (if bad then 4 else 0) +
    (if s.filled then 8 else 0)
  let b := [0x51, 0x43, 1, flags] ++ leBytes 2 x.id ++ [x.owner, x.plane] ++ leBytes 4 x.page ++
    leBytes 2 x.stripe ++ leBytesI 2 x.shift ++ leBytes 8 (h % 2 ^ 48) ++ leBytes 4 s.line ++ [blkLine, 0, 0, 0] ++
    leBytes 8 (blkOff % 2 ^ 56 + x.ent.stream * 2 ^ 56) ++ leBytes 4 used ++ leBytes 2 row ++
    [(d.regAt (Reg.MATRIX_SEL + x.plane) g).toNat, 0] ++ leBytes 4 (d.commitGen g) ++
    [0, 0, 0, 0, 0, 0, 0, 0]
  b ++ leBytes 4 (crc32c b) ++ histBytes s.hist x.ent.width

/-- R334: the Pantry address of a checkpoint slot of context x. -/
def Device.ckptAddr (d : Device) (x : Ctx) (half : Nat) : Nat := d.regN Reg.RESERVED_BASE + (2 * x.id + half) * 4608

/-- R176: a record whose CHECK or whose HISTORY CHECK fails is not used. -/
def ckptSound (l : List Nat) : Bool :=
  let n := l.length
  decide (128 ≤ n) && crc32c (l.take 60) == fieldAt l 60 4 && crc32c (bytesAt l 64 (n - 68)) == fieldAt l (n - 4) 4

/-- R176, R344: the checkpoint c of context x can be used: its record as the Pantry holds it is sound, and no sector of it reads
poisoned. -/
def Device.ckptUsable (m : Memories) (d : Device) (x : Ctx) (c : Ckpt) : Bool :=
  let a := d.ckptAddr x c.half
  ckptSound (mread m.store a c.len) && !d.rangeBad a c.len

/-- R175: the state of a context after grid line h − s: before the page's first line it is the starting state, after the
page's last line the state after that. -/
def Ctx.stateAt (x : Ctx) (h : Nat) : DecState :=
  let l : Int := (h : Int) - x.shift - x.g0
  if l < 0 then x.start
  else
    let line := Nat.min l.toNat (x.lines - 1)
    ((x.buf.find? (fun b => b.line == line)).map DecLine.dec).getD x.dec

/-- R173, R175: the contexts that unit u owns are decoded up to the line that slot h needs. -/
def Device.decodeOwned (m : Memories) (d : Device) (u h : Nat) : Device :=
  (d.rooms.ctxs.filter (fun x => x.owner == u)).foldl (fun (d : Device) (x : Ctx) =>
    let l : Int := (h : Int) - x.shift - x.g0
    let line := Nat.min l.toNat (x.lines - 1)
    if l < 0 then d else Device.ctxAdvance m d x.id line x.ent (line + 1 - x.dec.line)) d

/-- R175: with slot h complete on every channel of group k, a checkpoint of every context that its unit owns is begun. -/
def Device.beginCkpt (m : Memories) (d0 : Device) (k h : Nat) : Device :=
  let u := d0.unitOf k
  let d := Device.decodeOwned m d0 u h
  let snap (x : Ctx) : Ctx :=
    if x.owner ≠ u then x else { x with pend := x.pend ++ [{ slot := h, data := d.ckptBytes x h (x.stateAt h), dec := x.stateAt h }] }
  let r := d.room k
  let d1 := { d with rooms := { d.rooms with ctxs := d.rooms.ctxs.map snap } }
  let d2 := d1.setRoom k { d1.room k with ckDue := r.ckDue ++ [h] }
  match r.ckDue with
  | [] => d2
  | l :: _ =>
    let cx := match d.rooms.ctxs.find? (fun x => x.owner == u) with
      | some x => x.id
      | none => 0
    (d2.incReg Reg.CHECKPOINTS_LATE).raise Ev.ROOM_CHECKPOINT_LATE u [.u 1 cx, .raw 4 l]

/-- R175: the record of slot h that context x of unit u is writing, and the half that it goes to: not that of the newest one. -/
def Ctx.ckptNow (x : Ctx) (u h : Nat) : Option (Ckpt × Nat) :=
  if x.owner ≠ u then none
  else (x.pend.find? (fun c => c.slot == h)).map (fun c => (c, match x.ck.head? with
    | some y => 1 - y.half
    | none => h / 32 % 2))

/-- R175: that record is complete: it has been written whole, and takes the place of the older of two. -/
def Ctx.ckptDone (x : Ctx) (u h : Nat) : Ctx :=
  match x.ckptNow u h with
  | none => x
  | some (c, half) =>
    { x with pend := x.pend.filter (fun y => decide (h < y.slot)),
             ck := ({ c with data := [], half := half, len := c.data.length } :: x.ck).take 2 }

/-- R175, R334: the records of slot h that unit u was writing, each written whole into its Pantry slot. -/
def Device.ckptsWritten (m : Memories) (d : Device) (u h : Nat) : Memories × Device :=
  d.rooms.ctxs.foldl (fun (a : Memories × Device) x =>
    match x.ckptNow u h with
    | none => a
    | some (c, half) =>
      let p := d.ckptAddr x half
      ({ a.1 with store := mwrite a.1.store p (c.data ++ List.replicate (4608 - c.data.length) 0) },
       a.2.eccWrite p 4608 [])) (m, d)

/-- R172: a context is freed once the checkpoint of a slot at or after its last slot has completed. -/
def Device.ctxDone (d : Device) (x : Ctx) : Bool :=
  match (d.room (d.ownerGroup x)).ckDone with
  | none => false
  | some h => decide (x.last ≤ h)

/-- R172: the contexts that are done with are freed. -/
def Device.freeCtxs (d : Device) : Device :=
  let gone := (d.rooms.ctxs.filter d.ctxDone).map (fun x => (x.page, x.g0, x.stripe, x.shift))
  let held := (gone ++ d.rooms.freed).filter (fun f => d.pages.queue.any (fun p => p.isBound && p.num == f.1 && p.g0 == f.2.1))
  { d with rooms := { d.rooms with ctxs := d.rooms.ctxs.filter (fun x => !d.ctxDone x), freed := held } }

/-- R170, R172, R175: a checkpoint of Room k completes. -/
def Device.checkpointDone (m : Memories) (d : Device) (k : Nat) : Memories × Device :=
  let r := d.room k
  match r.ckDue with
  | [] => (m, d)
  | h :: t =>
    let u := d.unitOf k
    let w := Device.ckptsWritten m d u h
    let d1 := w.2.setRoom k { r with ckDue := t, ckDone := some h }
    let d2 := { d1 with rooms := { d1.rooms with ctxs := d1.rooms.ctxs.map (fun (x : Ctx) => x.ckptDone u h) } }
    (w.1, (groupChans k).foldl (fun (d : Device) c => d.retireChanges c h) d2.freeCtxs)

/-! ### A Room renders one slot (R153, R173, R175) -/

/-- R173: no context is free: the Room stops at the slot, and the page is reported and counted once. -/
def Device.contextWait (d : Device) (k : Nat) (a : CtxAsk) : Device :=
  if d.rooms.waited.contains (a.bnd.page, a.bnd.g0) then d
  else
    let l := ((a.bnd.page, a.bnd.g0) :: d.rooms.waited).filter (fun w =>
      d.pages.queue.any (fun p => p.isBound && p.num == w.1 && p.g0 == w.2))
    ({ d with rooms := { d.rooms with waited := l } }.incReg Reg.CONTEXT_WAITS).raise
      Ev.ROOM_CONTEXT_WAIT (d.unitOf k) [.u 4 a.bnd.page, .u 0 a.stripe]

/-- The entries of slot h for the channels cs. -/
def Device.renderChans (m : Memories) (d : Device) (k : Nat) (cs : List Nat) (h : Nat) : Device :=
  cs.foldl (fun (d : Device) c =>
    let d1 := Device.voidCheck m (d.pushEntry k c h (Device.renderCodes m d c h)) c h
    d1.setChan c { d1.chan c with rend := h + 1 }) d

/-- R153: the Room of group k renders its next slot. -/
def Device.renderSlot (m : Memories) (d : Device) (k : Nat) : Device :=
  if !d.rendering k then d
  else
    let d0 := d.beginRoom k
    match d0.nextRender k with
    | none => d
    | some (h, cs) =>
    let asks := d0.slotAsks cs h
    let r := d0.allocAll k asks
    match r.2 with
    | some a => r.1.contextWait k a
    | none =>
      let d1 := asks.foldl (fun (d : Device) a =>
        match d.findCtx a.bnd.page a.bnd.g0 a.stripe a.shift with
        | none => d
        | some x => Device.ctxAdvance m d x.id a.line a.ent (a.line + 1)) r.1
      let d2 := (Device.renderChans m d1 k cs h).markPrinting k h
      let n := (d2.room k).next
      let d3 := d2.setRoom k { d2.room k with next := Nat.max n (h + 1), begun := none }
      let whole := (d3.roomChans k).all (fun c => decide (h < (d3.chan c).rend))
      if h % 32 = 31 ∧ whole = true then Device.beginCkpt m d3 k h else d3

/-- R248: the unit that renders group k has a slot to render, with its contexts available. -/
def Device.slotReady (d : Device) (k : Nat) : Bool :=
  d.rendering k &&
    (let d0 := d.beginRoom k
     match d0.nextRender k with
     | none => false
     | some (h, cs) => (d0.allocAll k (d0.slotAsks cs h)).2.isNone)

/-- R248: a slot counts as begun from the first cycle in which it can be rendered until it is complete. -/
def Device.markBegun (d : Device) (k : Nat) : Device :=
  let r := d.room k
  match r.begun, d.slotReady k with
  | none, true => d.setRoom k { r with begun := some d.now }
  | some _, false => d.setRoom k { r with begun := none }
  | _, _ => d

/-- R133, R172: the page at the head of the queue has reached it: a page with START_KIND 0 or 1 once it is READY, one that
follows the page before it at once. -/
def Page.atHead (p : Page) : Bool := p.kind == 2 || p.state == .ready

/-- R172: pages that reach the head of the queue with a context need above 256 are DISCARDED, and the next is considered;
the first argument bounds how many. -/
def Device.dropOversize (d : Device) : Nat → Device
  | 0 => d
  | fuel + 1 =>
    match d.headPage with
    | none => d
    | some p =>
      let n := d.contextNeed p
      if p.atHead = false ∨ n ≤ 256 then d
      else ((d.discardPages [p]).raise Ev.ROOM_CONTEXTS_EXCEEDED 0xFF [.u 4 p.num, .u 0 n]).dropOversize fuel

/-- R79, R172: the page at the head of the queue binds, once the pages with too large a context need are gone. -/
def Device.bindHead (d0 : Device) : Device :=
  let d := d0.dropOversize d0.pages.queue.length
  match d.headPage with
  | none => d
  | some p =>
    let b := d.pageBind
    if b.mantel.bound.length = d.mantel.bound.length then b else b.setRegN Reg.LAST_CONTEXT_NEED (d.contextNeed p)

/-! ### Checks of rendering tables (R159 … R162) -/

/-- R159: a TONE_CURVE. -/
def toneVerify (l : List Nat) : Status :=
  if l.length ≠ 260 then .length
  else if crc32c (l.take 256) ≠ fieldAt l 256 4 then .check
  else if l.headD 0 ≠ 0 then .range
  else .ok

/-- R160: curve k of a GAIN_FAMILY as numbers. -/
def gainCurve (l : List Nat) (k : Nat) : List Nat := (List.range 256).map (fun y => fieldAt l (512 * k + 2 * y) 2)

/-- A list that never decreases. -/
def rising : List Nat → Bool
  | [] => true
  | [_] => true
  | a :: b :: t => decide (a ≤ b) && rising (b :: t)

/-- R160: a GAIN_FAMILY. -/
def gainVerify (l : List Nat) : Status :=
  let cs := (List.range 64).map (gainCurve l)
  if l.length ≠ 32772 then .length
  else if crc32c (l.take 32768) ≠ fieldAt l 32768 4 then .check
  else if cs.any (fun c => c.any (fun v => decide (4096 ≤ v))) then .reserved
  else if cs.any (fun c => !rising c || c.headD 0 != 0) then .range
  else if gainCurve l 32 ≠ (List.range 256).map (gainDefault 32) then .range
  else .ok

/-- R161: the thresholds of cell i. -/
def mxCell (l : List Nat) (i : Nat) : List Nat := (List.range 7).map (fun t => fieldAt l (16 + 14 * i + 2 * t) 2)

/-- R161: a MATRIX. -/
def matrixVerify (l : List Nat) : Status :=
  let n := mxWidth l * mxHeight l
  let lv := mxLevels l
  let cells := (List.range n).map (mxCell l)
  if l.length ≠ 20 + 14 * n then .length
  else if crc32c (l.take (16 + 14 * n)) ≠ fieldAt l (16 + 14 * n) 4 then .check
  else if (bytesAt l 8 8).any (fun b => b != 0) || cells.any (fun c => c.any (fun v => decide (4096 ≤ v))) then .reserved
  else if bytesAt l 0 3 ≠ [0x51, 0x4D, 1] ∨ lv < 1 ∨ 7 < lv ∨ mxWidth l < 1 ∨ 256 < mxWidth l ∨ mxHeight l < 1 ∨
      256 < mxHeight l then .range
  else if cells.any (fun c => c.headD 0 == 0 || !rising (c.take lv) || (c.drop lv).any (fun v => v != 0)) then .range
  else .ok

end Sys2Proof.Machine
end

