-- ==== Sys2Proof/Machine/ProtOps.lean ====
section
/-! DEFINITION. Head protection (R180 … R190) and drop detection (R191 … R197), and the sideband's poll cycle and alert
handling, which the thermal supervisor acts on. -/
namespace Sys2Proof.Machine

/-! ### Interlocks (R180 … R186) -/

/-- R180: the fuse word of input n. -/
def Device.intlkWord (d : Device) (n : Nat) : Nat := d.regN (Reg.INTLK_FUSE_WORD + n)

/-- R180: the role of a word; 6 and 7 act as EMERGENCY_STOP; an unlocked word has none. -/
def intlkRole (w : Nat) : Nat := if bit w 31 then Nat.min 5 (field w 28 26) else 0

/-- R185: the groups that a role gates. -/
def roleGroups (role scope : Nat) : Nat := if role = 5 then 0xFFFFFF else scope % 2 ^ 24

/-- R185: the severity of a role's events: INFO 0, WARN 1, FAULT 2, STOP 3. -/
def roleSev (role : Nat) : Nat :=
  match role with
  | 1 => 2 | 2 => 1 | 3 => 2 | 4 => 1 | 5 => 3 | _ => 0

/-- R185: the role's further action apart from gating: a scheduler stop for MEDIA_OUT, JAM and EMERGENCY_STOP. -/
def Device.roleStop (d : Device) (role : Nat) : Device :=
  if role = 2 ∨ role = 3 ∨ role = 5 then d.schedStop else d

/-- R314: the body of INTLK: the origin's position, input, role, release flag and GLC. -/
def intlkMsg (pos input role : Nat) (rel : Bool) (glc : Nat) : List Nat :=
  [pos, input, role, if rel then 1 else 0] ++ leBytes 8 glc

/-- R183 … R186: an accepted assertion of input n. -/
def Device.intlkAssert (d : Device) (n : Nat) : Device :=
  let w := d.intlkWord n
  let role := intlkRole w
  let x := d.intlkIn n
  if role = 0 ∨ x.st = .asserted then d
  else
    let g := roleGroups role w
    let d1 := (d.setIntlk n { x with
      st := .asserted, at_ := d.now, held := x.held ||| g,
      report := x.report || (g != 0), ringDue := x.ringDue || bit w 30 }).incReg (Reg.INTLK_COUNT + n)
    let d2 := ((d1.cutGated).roleStop role).raiseSev Ev.INTLK_ASSERTED (roleSev role) n [.u 1 role, .u 0 g]
    if bit w 30 then d2.hallBoth 6 (intlkMsg (d.regN Reg.RING_POSITION) n role false 0) else d2

/-- R184: an accepted deassertion. -/
def Device.intlkClear (d : Device) (n : Nat) : Device :=
  let x := d.intlkIn n
  if x.st = .asserted then
    (d.setIntlk n { x with st := .awaitingAck }).raise Ev.INTLK_CLEARED n [.u 0 ((d.now - x.at_) / 400)]
  else d

/-- R184: an acknowledgement moves the named inputs that await it to CLEAR. -/
def Device.intlkAck (d : Device) (mask : Nat) : Device :=
  (List.range 12).foldl (fun (d : Device) n =>
    let x := d.intlkIn n
    if bit mask n ∧ x.st = .awaitingAck then d.setIntlk n { x with st := .clear } else d) d

/-- R94, R184: the groups released at this line event. -/
def Device.releasable (d : Device) : List Nat :=
  (List.range 24).filter (fun k => bit d.intlkMask k && !d.groupHeld k)

/-- R184, R186: an input that is CLEAR and whose last gated group is released reports it, and a ring input sends the
release. One that gated no group reports nothing (log entry 77). -/
def Device.intlkReleased (d : Device) (n : Nat) : Device :=
  let x := d.intlkIn n
  if (x.report || x.ringDue) && x.held == 0 && x.st == .clear then
    let d1 := d.setIntlk n { x with report := false, ringDue := false }
    let d2 := if x.report then d1.raise Ev.INTLK_RELEASED n [.raw 4 d.mantel.line] else d1
    if x.ringDue then
      d2.hallBoth 6 (intlkMsg (d.regN Reg.RING_POSITION) n (intlkRole (d.intlkWord n)) true d.glc)
    else d2
  else d

/-- R186: the gates received over the ring whose release has come and that hold no group any more end. -/
def Device.ringReleased (d : Device) : Device :=
  let over_ (r : RingGate) : Bool := r.held == 0 && (match r.relAt with
    | some g => decide (g ≤ d.mantel.line)
    | none => false)
  (d.prot.ring.filter (fun r => over_ r && r.report)).foldl
    (fun (d : Device) r => d.raise Ev.INTLK_RELEASED r.input [.raw 4 d.mantel.line])
    { d with prot := { d.prot with ring := d.prot.ring.filter (fun r => !over_ r) } }

/-- R184: a line event g_r: groups that no input covers any more are released. -/
def Device.intlkLine (d : Device) : Device :=
  let ks := d.releasable
  let m := maskOf ks
  let clr (h : Nat) : Nat := h - (h &&& m)
  let d1 := if ks.isEmpty then d else { d with prot := { d.prot with
    intlk := d.prot.intlk.map (fun p => (p.1, { p.2 with held := clr p.2.held }))
    ring := d.prot.ring.map (fun r => { r with held := clr r.held }) } }
  let d2 := ks.foldl (fun (d : Device) k => (groupChans k).foldl (fun (d : Device) c =>
    d.setChan c { d.chan c with openIntlk := d.mantel.line }) d) d1
  ((List.range 12).foldl Device.intlkReleased d2).ringReleased

/-- R186: an interlock message arrives on a Hallway port: it gates, applies the role and is forwarded once on the other
port; a release takes effect at its GLC. The copy that comes round the other way has no effect. -/
def Device.intlkRing (d : Device) (port hops pos input role : Nat) (rel : Bool) (glc : Nat) : Device :=
  if pos = d.regN Reg.RING_POSITION then d
  else if rel then
    if d.prot.relSeen.contains (pos, input, glc) then d
    else
      let seen := (pos, input, glc) :: d.prot.relSeen.filter (fun s => !(s.1 == pos && s.2.1 == input))
      let d1 := { d with prot := { d.prot with relSeen := seen, ring := d.prot.ring.map (fun (r : RingGate) =>
        if r.pos = pos ∧ r.input = input then { r with relAt := some glc } else r) } }
      d1.hallSend (1 - port) 6 (hops + 1) (intlkMsg pos input role true glc)
  else if d.prot.ring.any (fun r => r.pos == pos && r.input == input && r.relAt.isNone && r.port != port) then d
  else
    let g := roleGroups role (d.regN Reg.RING_SCOPE)
    let held := d.prot.ring.filter (fun r => !(r.pos == pos && r.input == input))
    let d1 := { d with prot := { d.prot with ring := held ++ [(⟨pos, input, role, g, g != 0, port, none⟩ : RingGate)] } }
    (((d1.cutGated).roleStop role).raiseSev Ev.INTLK_RING_RECEIVED (roleSev role) input [.u 0 pos]).hallSend (1 - port) 6 (hops + 1)
      (intlkMsg pos input role false 0)

/-! ### Thermal supervision (R187 … R189) -/

/-- THERM_STATE of channel c. -/
def Device.therm (d : Device) (c : Nat) : Int := d.reg (Reg.THERM_STATE + c)

/-- R187: the warn and limit thresholds in force. -/
def Device.thermW (d : Device) (c : Nat) : Int := d.reg (Reg.TEMP_WARN_IN_FORCE + c)
def Device.thermL (d : Device) (c : Nat) : Int := d.reg (Reg.TEMP_LIMIT_IN_FORCE + c)

/-- R187: the thermal state of channel c as last decided, acted upon or not. -/
def Device.thermLast (d : Device) (c : Nat) : Int :=
  match (d.chan c).thermPend.getLast? with
  | some p => p.1
  | none => d.therm c

/-- R187: the state that a poll with temperature t decides (apart from TRIP), and the run of polls below the clearing
level. -/
def Device.thermDecide (d : Device) (c : Nat) (t : Int) : Int × Nat :=
  let st := d.thermLast c
  let h := d.reg Reg.THERM_HYST_DC
  let n := (d.chan c).clearRun
  let polls := d.regN Reg.CLEAR_POLLS
  if (st = 0 ∨ st = 1) ∧ d.thermL c ≤ t then (2, 0)
  else if st = 0 ∧ d.thermW c ≤ t then (1, 0)
  else if st = 2 then
    if t ≤ d.thermL c - h then (if polls ≤ n + 1 then (1, 0) else (2, n + 1)) else (2, 0)
  else if st = 1 then
    if t ≤ d.thermW c - h then (if polls ≤ n + 1 then (0, 0) else (1, n + 1)) else (1, 0)
  else (st, 0)

/-- R187: the state that a temperature alone gives a head released from TRIP. -/
def Device.thermOf (d : Device) (c : Nat) (t : Int) : Int :=
  if d.thermL c ≤ t then 2 else if d.thermW c ≤ t then 1 else 0

/-- R189: the nozzles rested in the present half of a rotation. -/
def Device.rotateSet (d : Device) (c : Nat) (first : Bool) : List Nat :=
  let p := d.prof c
  let npc := d.regN (Reg.NOZZLES_PER_COL + c)
  let cols := columnsOf p npc
  if npc = 2 then cols.filterMap (fun l => match l with
    | [a, b] => some (if first then b else a)
    | _ => none)
  else ((List.range cols.length).filter (fun i => decide (i % 2 = (if first then 0 else 1)))).map
    (fun i => (cols.getD i []).headD 0)

/-- R188, R189: entry to LIMIT applies LIMIT_POLICY; a gate of policy 2 that was to end goes on. -/
def Device.enterLimit (d : Device) (c : Nat) : Device :=
  let pol := d.regN Reg.LIMIT_POLICY
  let d1 := ((d.incReg (Reg.LIMIT_COUNT + c)).setReg (Reg.THERM_STATE + c) 2).raise Ev.THERM_LIMIT c
    [.s 2 (d.reg (Reg.TEMP_DC + c)), .u 0 pol]
  if pol = 0 then
    (d1.setChan c { d1.chan c with rotOn := true, rotAt := d.mantel.line, rotA := true }).setRest c (d1.rotateSet c true)
  else if pol = 1 then d1.setRest c (List.range (d1.mapLen c))
  else
    let others := d1.prot.gate2.filter (fun x => x != c)
    ({ d1 with prot := { d1.prot with gate2 := others ++ [c], gate2Rel := d1.prot.gate2Rel.filter (fun x => x != c) } }).cutFire c 4

/-- R188: the end of LIMIT: the rest ends, and a gate of policy 2 ends at the next line event. -/
def Device.leaveLimit (d : Device) (c : Nat) : Device :=
  let d0 := d.setChan c { d.chan c with rotOn := false }
  let d1 := if (d.nozMap c).rested.isEmpty then d0 else d0.setRest c []
  if d1.prot.gate2.contains c then { d1 with prot := { d1.prot with gate2Rel := d1.prot.gate2Rel ++ [c] } } else d1

/-- R188: a decided transition of channel c to state s acts. -/
def Device.thermStep (d : Device) (c s : Nat) : Device :=
  let st := d.therm c
  let t := d.reg (Reg.TEMP_DC + c)
  if st = 3 ∨ st = (s : Int) then d
  else if s = 2 then d.enterLimit c
  else
    let d1 := (if st = 2 then d.leaveLimit c else d).setReg (Reg.THERM_STATE + c) s
    d1.raise (if s = 1 then Ev.THERM_WARN else Ev.THERM_NORMAL) c [.s 0 t]

/-- R188: the transitions of channel c decided up to ENC cycle t act, in their order. -/
def Device.thermAct (d : Device) (c t : Nat) : Device :=
  let x := d.chan c
  (x.thermPend.filter (fun p => decide (p.2 ≤ t))).foldl (fun (d : Device) p => d.thermStep c p.1)
    (d.setChan c { x with thermPend := x.thermPend.filter (fun p => !decide (p.2 ≤ t)) })

/-- R188: no line event within 1 ms of the poll: the transition acts. -/
def Device.thermTimeout (d : Device) (c : Nat) : Device :=
  if d.now < cycMs 1 then d else d.thermAct c (d.now - cycMs 1)

/-- R188, R189: a line event: gates of policy 2 whose head has returned to WARN are released, then decided transitions
act. -/
def Device.thermLine (d : Device) : Device :=
  let rel := d.prot.gate2Rel
  let d1 := { d with prot := { d.prot with gate2 := d.prot.gate2.filter (fun c => !rel.contains c), gate2Rel := [] } }
  let d2 := rel.foldl (fun (d : Device) c => d.setChan c { d.chan c with openTherm := d.mantel.line }) d1
  (d.heads.chans.filter (fun p => !p.2.thermPend.isEmpty)).foldl (fun (d : Device) p => d.thermAct p.1 d.now) d2

/-- R189: after ROTATE_LINES lines the rested half of a head that entered LIMIT under ROTATE changes. -/
def Device.rotate (d : Device) (c : Nat) : Device :=
  let x := d.chan c
  if d.therm c ≠ 2 ∨ x.rotOn = false ∨
      d.mantel.line < x.rotAt + d.regN Reg.ROTATE_LINES then d
  else (d.setChan c { x with rotAt := d.mantel.line, rotA := !x.rotA }).setRest c (d.rotateSet c (!x.rotA))

/-! ### TRIP (R190) -/

/-- The positions of a group's channels listed in a map. -/
def mapChans (k m : Nat) : List Nat := (bitsOf 8 m).map (fun p => 8 * k + p)

/-- R190: FIRE is gated on the channels of a map of group k. -/
def Device.tripGate (d : Device) (k m : Nat) : Device :=
  let d1 := d.setRegN (Reg.TRIP_GATED + k) (d.regN (Reg.TRIP_GATED + k) ||| m)
  (mapChans k m).foldl (fun (d : Device) c => d.cutFire c 4) d1

/-- R190 step 1: an assertion, accepted after 16 equal samples, gates the channels whose last completed poll lay within
2.0 °C of their limit, or the whole group. A channel that waits for its release under step 4 and is gated again waits no
more. -/
def Device.headAlert (d : Device) (k held : Nat) : Device :=
  if held < 16 ∨ (d.group k).alert.isSome = true then d
  else
    let near := (groupChans k).filter (fun c =>
      decide (0 < (d.chan c).polls) && decide (d.thermL c - 20 ≤ d.reg (Reg.TEMP_DC + c)))
    let m := if near.isEmpty then 0xFF else maskOf (near.map (fun c => c % 8))
    let d1 := (d.setGroup k { d.group k with alert := some d.now, alertWin := true, alertFound := 0, alertMask := m }).incReg
      (Reg.ALERT_COUNT + k)
    let d2 := (mapChans k m).foldl (fun (d : Device) c => d.setChan c { d.chan c with alertGated := true }) d1
    let d3 := { d2 with prot := { d2.prot with
      alertRel := d2.prot.alertRel.filter (fun c => !(c / 8 == k && bit m (c % 8))) } }
    d3.tripGate k m

/-- R190: channel c enters TRIP; a pending acknowledgement is lost. -/
def Device.enterTrip (d : Device) (c : Nat) : Device :=
  let k := c / 8
  let d1 := (d.setReg (Reg.THERM_STATE + c) 3).setRegN (Reg.TRIP_PENDING_ACK + k)
    (clrBit (d.regN (Reg.TRIP_PENDING_ACK + k)) (c % 8))
  let p := { d1.prot with
    tripRel := d1.prot.tripRel.filter (fun x => x != c)
    tripAt := if d.therm c = 3 then d1.prot.tripAt else tins c d.now d1.prot.tripAt }
  let d2 := { d1 with prot := p }
  let d3 := if d.therm c = 3 then d2 else d2.incReg (Reg.TRIP_COUNT + k)
  let x := d3.chan c
  (d3.setChan c { x with alertGated := false, thermPend := [], clearRun := 0 }).leaveLimit c

/-- R119, R190: the alert window in ENC cycles. -/
def Device.alertWindow (d : Device) (k : Nat) : Nat := cycUs (if hpSbRate (d.group k).prof = 1 then 40 else 100)

/-- R119, R190 step 3: an alert response read, finished within the window, returns the head at an address of group k. One
that ended in an error identifies no head (R117). -/
def Device.alertIdentified (d : Device) (k addr : Nat) (err : Bool) : Device :=
  let g := d.group k
  let pos := addr - hpSbBase g.prof
  let open_ := g.alertWin && (match g.alert with
    | some t => decide (d.now ≤ t + d.alertWindow k)
    | none => false)
  if open_ = false then d
  else if err then (d.send (.sideband k [0x0C])).sbError k
  else if addr < hpSbBase g.prof ∨ 8 ≤ pos then d
  else
    let d1 := (d.send (.sideband k [0x0C])).setGroup k { g with alertFound := setBit g.alertFound pos }
    (d1.tripGate k (setBit 0 pos)).enterTrip (8 * k + pos)

/-- R190: the alert is over for identification: THERM_TRIP is raised, and what was gated without being identified is
released at the next line event. -/
def Device.alertOver (d : Device) (k : Nat) : Device :=
  let g := d.group k
  let d1 := (d.setGroup k { g with alertWin := false }).raise Ev.THERM_TRIP k
    [.u 2 (d.regN (Reg.TRIP_GATED + k)), .u 0 g.alertFound]
  let un := (groupChans k).filter (fun c => (d1.chan c).alertGated && bit g.alertMask (c % 8))
  { d1 with prot := { d1.prot with alertRel := d1.prot.alertRel ++ un } }

/-- R119, R190: the window closes with ALERT_N asserted, or an alert read is NACKed: the alert is unresolved, and every
channel gated in its step 1 is treated as identified. -/
def Device.alertUnresolved (d : Device) (k : Nat) (nack : Bool) : Device :=
  let g := d.group k
  match g.alert with
  | none => d
  | some t =>
    if g.alertWin = false ∨ (nack = false ∧ d.now < t + d.alertWindow k) then d
    else
      let un := (groupChans k).filter (fun c => (d.chan c).alertGated && bit g.alertMask (c % 8))
      let d1 := (if nack then d.send (.sideband k [0x0C]) else d).raise Ev.HEAD_ALERT_UNRESOLVED k [.u 0 (popCount 8 g.alertFound)]
      let d2 := un.foldl (fun (d : Device) c => d.enterTrip c) d1
      (d2.setGroup k { d2.group k with alertFound := g.alertFound ||| maskOf (un.map (fun c => c % 8)) }).alertOver k

/-- R119, R190: ALERT_N deasserts, accepted after 16 equal samples. -/
def Device.alertGone (d : Device) (k held : Nat) : Device :=
  let g := d.group k
  match g.alert with
  | none => d
  | some _ => if held < 16 then d else
    let d1 := d.setGroup k { g with alert := none }
    if g.alertWin then d1.alertOver k else d1

/-- R190 step 5: a completed poll of a head in TRIP. -/
def Device.tripPoll (d : Device) (c : Nat) (t : Int) : Device :=
  let k := c / 8
  let pend := d.regN (Reg.TRIP_PENDING_ACK + k)
  let cool := decide (t ≤ d.thermL c - d.reg Reg.THERM_HYST_DC)
  if cool && (d.group k).alert.isNone then d.setRegN (Reg.TRIP_PENDING_ACK + k) (setBit pend (c % 8))
  else if cool then d
  else
    { d.setRegN (Reg.TRIP_PENDING_ACK + k) (clrBit pend (c % 8)) with
      prot := { d.prot with tripRel := d.prot.tripRel.filter (fun x => x != c) } }

/-- R190: TRIP_ACK: the heads of the named groups whose pending bit is set are released at the next line event. -/
def Device.tripAck (d : Device) (mask : Nat) : Device :=
  let l := ((List.range 24).filter (bit mask)).map (fun k => mapChans k (d.regN (Reg.TRIP_PENDING_ACK + k)))
  { d with prot := { d.prot with tripRel := d.prot.tripRel ++ l.flatten.filter (fun c => !d.prot.tripRel.contains c) } }

/-- A channel's trip gate is opened at a line event (R94). -/
def Device.openTrip (d : Device) (c : Nat) : Device :=
  let k := c / 8
  let x := d.chan c
  (d.setRegN (Reg.TRIP_GATED + k) (clrBit (d.regN (Reg.TRIP_GATED + k)) (c % 8))).setChan c
    { x with openTherm := d.mantel.line, alertGated := false }

/-- R190 step 6: one head is released from TRIP; a new trip that gated it meanwhile goes on gating it. -/
def Device.tripRelease (d : Device) (c : Nat) : Device :=
  let k := c / 8
  let t0 := tget (fun _ => d.now) d.prot.tripAt c
  let d1 := (if (d.chan c).alertGated then d else d.openTrip c).setRegN (Reg.TRIP_PENDING_ACK + k) (clrBit (d.regN (Reg.TRIP_PENDING_ACK + k)) (c % 8))
  let d2 := { d1 with prot := { d1.prot with tripAt := tdel c d1.prot.tripAt } }
  let s := d.thermOf c (d.reg (Reg.TEMP_DC + c))
  let d3 := d2.raise Ev.THERM_TRIP_RELEASED c [.u 0 ((d.now - t0) / 400)]
  if s = 2 then d3.enterLimit c else d3.setReg (Reg.THERM_STATE + c) s

/-- R190 step 4: a channel gated in step 1 and not identified is released; one in TRIP from before stays gated. -/
def Device.alertRelease (d : Device) (c : Nat) : Device :=
  if d.therm c = 3 then d.setChan c { d.chan c with alertGated := false } else d.openTrip c

/-- R190 steps 4 and 6: the releases of a line event. -/
def Device.tripLine (d : Device) : Device :=
  let a := d.prot.alertRel.filter (fun c => (d.chan c).alertGated)
  let r := d.prot.tripRel
  let d1 := { d with prot := { d.prot with alertRel := [], tripRel := [] } }
  r.foldl (fun (d : Device) c => d.tripRelease c) (a.foldl (fun (d : Device) c => d.alertRelease c) d1)

/-! ### The poll cycle (R118, R123, R187) -/

/-- R117: what the device puts on the sideband to read one head's temperature: the head's address and, where that is
acknowledged, TEMP_REG. -/
def Device.pollSend (d : Device) (c : Nat) (r : PollRead) : Device :=
  let a := hpSbBase (d.prof c) + c % 8
  match r with
  | .skipped => d
  | .nack => d.send (.sideband (c / 8) [a])
  | _ => d.send (.sideband (c / 8) [a, hpTempReg (d.prof c)])

/-- What the sideband brings back for one position. -/
def Device.pollOne (d0 : Device) (c : Nat) (r : PollRead) : Device :=
  let d := d0.pollSend c r
  match r with
  | .skipped => d
  | .error => d.sbError (c / 8)
  | .nack => d.pollNack c
  | .temp raw =>
    let d1 := d.pollAck c raw
    let t := d1.reg (Reg.TEMP_DC + c)
    if d1.present c = false then d1
    else if d1.therm c = 3 then d1.tripPoll c t
    else
      let (s, n) := d1.thermDecide c t
      let x := d1.chan c
      d1.setChan c { x with clearRun := n,
                            thermPend := if s = d1.thermLast c then x.thermPend else x.thermPend ++ [(s.toNat, d.now)] }

/-- R118: a poll cycle of group k brings its reads in position order; the first one after an enable turns it ON. -/
def Device.pollCycleDone (d : Device) (k : Nat) (reads : List PollRead) : Device :=
  let st := d.hgState k
  let g := d.group k
  if ¬ (st = 3 ∨ st = 4) ∨ d.now < g.pollAt then d
  else
    let cs := (groupChans k).filter (fun c => d.chanEnabled c)
    let d1 := (List.range cs.length).foldl (fun (d : Device) i =>
      d.pollOne (cs.getD i 0) (reads.getD i .skipped)) d
    let d2 := d1.pollPeriod k
    let d3 := d2.setGroup k { d2.group k with pollAt := g.pollAt + cycUs (d2.regN (Reg.POLL_PERIOD_US + k)) }
    if st = 3 then d3.setReg (Reg.HG_STATE + k) 4 else d3

/-! ### Drop tests (R191 … R197) -/

/-- R191: the gate unit of a group. -/
def Device.dtUnitOf (d : Device) (k : Nat) : Nat := d.regN (Reg.DT_GATE_SEL + k)

/-- R182, R191, R193: whether a drop test may start. -/
def Device.dtCheck (d : Device) : Status :=
  let gs := bitsOf 24 (d.regN Reg.DT_GROUPS)
  let outside := gs.any (fun k => !bit (d.regN Reg.FIRE_SCOPE) k)
  let badSel := d.reg Reg.DT_MODE == 2 && gs.any (fun k => d.dtUnitOf k == 1 || d.dtUnitOf k == 3)
  let badWin := decide (d.regN Reg.DT_PERIOD_US * 1000 < d.regN Reg.DT_WIN_END_NS)
  if outside || badSel || badWin then .range
  else if d.reg Reg.SCHED_STATE ≠ 2 ∨ gs.any (fun k => d.hgState k != 4) = true ∨
      d.reg Reg.DT_STATE = 1 ∨ d.reg Reg.DT_STATE = 2 then .state
  else .ok

/-- The last nozzle of channel c that the running test covers. -/
def Device.dtLastOf (d : Device) (c : Nat) : Nat := Nat.min d.prot.conf.last (hpNozzles (d.prof c) - 1)

/-- R191: the test starts: the parameters as they stand, and one sequence per gate unit. -/
def Device.dtStart (d : Device) : Device :=
  let gs := bitsOf 24 (d.regN Reg.DT_GROUPS)
  let cf : DtConf := {
    mode := d.regN Reg.DT_MODE, first := d.regN Reg.DT_FIRST_NOZZLE, last := d.regN Reg.DT_LAST_NOZZLE,
    drops := d.regN Reg.DT_DROPS, minHits := d.regN Reg.DT_MIN_HITS, periodUs := d.regN Reg.DT_PERIOD_US,
    winStart := d.regN Reg.DT_WIN_START_NS, winEnd := d.regN Reg.DT_WIN_END_NS,
    minWidth := d.regN Reg.DT_MIN_WIDTH_NS, code := d.regN Reg.DT_CODE, ejectNs := d.regN Reg.DT_EJECT_NS,
    h0 := d.regN Reg.DT_H0_UM, h1 := d.regN Reg.DT_H1_UM, gap := d.regN Reg.DT_GAP_UM,
    devPm := d.regN Reg.DT_DEV_PERMILLE, ejectTol := d.regN Reg.DT_EJECT_TOL_NS, apply := d.regB Reg.DT_APPLY,
    timeoutMs := d.regN Reg.DT_GATED_TIMEOUT_MS, invert := d.regN Reg.DT_GATE_INVERT,
    groups := d.regN Reg.DT_GROUPS, at_ := d.now }
  let units := (List.range 4).filterMap (fun u =>
    let cs := (gs.filter (fun k => d.dtUnitOf k == u)).map (fun k => (groupChans k).filter (fun c => d.present c))
    let l := cs.flatten.filter (fun c => decide (cf.first ≤ Nat.min cf.last (hpNozzles (d.prof c) - 1)))
    if l.isEmpty then none else some ({ unit := u, chans := l, noz := cf.first, nextAt := d.ps } : DtUnit))
  { (d.setReg Reg.DT_STATE (if units.isEmpty then 3 else 1)).setReg Reg.DT_PROGRESS 0 with
    prot := { d.prot with conf := { cf with chans := (units.map (fun x => x.chans.map (fun c => (x.unit, c)))).flatten }, units := units, results := [], pausedAt := none, abort := false } }

/-- Gate unit u of the running test. -/
def Device.dtUnit (d : Device) (u : Nat) : Option DtUnit := d.prot.units.find? (fun x => x.unit == u)

/-- The unit and beam of a gate in the running test. -/
def Device.dtBeam (d : Device) (gate : Nat) : Nat × Nat :=
  if d.prot.conf.mode = 2 then (gate / 2 * 2, gate % 2) else (gate, 0)

/-- R193, R223, R401: what the converter of a gate reads for an edge at `edge` ps: its 250 ps tap, with the factory's
correction of the tap's bin (log entry 148). -/
def Device.gateTime (d : Device) (gate edge : Nat) : Nat :=
  let tap := edge / 250
  let corr := if bit (d.regN Reg.FACTORY_VALID) 1 then d.fuseI (264 + 8 * gate + tap % 8) 1 else 0
  (((tap * 250 : Nat) : Int) + corr).toNat

/-- R193: a pulse of a drop gate: its level, leading edge (ps) and width (ns). A pulse to the level that DT_GATE_INVERT
makes the deasserted one is none. -/
def Device.gatePulse (d : Device) (gate edge width : Nat) (high : Bool) : Device :=
  let (u, beam) := d.dtBeam gate
  match d.dtUnit u with
  | none => d
  | some x =>
    match x.fired with
    | none => d
    | some f =>
      let e := d.gateTime gate edge
      let t := e - f
      if high = bit d.prot.conf.invert gate ∨ e < f ∨ t < d.prot.conf.winStart * 1000 ∨
          d.prot.conf.winEnd * 1000 ≤ t ∨ width < d.prot.conf.minWidth then d
      else if beam = 0 then
        match x.p0 with
        | none => d.setDtUnit { x with p0 := some t }
        | some _ => d.setDtUnit { x with sats := Nat.min 255 (x.sats + 1) }
      else
        match x.p1 with
        | none => d.setDtUnit { x with p1 := some t }
        | some _ => d.setDtUnit { x with sats := Nat.min 255 (x.sats + 1) }

/-- The sum of a list. -/
def sumN (l : List Nat) : Nat := l.foldl (· + ·) 0

/-- A quotient with a positive denominator; with none left, the value of log entry 21 for the travel. -/
def velQuot (travel : Nat) (num den : Int) : Int × Int :=
  if den = 0 then ((Config.velAtZero travel).toInt, 1) else if den < 0 then (-num, -den) else (num, den)

/-- R194: velocity in µm/µs as a quotient, from the summed arrival times in ps over n hits. -/
def dtVel (cf : DtConf) (hits : List (Nat × Nat)) : Int × Int :=
  let n : Int := hits.length
  let s0 : Int := sumN (hits.map Prod.fst)
  let s1 : Int := sumN (hits.map Prod.snd)
  if cf.mode = 2 then
    velQuot (cf.h1 - cf.h0) ((cf.h1 - cf.h0 : Int) * 1000000 * n) (s1 - s0)
  else velQuot cf.h0 (cf.h0 * 1000000 * n) (s0 - cf.ejectNs * 1000 * n)

/-- R194: the ejection delay in ns as a quotient. -/
def dtEject (cf : DtConf) (hits : List (Nat × Nat)) (v : Int × Int) : Int × Int :=
  let n : Int := hits.length
  if cf.mode = 2 ∧ v.1 ≠ 0 ∧ n ≠ 0 then
    let num := (sumN (hits.map Prod.fst) : Int) * v.1 - 1000 * cf.h0 * v.2 * 1000 * n
    if v.1 < 0 then (-num, -(1000 * n * v.1)) else (num, 1000 * n * v.1)
  else (cf.ejectNs, 1)

/-- A drop hit: every beam has an accepted pulse. -/
def DtUnit.hit (x : DtUnit) (mode : Nat) : Option (Nat × Nat) :=
  match x.p0, x.p1 with
  | some a, some b => some (a, b)
  | some a, none => if mode = 2 then none else some (a, 0)
  | none, _ => none

/-- What R194 finds for one nozzle: hits, satellites, velocity, ejection delay. -/
structure DtNoz where
  noz   : Nat
  hits  : Nat
  sats  : Nat
  v     : Int × Int
  e     : Int × Int
deriving DecidableEq, Repr

/-- R194: the nozzles of channel c with complete results. -/
def Device.dtNozzles (d : Device) (c : Nat) : List DtNoz :=
  (d.prot.results.filter (fun r => r.ch == c)).map (fun r =>
    let v := dtVel d.prot.conf r.hits
    { noz := r.noz, hits := r.hits.length, sats := r.sats, v := v, e := dtEject d.prot.conf r.hits v })

/-- R194: v_m, e_m, F and whether the result is valid. -/
structure DtHead where
  vm : Int × Int
  em : Int × Int
  f  : Nat
  ok : Bool
deriving DecidableEq, Repr

/-- R194: the head's medians and flight time. -/
def dtHead (cf : DtConf) (l : List DtNoz) : DtHead :=
  let q := l.filter (fun n => decide (cf.minHits ≤ n.hits) && n.v.1 != 0)
  let vm := medianFrac 194 (q.map DtNoz.v)
  let em := medianFrac 194 (q.map DtNoz.e)
  if q.length < 16 ∨ vm.1 = 0 then { vm := vm, em := em, f := 0, ok := false }
  else { vm := vm, em := em, ok := true,
         f := (roundDiv ((em.1 * vm.1 + 1000 * cf.gap * vm.2 * em.2) * vm.1.sign) (em.2 * vm.1 * vm.1.sign)).toNat }

/-- R195: the class of a tested nozzle. -/
def dtClass (cf : DtConf) (h : DtHead) (n : DtNoz) : Nat :=
  let dv := (n.v.1 * h.vm.2 - h.vm.1 * n.v.2).natAbs
  let de := (n.e.1 * h.em.2 - h.em.1 * n.e.2).natAbs
  if n.hits < cf.minHits then 4
  else if (h.vm.1 * n.v.2).natAbs * cf.devPm < dv * 1000 ∨ (cf.ejectTol * (n.e.2 * h.em.2).natAbs) < de then 3
  else if n.hits < cf.drops ∨ 0 < n.sats then 2
  else 1

/-- A quotient times k, rounded, as a U16. -/
def ratU16 (k : Int) (q : Int × Int) : Nat := (clampI 0 65535 (roundDiv (q.1 * k) q.2)).toNat

/-- R197: the result record of channel c. -/
def Device.dtRecord (d : Device) (c : Nat) (aborted : Bool) : List Nat :=
  let cf := d.prot.conf
  let l := d.dtNozzles c
  let h := dtHead cf l
  let n := hpNozzles (d.prof c)
  let flags := cf.mode + (if h.ok then 0 else 4) + (if aborted then 8 else 0)
  let one (i : Nat) : List Nat := match l.find? (fun x => x.noz == i) with
    | none => [0, 0, 0, 0, 0, 0, 0, 0]
    | some x =>
      let cl := dtClass cf h x
      [x.hits % 256, cl, x.sats, 0] ++ leBytes 2 (if cl = 4 then 0 else ratU16 1000 x.v) ++
        leBytes 2 (if cl = 4 then 0 else ratU16 1 x.e)
  let b := [0x51, 0x54, 1, flags] ++ leBytes 2 n ++ leBytes 2 l.length ++ leBytes 2 (ratU16 1000 h.vm) ++
    leBytes 2 (ratU16 1 h.em) ++ leBytes 4 h.f ++ ((List.range n).map one).flatten
  b ++ leBytes 4 (crc32c b)

/-- R196: the test writes STATE DEAD with HEALTH 0 for every MISSING nozzle of channel c. -/
def Device.dtApplyDead (d : Device) (c : Nat) : Device :=
  let l := d.dtNozzles c
  let h := dtHead d.prot.conf l
  let alive (n : Nat) : Bool := decide (nozState ((d.nozMap c).newest n) < 3)
  (l.filter (fun n => dtClass d.prot.conf h n == 4 && alive n.noz)).foldl (fun (d : Device) n =>
    let d1 := d.writeNoz c n.noz (withHealth (nozWithState ((d.nozMap c).newest n.noz) 4) 0)
    d1.setOrigin c n.noz (setBit ((d1.nozMap c).originOf n.noz) 3)) d

/-- R191: the channels under test, as the start took them. -/
def Device.dtChans (d : Device) : List Nat := d.prot.conf.chans.map Prod.snd

/-- R196, R197: the test ends: the results are published and, at its end, the MISSING nozzles are written. -/
def Device.dtFinish (d : Device) (aborted : Bool) : Device :=
  let cs := d.dtChans
  let d1 := cs.foldl (fun (d : Device) c => d.setBlob (Reg.DT_RESULT + c) (d.dtRecord c aborted)) d
  let d2 := if d.prot.conf.apply then cs.foldl (fun (d : Device) c => d.dtApplyDead c) d1 else d1
  { d2.setReg Reg.DT_STATE (if aborted then 4 else 3) with
    prot := { d2.prot with tested := cs, units := [], pausedAt := none, abort := false } }

/-- MISSING nozzles of a list of channels. -/
def Device.dtMissing (d : Device) (cs : List Nat) : Nat :=
  sumN (cs.map (fun c => ((d.dtNozzles c).filter (fun n => decide (n.hits < d.prot.conf.minHits))).length))

/-- The channels of a gate unit. -/
def Device.dtUnitChans (d : Device) (u : Nat) : List Nat :=
  (d.prot.conf.chans.filter (fun x => x.1 == u)).map Prod.snd

/-- Nozzles tested on a list of channels. -/
def Device.dtTested (d : Device) (cs : List Nat) : Nat := sumN (cs.map (fun c => (d.dtNozzles c).length))

/-- R192, R198: DT_ABORTED of a unit. -/
def Device.dtAbortEvent (d : Device) (cause : Nat) (x : DtUnit) : Device :=
  d.raise Ev.DT_ABORTED x.unit [.u 2 (d.dtTested (d.dtUnitChans x.unit)), .u 0 cause]

/-- R192: an abort: at once when no drop is in flight, else when the drops in flight complete their windows. -/
def Device.dtAbort (d : Device) (cause : Nat) : Device :=
  if ¬ (d.reg Reg.DT_STATE = 1 ∨ d.reg Reg.DT_STATE = 2) then d
  else
    let d1 := (d.prot.units.filter (fun x => !x.done)).foldl (fun (d : Device) x => d.dtAbortEvent cause x) d
    if d1.prot.units.any (fun x => x.fired.isSome) then { d1 with prot := { d1.prot with abort := true } }
    else d1.dtFinish true

/-- R185, R192: an emergency stop aborts a running test at once. -/
def Device.dtEmergency (d : Device) : Device :=
  if ¬ (d.reg Reg.DT_STATE = 1 ∨ d.reg Reg.DT_STATE = 2) then d
  else ((d.prot.units.filter (fun x => !x.done)).foldl (fun (d : Device) x => d.dtAbortEvent 3 x) d).dtFinish true

/-- The unit after its channel: the next channel, or done. -/
def Device.dtNextChan (d : Device) (x : DtUnit) : DtUnit :=
  { x with drop := 0, hits := [], sats := 0, chans := x.chans.tail, noz := d.prot.conf.first, done := x.chans.tail.isEmpty }

/-- The unit after its nozzle is complete: the next nozzle, or the next channel, or done. -/
def Device.dtNextNoz (d : Device) (x : DtUnit) : DtUnit :=
  match x.chans with
  | [] => { x with drop := 0, hits := [], sats := 0, done := true }
  | c :: _ =>
    if x.noz < d.dtLastOf c then { x with drop := 0, hits := [], sats := 0, noz := x.noz + 1 } else d.dtNextChan x

/-- R192, R196: a unit has moved on: its last nozzle ends it, and the last unit the test. -/
def Device.dtMoved (d : Device) (x : DtUnit) : Device :=
  let cs := d.dtUnitChans x.unit
  let d1 := d.setDtUnit x
  let d2 := if x.done then d1.raise Ev.DT_DONE x.unit [.u 2 (d1.dtTested cs), .u 0 (d1.dtMissing cs)] else d1
  if d2.prot.abort then
    (if d2.prot.units.any (fun y => y.fired.isSome) then d2 else d2.dtFinish true)
  else if d2.prot.units.all (fun y => y.done) then d2.dtFinish false
  else d2

/-- R193, R195: the window of the drop in flight ends: the drop is judged, and a completed nozzle is recorded. A drop that a
gate cut does not count. -/
def Device.dtWindowEnd (d : Device) (u : Nat) : Device :=
  match d.dtUnit u with
  | none => d
  | some x =>
    match x.fired, x.chans with
    | some f, c :: _ =>
      if d.dueBy < f + d.prot.conf.winEnd * 1000 then d
      else if x.void then d.dtMoved { x with fired := none, p0 := none, p1 := none, void := false }
      else
        let hits := match x.hit d.prot.conf.mode with
          | none => x.hits
          | some h => x.hits ++ [h]
        let x1 := { x with fired := none, p0 := none, p1 := none, drop := x.drop + 1, hits := hits }
        if x1.drop < d.prot.conf.drops then d.dtMoved x1
        else
          let d1 := { d with prot := { d.prot with results := d.prot.results ++
            [(⟨c, x.noz, hits, x.sats⟩ : DtRes)] } }.setRegN Reg.DT_PROGRESS (d.regN Reg.DT_PROGRESS + 1)
          d1.dtMoved (d1.dtNextNoz x1)
    | _, _ => d

/-- R191, R192: a gate withholds the next test drop of unit x. -/
def Device.dtHold (d : Device) (x : DtUnit) (cause : Nat) : Device :=
  let d1 := d.setDtUnit { x with waiting := some cause }
  if d.reg Reg.DT_STATE = 2 then d1
  else
    let d2 := { d1 with prot := { d1.prot with pausedAt := some d.now } }
    (d2.setReg Reg.DT_STATE 2).raise Ev.DT_PAUSED x.unit [.u 0 cause]

/-- R191: the test drop of unit x on channel c: shifted, latched under the timing of R113 and fired, LAT on 2 ns cycles and FIRE
on a tap. Its shift may begin while the window of the drop before is open, so that drops fall DT_PERIOD_US apart. -/
def Device.dtFire (d : Device) (x : DtUnit) (c : Nat) : Device :=
  let p := d.prof c
  let lead := hpShiftPs p + hpShiftToLat p * 1000
  let t := if d.ps ≤ x.nextAt + lead + latWidthPs p + hpLatToFire p * 1000 then x.nextAt else d.ps
  let rise := 2000 * ceilDivNat (t + lead) 2000
  let fire := onTap (rise + latWidthPs p + hpLatToFire p * 1000)
  let lanes (d : Device) (ch : Nat) (codes : List Nat) : Device :=
    (d.send (.shiftOut (2 * ch) ((laneBits p 0 codes).map (fun b => if b then 1 else 0)))).send
      (.shiftOut (2 * ch + 1) ((laneBits p 1 codes).map (fun b => if b then 1 else 0)))
  let one := placeCodes (hpNozzles p) [(x.noz, hpDropMap p d.prot.conf.code)]
  let none_ := placeCodes (hpNozzles p) []
  let d1 := d.setDtUnit { x with fired := some fire, nextAt := t + d.prot.conf.periodUs * 1000000,
                                 waiting := none, p0 := none, p1 := none }
  let others := d1.prot.units.any (fun y => y.waiting.isSome)
  let d2 := if others then d1 else
    { d1.setReg Reg.DT_STATE 1 with prot := { d1.prot with pausedAt := none } }
  let d3 := ((groupChans (c / 8)).filter (fun ch => d.present ch)).foldl (fun (d : Device) ch =>
    lanes d ch (if ch = c then one else none_)) d2
  let d4 := d3.setGroup (c / 8) { d3.group (c / 8) with latRise := some ⟨rise, rise + latWidthPs p⟩ }
  (d4.send (.pulse 2 (c / 8) rise (latWidthPs p))).send (.pulse 0 c fire (hpFireWidth p * 1000))

/-- R191, R192: the next test drop of a unit: withheld by a gate, or fired. A head that is no longer PRESENT is not fired
(R123), and one whose group is no longer ON (R103, R432): the unit goes on with its next channel (log entry 149). -/
def Device.testDrop (d : Device) (u : Nat) : Device :=
  match d.dtUnit u with
  | none => d
  | some x =>
    match x.chans with
    | [] => d
    | c :: _ =>
      if ¬ (d.reg Reg.DT_STATE = 1 ∨ d.reg Reg.DT_STATE = 2) ∨ x.done = true ∨ x.fired.isSome = true ∨
          d.prot.abort = true ∨ d.dueBy < x.nextAt then d
      else if d.present c = false ∨ d.hgState (c / 8) ≠ 4 then d.dtMoved (d.dtNextChan { x with waiting := none })
      else if d.dtGate c ≠ 0 then d.dtHold x (d.dtGate c)
      else d.dtFire x c

/-- R192: a pause longer than DT_GATED_TIMEOUT_MS aborts the test. -/
def Device.dtTimeout (d : Device) : Device :=
  match d.prot.pausedAt with
  | none => d
  | some t =>
    if d.now ≤ t + cycMs d.prot.conf.timeoutMs then d
    else d.dtAbort (maxN (d.prot.units.filterMap (fun x => x.waiting)))

/-- R180: the asserted level of input n. -/
def Device.intlkLevel (d : Device) (n : Nat) : Bool := bit (d.intlkWord n) 29

/-- R180, R183: input n has held a level for `held` samples: an assertion is accepted after 16, with the drop test of
R185. -/
def Device.intlkAssertAll (d : Device) (n : Nat) (high : Bool) (held : Nat) : Device :=
  if high ≠ d.intlkLevel n ∨ held < 16 then d
  else
    let x := d.intlkIn n
    let role := intlkRole (d.intlkWord n)
    let d1 := d.intlkAssert n
    if role = 5 ∧ x.st ≠ .asserted then d1.dtEmergency else d1

/-- R180, R183, R184: input n has held a level for `held` samples: a deassertion is accepted after 16. -/
def Device.intlkClearAll (d : Device) (n : Nat) (high : Bool) (held : Nat) : Device :=
  if high = d.intlkLevel n ∨ held < 16 then d else d.intlkClear n

/-- R186, with the drop test of R185: an interlock message. -/
def Device.intlkRingAll (d : Device) (h : HallHdr) (pos input role : Nat) (rel : Bool) (glc : Nat) : Device :=
  let (d0, ok) := d.hallRecv h 6
  if ok = false then d0
  else
    let d1 := d0.intlkRing h.port h.hops pos input role rel glc
    if role = 5 ∧ rel = false ∧ pos ≠ d.regN Reg.RING_POSITION then d1.dtEmergency else d1

end Sys2Proof.Machine
end

