-- ==== Sys2Proof/Machine/PipeOps.lean ====
section
/-! DEFINITION. The image pipeline (R209 … R214, R218, R219): the five stages over the stored lines of one frame, and
the statistics record. Lines and columns are lists in the order of the sensor. -/
namespace Sys2Proof.Machine

/-! ### Quotients whose rounding a rule does not state -/

/-- The quotient of a rule that states no rounding: exact where it divides, else one of the two integers beside it,
which one being open (log entry 22). -/
def quotOpen (rule : Nat) (num den : Int) : Int :=
  if den = 0 then 0
  else if num % den = 0 then num / den
  else num.fdiv den + (if Config.roundUp rule num den then 1 else 0)

/-- An unsigned field of w bits that a rule gives a value outside the field: the field is open (log entry 23). -/
def fieldOpen (rule w v : Nat) : Nat :=
  if v < 2 ^ w then v else (Config.unstated rule [(v : Int)]).toNat % 2 ^ w

/-! ### Frames as pixel arrays -/

/-- Edges mirror inward (R209). -/
def mirror (n : Nat) (i : Int) : Nat :=
  if i < 0 then (-i).toNat else if (n : Int) ≤ i then (2 * ((n : Int) - 1) - i).toNat else i.toNat

/-- The pixel at x, mirrored at the edges. -/
def pixAt (l : List Int) (x : Int) : Int := l.getD (mirror l.length x) 0

/-- The pixel at (x, y), mirrored at the edges. -/
def pixAt2 (f : List (List Int)) (x y : Int) : Int := pixAt (f.getD (mirror f.length y) []) x

/-- R209: the pixel normalised to 12 bits. -/
def normPix (dt p : Nat) : Int := if dt = 0x2A then (p * 16 : Nat) else if dt = 0x2B then (p * 4 : Nat) else (p : Int)

/-- R209: the distance of same-colour neighbours. -/
def FrameConf.dist (c : FrameConf) : Nat := if c.mosaic = 4 then 1 else 2

/-- R209, one pixel: `p` its line, `r` the output pixel d lines above, if any. -/
def noisePix (c : FrameConf) (p : List Int) (x : Nat) (r : Option Int) : Int :=
  let d : Int := c.dist
  let v := pixAt p x
  let s := (pixAt p ((x : Int) - d) + 2 * v + pixAt p ((x : Int) + d) + 2).fdiv 4
  let q := v + ((s - v) * (c.snr : Int)).fdiv 256
  match r with
  | none => q
  | some r => if (q - r).natAbs ≤ c.tnrT then q + ((r - q) * (c.tnrK : Int)).fdiv 256 else q

/-- R209: one line; the temporal branch is bypassed for a flicker context. -/
def noiseLine (c : FrameConf) (p : List Int) (above : Option (List Int)) : List Int :=
  let a := if c.kind = 1 then none else above
  (List.range p.length).map (fun x => noisePix c p x (a.map (fun l => l.getD x 0)))

/-- R209: every line of a frame; `outs` holds the lines done, newest first. -/
def noiseStage (c : FrameConf) : List (List Int) → List (List Int) → List (List Int)
  | outs, [] => outs.reverse
  | outs, p :: ps => noiseStage c (noiseLine c p (outs[c.dist - 1]?) :: outs) ps

/-- The flat-field factor of pixel x (R210). -/
def FrameConf.flat (c : FrameConf) (x : Nat) : Int :=
  match c.ff with
  | none => 4096
  | some l => (fieldAt l (2 * x) 2 : Nat)

/-- R210: black level and flat field of line y. -/
def flatLine (c : FrameConf) (y : Nat) (p : List Int) : List Int :=
  (List.range p.length).map (fun x =>
    let b : Int := c.pset.black.getD (2 * (y % 2) + x % 2) 0
    clampI 0 4095 (((p.getD x 0 - b) * c.flat x + 2048).fdiv 4096))

/-- R210: every line. -/
def flatStage (c : FrameConf) (f : List (List Int)) : List (List Int) :=
  (List.range f.length).map (fun y => flatLine c y (f.getD y []))

/-! ### Stage 3 (R211) -/

/-- The colours: 0 R, 1 G, 2 B; CTX_MOSAIC gives the colour of phases 0 … 3. -/
def mosaicColours (m : Nat) : List Nat :=
  if m = 0 then [0, 1, 1, 2] else if m = 1 then [1, 0, 2, 1] else if m = 2 then [1, 2, 0, 1] else [2, 1, 1, 0]

/-- The colour of the sensor pixel at (x, y). -/
def colourAt (m : Nat) (x y : Int) : Nat := (mosaicColours m).getD (2 * (y % 2) + x % 2).toNat 1

/-- R211, colocated: the cell at output pixel u of output line l. -/
def colocated (m : Nat) (f : List (List Int)) (l u : Nat) : List Int :=
  let cell := [pixAt2 f (2 * u : Nat) (2 * l : Nat), pixAt2 f (2 * u + 1 : Nat) (2 * l : Nat),
               pixAt2 f (2 * u : Nat) (2 * l + 1 : Nat), pixAt2 f (2 * u + 1 : Nat) (2 * l + 1 : Nat)]
  let site (k : Nat) : List Int :=
    ((cell.zip (mosaicColours m)).filter (fun p => p.2 == k)).map Prod.fst
  let g := site 1
  [(site 0).headD 0, (g.getD 0 0 + g.getD 1 0 + 1).fdiv 2, (site 2).headD 0]

/-- R211, green_at: the green at (x, y). -/
def greenAt (m : Nat) (f : List (List Int)) (x y : Int) : Int :=
  if colourAt m x y = 1 then pixAt2 f x y
  else
    let p := pixAt2 f
    let gh := (p (x - 1) y - p (x + 1) y).natAbs + (2 * p x y - p (x - 2) y - p (x + 2) y).natAbs
    let gv := (p x (y - 1) - p x (y + 1)).natAbs + (2 * p x y - p x (y - 2) - p x (y + 2)).natAbs
    if gh < gv then (p (x - 1) y + p (x + 1) y + 1).fdiv 2
    else if gv < gh then (p x (y - 1) + p x (y + 1) + 1).fdiv 2
    else (p (x - 1) y + p (x + 1) y + p x (y - 1) + p x (y + 1) + 2).fdiv 4

/-- The nearest sites of colour k around (x, y), which is of another colour. -/
def nearSites (m k : Nat) (x y : Int) : List (Int × Int) :=
  let near := [(x - 1, y), (x + 1, y), (x, y - 1), (x, y + 1)].filter (fun s => colourAt m s.1 s.2 == k)
  if near.isEmpty then [(x - 1, y - 1), (x + 1, y - 1), (x - 1, y + 1), (x + 1, y + 1)].filter
    (fun s => colourAt m s.1 s.2 == k)
  else near

/-- R211, full resolution: R or B at (x, y). -/
def rbAt (m : Nat) (f : List (List Int)) (k : Nat) (x y : Int) : Int :=
  if colourAt m x y = k then pixAt2 f x y
  else
    let l := (nearSites m k x y).map (fun s => pixAt2 f s.1 s.2 - greenAt m f s.1 s.2)
    clampI 0 4095 (quotOpen 211 (sumI l) l.length + greenAt m f x y)

/-- R211: the colours before the parameter set's values. -/
def reconPix (c : FrameConf) (f : List (List Int)) (l u : Nat) : List Int :=
  if c.mosaic = 4 then List.replicate 3 (pixAt2 f u l)
  else if c.recon = 0 then colocated c.mosaic f l u
  else [rbAt c.mosaic f 0 u l, greenAt c.mosaic f u l, rbAt c.mosaic f 2 u l]

/-- The output value of a tone table (R211): the identity where none is set. -/
def FrameConf.toneOut (c : FrameConf) (i : Nat) (v : Int) : Int :=
  match c.tone with
  | none => v
  | some l => (fieldAt l (8192 * i + 2 * v.toNat) 2 % 4096 : Nat)

/-- R211: white balance, colour matrix and tone. -/
def colourPix (c : FrameConf) (p : List Int) : List Int :=
  let b := (List.range 3).map (fun i =>
    let v := (p.getD i 0 * (c.pset.wb.getD i 0 : Nat) + 2048).fdiv 4096
    if 4095 < v then 4095 else v)
  (List.range 3).map (fun i =>
    let s := sumI ((List.range 3).map (fun j => c.pset.ccm.getD (3 * i + j) 0 * b.getD j 0))
    c.toneOut i (clampI 0 4095 ((s + 2048).fdiv 4096)))

/-- R211: is the path colocated? -/
def FrameConf.isColoc (c : FrameConf) : Bool := c.mosaic != 4 && c.recon == 0

/-- The output pixels of a line. -/
def FrameConf.outWidth (c : FrameConf) : Nat := if c.isColoc then c.width / 2 else c.width

/-- The output lines of n lines. -/
def FrameConf.outLines (c : FrameConf) (n : Nat) : Nat := if c.isColoc then n / 2 else n

/-- R209 … R211: the output image of the stored lines: lines of pixels of R, G and B. -/
def outImage (c : FrameConf) (raw : List (List Nat)) : List (List (List Int)) :=
  let f := flatStage c (noiseStage c [] (raw.map (fun l => l.map (normPix c.dt))))
  (List.range (c.outLines raw.length)).map (fun l =>
    (List.range c.outWidth).map (fun u => colourPix c (reconPix c f l u)))

/-! ### Stages 4 and 5 (R212, R213) -/

/-- R212: the entry of output pixel u, where valid: its column and fraction. A table of another length than the
output's leaves every pixel invalid. -/
def FrameConf.mapAt (c : FrameConf) (u : Nat) : Option (Nat × Nat) :=
  match c.map with
  | none => none
  | some l =>
    let w := fieldAt l (4 * u) 4
    if l.length = 4 * c.outWidth + 4 ∧ bit w 31 = true then some (field w 27 8, field w 7 0) else none

/-- The bytes of MEAS_CONFIG, zeros where none is set. -/
def FrameConf.measB (c : FrameConf) : List Nat := c.meas.getD []

/-- A measurement channel of MEAS_CONFIG (R213). -/
structure MeasCh where
  plane : Nat
  cr : Int
  cg : Int
  cb : Int
  off : Int
  first : Nat
  end_ : Nat
deriving DecidableEq, Repr

/-- Channel i. -/
def measCh (m : List Nat) (i : Nat) : MeasCh :=
  let b := 8 + 16 * i
  { plane := fieldAt m b 1, cr := fieldAtI m (b + 4) 2, cg := fieldAtI m (b + 6) 2, cb := fieldAtI m (b + 8) 2,
    off := fieldAtI m (b + 10) 2, first := fieldAt m (b + 12) 2, end_ := fieldAt m (b + 14) 2 }

/-- A mark region of MEAS_CONFIG (R213). -/
structure MeasReg where
  p0 : Nat
  p1 : Nat
  l0 : Nat
  l1 : Nat
  chan : Nat
  bright : Bool
  thresh : Int
deriving DecidableEq, Repr

/-- Region r. -/
def measReg (m : List Nat) (r : Nat) : MeasReg :=
  let b := 136 + 16 * r
  { p0 := fieldAt m b 2, p1 := fieldAt m (b + 2) 2, l0 := fieldAt m (b + 4) 2, l1 := fieldAt m (b + 6) 2,
    chan := fieldAt m (b + 8) 1, bright := fieldAt m (b + 9) 1 == 1, thresh := (fieldAt m (b + 10) 2 : Nat) }

/-- PROFILE_COL_FIRST, PROFILE_COLS, CHANNELS and REGIONS. -/
def measFirst (m : List Nat) : Nat := fieldAt m 0 4
def measCols (m : List Nat) : Nat := fieldAt m 4 2
def measChans (m : List Nat) : Nat := fieldAt m 6 1
def measRegs (m : List Nat) : Nat := fieldAt m 7 1

/-- R213: the measurement of an output pixel. -/
def MeasCh.of (c : MeasCh) (p : List Int) : Int :=
  clampI 0 4095 ((c.cr * p.getD 0 0 + c.cg * p.getD 1 0 + c.cb * p.getD 2 0).fdiv 4096 + c.off)

/-- The weight that output pixel u gives profile column col (R212). -/
def FrameConf.weight (c : FrameConf) (u col : Nat) : Nat :=
  match c.mapAt u with
  | none => 0
  | some (k, f) => if k = col then 256 - f else if k + 1 = col then f else 0

/-- The lines of a channel's window. -/
def MeasCh.window (c : MeasCh) (img : List (List (List Int))) : List (List (List Int)) :=
  (img.take c.end_).drop c.first

/-- R213: a column's sum of weights and of weight × measurement for one channel. -/
def profileCol (c : FrameConf) (ch : MeasCh) (img : List (List (List Int))) (col : Nat) : Nat × Nat :=
  (ch.window img).foldl (fun acc line =>
    (List.range line.length).foldl (fun (acc : Nat × Nat) u =>
      let w := c.weight u col
      (acc.1 + w, acc.2 + w * (ch.of (line.getD u [])).toNat)) acc) (0, 0)

/-- The weight of a column as the record gives it, once for all channels: open where the channels' sums differ or no
channel is set (log entry 23). -/
def colWeight (l : List Nat) : Nat :=
  match l with
  | [] => (Config.unstated 219 []).toNat % 2 ^ 32
  | w :: ws => if ws.all (fun x => x == w) then fieldOpen 219 32 w
    else (Config.unstated 219 (l.map Int.ofNat)).toNat % 2 ^ 32

/-- R213: the histogram of one channel. -/
def histogram (ch : MeasCh) (img : List (List (List Int))) : List Nat :=
  let ms := ((ch.window img).flatten).map (fun p => (ch.of p).toNat / 16)
  (List.range 256).map (fun b => ms.countP (fun m => m == b))

/-- The stamps of the output lines: PT and TB3 (R213). -/
def outStamps (c : FrameConf) (l : List (Int × Nat)) : List (Int × Nat) :=
  if c.isColoc then
    (List.range (l.length / 2)).map (fun m =>
      let a := l.getD (2 * m) (0, 0)
      let b := l.getD (2 * m + 1) (0, 0)
      (quotOpen 213 (a.1 + b.1) 2, (quotOpen 213 ((a.2 : Int) + (b.2 : Int)) 2).toNat))
  else l

/-- The weighted pixels of a region: weight, u, line. -/
def regionPix (c : FrameConf) (r : MeasReg) (img : List (List (List Int))) : List (Nat × Nat × Nat) :=
  let ch := measCh c.measB r.chan
  ((List.range img.length).filter (fun l => decide (r.l0 ≤ l ∧ l < r.l1))).flatMap (fun l =>
    ((List.range (img.getD l []).length).filter (fun u => decide (r.p0 ≤ u ∧ u < r.p1))).filterMap (fun u =>
      let m := ch.of ((img.getD l []).getD u [])
      let w := if r.bright then m - r.thresh else r.thresh - m
      if 0 < w then some (w.toNat, u, l) else none))

/-- R213: one mark's result: found, X, PT and AREA. -/
structure Mark where
  found : Bool
  x : Nat
  pt : Int
  area : Nat
deriving DecidableEq, Repr

/-- R213: PT interpolated between the stamps of the two output lines that bracket the centroid sl / sw. -/
def markPt (st : List (Int × Nat)) (sl sw : Nat) : Int :=
  let a := (st.getD (sl / sw) (0, 0)).1
  let b := (st.getD (sl / sw + 1) (a, 0)).1
  quotOpen 213 (a * (sw : Int) + (b - a) * (sl % sw : Nat)) sw

/-- R213: the mark of region r. -/
def markOf (c : FrameConf) (st : List (Int × Nat)) (img : List (List (List Int))) (r : Nat) : Mark :=
  let px := regionPix c (measReg c.measB r) img
  let sw : Nat := px.foldl (fun (a : Nat) (p : Nat × Nat × Nat) => a + p.1) 0
  if px.length < 4 then
    let k := [(r : Int), (px.length : Int)]
    { found := false, x := (Config.unstated 213 (0 :: k)).toNat % 2 ^ 32,
      pt := toSigned 64 (Config.unstated 213 (1 :: k)).toNat, area := px.length }
  else
    { found := true, x := (quotOpen 213 (256 * ((px.foldl (fun (a : Nat) (p : Nat × Nat × Nat) => a + p.1 * p.2.1) 0 : Nat) : Int)) sw).toNat,
      pt := markPt st (px.foldl (fun (a : Nat) (p : Nat × Nat × Nat) => a + p.1 * p.2.2) 0) sw, area := px.length }

/-! ### Statistics records (R219) -/

/-- R214: the sum of m_0 over region 0's pixel window of each output line, and the pixels summed. -/
def flickerSums (c : FrameConf) (img : List (List (List Int))) : List Int × Nat :=
  let ch := measCh c.measB 0
  let r := measReg c.measB 0
  let win (l : List (List Int)) : List (List Int) := (l.take r.p1).drop r.p0
  (img.map (fun l => sumI ((win l).map ch.of)), (win (img.headD [])).length)

/-- 2π in units of 2^−96. -/
def twoPi96 : Int := 497805226624462170461043889244

/-- The terms x^k / k! of a sine or cosine series from `term` = x^j / j! on, every second one, with alternating signs, in
units of 2^−96; the first argument bounds their number. -/
def series96 : Nat → Int → Int → Int → Int
  | 0, _, _, _ => 0
  | n + 1, x, j, term =>
    term + series96 n x (j + 2) (-((term * x / 2 ^ 96) * x / (2 ^ 96 * ((j + 1) * (j + 2)))))

/-- R214: 2π f t in (−π, π], in units of 2^−96: f in Hz, t in 2^−32 ns. -/
def angle96 (f t : Nat) : Int :=
  let turn : Nat := 1000000000 * 2 ^ 32
  let p := f * t % turn
  twoPi96 * (if 2 * p ≤ turn then (p : Int) else (p : Int) - turn) / turn

/-- cos and sin of an angle, in units of 2^−96. -/
def cos96 (x : Int) : Int := series96 26 x 0 (2 ^ 96)
def sin96 (x : Int) : Int := series96 26 x 1 x

/-- The integer square root, from bit b − 1 of the root down. -/
def isqrtFrom : Nat → Nat → Nat → Nat
  | 0, _, r => r
  | b + 1, n, r => if (r + 2 ^ b) * (r + 2 ^ b) ≤ n then isqrtFrom b n (r + 2 ^ b) else isqrtFrom b n r

/-- The integer square root. -/
def isqrt (n : Nat) : Nat := isqrtFrom (Nat.log2 n / 2 + 1) n 0

/-- R214: A_f of the lines' pixel sums and TB3 times at f Hz; `tot` is the sum of the sums. With D_l = L × S_l − Σ S it is
2,000 × √((Σ D_l cos)² + (Σ D_l sin)²) / (L × Σ S), the pixels per line falling out (log entry 4). -/
def flickerAmp (l : List (Int × Nat)) (tot : Int) (f : Nat) : Nat :=
  let n : Int := l.length
  let c := sumI (l.map (fun p => (n * p.1 - tot) * cos96 (angle96 f p.2)))
  let s := sumI (l.map (fun p => (n * p.1 - tot) * sin96 (angle96 f p.2)))
  fieldOpen 214 16 (quotOpen 214 (2000 * (isqrt (c * c + s * s).toNat : Nat)) (2 ^ 96 * (n * tot))).toNat

/-- R214: the eight frequencies, Hz. -/
def flickerHz : List Nat := [50, 100, 150, 200, 60, 120, 180, 240]

/-- R214: the eight amplitudes and the mean of a flicker frame. -/
def flickerOf (c : FrameConf) (st : List (Int × Nat)) (img : List (List (List Int))) : List Nat × Nat :=
  let s := flickerSums c img
  let tot := sumI s.1
  let amps := flickerHz.map (fun f => if tot = 0 then 0 else flickerAmp (s.1.zip (st.map Prod.snd)) tot f)
  (amps, (quotOpen 214 tot ((s.1.length * s.2 : Nat) : Int)).toNat)

/-- The stamps of a frame's stored lines, in order. -/
def Frame.stamps (f : Frame) : List (Int × Nat) := (f.lines.map (fun l => (l.pt, l.t))).reverse

/-- R214: a frame spanning less than 100 ms. -/
def Frame.spanShort (f : Frame) : Bool :=
  match f.stamps.head?, f.stamps.getLast? with
  | some a, some b => decide (b.2 - a.2 < 100000000 * 2 ^ 32)
  | _, _ => true

/-- R219: the 64-byte header. -/
def recordHead (f : Frame) (flags colFirst cols chans regs : Nat) : List Nat :=
  [0x51, 0x53, 1, f.ctx] ++ leBytes 4 f.num ++ leBytesI 8 f.start.pt ++ leBytes 8 (f.start.t / 2 ^ 32) ++
    leBytes 2 (f.start.t / 2 ^ 16) ++ leBytes 2 f.conf.pset.id ++ leBytes 2 flags ++ leBytes 2 f.count ++
    leBytes 4 (f.count - f.conf.limit) ++ leBytes 4 f.bad ++ leBytes 4 colFirst ++ leBytes 2 cols ++
    [chans, regs] ++ leBytesI 8 f.ptLast ++ List.replicate 8 0

/-- A record with its check (R219). -/
def withCheck (l : List Nat) : List Nat := l ++ leBytes 4 (crc32c l)

/-- R219, kind 0: the sections. -/
def statsSections (c : FrameConf) (st : List (Int × Nat)) (img : List (List (List Int))) : List Nat :=
  let m := c.measB
  let chs := (List.range (measChans m)).map (measCh m)
  let cols := (List.range (measCols m)).flatMap (fun k =>
    let ps := chs.map (fun ch => profileCol c ch img (measFirst m + k))
    leBytes 4 (colWeight (ps.map Prod.fst)) ++ ps.flatMap (fun p => leBytes 4 (fieldOpen 219 32 p.2)))
  let hist := chs.flatMap (fun ch => (histogram ch img).flatMap (leBytes 4))
  let marks := (List.range (measRegs m)).flatMap (fun r =>
    let k := markOf c st img r
    [r, if k.found then 1 else 0, 0, 0] ++ leBytes 4 k.x ++ leBytesI 8 k.pt ++ leBytes 4 k.area ++ [0, 0, 0, 0])
  cols ++ hist ++ marks

/-- R204: the record of a dropped frame, without statistics. -/
def droppedRecord (f : Frame) : List Nat :=
  withCheck (recordHead f (putBit (setBit f.flags 6) 9 (f.conf.kind == 1)) 0 0 0 0)

/-- R219: the record of a processed frame of the raw lines, and for a flicker frame the amplitudes. -/
def Frame.record (f : Frame) (raw : List (List Nat)) (thresh : Nat) : List Nat × Option (List Nat) :=
  let c := f.conf
  let img := outImage c raw
  let st := outStamps c f.stamps
  if c.kind = 1 then
    let a := flickerOf c st img
    let flags := putBit (putBit (setBit f.flags 9) 7 (a.1.any (fun x => decide (thresh ≤ x)))) 8 f.spanShort
    (withCheck (recordHead f flags 0 0 0 0 ++ a.1.flatMap (leBytes 2) ++ leBytes 2 a.2), some a.1)
  else
    let m := c.measB
    (withCheck (recordHead f f.flags (measFirst m) (measCols m) (measChans m) (measRegs m) ++
      statsSections c st img), none)

/-- R215: a parameter set. -/
def psetOf (l : List Nat) : PSet :=
  { id := fieldAt l 4 2,
    black := (List.range 4).map (fun i => fieldAt l (16 + 2 * i) 2),
    wb := (List.range 3).map (fun i => fieldAt l (24 + 2 * i) 2),
    ccm := (List.range 9).map (fun i => fieldAtI l (32 + 2 * i) 2),
    cci := (List.range (fieldAt l 3 1)).map (fun j =>
      (fieldAt l (52 + 8 * j) 2, fieldAt l (54 + 8 * j) 1, fieldAt l (56 + 8 * j) 4)) }

/-- R215: the check of a parameter set written to PSET. -/
def psetVerify (l : List Nat) : Status :=
  let n := fieldAt l 3 1
  if l.length < 56 then .length
  else if l.length ≠ 56 + 8 * n then .length
  else if crc32c (l.take (52 + 8 * n)) ≠ fieldAt l (52 + 8 * n) 4 then .check
  else if fieldAt l 6 2 ≠ 0 ∨ fieldAt l 12 4 ≠ 0 ∨ fieldAt l 30 2 ≠ 0 ∨ fieldAt l 50 2 ≠ 0 ∨
      ((List.range n).any (fun j => fieldAt l (55 + 8 * j) 1 != 0)) = true then .reserved
  else if bytesAt l 0 3 ≠ [0x51, 0x57, 1] ∨ 16 < n ∨ fieldAt l 4 2 = 0 ∨
      ((List.range 4).any (fun i => decide (4095 < fieldAt l (16 + 2 * i) 2))) = true ∨
      ((List.range n).any (fun j => !([1, 2, 4].contains (fieldAt l (54 + 8 * j) 1)))) = true then .range
  else .ok

/-- R210: a FLAT_FIELD for a context of the width. -/
def flatVerify (width : Nat) (l : List Nat) : Status :=
  if l.length ≠ 2 * width + 4 then .length
  else if crc32c (l.take (2 * width)) ≠ fieldAt l (2 * width) 4 then .check else .ok

/-- R211: a TONE table. -/
def winToneVerify (l : List Nat) : Status :=
  if l.length ≠ 24580 then .length
  else if crc32c (l.take 24576) ≠ fieldAt l 24576 4 then .check
  else if (List.range 12288).any (fun i => decide (4096 ≤ fieldAt l (2 * i) 2)) then .reserved else .ok

/-- R212: a MAP_TABLE for n output pixels. -/
def mapTableVerify (n : Nat) (l : List Nat) : Status :=
  if l.length ≠ 4 * n + 4 then .length
  else if crc32c (l.take (4 * n)) ≠ fieldAt l (4 * n) 4 then .check
  else if (List.range n).any (fun i => field (fieldAt l (4 * i) 4) 30 28 != 0) then .reserved else .ok

/-- R213: a MEAS_CONFIG. -/
def measVerify (l : List Nat) : Status :=
  let nc := measChans l
  let nr := measRegs l
  let chs := List.range 8
  let regs := List.range 16
  if l.length ≠ 396 then .length
  else if crc32c (l.take 392) ≠ fieldAt l 392 4 then .check
  else if chs.any (fun i => fieldAt l (9 + 16 * i) 3 != 0) || regs.any (fun r => fieldAt l (148 + 16 * r) 4 != 0)
    then .reserved
  else if 8 < nc ∨ 16 < nr ∨ 8192 < measCols l ∨
      (chs.any (fun i => decide (nc ≤ i) && (bytesAt l (8 + 16 * i) 16).any (fun b => b != 0))) = true ∨
      (regs.any (fun r => decide (nr ≤ r) && (bytesAt l (136 + 16 * r) 16).any (fun b => b != 0))) = true ∨
      (chs.any (fun i => decide (i < nc ∧ 15 < (measCh l i).plane))) = true ∨
      (regs.any (fun r => decide (r < nr ∧ (nc ≤ (measReg l r).chan ∨ 1 < fieldAt l (145 + 16 * r) 1)))) = true
    then .range
  else .ok

end Sys2Proof.Machine
end

