-- ==== Sys2Proof/Machine/WindowOps.lean ====
section
/-! DEFINITION. The Window (R200 … R208, R215 … R218): camera ports, trigger outputs, contexts, frames on the timeline,
parameter sets and the sharing of the pipeline. -/
namespace Sys2Proof.Machine

/-- The default records. -/
def winPort0 (_ : Nat) : WinPort := {}
def trig0 (_ : Nat) : Trig := {}
def winCtx0 (_ : Nat) : WinCtx := {}

/-- Camera port p. -/
def Device.winPort (d : Device) (p : Nat) : WinPort := tget winPort0 d.win.ports p

/-- Write camera port p. -/
def Device.setWinPort (d : Device) (p : Nat) (x : WinPort) : Device :=
  { d with win := { d.win with ports := tset winPort0 d.win.ports p x } }

/-- The trigger output of port p. -/
def Device.trig (d : Device) (p : Nat) : Trig := tget trig0 d.win.trigs p

/-- Write the trigger output of port p. -/
def Device.setTrig (d : Device) (p : Nat) (x : Trig) : Device :=
  { d with win := { d.win with trigs := tset trig0 d.win.trigs p x } }

/-- Context c. -/
def Device.winCtx (d : Device) (c : Nat) : WinCtx := tget winCtx0 d.win.ctxs c

/-- Write context c. -/
def Device.setWinCtx (d : Device) (c : Nat) (x : WinCtx) : Device :=
  { d with win := { d.win with ctxs := tset winCtx0 d.win.ctxs c x } }

/-- The enabled contexts of port p. -/
def Device.ctxsOf (d : Device) (p : Nat) : List Nat :=
  (List.range 8).filter (fun c => d.regB (Reg.CTX_ENABLE + c) && (d.winCtx c).port == p)

/-- The context that receives virtual channel vc of port p (R203). -/
def Device.ctxAt (d : Device) (p vc : Nat) : Option Nat := (d.ctxsOf p).find? (fun c => (d.winCtx c).vc == vc)

/-- The present trigger stamp. -/
def Device.trigStamp (d : Device) : TrigStamp := { pt := d.pt, t := d.time.tb3, glc := d.mantel.line }

/-! ### Frame buffers (R204, R334) -/

/-- R200: the bits of a pixel of a data type. -/
def pixBits (dt : Nat) : Nat := if dt = 0x2A then 8 else if dt = 0x2B then 10 else 12

/-- R204: the bytes of one frame buffer. -/
def frameBuf (px dt : Nat) : Nat := ceilDivNat (ceilDivNat (px * pixBits dt) 8) 4096 * 4096

/-- R334: the bytes of the Window pool. -/
def poolBytes : Nat := 768 * 2 ^ 20

/-- A span among spans by rising offset. -/
def insSpan (s : Nat × Nat) : List (Nat × Nat) → List (Nat × Nat)
  | [] => [s]
  | x :: xs => if s.1 ≤ x.1 then s :: x :: xs else x :: insSpan s xs

/-- n bytes of the pool from p on, in what the used spans leave, lowest first. -/
def takeSpans : List (Nat × Nat) → Nat → Nat → List (Nat × Nat)
  | [], p, n => if n = 0 then [] else [(p, n)]
  | (a, k) :: l, p, n =>
    let g := Nat.min n (a - p)
    (if g = 0 then [] else [(p, g)]) ++ takeSpans l (Nat.max p (a + k)) (n - g)

/-- The place in the pool of byte i of a ring. -/
def ringAddr : List (Nat × Nat) → Nat → Nat
  | [], i => i
  | (a, n) :: l, i => if i < n then a + i else ringAddr l (i - n)

/-- R334: a ring of n bytes for context c in the free part of the pool: what neither the other enabled contexts nor frames
that wait take (log entry 166). -/
def Device.poolRing (d : Device) (c n : Nat) : List (Nat × Nat) :=
  let others := (List.range 8).filter (fun o => o != c && d.regB (Reg.CTX_ENABLE + o))
  let used := others.flatMap (fun o => (d.winCtx o).ring) ++ d.win.waiting.flatMap (fun f => f.ring)
  takeSpans (used.foldl (fun l s => insSpan s l) []) 0 n

/-- The bytes of the ring of context c by the values g. -/
def ringBytes (c : Nat) (g : Nat → Nat) : Nat :=
  g (Reg.FRAME_BUFFERS + c) * frameBuf (g (Reg.CTX_WIDTH + c) * g (Reg.CTX_FRAME_LINES + c)) (g (Reg.CTX_DATA_TYPE + c))

/-- The Pantry address of byte i of a frame's buffer. -/
def Device.frameAddr (d : Device) (f : Frame) (i : Nat) : Nat :=
  d.regN Reg.RESERVED_BASE + 32 * 2 ^ 20 +
    ringAddr f.ring (f.buf * frameBuf (f.conf.width * f.conf.limit) f.conf.dt + i)

/-- The two bytes in which pixel k of a frame lies, and its lowest bit in them: pixels lie one after another from the first
byte's lowest bit on (log entry 166). -/
def Device.pixPlace (d : Device) (f : Frame) (k : Nat) : Nat × Nat × Nat :=
  let b := k * pixBits f.conf.dt
  (d.frameAddr f (b / 8), d.frameAddr f (b / 8 + 1), b % 8)

/-- Pixel k of a frame. -/
def Device.getPix (m : List Host.Cell) (d : Device) (f : Frame) (k : Nat) : Nat :=
  let (a, b, s) := d.pixPlace f k
  ((mget m a).toNat + 256 * (mget m b).toNat) / 2 ^ s % 2 ^ pixBits f.conf.dt

/-- Pixel k of a frame is stored. -/
def Device.putPix (d : Device) (f : Frame) (m : List Host.Cell) (k p : Nat) : List Host.Cell :=
  let (a, b, s) := d.pixPlace f k
  let w := (mget m a).toNat + 256 * (mget m b).toNat
  let n := 2 ^ pixBits f.conf.dt
  let w1 := w - w / 2 ^ s % n * 2 ^ s + p % n * 2 ^ s
  let m1 := mset m a (BitVec.ofNat 8 w1)
  if s + pixBits f.conf.dt ≤ 8 then m1 else mset m1 b (BitVec.ofNat 8 (w1 / 256))

/-- R204: pixels of a frame from pixel k on are stored packed. -/
def Device.putPixels (d : Device) (f : Frame) : List Host.Cell → Nat → List Nat → List Host.Cell
  | m, _, [] => m
  | m, k, p :: ps => Device.putPixels d f (d.putPix f m k p) (k + 1) ps

/-- The raw lines of a frame as the Pantry holds them, in order. -/
def Device.rawLines (m : List Host.Cell) (d : Device) (f : Frame) : List (List Nat) :=
  (f.lines.map (fun l => (List.range f.conf.width).map (fun i => Device.getPix m d f (l.row * f.conf.width + i)))).reverse

/-- R343: bytes i … of a frame's buffer are written, n of them; the first argument bounds the pieces, cut where a span may
end. -/
def Device.bufWritten (f : Frame) : Nat → Nat → Nat → Device → Device
  | 0, _, _, d => d
  | k + 1, i, n, d =>
    if n = 0 then d
    else
      let g := Nat.min n (4096 - i % 4096)
      Device.bufWritten f k (i + g) (n - g) (d.eccWrite (d.frameAddr f i) g [])

/-! ### Packet headers (R200) -/

/-- R220: WIN_PORT_ERRORS, once per 1 s while PKT_ERRORS rises. -/
def Device.pktError (d : Device) (p : Nat) : Device :=
  let d1 := d.incReg (Reg.PKT_ERRORS + p)
  let x := d1.winPort p
  let due := match x.errAt with
    | none => true
    | some t => decide (cycS 1 ≤ d.now - t)
  if due then
    (d1.setWinPort p { x with errAt := some d.now }).raise Ev.WIN_PORT_ERRORS p [.u 0 (d1.regN (Reg.PKT_ERRORS + p))]
  else d1

/-- R200: the header's checks: the device after them, and whether the packet is accepted. -/
def Device.csiHeader (d : Device) (h : CsiHdr) : Device × Bool :=
  if d.reg (Reg.WIN_PORT_STATE + h.port) ≠ 4 then (d, false)
  else if 2 ≤ h.ecc then (d.pktError h.port, false)
  else
    let d1 := if h.ecc = 1 then d.incReg (Reg.HDR_CORRECTED + h.port) else d
    if h.vcx then (d1.pktError h.port, false) else (d1, true)

/-! ### Closing frames (R208) -/

/-- R208: a short frame is counted and reported. -/
def Device.noteShort (d : Device) (c : Nat) (f : Frame) : Device :=
  let d1 := d.incReg (Reg.FRAMES_SHORT + c)
  let x := d1.winCtx c
  if oncePerSecond d.now x.shortAt then
    (d1.setWinCtx c { x with shortAt := some d.now }).raise Ev.WIN_FRAME_SHORT c [.u 2 f.num, .u 0 f.count]
  else d1

/-- R208: a long frame is counted and reported. -/
def Device.noteLong (d : Device) (c : Nat) (f : Frame) : Device :=
  let d1 := d.incReg (Reg.FRAMES_LONG + c)
  let x := d1.winCtx c
  if oncePerSecond d.now x.longAt then
    (d1.setWinCtx c { x with longAt := some d.now }).raise Ev.WIN_FRAME_LONG c
      [.u 2 f.num, .u 0 (f.count - f.conf.limit)]
  else d1

/-- R218: stored frames wait in order of completion, with ties going to the lower context. -/
def placeFrame (f : Frame) : List Frame → List Frame
  | [] => [f]
  | x :: xs => if f.doneAt = x.doneAt ∧ f.ctx < x.ctx then f :: x :: xs else x :: placeFrame f xs

/-- R208: the open frame of context c closes, with a Frame End packet or without one. A stored frame then waits for
the pipeline; a dropped frame's record is produced, and goes to the calibration manager with the pipeline's next step
(R204, R219). -/
def Device.closeFrame (d : Device) (c : Nat) (withFe : Bool) : Device :=
  let x := d.winCtx c
  match x.open_ with
  | none => d
  | some f =>
    let short := !withFe || decide (f.count < f.conf.limit)
    let long := withFe && decide (f.conf.limit < f.count)
    let flags := putBit (putBit (putBit f.flags 0 short) 1 long) 2 (!withFe)
    let f1 := { f with flags := if f.bad = 0 then flags else setBit flags 4, closed := true, doneAt := d.now }
    let d1 := d.setWinCtx c { x with open_ := none }
    let d2 := if short then d1.noteShort c f1 else d1
    let d3 := if long then d2.noteLong c f1 else d2
    if f.stored then { d3 with win := { d3.win with waiting := placeFrame f1 d3.win.waiting } }
    else
      let d4 := d3.setWinCtx c { d3.winCtx c with record := droppedRecord f1 }
      { d4 with win := { d4.win with drops := d4.win.drops ++ [f1] } }

/-! ### Sensor writes (R201, R216) -/

/-- The bit periods of one CCI write: START, the address and `len` register and value bytes with their acknowledge bits,
STOP (PRESUMED: UM10204's frame, log entry 80). -/
def cciCycles (khz len : Nat) : Nat := ceilDivNat ((2 + 9 * (1 + len)) * 400000) khz

/-- The bytes of a CCI write: register and value most significant first (R201). -/
def cciBytes (regLen : Nat) (w : Nat × Nat × Nat) : List Nat :=
  (leBytes regLen w.1).reverse ++ (leBytes w.2.1 w.2.2).reverse

/-- R201: one sensor write of context c. `bad` gives, of one that is not acknowledged or stretches beyond 50 µs, how many
register and value bytes it had put on the bus; the transaction ends there (log entry 168). -/
def Device.cciWrite (d : Device) (c : Nat) (w : Nat × Nat × Nat) (bad : Option Nat) (n : Nat) : Device :=
  let x := d.winCtx c
  let p := x.port
  let q := d.winPort p
  let bytes := match bad with
    | none => cciBytes x.regLen w
    | some k => (cciBytes x.regLen w).take k
  let e := Nat.max d.now q.cciEnd + cciCycles q.khz bytes.length
  let d1 := (d.setWinPort p { q with cciEnd := e }).send (.cci p x.addr bytes)
  let d2 := d1.setWinCtx c { x with
    cciEnd := e
    unconf := if bad.isSome then x.unconf ++ [(n + 1) % 2 ^ 32] else x.unconf }
  if bad.isSome then
    let d3 := d2.incReg (Reg.CCI_ERRORS + p)
    d3.raise Ev.WIN_CCI_ERROR p [.u 2 w.1, .u 0 (d3.regN (Reg.CCI_ERRORS + p))]
  else d2

/-- R216: the writes of one context's due sets at the start of frame n; `i` numbers the writes sent so far and `fails`
names those that fail, each with the bytes it had put on the bus. -/
def Device.sendDue (d : Device) (c n : Nat) (fails : List (Nat × Nat)) (i : Nat) : Device × Nat :=
  let x := d.winCtx c
  let due (p : PSetPend) : Bool := !p.sent && serialAtOrBefore 32 p.sendAt n
  let ws := (x.pend.filter due).flatMap (fun p => p.set.cci)
  let late := if d.now < x.cciEnd then x.unconf ++ [n] else x.unconf
  let x1 := { x with unconf := late, pend := x.pend.map (fun p => if due p then { p with sent := true } else p) }
  ws.foldl (fun (a : Device × Nat) w => (a.1.cciWrite c w (assoc fails a.2) n, a.2 + 1)) (d.setWinCtx c x1, i)

/-- R217: context c has no trigger: its frame starts are its Frame Start packets. -/
def Device.untriggered (d : Device) (c : Nat) : Bool := (d.trig (d.winCtx c).port).mode == 0

/-- R216, R217: the number of the next frame whose start has not yet occurred on the context's trigger. -/
def Device.nextFrame (d : Device) (c : Nat) : Nat :=
  let x := d.winCtx c
  let n := d.regN (Reg.FRAME_NUMBER + c) + 1
  let begun := match (d.trig x.port).trains.head? with
    | some t => decide (x.lastTrain < t.id)
    | none => false
  (if begun && !d.untriggered c then n + 1 else n) % 2 ^ 32

/-! ### Triggers (R205) -/

/-- R205: TRIG_ARM 01h loads the mode, frame start and period as they stand. -/
def Device.trigArm (d : Device) (p : Nat) : Device :=
  let mode := d.regN (Reg.TRIG_MODE + p)
  let base := d.reg (Reg.TRIG_FRAME_PT + p)
  let per := if mode = 2 then d.reg (Reg.TRIG_PERIOD_LINES + p) else d.reg (Reg.TRIG_PERIOD_PU + p)
  let target := if mode = 1 ∧ base ≤ d.pt then base + ((d.pt - base).fdiv per + 1) * per else base
  let x := { d.trig p with mode := mode, startPt := base, period := per, target := target, first := none, pulses := 0,
                           lastAt := none, div := Nat.max 1 (d.regN (Reg.TRIG_LINE_DIV + p)),
                           count := d.regN (Reg.TRIG_LINES + p),
                           width := ceilDivNat (d.regN (Reg.TRIG_WIDTH_NS + p) * 2) 5 }
  if mode = 0 then (d.setTrig p { x with armed := false }).setReg (Reg.TRIG_STATE + p) 0
  else (d.setTrig p { x with armed := true }).setReg (Reg.TRIG_STATE + p) 1

/-- R71, R205: disarm; a pulse in progress completes. -/
def Device.trigDisarm (d : Device) (p : Nat) : Device :=
  (d.setTrig p { d.trig p with armed := false }).setReg (Reg.TRIG_STATE + p) 0

/-- What an armed trigger does in this ENC cycle. -/
inductive TrigDue where
  | nothing | frame | line
deriving DecidableEq, Repr

/-- R205: is a pulse due in this ENC cycle, and does it start a frame? -/
def Device.trigDue (d : Device) (p : Nat) : TrigDue :=
  let x := d.trig p
  if !x.armed then .nothing
  else if x.mode = 1 then if x.target ≤ d.pt then .frame else .nothing
  else
    let g := d.mantel.line
    if d.pos.lineNow = false ∨ x.lastAt = some g then .nothing
    else
      match x.first with
      | none => if x.startPt ≤ d.pt then .frame else .nothing
      | some f =>
        if x.period ≤ ((g - f : Nat) : Int) then .frame
        else if (g - f) % x.div = 0 ∧ x.pulses < x.count then .line
        else .nothing

/-- R205: the pulse reaches the ball 2 ENC cycles after its cause. A pulse that meets one still asserted restarts its
width (R71). -/
def Device.trigOut (d : Device) (p : Nat) : Device :=
  let w := (d.trig p).width
  (d.setTrig p { d.trig p with until_ := some (d.now + 2 + w) }).send (.pulse 3 p ((d.now + 2) * 2500) (w * 2500)
    (d.regB (Reg.TRIG_POLARITY + p)))

/-- Trains kept: those some enabled context of the port has yet to match, and the last one. -/
def Device.keepTrains (d : Device) (p : Nat) (l : List TrigTrain) : List TrigTrain :=
  let low := minN 0 ((d.ctxsOf p).map (fun c => (d.winCtx c).lastTrain))
  let open_ := (d.ctxsOf p).filterMap (fun c => ((d.winCtx c).open_).bind (fun f => f.train))
  match l with
  | [] => []
  | t :: ts => t :: ts.filter (fun x => !(d.ctxsOf p).isEmpty && (decide (low < x.id) || open_.contains x.id))

/-- R205, R216: one due pulse of port p, with its stamp; at a frame start the due parameter sets are sent. -/
def Device.trigPulse (d : Device) (p : Nat) (fails : List (Nat × Nat)) : Device :=
  let x := d.trig p
  match d.trigDue p with
  | .nothing => d
  | .frame =>
    let ns := (d.ctxsOf p).map (fun c => (c, d.nextFrame c))
    let first := match x.first with
      | none => d.mantel.line
      | some f => f + x.period.toNat
    let x1 := { x with target := x.target + x.period, first := if x.mode = 2 then some first else none, pulses := 1,
                       lastAt := some d.mantel.line, nextId := x.nextId + 1,
                       trains := d.keepTrains p ({ id := x.nextId, mode := x.mode, stamps := [d.trigStamp] } :: x.trains) }
    (ns.foldl (fun (a : Device × Nat) (cn : Nat × Nat) => a.1.sendDue cn.1 cn.2 fails a.2)
      ((d.setTrig p x1).trigOut p, 0)).1
  | .line =>
    let trains := match x.trains with
      | [] => []
      | t :: ts => { t with stamps := t.stamps ++ [d.trigStamp] } :: ts
    (d.setTrig p { x with pulses := x.pulses + 1, lastAt := some d.mantel.line, trains := trains }).trigOut p

/-- R205: the pulse's width expires. -/
def Device.trigPulseEnd (d : Device) (p : Nat) : Device :=
  let x := d.trig p
  match x.until_ with
  | none => d
  | some u => if d.now < u then d else d.setTrig p { x with until_ := none }

/-! ### Frames (R203 … R208) -/

/-- R206: context c takes the newest unmatched stamp of its port; older ones are discarded and counted. Of the stamps
recorded while no context of the port is enabled, the newest is kept (log entry 167). -/
def Device.matchTrain (d : Device) (c : Nat) : Device × Option TrigTrain :=
  let x := d.winCtx c
  let l := (d.trig x.port).trains.filter (fun t => decide (x.lastTrain < t.id))
  match l with
  | [] => (d, none)
  | t :: ts =>
    let d1 := d.addReg (Reg.MISSED_TRIGGERS + x.port) ts.length
    (d1.setWinCtx c { d1.winCtx c with lastTrain := t.id }, some t)

/-- R215, R216: the sets that act from frame n or before are in force. -/
def Device.psetAct (d : Device) (c n : Nat) : Device :=
  let x := d.winCtx c
  let due (p : PSetPend) : Bool := serialAtOrBefore 32 p.act n
  let inForce := (x.pend.filter due).foldl (fun _ (p : PSetPend) => p.set) x.inForce
  let pend := x.pend.filter (fun p => !due p)
  ((d.setWinCtx c { x with inForce := inForce, pend := pend }).setRegN (Reg.PSET_IN_FORCE + c) inForce.id).setRegN
    (Reg.PSET_PENDING + c) pend.length

/-- The context's values for a frame whose start stamp lies on line g (the note after R221). -/
def Device.frameConf (d : Device) (c g : Nat) : FrameConf :=
  let x := d.winCtx c
  { x.conf with
    snr := (d.regAt (Reg.SNR_STRENGTH + c) g).toNat
    tnrK := (d.regAt (Reg.TNR_K + c) g).toNat
    tnrT := (d.regAt (Reg.TNR_THRESH + c) g).toNat
    ff := d.blobAt (Reg.FLAT_FIELD + c) g
    tone := d.blobAt (Reg.TONE + c) g
    map := d.blobAt (Reg.MAP_TABLE + c) g
    meas := d.blobAt (Reg.MEAS_CONFIG + c) g
    pset := x.inForce }

/-- R204: the buffers of context c that hold an unprocessed frame. -/
def Device.buffersUsed (d : Device) (c : Nat) : Nat := (d.win.waiting.filter (fun f => f.ctx == c)).length

/-- R204: a frame that finds no buffer: it is counted and reported; its record follows with its end. -/
def Device.dropFrame (d : Device) (c : Nat) (f : Frame) : Device :=
  let x := d.winCtx c
  let d1 := (d.incReg (Reg.FRAMES_DROPPED + c)).setWinCtx c { x with open_ := some f, dropping := true }
  if x.dropping then d1 else d1.raise Ev.WIN_FRAME_DROPPED c [.u 0 f.num]

/-- R204, R206 … R208, R216: a Frame Start packet accepted by context c. A frame with room takes the next buffer of its
ring. -/
def Device.frameStart (d0 : Device) (c : Nat) (fails : List (Nat × Nat)) : Device :=
  let dm := (d0.closeFrame c false).matchTrain c
  let n := (dm.1.regN (Reg.FRAME_NUMBER + c) + 1) % 2 ^ 32
  let d1 := dm.1.setRegN (Reg.FRAME_NUMBER + c) n
  let d2 := if dm.2.isNone || d1.untriggered c then (d1.sendDue c n fails 0).1 else d1
  let d3 := d2.psetAct c n
  let x := d3.winCtx c
  let st := match dm.2 with
    | some t => t.stamps.headD d3.trigStamp
    | none => d3.trigStamp
  let flags := putBit (putBit 0 3 dm.2.isNone) 5 (x.unconf.contains n)
  let room := decide (d3.buffersUsed c < x.buffers)
  let f : Frame :=
    { ctx := c, num := n, conf := d3.frameConf c st.glc, stored := room, start := st,
      train := dm.2.map (fun t => t.id), flags := flags, lastAt := d3.now, ptLast := st.pt, buf := x.nextBuf, ring := x.ring }
  let x1 := { x with unconf := x.unconf.filter (fun k => serialAfter 32 k n) }
  let d4 := d3.setWinCtx c x1
  if room then
    d4.setWinCtx c { x1 with open_ := some f, dropping := false, nextBuf := (x.nextBuf + 1) % Nat.max 1 x.buffers }
  else d4.dropFrame c f

/-- R200, R206: a Frame Start packet. -/
def Device.csiFrameStart (d : Device) (h : CsiHdr) (fails : List (Nat × Nat)) : Device :=
  let r := d.csiHeader h
  if r.2 then
    match r.1.ctxAt h.port h.vc with
    | none => r.1
    | some c => r.1.frameStart c fails
  else r.1

/-- R206: the stamp of the line packet with number i of a frame. -/
def Device.lineStamp (d : Device) (f : Frame) (i : Nat) : Int × Nat :=
  let own : Int × Nat := (d.pt, d.time.tb3)
  let x := d.trig (d.winCtx f.ctx).port
  match f.train with
  | none => own
  | some id =>
    match x.trains.find? (fun t => t.id == id) with
    | none => own
    | some t =>
      if t.mode = 1 then own
      else match t.stamps[i]? with
        | none => own
        | some s => (s.pt, s.t)

/-- R204: a line's pixels go into its frame's buffer. -/
def Device.storeLine (m : List Host.Cell) (d : Device) (f : Frame) (row : Nat) (pix : List Nat) : List Host.Cell × Device :=
  let bits := f.conf.width * pixBits f.conf.dt
  let i := row * bits / 8
  let n := ceilDivNat ((row + 1) * bits) 8 - i
  (d.putPixels f m (row * f.conf.width) pix, Device.bufWritten f (n / 4096 + 2) i n d)

/-- R203: one line packet of the context's data type. -/
def Device.ctxLineIn (m : List Host.Cell) (d : Device) (c : Nat) (f : Frame) (crcOk : Bool) (pix : List Nat) :
    List Host.Cell × Device :=
  let x := d.winCtx c
  let st := d.lineStamp f f.packets
  let f1 := { f with packets := f.packets + 1, lastAt := d.now }
  if !crcOk || pix.length != f.conf.width then
    (m, (d.incReg (Reg.LINES_BAD + c)).setWinCtx c { x with open_ := some { f1 with bad := f.bad + 1 } })
  else if f.stored && decide (f.count < f.conf.limit) then
    let r := Device.storeLine m d f f.count pix
    (r.1, r.2.setWinCtx c { x with open_ := some { f1 with
      count := f.count + 1
      lines := { row := f.count, pt := st.1, t := st.2 } :: f.lines
      ptLast := st.1 } })
  else (m, d.setWinCtx c { x with open_ := some { f1 with count := f.count + 1, ptLast := st.1 } })

/-- R200, R203: a long packet. -/
def Device.csiLine (m : List Host.Cell) (d : Device) (h : CsiHdr) (dt : Nat) (crcOk : Bool) (pix : List Nat) :
    List Host.Cell × Device :=
  let r := d.csiHeader h
  if r.2 then
    match r.1.ctxAt h.port h.vc with
    | none => (m, r.1)
    | some c =>
      match (r.1.winCtx c).open_ with
      | none => (m, r.1)
      | some f => if dt = f.conf.dt then Device.ctxLineIn m r.1 c f crcOk pix else (m, r.1)
  else (m, r.1)

/-- R200, R208: a Frame End packet. -/
def Device.csiFrameEnd (d : Device) (h : CsiHdr) : Device :=
  let r := d.csiHeader h
  if r.2 then
    match r.1.ctxAt h.port h.vc with
    | none => r.1
    | some c => r.1.closeFrame c true
  else r.1

/-- R208: no packet for FRAME_TIMEOUT_US after the last line. -/
def Device.frameTimeout (d : Device) (c : Nat) : Device :=
  match (d.winCtx c).open_ with
  | none => d
  | some f => if cycUs (d.regN (Reg.FRAME_TIMEOUT_US + c)) ≤ d.now - f.lastAt then d.closeFrame c false else d

/-! ### Ports (R202) and contexts (R203, R204, R216) -/

/-- R202: an enable: the port's at-reset entries take effect. -/
def Device.winPortStart (d : Device) (p : Nat) : Device :=
  let d1 := [Reg.PORT_LANES, Reg.PORT_MBPS, Reg.PORT_CLOCK_MODE, Reg.CCI_KHZ].foldl
    (fun (d : Device) k => d.loadStored (k + p)) d
  (d1.setWinPort p { d1.winPort p with khz := d1.regN (Reg.CCI_KHZ + p) }).setReg (Reg.WIN_PORT_STATE + p) 4

/-- R202: the shutdown: the frames of the port close, and the state waits for a CCI transaction in progress. -/
def Device.winPortStop (d : Device) (p : Nat) : Device :=
  let d1 := (d.ctxsOf p).foldl (fun (d : Device) c => d.closeFrame c false) d
  d1.setReg (Reg.WIN_PORT_STATE + p) (if d.now < (d1.winPort p).cciEnd then 1 else 0)

/-- R202: PORT_ENABLE is cleared. -/
def Device.winPortDisable (d : Device) (p : Nat) : Device :=
  let d1 := d.setReg (Reg.WIN_PORT_ENABLE + p) 0
  let st := d1.reg (Reg.WIN_PORT_STATE + p)
  if st = 2 then d1.setReg (Reg.WIN_PORT_STATE + p) 1
  else if st = 3 ∨ st = 4 then d1.winPortStop p
  else d1

/-- R202: PORT_ENABLE is set. -/
def Device.winPortEnable (d : Device) (p : Nat) : Device :=
  let d1 := d.setReg (Reg.WIN_PORT_ENABLE + p) 1
  let st := d1.reg (Reg.WIN_PORT_STATE + p)
  if st = 0 then d1.winPortStart p
  else if st = 1 then d1.setReg (Reg.WIN_PORT_STATE + p) 2
  else d1

/-- R202: the CCI transaction in progress has completed, so the shutdown ends and a pending enable starts. -/
def Device.winPortTick (d : Device) (p : Nat) : Device :=
  let st := d.reg (Reg.WIN_PORT_STATE + p)
  if (st = 1 ∨ st = 2) ∧ (d.winPort p).cciEnd ≤ d.now then
    let d1 := d.setReg (Reg.WIN_PORT_STATE + p) 0
    if st = 2 then d1.winPortStart p else d1
  else d

/-- A value as stored for the next reset, else as in force. -/
def Device.storedN (d : Device) (k : Nat) : Nat :=
  match assoc d.dict.stored k with
  | some (.n v) => v.toNat
  | _ => d.regN k

/-- R334: the buffers of context c fit in what is free of the Window pool. -/
def Device.poolFits (d : Device) (c : Nat) : Bool :=
  (d.poolRing c (ringBytes c d.storedN)).all (fun s => decide (s.1 + s.2 ≤ poolBytes))

/-- R203: two enabled contexts may not have one port and virtual channel. -/
def Device.ctxClash (d : Device) (c : Nat) : Bool :=
  let p := d.storedN (Reg.CTX_PORT + c)
  let v := d.storedN (Reg.CTX_VC + c)
  (List.range 8).any (fun o => o != c && d.regB (Reg.CTX_ENABLE + o) && (d.winCtx o).port == p && (d.winCtx o).vc == v)

/-- The at-reset entries of a context. -/
def ctxResetKeys : List Nat :=
  [Reg.CTX_PORT, Reg.CTX_VC, Reg.CTX_DATA_TYPE, Reg.CTX_WIDTH, Reg.CTX_FRAME_LINES, Reg.CTX_MOSAIC, Reg.CTX_RECON,
   Reg.CTX_STATS_KIND, Reg.SENSOR_DELAY, Reg.CCI_ADDR, Reg.CCI_REG_BYTES, Reg.FRAME_BUFFERS]

/-- The note after R221: a context's enable is the reset of its at-reset entries; set 0 is in force (R215). -/
def Device.ctxEnable (d : Device) (c : Nat) : Device :=
  let d1 := ctxResetKeys.foldl (fun (d : Device) k => d.loadStored (k + c)) d
  let p := d1.regN (Reg.CTX_PORT + c)
  let last := if (d1.winCtx c).port = p then (d1.winCtx c).lastTrain else 0
  let conf : FrameConf :=
    { width := d1.regN (Reg.CTX_WIDTH + c), limit := d1.regN (Reg.CTX_FRAME_LINES + c),
      mosaic := d1.regN (Reg.CTX_MOSAIC + c), recon := d1.regN (Reg.CTX_RECON + c),
      dt := d1.regN (Reg.CTX_DATA_TYPE + c), kind := d1.regN (Reg.CTX_STATS_KIND + c) }
  let x : WinCtx :=
    { conf := conf, port := p, vc := d1.regN (Reg.CTX_VC + c), delay := d1.regN (Reg.SENSOR_DELAY + c),
      addr := d1.regN (Reg.CCI_ADDR + c), regLen := d1.regN (Reg.CCI_REG_BYTES + c),
      buffers := d1.regN (Reg.FRAME_BUFFERS + c), ring := d1.poolRing c (ringBytes c d1.regN), lastTrain := last, record := (d1.winCtx c).record }
  let d2 := (d1.setWinCtx c x).setReg (Reg.CTX_ENABLE + c) 1
  (d2.setReg (Reg.PSET_IN_FORCE + c) 0).setReg (Reg.PSET_PENDING + c) 0

/-- A context is disabled: it accepts no further packets; a frame that is open closes as without a Frame End. -/
def Device.ctxDisable (d : Device) (c : Nat) : Device := (d.closeFrame c false).setReg (Reg.CTX_ENABLE + c) 0

/-- R216: the pending sets with the new one placed, in the order of the frame from which they act. -/
def placePset (p : PSetPend) : List PSetPend → List PSetPend
  | [] => [p]
  | x :: xs =>
    if x.act = p.act then p :: xs
    else if serialBefore 32 p.act x.act then p :: x :: xs else x :: placePset p xs

/-- R216: does the write of a set find room? -/
def Device.psetFits (d : Device) (c act : Nat) : Bool :=
  let x := d.winCtx c
  decide (x.pend.length < 4) || x.pend.any (fun p => p.act == act)

/-- R216: the frames of a set for target f: its sensor writes' frame, its acting frame, on time. -/
def Device.psetPlan (d : Device) (c f : Nat) : Nat × Nat × Bool :=
  let n := d.nextFrame c
  let dl := (d.winCtx c).delay
  let s := (f + 2 ^ 32 - dl) % 2 ^ 32
  if serialAtOrAfter 32 s n then (s, f, true) else (n, (n + dl) % 2 ^ 32, false)

/-- R215, R216: the check of a PSET write. -/
def Device.psetCheck (d : Device) (c : Nat) (l : List Nat) : Status :=
  match psetVerify l with
  | .ok => if d.psetFits c (d.psetPlan c (fieldAt l 8 4)).2.1 then .ok else .busy
  | st => st

/-- R216: a checked parameter set is accepted. -/
def Device.psetAccept (d : Device) (c : Nat) (l : List Nat) : Device :=
  let x := d.winCtx c
  let s := psetOf l
  let pl := d.psetPlan c (fieldAt l 8 4)
  let pend := placePset { set := s, sendAt := pl.1, act := pl.2.1 } x.pend
  let d1 := ((d.setWinCtx c { x with pend := pend }).setRegN (Reg.PSET_PENDING + c) pend.length).setReg
    (Reg.PSET_STATUS + c) (if pl.2.2 then 1 else 2)
  if pl.2.2 then d1 else d1.raise Ev.WIN_PSET_LATE c [.u 2 s.id, .u 0 pl.2.1]

/-! ### Sharing the pipeline (R218) -/

/-- A frame with work for the pipeline: complete frames and, in stripe mode, open frames with a stripe stored. -/
def Device.pipeFrames (d : Device) (stripes : Bool) (n : Nat) : List Frame :=
  let opens := if stripes then (List.range 8).filterMap (fun c =>
    ((d.winCtx c).open_).filter (fun f => f.stored && decide (f.done + n ≤ f.lines.length))) else []
  d.win.waiting ++ opens

/-- R218: the context of the frame to work on next: the oldest waiting frame, and in stripe mode the next context in
turn after the one worked on. -/
def Device.pipeNext (d : Device) (stripes : Bool) (n : Nat) : Option Frame :=
  let l := d.pipeFrames stripes n
  match stripes, d.win.lastCtx with
  | true, some c =>
    let order := (List.range 8).map (fun i => (c + 1 + i) % 8)
    (order.filterMap (fun k => l.find? (fun f => f.ctx == k))).head?
  | _, _ => l.head?

/-- R218: ENC cycles of the pipeline for n lines of a frame: 1.2 Gpixel/s, 2,048 pixel cycles for a change of context. -/
def pipeCycles (f : Frame) (n : Nat) (change : Bool) : Nat :=
  let k := if f.conf.mosaic = 4 ∨ f.conf.recon = 0 then 1 else 2
  ceilDivNat (n * f.conf.width * k + (if change then 2048 else 0)) 3

/-- R218: the pipeline takes its next work. -/
def Device.pipeStart (d : Device) : Device :=
  let stripes := d.reg Reg.PIPE_SHARE_MODE == 1
  let n := d.regN Reg.PIPE_STRIPE_LINES
  match d.pipeNext stripes n with
  | none => d
  | some f =>
    let k := if stripes then Nat.min n (f.lines.length - f.done) else f.lines.length - f.done
    let e := d.now + pipeCycles f k (decide (d.win.lastCtx ≠ some f.ctx))
    { d with win := { d.win with
      job := some { ctx := f.ctx, num := f.num, lines := k, endAt := e }
      lastCtx := some f.ctx
      busy := (d.now, e) :: d.win.busy.filter (fun b => decide (d.now ≤ b.2 + cycS 1)) } }

/-- R214, R220: WIN_FLICKER on the first frame with FLICKER after one without. -/
def Device.noteFlicker (d : Device) (c : Nat) (a : List Nat) : Device :=
  let x := d.winCtx c
  let th := d.regN Reg.FLICKER_THRESH_PERMILLE
  match (flickerHz.zip a).find? (fun p => decide (th ≤ p.2)) with
  | none => d.setWinCtx c { x with flicker := false }
  | some p =>
    let d1 := d.setWinCtx c { x with flicker := true }
    if x.flicker then d1 else d1.raise Ev.WIN_FLICKER c [.u 2 p.1, .u 0 p.2]

/-- R218, R219: a frame whose last line has been processed is published. -/
def Device.publish (m : List Host.Cell) (d : Device) (f : Frame) : Device :=
  let r := f.record (Device.rawLines m d f) (d.regN Reg.FLICKER_THRESH_PERMILLE)
  let d1 := d.setWinCtx f.ctx { d.winCtx f.ctx with record := r.1 }
  let d2 := { d1 with win := { d1.win with
    waiting := d1.win.waiting.filter (fun x => !(x.ctx == f.ctx && x.num == f.num)) } }
  match r.2 with
  | none => d2
  | some a => d2.noteFlicker f.ctx a

/-- R218: the work in progress ends: its lines are done, and a complete frame with every line done is published. -/
def Device.pipeDone (m : List Host.Cell) (d : Device) (j : PipeJob) : Device × Option Frame :=
  let mine (f : Frame) : Bool := f.ctx == j.ctx && f.num == j.num
  let step (f : Frame) : Frame := if mine f then { f with done := f.done + j.lines } else f
  let x := d.winCtx j.ctx
  let d1 := (d.setWinCtx j.ctx { x with open_ := x.open_.map step })
  let d2 := { d1 with win := { d1.win with job := none, waiting := d1.win.waiting.map step } }
  match d2.win.waiting.find? (fun f => mine f && decide (f.lines.length ≤ f.done)) with
  | none => (d2, none)
  | some f => (Device.publish m d2 f, some f)

/-- PIPE_STEP: work whose time has come ends, and the pipeline takes its next work. The frame published, if any. -/
def Device.pipeStep (m : List Host.Cell) (d : Device) : Device × Option Frame :=
  match d.win.job with
  | none => (d.pipeStart, none)
  | some j =>
    if d.now < j.endAt then (d, none)
    else
      let r := Device.pipeDone m d j
      (r.1.pipeStart, r.2)

/-- R218: the busy share of the last 1 s, in permille. -/
def Device.pipeLoad (d : Device) : Nat :=
  let w0 := d.now - cycS 1
  let t := d.win.busy.foldl (fun (a : Nat) (b : Nat × Nat) => a + (Nat.min b.2 d.now - Nat.max b.1 w0)) 0
  t * 1000 / cycS 1

end Sys2Proof.Machine
end

