-- ==== Sys2Proof/Machine/CellarOps.lean ====
section
/-! DEFINITION. The Cellar (R236 … R240) and the boot configuration record (after R399): the records in the xSPI flash,
their headers, which copy is used, and writing them. -/
namespace Sys2Proof.Machine

/-! ### The flash -/

/-- One byte of the flash. The cells hold the complement, so that an unlisted byte reads FFh as an erased one does
(PRESUMED, log entry 24). -/
def flashByte (m : List Host.Cell) (a : Nat) : Nat := 255 - (mget m a).toNat

/-- n bytes of the flash. -/
def flashRead (m : List Host.Cell) : Nat → Nat → List Nat
  | _, 0 => []
  | a, n + 1 => flashByte m a :: flashRead m (a + 1) n

/-- Program bytes from an address on. -/
def flashProgram (m : List Host.Cell) (a : Nat) (l : List Nat) : List Host.Cell :=
  mwrite m a (l.map (fun b => 255 - b % 256))

/-- Erase n bytes from an address on. -/
def flashErase (m : List Host.Cell) (a n : Nat) : List Host.Cell :=
  m.filter (fun c => !(decide (a ≤ c.1) && decide (c.1 < a + n)))

/-- Every byte of the range is erased. -/
def flashErased (m : List Host.Cell) (a n : Nat) : Bool := m.all (fun c => !(decide (a ≤ c.1) && decide (c.1 < a + n)))

/-! ### Records (R236, R237) -/

/-- One row of the layout of R236: type code, units, slot size, address. The last row is the boot configuration
record. -/
structure CellarType where
  code  : Nat
  units : Nat
  slot  : Nat
  base  : Nat
deriving DecidableEq, Repr

/-- The base of the Cellar (after R399). -/
def cellarBase : Nat := 64 * 2 ^ 20

/-- R236. -/
def cellarTypes : List CellarType :=
  [⟨0, 1, 4096, cellarBase⟩, ⟨1, 1, 4096, cellarBase + 8192⟩, ⟨2, 1, 4096, cellarBase + 16384⟩,
   ⟨3, 1, 4096, cellarBase + 24576⟩, ⟨4, 192, 32768, cellarBase + 65536⟩, ⟨5, 8, 1048576, cellarBase + 16777216⟩,
   ⟨6, 8, 1048576, cellarBase + 33554432⟩, ⟨16, 1, 524288, 0⟩]

/-- The row of a type. -/
def cellarType (t : Nat) : CellarType := (cellarTypes.find? (fun x => x.code == t)).getD ⟨t, 0, 0, 0⟩

/-- The slot size of a record. -/
def recSlot (key : Nat) : Nat := (cellarType (key / 256)).slot

/-- The address of slot 0 (A) or 1 (B) of a record (R236). -/
def recAddr (key slot : Nat) : Nat :=
  let t := cellarType (key / 256)
  t.base + key % 256 * 2 * t.slot + slot * t.slot

/-- R237: the header and the check around a payload. R14 asks PT and TB3 of a calibration record; R237's layout, which
gives every byte of the record, has the time TB3 only, and the record here carries no PT: DESIGN CHOICE (log
entry 153). -/
def recBytes (key gen tb3 frac serial : Nat) (headSerial payload : List Nat) : List Nat :=
  withCheck ([0x51, 0x52, 1, key / 256] ++ leBytes 2 (key % 256) ++ [0, 0] ++ leBytes 4 gen ++
    leBytes 4 (68 + payload.length) ++ leBytes 8 tb3 ++ leBytes 2 frac ++ [0, 0] ++ leBytes 4 serial ++
    bytesAt headSerial 0 16 ++ List.replicate 16 0 ++ payload)

/-- R237, R238: the LENGTH that a record l of a type has; a fault mirror's, a profile's and a matrix' vary. -/
def recLengthOk (t : Nat) (l : List Nat) : Bool :=
  if t = 0 then l.length == 68 + 132
  else if t = 1 then l.length == 68 + 78
  else if t = 2 then l.length == 68 + 1600
  else if t = 3 then l.length == 68 + 4 + 32 * fieldAt l 64 2
  else if t = 4 then l.length == 68 + 4 + 5 * fieldAt l 64 2
  else true

/-- The bytes of a slot's record, as long as its LENGTH says, where the slot is valid (R238). -/
def slotRecord (m : List Host.Cell) (key slot : Nat) : Option (List Nat) :=
  let a := recAddr key slot
  let n := leNat (flashRead m (a + 12) 4)
  if n < 68 ∨ recSlot key < n then none
  else
    let l := flashRead m a n
    if bytesAt l 0 4 = [0x51, 0x52, 1, key / 256] ∧ fieldAt l 4 2 = key % 256 ∧ recLengthOk (key / 256) l = true ∧
        crc32c (l.take (n - 4)) = fieldAt l (n - 4) 4 then some l else none

/-- The slot is erased. -/
def slotErased (m : List Host.Cell) (key slot : Nat) : Bool := flashErased m (recAddr key slot) (recSlot key)

/-- R238: which slot of two valid ones is used: the later GENERATION, else slot A. -/
def laterSlot (a b : List Nat) : Nat := if serialAfter 32 (fieldAt b 8 4) (fieldAt a 8 4) then 1 else 0

/-- What reading a pair gives (R238): the slot and the record used, the slots that are bad, and the record lost. -/
structure PairRead where
  used : Option (Nat × List Nat)
  bad  : List Nat
  lost : Bool
deriving DecidableEq, Repr

/-- R238: a pair is read. -/
def readPair (m : List Host.Cell) (key : Nat) : PairRead :=
  let bad := [0, 1].filter (fun s => (slotRecord m key s).isNone && !slotErased m key s)
  match slotRecord m key 0, slotRecord m key 1 with
  | some a, some b => if laterSlot a b = 1 then { used := some (1, b), bad := [], lost := false }
    else { used := some (0, a), bad := [], lost := false }
  | some a, none => { used := some (0, a), bad := bad, lost := false }
  | none, some b => { used := some (1, b), bad := bad, lost := false }
  | none, none => { used := none, bad := bad, lost := !bad.isEmpty }

/-- R238: a pair is read with its counters and events; the record used, if any. -/
def Device.readRecord (m : List Host.Cell) (d : Device) (key : Nat) : Device × Option (List Nat) :=
  let r := readPair m key
  let t := key / 256
  let d1 := d.addReg Reg.CELLAR_CHECK_FAILS r.bad.length
  match r.used with
  | some (s, l) =>
    let d2 := { d1 with cellar := { d1.cellar with inUse := assocSet d1.cellar.inUse key (s, fieldAt l 8 4) } }
    (r.bad.foldl (fun (d : Device) s => d.raise Ev.CELLAR_COPY_BAD t [.u 1 (key % 256), .u 0 s]) d2, some l)
  | none => (if r.lost then d1.raise Ev.CELLAR_RECORD_LOST t [.u 0 (key % 256)] else d1, none)

/-- The payload of a record. -/
def recPayload (l : List Nat) : List Nat := (l.take (l.length - 4)).drop 64

/-! ### Payloads (R237) -/

/-- R25, R42: the bytes of a value of an entry. -/
def valBytes (e : EntryDef) : Val → List Nat
  | .n v => leBytesI e.ty.size v
  | .b l => l

/-- R42: a WRITE item: index, subindex, type, length, reserved and the padded value. -/
def itemBytes (key : Nat) (v : Val) : List Nat :=
  match findEntry key with
  | none => []
  | some e =>
    let b := valBytes e v
    leBytes 2 (key / 256) ++ [key % 256, e.ty.code] ++ leBytes 2 b.length ++ [0, 0] ++ b ++
      List.replicate ((4 - b.length % 4) % 4) 0

/-- R331, R372: the entries kept in the house boot configuration. -/
def bootKeys : List Nat :=
  [Reg.DEVICE_DENSITY_GBIT, Reg.RANKS, Reg.DATA_RATE_MTS, Reg.ECC_ENABLE] ++
    (List.range 6).flatMap (fun n => [Reg.un Reg.RAIL_USED n, Reg.un Reg.RAIL_PG_TIMEOUT_MS n, Reg.un Reg.RAIL_DELAY_US n,
      Reg.un Reg.PMBUS_ADDR n]) ++ [Reg.RAIL_RETRY, Reg.RAIL_RETRY_S]

/-- The payload of the boot configuration record: the stored entries of `bootKeys` (after R399). -/
def Device.bootConfBytes (d : Device) : List Nat :=
  bootKeys.flatMap (fun k => match assoc d.dict.stored k with | some v => itemBytes k v | none => [])

/-- The key of the boot configuration record. -/
def bootRecKey : Nat := 16 * 256

/-- CAL_INDEX. -/
def Device.calIndexBytes (d : Device) : List Nat :=
  (List.range 11).flatMap (fun c => leBytes 4 (d.regN (Reg.CAL_COUNT + c)) ++ leBytes 8 (d.regN (Reg.CAL_LAST_TB3_NS + c)))

/-- ONCHIP. -/
def Device.onchipBytes (d : Device) : List Nat :=
  let sel := if d.cal.delayUser.isEmpty then (List.range 3).map (fun i => d.regN (Reg.DELAY_SEL_IN_FORCE + i))
    else d.cal.delayUser
  sel.flatMap (leBytes 2) ++ (List.range 16).flatMap (fun i => leBytesI 2 (d.reg (Reg.AIN_TRIM_GAIN + i))) ++
    (List.range 16).flatMap (fun i => leBytesI 2 (d.reg (Reg.AIN_TRIM_OFFSET + i))) ++ d.cal.laneEx ++
    leBytes 4 d.cal.retired

/-- BAR: the trim targets in force. -/
def Device.barBytes (d : Device) : List Nat :=
  allChans.flatMap (fun c => leBytes 4 (d.regN (Reg.FLIGHT_NS + c))) ++
    allChans.flatMap (fun c => leBytesI 4 (d.reg (Reg.HEAD_TRIM_PU + c))) ++
    (List.range 16).flatMap (fun p => leBytesI 4 (d.reg (Reg.PLANE_TRIM_PU + p)))

/-- R261: the fault mirror's payload. -/
def Device.mirrorBytes (d : Device) : List Nat :=
  leBytes 2 d.log.mirror.length ++ [0, 0] ++ d.log.mirror.flatMap eventBytes

/-- NOZZLE: the words as last written, without the rest overlay. -/
def Device.nozzleBytes (d : Device) (c : Nat) : List Nat :=
  let m := d.nozMap c
  let n := d.mapLen c
  leBytes 2 n ++ [0, 0] ++ (List.range n).flatMap (fun i => leBytes 4 (m.newest i)) ++
    (List.range n).map (fun i => m.originOf i)

/-- The payload of a record as it stands. -/
def Device.recPayloadNow (d : Device) (key : Nat) : List Nat :=
  let t := key / 256
  let u := key % 256
  if t = 0 then d.calIndexBytes
  else if t = 1 then d.onchipBytes
  else if t = 2 then d.barBytes
  else if t = 3 then d.mirrorBytes
  else if t = 4 then d.nozzleBytes u
  else if t = 6 then d.blob (Reg.MATRIX + u)
  else if t = 16 then d.bootConfBytes
  else (d.cellar.save.map Prod.snd).getD []

/-- HEAD_SERIAL of a record: KNOWN_SERIAL of a NOZZLE record's channel. -/
def Device.recSerialOf (d : Device) (key : Nat) : List Nat :=
  if key / 256 = 4 then d.blob (Reg.KNOWN_SERIAL + key % 256) else []

/-! ### Writing (R240) -/

/-- The keys that share a slot pair with the record in the job are not started again; this starts the write of one
record: to the slot that does not hold the copy in use, one generation later. The first generation of a record is open
(log entry 23). -/
def Device.startRecord (d : Device) (key : Nat) (payload : List Nat) : Device :=
  let use := assoc d.cellar.inUse key
  let slot := match use with
    | some (s, _) => 1 - s
    | none => 0
  let gen := match use with
    | some (_, g) => (g + 1) % 2 ^ 32
    | none => (Config.unstated 240 [(key : Int)]).toNat % 2 ^ 32
  let data := recBytes key gen d.tb3Ns d.tb3Frac (d.regN Reg.SERIAL) (d.recSerialOf key) payload
  { d with cellar := { d.cellar with
    job := some { key := key, slot := slot, gen := gen, data := data }
    dirty := d.cellar.dirty.filter (fun k => k != key)
    urgent := d.cellar.urgent.filter (fun k => k != key) } }

/-- R382, R383, R387: an entry's step 2, or a member's request, waits until the dirty records are written. -/
def Device.cellarAwaited (d : Device) : Bool :=
  (d.isMember && d.pwr.ring.isSome) || (match d.pwr.phase with | .entry _ _ n => n == 2 | _ => false)

/-- R240: may a dirty record be written now? -/
def Device.writable (d : Device) (key : Nat) : Bool :=
  d.cellarAwaited || d.cellar.urgent.contains key ||
    (match assoc d.cellar.wroteAt key with
     | none => true
     | some t => decide (cycS (d.regN Reg.CELLAR_MIN_WRITE_S) ≤ d.now - t))

/-- CELLAR_WRITE: with no write in progress, the first dirty record that may be written starts. -/
def Device.cellarWrite (d : Device) : Device :=
  match d.cellar.job with
  | some _ => d
  | none =>
    let order := d.cellar.urgent ++ d.cellar.dirty
    match order.find? (fun k => d.cellar.dirty.contains k && d.writable k) with
    | none => d
    | some k => d.startRecord k (d.recPayloadNow k)

/-- R240: every dirty record is written at once. -/
def Device.cellarFlush (d : Device) : Device :=
  { d with cellar := { d.cellar with urgent := d.cellar.dirty } }.cellarWrite

/-- Nothing is dirty and no write is in progress (R240, R382). -/
def Device.cellarClean (d : Device) : Bool := d.cellar.job.isNone && d.cellar.dirty.isEmpty

/-- PROFILE_VALID and PROFILE_GENERATION after a profile's write. -/
def Device.noteProfile (d : Device) (key gen : Nat) : Device :=
  if key / 256 = 5 then
    let u := key % 256
    let d1 := (d.setRegN Reg.PROFILE_VALID (setBit (d.regN Reg.PROFILE_VALID) u)).setRegN (Reg.PROFILE_GENERATION + u) gen
    { d1 with cellar := { d1.cellar with save := none } }
  else d

/-- R240: after a write, what was asked for at once is gone on with. -/
def Device.cellarGoOn (d : Device) : Device :=
  if d.cellar.urgent.isEmpty && !d.cellarAwaited then d else d.cellarWrite

/-- R240: the write is given up: the copy in use stays in force. -/
def Device.cellarFailed (d : Device) (j : CellarJob) : Device :=
  let d1 := { d with cellar := { d.cellar with job := none, save := if j.key / 256 = 5 then none else d.cellar.save } }
  ((d1.setReg Reg.CELLAR_STATE 1).raise Ev.CELLAR_WRITE_FAILED (j.key / 256) [.u 1 (j.key % 256), .u 0 j.slot]).cellarGoOn

/-- CELLAR_WRITE_DONE: the slot was erased and programmed, and `back` is what it reads back. A mismatch is retried
once. -/
def Device.cellarWriteDone (m : List Host.Cell) (d : Device) (back : List Nat) : List Host.Cell × Device :=
  match d.cellar.job with
  | none => (m, d)
  | some j =>
    let a := recAddr j.key j.slot
    let m1 := flashProgram (flashErase m a (recSlot j.key)) a (back.take (recSlot j.key))
    if back = j.data then
      let d1 := { d with cellar := { d.cellar with
        job := none, inUse := assocSet d.cellar.inUse j.key (j.slot, j.gen)
        wroteAt := assocSet d.cellar.wroteAt j.key d.now } }
      let d2 := (d1.incReg Reg.CELLAR_WRITES).noteProfile j.key j.gen
      (m1, d2.cellarGoOn)
    else if j.tries = 0 then
      (m1, { d with cellar := { d.cellar with job := some { j with tries := 1 } } })
    else (m1, d.cellarFailed j)

/-- R240: CELLAR_DIRTY. -/
def Device.cellarDirty (d : Device) : Nat := maskOf ((d.cellar.dirty.map (fun k => k / 256)).filter (fun t => decide (t < 7)))

end Sys2Proof.Machine
end

