-- ==== Sys2Proof/Machine/CalOps.lean ====
section
/-! DEFINITION. The calibration manager (R222 … R235): classes, from drop test to nozzle words, density, registration,
running and counting. -/
namespace Sys2Proof.Machine

/-! ### Results (R224, R235) -/

/-- The codes of CAL_LAST_RESULT. -/
abbrev calApplied : Nat := 1
abbrev calNoChange : Nat := 2
abbrev calRejected : Nat := 3
abbrev calAborted : Nat := 4

/-- R14, R235, R243: a calibration of a class completes with a result; APPLIED and NO_CHANGE are counted and recorded, with the
PT and the TB3 time of the completion (log entry 153), and CAL_APPLIED tells the channels and nozzles changed. -/
def Device.calDone (d : Device) (cls res : Nat) (chans nozzles : Nat := 0) : Device :=
  let d1 := d.setRegN (Reg.CAL_LAST_RESULT + cls) res
  let d2 := if res = calApplied ∨ res = calNoChange then
      let d3 := ((d1.incReg (Reg.CAL_COUNT + cls)).setRegN (Reg.CAL_LAST_TB3_NS + cls) d.tb3Ns).markDirty 0 0
      { d3 with cal := { d3.cal with donePt := assocSet d3.cal.donePt cls d.pt } }
    else d1
  if res = calApplied then d2.raise Ev.CAL_APPLIED cls [.u 2 chans, .u 0 nozzles] else d2

/-- R224: one result fails its limit: the channel or plane and the limit. -/
def Device.calReject (d : Device) (cls target : Nat) (limit : Int) : Device :=
  (d.incReg (Reg.CAL_REJECTS + cls)).raise Ev.CAL_REJECTED cls [.u 1 target, .u 0 limit.natAbs]

/-- The result of a class from its targets' outcomes: (changed, rejected). -/
def calResult (changed rejected : Nat) : Nat :=
  if rejected ≠ 0 then calRejected else if changed ≠ 0 then calApplied else calNoChange

/-- A class ends with its result. -/
def Device.calEnd (d : Device) (cls chans nozzles rejected : Nat) : Device :=
  (d.calDone cls (calResult (chans + nozzles) rejected) chans nozzles).setReg (Reg.CAL_STATE + cls) 0

/-! ### Writing trims (R233) -/

/-- Add a correction to a staged value of the same entry. -/
def addStaged (l : List (Nat × Val)) (k : Nat) (delta : Int) : List (Nat × Val) :=
  l.map (fun p => if p.1 == k then match p.2 with
    | .n v => (k, Val.n (v + delta))
    | v => (k, v) else p)

/-- R232, R233: the manager writes a trim or flight time into the value in force; it acts from COMMIT_MIN_LEAD_LINES lines
on, and measurements of the target are ignored from there for REG_SETTLE_LINES. -/
def Device.calSet (d : Device) (k : Nat) (v : Int) : Device :=
  let old := d.reg k
  let g := d.mantel.line + d.regN Reg.COMMIT_MIN_LEAD_LINES
  let d1 := d.setReg k v
  let sealed' := d.dict.sealed.map (fun s => { s with items := addStaged s.items k (v - old) })
  let dict' := { d1.dict with
    superseded := d1.dict.superseded ++ [(k, g, Val.n old)]
    openSet := addStaged d1.dict.openSet k (v - old)
    sealed := sealed' }
  let cal' := { d1.cal with settle := if v = old then d1.cal.settle else assocSet d1.cal.settle k g }
  ({ d1 with dict := dict', cal := cal' } : Device).markDirty 2 0

/-- R233: the host wrote the entry after the ENC cycle t. -/
def Device.hostWrote (d : Device) (k t : Nat) : Bool :=
  match assoc d.cal.hostWrites k with
  | some w => decide (t ≤ w)
  | none => false

/-! ### From drop test to nozzle words (R225 … R227) -/

/-- The channels of the last drop test. -/
def Device.dtTestedChans (d : Device) : List Nat := d.prot.tested

/-- CLASS of nozzle n in a DT_RESULT (R197). -/
def dtCls (r : List Nat) (n : Nat) : Nat := fieldAt r (17 + 8 * n) 1

/-- R225, R233: one channel: changed, rejected. A FLIGHT_NS that the host wrote since the test began is kept. -/
def Device.flightOne (d : Device) (c : Nat) : Device × Nat × Nat :=
  let r := d.blob (Reg.DT_RESULT + c)
  let f : Int := (fieldAt r 12 4 : Nat)
  let old := d.reg (Reg.FLIGHT_NS + c)
  let lo := d.reg Reg.FLIGHT_MIN_NS
  let hi := d.reg Reg.FLIGHT_MAX_NS
  let ch := d.reg Reg.FLIGHT_MAX_CHANGE_NS
  if bit (fieldAt r 3 1) 2 ∨ d.hostWrote (Reg.FLIGHT_NS + c) d.prot.conf.at_ = true then (d, 0, 0)
  else if f < lo then (d.calReject 5 c lo, 0, 1)
  else if hi < f then (d.calReject 5 c hi, 0, 1)
  else if old ≠ 0 ∧ ch < ((f - old).natAbs : Int) then (d.calReject 5 c ch, 0, 1)
  else if f = old then (d, 0, 0)
  else (d.calSet (Reg.FLIGHT_NS + c) f, 1, 0)

/-- R225: class 5 over the channels tested. -/
def Device.runFlight (d : Device) : Device :=
  let r := d.dtTestedChans.foldl (fun (a : Device × Nat × Nat) c =>
    let x := a.1.flightOne c
    (x.1, a.2.1 + x.2.1, a.2.2 + x.2.2)) (d, 0, 0)
  r.1.calEnd 5 r.2.1 0 r.2.2

/-- R226: the health score of a class. -/
def dtScore (cls : Nat) : Nat := if cls = 1 then 255 else if cls = 2 then 160 else if cls = 3 then 64 else 0

/-- R226: the new STATE of a nozzle, if the class sets one: its state, origin, class and NOZ_REVIVE_TESTS. -/
def dtNewState (st origin cls revive : Nat) : Option Nat :=
  let byCal := bit origin 0
  let streak := origin / 16
  if cls = 1 then
    if (st = 1 ∨ st = 2) ∧ byCal = true then some 0
    else if st = 4 ∧ (byCal = true ∨ bit origin 3 = true) ∧ revive ≠ 0 ∧ revive ≤ streak + 1 then some 0
    else none
  else if cls = 2 then if st = 0 then some 1 else none
  else if cls = 3 then if st = 0 ∨ st = 1 then some 2 else none
  else none

/-- R226: OK_STREAK in the origin byte. -/
def dtStreak (origin cls : Nat) : Nat := origin % 16 + 16 * (if cls = 1 then Nat.min 15 (origin / 16 + 1) else 0)

/-- R226: the word and origin byte that a class gives a nozzle; OFF is left as it is. -/
def nozzleNew (w o cls revive : Nat) : Nat × Nat :=
  if nozState w = 3 then (w, o)
  else
    let h := (3 * nozHealth w + dtScore cls + 2) / 4
    let w1 := w % 2 ^ 16 + h * 2 ^ 16
    match dtNewState (nozState w) o cls revive with
    | some s => (nozWithState w1 s, setBit (dtStreak o cls) 0)
    | none => (w1, dtStreak o cls)

/-- R226: more than NOZ_REJECT_PERMILLE of the tested nozzles change to a class other than OK. -/
def Device.headRejected (d : Device) (c : Nat) (tested : List (Nat × Nat)) : Bool :=
  let m := d.nozMap c
  let bad := (tested.filter (fun p => p.2 != 1 && p.2 != tget (fun _ => 0) m.cls p.1)).length
  decide (d.regN Reg.NOZ_REJECT_PERMILLE * tested.length < bad * 1000)

/-- R227: the SHARE that a column's nozzles A and B give, if any. -/
def shareOf (wa wb oa dflt : Nat) : Option Nat :=
  if nozState wa = 0 ∧ nozState wb = 1 then some 2
  else if nozState wb = 0 ∧ nozState wa = 1 then some 3
  else if nozState wa = 0 ∧ nozState wb = 0 ∧ bit oa 1 = true then some dflt
  else none

/-- A word with another SHARE. -/
def withShare (w s : Nat) : Nat := w - nozShare w * 512 + s * 512

/-- The tested nozzles of a channel and their classes. -/
def Device.dtTestedNoz (d : Device) (c : Nat) : List (Nat × Nat) :=
  let r := d.blob (Reg.DT_RESULT + c)
  ((List.range (fieldAt r 4 2)).map (fun n => (n, dtCls r n))).filter (fun p => p.2 != 0)

/-- What classes 6 and 7 make of one nozzle: its new word and origin byte. -/
structure NozNew where
  noz    : Nat
  word   : Nat
  origin : Nat
deriving DecidableEq, Repr

/-- The entry of nozzle n in a list of new words. -/
def nozAt (l : List NozNew) (n : Nat) : Option NozNew := l.find? (fun x => x.noz == n)

/-- R227: one column whose nozzles A and B were both tested and are both able, neither under rest: SHARE of A. -/
def shareOne (m : NozMap) (dflt : Nat) (l : List NozNew) (col : List Nat) : List NozNew :=
  match col with
  | [a, b] =>
    match nozAt l a, nozAt l b with
    | some x, some y =>
      if m.rested.contains a || m.rested.contains b then l
      else match shareOf x.word y.word x.origin dflt with
        | none => l
        | some s => l.map (fun z => if z.noz = a then { z with word := withShare z.word s, origin := setBit z.origin 1 } else z)
    | _, _ => l
  | _ => l

/-- R226: the words that class 6 gives the tested nozzles of channel c. -/
def Device.stateWords (d : Device) (c : Nat) : List NozNew :=
  let m := d.nozMap c
  (d.dtTestedNoz c).map (fun p =>
    let x := nozzleNew (m.newest p.1) (m.originOf p.1) p.2 (d.regN Reg.NOZ_REVIVE_TESTS)
    { noz := p.1, word := x.1, origin := x.2 })

/-- R227: the words as they stand of the tested nozzles of channel c. -/
def Device.keptWords (d : Device) (c : Nat) : List NozNew :=
  let m := d.nozMap c
  (d.dtTestedNoz c).map (fun p => { noz := p.1, word := m.newest p.1, origin := m.originOf p.1 })

/-- R227: class 7 over new words of channel c. -/
def Device.shareWords (d : Device) (c : Nat) (l : List NozNew) : List NozNew :=
  if d.regN (Reg.NOZZLES_PER_COL + c) ≠ 2 then l
  else (columnsOf (d.prof c) 2).foldl (shareOne (d.nozMap c) (d.regN Reg.SHARE_DEFAULT)) l

/-- How many words of one list differ from those of another of the same nozzles. -/
def wordsChanged (a b : List NozNew) : Nat := ((a.zip b).filter (fun p => p.1.word != p.2.word)).length

/-- R168, R226, R227: the change request of one channel: every word is written once, with its origin byte and its class. -/
def Device.writeWords (d : Device) (c : Nat) (l : List NozNew) : Device :=
  let d1 := l.foldl (fun (d : Device) x => (d.writeNoz c x.noz x.word).setOrigin c x.noz x.origin) d
  let m := d1.nozMap c
  d1.setNozMap c { m with cls := (d.dtTestedNoz c).foldl (fun t p => tset (fun _ => 0) t p.1 p.2) m.cls }

/-- What classes 6 and 7 came to over the channels: channels and nozzles changed by each, and channels rejected. -/
structure NozRun where
  chans6 : Nat := 0
  noz6   : Nat := 0
  chans7 : Nat := 0
  noz7   : Nat := 0
  rej    : Nat := 0
deriving DecidableEq, Repr

/-- R223, R224, R226, R227: classes 6 and 7, as asked, on one channel, in one change request; a rejected head's words stay, and it
is rejected in each class asked. -/
def Device.nozzleChan (d : Device) (state share : Bool) (c : Nat) (r : NozRun) : Device × NozRun :=
  if d.headRejected c (d.dtTestedNoz c) then
    let d1 := if state then d.calReject 6 c (d.reg Reg.NOZ_REJECT_PERMILLE) else d
    (if share then d1.calReject 7 c (d.reg Reg.NOZ_REJECT_PERMILLE) else d1, { r with rej := r.rej + 1 })
  else
    let l0 := d.keptWords c
    let l1 := if state then d.stateWords c else l0
    let l2 := if share then d.shareWords c l1 else l1
    let n6 := wordsChanged l0 l1
    let n7 := wordsChanged l1 l2
    (d.writeWords c l2, { r with
      chans6 := if n6 = 0 then r.chans6 else r.chans6 + 1, noz6 := r.noz6 + n6
      chans7 := if n7 = 0 then r.chans7 else r.chans7 + 1, noz7 := r.noz7 + n7 })

/-- R226, R227: classes 6 and 7, as asked, over the channels tested. -/
def Device.runNozzles (d : Device) (state share : Bool) : Device :=
  let r := d.dtTestedChans.foldl (fun (a : Device × NozRun) c => a.1.nozzleChan state share c a.2) (d, {})
  let d1 := if state then r.1.calEnd 6 r.2.chans6 r.2.noz6 r.2.rej else r.1
  if share then d1.calEnd 7 r.2.chans7 r.2.noz7 r.2.rej else d1

/-- The classes with CAL_AUTO run at DT_DONE (after R224). -/
def Device.autoDropTest (d : Device) : Device :=
  let d1 := if d.regB (Reg.CAL_AUTO + 5) then d.runFlight else d
  let st := d.regB (Reg.CAL_AUTO + 6)
  let sh := d.regB (Reg.CAL_AUTO + 7)
  if st || sh then d1.runNozzles st sh else d1

/-! ### Density (R228 … R230) -/

/-- The default collection of a channel. -/
def densCh0 (_ : Nat) : DensCh := {}

/-- R228: records below this start stamp are ignored for channel c. -/
def Device.densFrom (d : Device) (c : Nat) : Option Int :=
  (assoc d.cal.densLeff c).map (fun l =>
    d.mantel.boundary ((l + d.regN Reg.DENS_MAX_STEP * d.regN Reg.GAIN_SLEW_LINES : Nat) : Int) +
      d.reg (Reg.HEAD_DELAY_PU + c) + d.reg Reg.CAM_OFFSET_PU)

/-- A record's column: its weight and the sum of measurement channel i. -/
def recCol (r : List Nat) (k i : Nat) : Nat × Nat :=
  let nc := fieldAt r 46 1
  let o := 64 + k * (4 + 4 * nc)
  (fieldAt r o 4, fieldAt r (o + 4 + 4 * i) 4)

/-- R228: the head columns of channel c that a record's columns cover: head column and record column. -/
def Device.densCols (d : Device) (r : List Nat) (c : Nat) : List (Nat × Nat) :=
  let first := fieldAt r 40 4
  (List.range (fieldAt r 44 2)).filterMap (fun k =>
    let h := ((first + k : Nat) : Int) - d.reg (Reg.COL_BASE + c)
    if d.reg (Reg.COL_FIRST + c) ≤ h ∧ h < d.reg (Reg.COL_FIRST + c) + d.reg (Reg.COL_COUNT + c) then some (h.toNat, k)
    else none)

/-- R228: a record's part for channel c with measurement channel i. -/
def Device.densAdd (d : Device) (r : List Nat) (c i : Nat) : Device :=
  let x := tget densCh0 d.cal.dens c
  let cols := d.densCols r c
  let early := match d.densFrom c with
    | some t => decide (fieldAtI r 8 8 < t)
    | none => false
  if cols.isEmpty || early || decide (d.regN Reg.DENS_FRAMES ≤ x.count) then d
  else
    let tab := cols.foldl (fun (t : Tab (Nat × Nat)) (hk : Nat × Nat) =>
      let ws := recCol r hk.2 i
      let old := tget (fun _ => (0, 0)) t hk.1
      tset (fun _ => (0, 0)) t hk.1 (old.1 + ws.2, old.2 + ws.1)) x.cols
    { d with cal := { d.cal with dens := tset densCh0 d.cal.dens c { count := x.count + 1, cols := tab } } }

/-- R228: a record is offered to the collection: `meas` is the MEAS_CONFIG it was measured by. -/
def Device.densRecord (d : Device) (r meas : List Nat) : Device :=
  let flags := fieldAt r 28 2
  if d.reg (Reg.CAL_STATE + 8) ≠ 1 ∨ bit (d.regN Reg.DENS_CONTEXTS) (fieldAt r 3 1) = false ∨
      (bit flags 6 || bit flags 3 || bit flags 2 || bit flags 5 || bit flags 9) = true then d
  else
    (List.range (fieldAt r 46 1)).foldl (fun (d : Device) i =>
      (allChans.filter (fun c => d.regN (Reg.HEAD_PLANE + c) == (measCh meas i).plane)).foldl
        (fun (d : Device) c => d.densAdd r c i) d) d

/-- R229: the gain curve value in force of plane p. -/
def Device.gainVal (d : Device) (p k y : Nat) : Nat :=
  match d.blob? (Reg.GAIN_FAMILY + p) with
  | none => gainDefault k y
  | some l => fieldAt l (512 * k + 2 * y) 2

/-- R229: y_c = TONE_CURVE[DENS_LEVEL]. -/
def Device.densTone (d : Device) (p : Nat) : Nat :=
  let x := d.regN (Reg.DENS_LEVEL + p)
  match d.blob? (Reg.TONE_CURVE + p) with
  | none => x
  | some l => l.getD x 0

/-- R167: the gain in force of a nozzle for the next line its Room renders. -/
def Device.gainNow (d : Device) (c n : Nat) : Nat :=
  let l := d.leff c
  nozGainAt ((d.nozMap c).valAt n l) d.slewPlan l

/-- R163: a column is void: none of its nozzles is able or DEVIANT. -/
def NozMap.colVoid (m : NozMap) (col : List Nat) : Bool := col.all (fun n => decide (3 ≤ nozState (m.shown n)))

/-- R228: the columns of channel c that are not skipped: head column, ΣSUM, ΣWEIGHT. -/
def Device.densUsed (d : Device) (c : Nat) : List (Nat × Nat × Nat) :=
  let x := tget densCh0 d.cal.dens c
  let m := d.nozMap c
  let cols := columnsOf (d.prof c) (d.regN (Reg.NOZZLES_PER_COL + c))
  x.cols.filterMap (fun e =>
    let col := cols.getD e.1 []
    let touched := col.any (fun n => decide (d.cal.densAt ≤ tget (fun _ => 0) m.lastChg n) &&
      decide (0 < tget (fun _ => 0) m.lastChg n))
    if e.2.2 < d.regN Reg.DENS_MIN_WEIGHT ∨ e.2.2 = 0 ∨ col.isEmpty = true ∨ m.colVoid col = true ∨ touched = true
      then none
    else some (e.1, e.2.1, e.2.2))

/-- R229: m_ref as a fraction: the plane's target, else the median of the columns' means (log entry 20). -/
def densRef (target : Nat) (l : List (Nat × Nat)) : Nat × Nat :=
  if target ≠ 0 then (target, 1)
  else
    let m := medianFrac 229 (l.map (fun x => ((x.1 : Int), (x.2 : Int))))
    (m.1.toNat, m.2.toNat)

/-- |δ − 1| × 1,000 against a limit, δ = (a / b) / (p / q): above it? -/
def densOver (m r : Nat × Nat) (limit : Nat) : Bool :=
  let num : Int := (m.1 * r.2 : Nat)
  let den : Int := (m.2 * r.1 : Nat)
  decide ((limit : Int) * den < (num - den).natAbs * 1000)

/-- R229: the code whose curve value lies nearest v_t = c_G × m_ref / m_col; ties go to the code nearer G. -/
def densCode (val : Nat → Nat) (g : Nat) (m r : Nat × Nat) : Nat :=
  let a : Int := (val g * r.1 * m.2 : Nat)
  let b : Int := (r.2 * m.1 : Nat)
  let dist (k : Nat) : Nat := ((val k : Int) * b - a).natAbs
  let near (k : Nat) : Nat := ((k : Int) - (g : Int)).natAbs
  (List.range 64).foldl (fun best k =>
    if dist k < dist best ∨ (dist k = dist best ∧ near k < near best) then k else best) 0

/-- A word with another GAIN. -/
def withGain (w g : Nat) : Nat := w - nozGain w * 8 + g * 8

/-- R229, R230: one column: its new gain on both nozzles. -/
def Device.densColumn (d : Device) (c p : Nat) (col : List Nat) (m r : Nat × Nat) : Device × Nat :=
  let g := d.gainNow c (col.headD 0)
  let y := d.densTone p
  let k := densCode (fun i => d.gainVal p i y) g m r
  let step := d.regN Reg.DENS_MAX_STEP
  let lim := clampN (g - step) (Nat.min 63 (g + step)) k
  let d1 := if lim = k then d else d.incReg Reg.DENS_SATURATED
  (col.foldl (fun (d : Device) n =>
    (d.writeNoz c n (withGain ((d.nozMap c).newest n) lim)).setOrigin c n (setBit ((d.nozMap c).originOf n) 2)) d1,
   (col.filter (fun n => nozGain ((d.nozMap c).newest n) != lim)).length)

/-- R229, R230: one channel: nozzles changed, rejected. -/
def Device.densChan (d : Device) (c : Nat) : Device × Nat × Nat :=
  let p := d.regN (Reg.HEAD_PLANE + c)
  let used := d.densUsed c
  let r := densRef (d.regN (Reg.DENS_TARGET + p)) (used.map (fun e => e.2))
  let out := used.filter (fun e => r.1 == 0 || densOver e.2 r (d.regN Reg.DENS_MAX_PERMILLE))
  let cols := columnsOf (d.prof c) (d.regN (Reg.NOZZLES_PER_COL + c))
  if d.regN Reg.DENS_HEAD_REJECT_PERMILLE * used.length < out.length * 1000 then
    (d.calReject 8 c (d.reg Reg.DENS_HEAD_REJECT_PERMILLE), 0, 1)
  else
    let todo := used.filter (fun e => !out.contains e && densOver e.2 r (d.regN Reg.DENS_DEADBAND_PERMILLE))
    let l := d.leff c
    let x := todo.foldl (fun (a : Device × Nat) e =>
      let y := a.1.densColumn c p (cols.getD e.1 []) e.2 r
      (y.1, a.2 + y.2)) (d, 0)
    let d1 := if x.2 = 0 then x.1 else { x.1 with cal := { x.1.cal with densLeff := assocSet x.1.cal.densLeff c l } }
    (d1, x.2, 0)

/-- The channels a density run collects for. -/
def Device.densChans (d : Device) : List Nat := d.cal.dens.map Prod.fst

/-- DENS_APPLY is due: every channel seen has its DENS_FRAMES records. -/
def Device.densDue (d : Device) : Bool :=
  d.reg (Reg.CAL_STATE + 8) == 1 && !d.densChans.isEmpty &&
    d.cal.dens.all (fun e => decide (d.regN Reg.DENS_FRAMES ≤ e.2.count))

/-- A density collection begins; one that follows an application sees only the changes after it. -/
def Device.densStart (d : Device) (at_ : Nat) : Device :=
  { d.setReg (Reg.CAL_STATE + 8) 1 with cal := { d.cal with densAt := at_, dens := [] } }

/-- DENS_APPLY (R229): the gains are computed and written; with CAL_AUTO the class collects again. -/
def Device.densApply (d : Device) : Device :=
  if d.densDue then
    let r := d.densChans.foldl (fun (a : Device × Nat × Nat × Nat) c =>
      let x := a.1.densChan c
      (x.1, (if x.2.1 = 0 then a.2.1 else a.2.1 + 1), a.2.2.1 + x.2.1, a.2.2.2 + x.2.2)) (d, 0, 0, 0)
    let d1 := r.1.calEnd 8 r.2.1 r.2.2.1 r.2.2.2
    if d1.regB (Reg.CAL_AUTO + 8) then d1.densStart (d1.now + 1) else d1
  else d

/-! ### Registration (R231 … R233) -/

/-- One entry of REG_MARKS (R231). -/
structure RegMark where
  source  : Nat
  unit    : Nat
  region  : Nat
  kind    : Nat
  target  : Nat
  ref     : Nat
  nominal : Int
deriving DecidableEq, Repr

/-- Entry i of REG_MARKS. -/
def regMark (l : List Nat) (i : Nat) : RegMark :=
  let b := 16 * i
  { source := fieldAt l b 1, unit := fieldAt l (b + 1) 1, region := fieldAt l (b + 2) 1, kind := fieldAt l (b + 3) 1,
    target := fieldAt l (b + 4) 1, ref := fieldAt l (b + 5) 1, nominal := fieldAtI l (b + 8) 4 }

/-- R231: a REG_MARKS write. -/
def regMarksVerify (l : List Nat) : Status :=
  let ms := (List.range 16).map (regMark l)
  if l.length ≠ 260 then .length
  else if crc32c (l.take 256) ≠ fieldAt l 256 4 then .check
  else if (List.range 16).any (fun i => fieldAt l (16 * i + 6) 2 != 0 || fieldAt l (16 * i + 12) 4 != 0) then .reserved
  else if (List.range 16).any (fun i =>
      let m := ms.getD i ⟨0, 0, 0, 0, 0, 0, 0⟩
      let r := ms.getD m.ref ⟨0, 0, 0, 0, 0, 0, 0⟩
      m.source != 0 && (decide (2 < m.source) || decide (7 < m.unit) || decide (15 < m.region) || decide (2 < m.kind) ||
        (m.source == 2 && m.region != 0) || (m.kind == 1 && decide (15 < m.target)) ||
        (m.kind == 2 && decide (191 < m.target)) || (m.kind == 0 && (m.target != 0 || m.ref != i)) ||
        decide (15 < m.ref) || r.source == 0 || r.ref != m.ref)) then .range
  else .ok

/-- The marks in force for line g: their numbers and entries, the used ones. -/
def Device.regMarks (d : Device) : List (Nat × RegMark) :=
  match d.blob? Reg.REG_MARKS with
  | none => []
  | some l => ((List.range 16).map (fun i => (i, regMark l i))).filter (fun p => p.2.source != 0)

/-- The trim entry that a mark corrects. -/
def RegMark.key (m : RegMark) : Nat :=
  if m.kind = 1 then Reg.PLANE_TRIM_PU + m.target else Reg.HEAD_TRIM_PU + m.target

/-- R232: measurements below this PT are ignored for a target. -/
def Device.settleFrom (d : Device) (k : Nat) : Option Int :=
  (assoc d.cal.settle k).map (fun g =>
    d.mantel.boundary ((g + d.regN Reg.REG_SETTLE_LINES : Nat) : Int) + d.reg Reg.CAM_OFFSET_PU)

/-- R232: one measurement of mark i. -/
def Device.regMeasure (d : Device) (i : Nat) (m : RegMark) (pt ref : Int) : Device :=
  let ignored := match d.settleFrom m.key with
    | some t => decide (pt < t)
    | none => false
  let n := (d.cal.regMeas.filter (fun p => p.1 == i)).length
  if ignored || decide (d.regN Reg.REG_FRAMES ≤ n) then d
  else
    let e := (pt - ref) - roundDiv (m.nominal * (d.mantel.num : Int) * 1024) d.mantel.den
    { d with cal := { d.cal with regMeas := (i, e) :: d.cal.regMeas } }

/-- Where the mark of a region lies in a record (R219). -/
def recMarkAt (r : List Nat) (region : Nat) : Nat :=
  let nc := fieldAt r 46 1
  64 + fieldAt r 44 2 * (4 + 4 * nc) + nc * 1024 + 24 * region

/-- The mark of a region in a record (R219): found and PT. -/
def recMark (r : List Nat) (region : Nat) : Option Int :=
  let o := recMarkAt r region
  if region < fieldAt r 47 1 ∧ fieldAt r (o + 1) 1 = 1 then some (fieldAtI r (o + 8) 8) else none

/-- R232: the reference PT of a probe mark: the first ROLE 2 latch at or after it, kept or still to come. -/
def Device.regProbeRef (d : Device) (i : Nat) (m : RegMark) (ref : Int) : Device :=
  match (d.cal.latches.reverse).find? (fun l => l.1 == m.unit && decide (ref ≤ l.2)) with
  | some l => d.regMeasure i m l.2 ref
  | none => { d with cal := { d.cal with regRefs := assocSet d.cal.regRefs i ref } }

/-- R232: the reference mark j stands at PT ref: the probe marks that name it take it. -/
def Device.regRefSeen (d : Device) (j : Nat) (ref : Int) : Device :=
  (d.regMarks.filter (fun p => p.2.ref == j && p.1 != j && p.2.source == 2)).foldl
    (fun (d : Device) p => d.regProbeRef p.1 p.2 ref) d

/-- R232: the cross-web position X of mark i, which is reported and not applied: the entry that would carry it is open, and
the model keeps it beside the result (log entry 151). -/
def Device.noteX (d : Device) (i : Nat) (r : List Nat) (region : Nat) : Device :=
  { d with cal := { d.cal with regX := assocSet d.cal.regX i (fieldAt r (recMarkAt r region + 4) 4) } }

/-- R232: a record's marks: a camera mark needs its reference in the same record. -/
def Device.regRecord (d : Device) (r : List Nat) : Device :=
  let ctx := fieldAt r 3 1
  if d.reg (Reg.CAL_STATE + 9) ≠ 1 ∨ bit (fieldAt r 28 2) 9 = true then d
  else
    let ms := d.regMarks
    let here (m : RegMark) : Option Int := if m.source = 1 ∧ m.unit = ctx then recMark r m.region else none
    let refOf (j : Nat) : Option Int := ((ms.find? (fun p => p.1 == j)).map (fun p => here p.2)).join
    let d1 := ms.foldl (fun (d : Device) p =>
      if p.2.kind = 0 then d
      else match here p.2, refOf p.2.ref with
        | some pt, some ref => (d.noteX p.1 r p.2.region).regMeasure p.1 p.2 pt ref
        | _, _ => d) d
    (ms.filter (fun p => p.2.kind == 0)).foldl (fun (d : Device) p =>
      match here p.2 with
      | some ref => d.regRefSeen p.1 ref
      | none => d) d1

/-- R68, R232: a ROLE 2 latch of probe input n at PT pt. -/
def Device.regLatch (d : Device) (n : Nat) (pt : Int) : Device :=
  if d.reg (Reg.CAL_STATE + 9) ≠ 1 then d
  else
    let d0 := { d with cal := { d.cal with latches := (n, pt) :: d.cal.latches } }
    let ms := d.regMarks.filter (fun p => p.2.source == 2 && p.2.unit == n)
    let d1 := ms.foldl (fun (d : Device) p =>
      match assoc d.cal.regRefs p.1 with
      | none => d
      | some ref =>
        if ref ≤ pt then
          ({ d with cal := { d.cal with regRefs := assocDel d.cal.regRefs p.1 } }).regMeasure p.1 p.2 pt ref
        else d) d0
    (ms.filter (fun p => p.2.kind == 0)).foldl (fun (d : Device) p => d.regRefSeen p.1 pt) d1

/-- A mean of e over the measurements of the listed marks: sum and count. -/
def Device.regMean (d : Device) (marks : List Nat) : Int × Nat :=
  let l := d.cal.regMeas.filter (fun p => marks.contains p.1)
  (sumI (l.map Prod.snd), l.length)

/-- R232: one target: the mean `num / den` moves its trim; changed, rejected, the correction made. -/
def Device.regTarget (d : Device) (k target : Nat) (num : Int) (den : Nat) : Device × Nat × Nat × Int :=
  if den = 0 ∨ d.hostWrote k d.cal.regAt = true then (d, 0, 0, 0)
  else if d.reg Reg.REG_MAX_PU * (den : Int) < (num.natAbs : Int) then
    (d.calReject 9 target (d.reg Reg.REG_MAX_PU), 0, 1, 0)
  else
    let corr := roundDiv (num * d.reg Reg.REG_GAIN_PERMILLE) ((den : Int) * 1000)
    if corr = 0 then (d, 0, 0, 0)
    else
      (d.calSet k (d.reg k - corr), 1, 0, corr)

/-- The targets of one kind of mark, each once. -/
def regTargets (ms : List (Nat × RegMark)) (kind : Nat) : List Nat :=
  ((ms.filter (fun p => p.2.kind == kind)).map (fun p => p.2.target)).eraseDups

/-- The marks of one target. -/
def marksOf (ms : List (Nat × RegMark)) (kind t : Nat) : List Nat :=
  (ms.filter (fun p => p.2.kind == kind && p.2.target == t)).map Prod.fst

/-- A registration run's progress over its targets. -/
structure RegAcc where
  d    : Device
  chg  : Nat
  rej  : Nat
  corr : List (Nat × Int)
deriving DecidableEq, Repr

/-- R232: the plane targets. -/
def Device.regPlanes (d : Device) (ms : List (Nat × RegMark)) : RegAcc :=
  (regTargets ms 1).foldl (fun (a : RegAcc) p =>
    let mean := a.d.regMean (marksOf ms 1 p)
    let x := a.d.regTarget (Reg.PLANE_TRIM_PU + p) p mean.1 mean.2
    { d := x.1, chg := a.chg + x.2.1, rej := a.rej + x.2.2.1, corr := (p, x.2.2.2) :: a.corr })
    { d := d, chg := 0, rej := 0, corr := [] }

/-- R232: the channel targets: the correction just made to the channel's plane is subtracted from their mean. -/
def RegAcc.channels (a0 : RegAcc) (ms : List (Nat × RegMark)) : RegAcc :=
  (regTargets ms 2).foldl (fun (a : RegAcc) c =>
    let mean := a.d.regMean (marksOf ms 2 c)
    let pc := (assoc a.corr (a.d.regN (Reg.HEAD_PLANE + c))).getD 0
    let x := a.d.regTarget (Reg.HEAD_TRIM_PU + c) c (mean.1 - pc * (mean.2 : Int)) mean.2
    { a with d := x.1, chg := a.chg + x.2.1, rej := a.rej + x.2.2.1 }) a0

/-- REG_APPLY is due: every mark that is not a reference has its REG_FRAMES measurements. -/
def Device.regDue (d : Device) : Bool :=
  let ms := d.regMarks.filter (fun p => p.2.kind != 0)
  d.reg (Reg.CAL_STATE + 9) == 1 && !ms.isEmpty &&
    ms.all (fun p => decide (d.regN Reg.REG_FRAMES ≤ (d.cal.regMeas.filter (fun x => x.1 == p.1)).length))

/-- A registration collection begins. -/
def Device.regStart (d : Device) : Device :=
  { d.setReg (Reg.CAL_STATE + 9) 1 with
    cal := { d.cal with regAt := d.now, regMeas := [], regRefs := [], latches := [] } }

/-- REG_APPLY (R232): the trim targets move; with CAL_AUTO the class collects again. -/
def Device.regApply (d : Device) : Device :=
  if d.regDue then
    let ms := d.regMarks
    let a := (d.regPlanes ms).channels ms
    let d1 := a.d.calEnd 9 a.chg 0 a.rej
    if d1.regB (Reg.CAL_AUTO + 9) then d1.regStart else d1
  else d

/-- R219, R316: a record reaches the calibration manager. -/
def Device.calRecord (d : Device) (r meas : List Nat) : Device := (d.densRecord r meas).regRecord r

/-! ### On-chip classes (R223, R224) -/

/-- The 8 segments chosen give taps whose largest error is this, ps; the total of the 8 last. -/
def tapError (seg : List Nat) (sel : List Nat) : Nat × Nat :=
  let r := sel.foldl (fun (a : Nat × Nat × Nat) i =>
    let t := a.1 + seg.getD i 0
    let k := a.2.1 + 1
    (t, k, Nat.max a.2.2 ((t : Int) - (k * 250 : Nat)).natAbs)) (0, 0, 0)
  (r.2.2, r.1)

/-- The subsets of n of a list, in order. -/
def choose {α : Type} : Nat → List α → List (List α)
  | 0, _ => [[]]
  | _ + 1, [] => []
  | n + 1, x :: xs => (choose n xs).map (fun l => x :: l) ++ choose (n + 1) xs

/-- R224: the 8 of 12 segments whose taps have the smallest largest error; among equals the choice is open. -/
def chooseTaps (seg : List Nat) : List Nat :=
  let all := choose 8 (List.range 12)
  let best := minN 100000 (all.map (fun s => (tapError seg s).1))
  let l := all.filter (fun s => (tapError seg s).1 == best)
  l.getD ((Config.unstated 224 (seg.map Int.ofNat)).toNat % Nat.max 1 l.length) []

/-- R223: the limit of class 0. -/
def tapsOk (seg sel : List Nat) : Bool :=
  let e := tapError seg sel
  sel.length == 8 && decide (e.1 ≤ 60) && decide (1960 ≤ e.2) && decide (e.2 ≤ 2040)

/-- R223: the limit of class 0 that a selection fails first: a tap's ±60 ps, else the bound of the total. -/
def tapsFail (seg sel : List Nat) : Int :=
  let e := tapError seg sel
  if 60 < e.1 then 60 else if e.2 < 1960 then 1960 else 2040

/-- R224: class 0 of copy i at a Mantel reset, from the segments as measured (ps): the choice, else the selection recorded,
else the factory selection, else the copy fails its self-test and stays retired (R99). With it, whether the choice passed
its limit. -/
def Device.delayCal (d : Device) (i : Nat) (seg : List Nat) : Device × Bool :=
  let sel := chooseTaps seg
  let old := if d.cal.delayUser.isEmpty then [0, 0, 0] else d.cal.delayUser
  let user := bitsOf 12 (old.getD i 0)
  let fac := if bit (d.regN Reg.FACTORY_VALID) 0 then bitsOf 12 (d.fuse (256 + 2 * i) 2) else []
  let put (d : Device) (l : List Nat) : Device :=
    (d.setRegN (Reg.DELAY_SEL_IN_FORCE + i) (maskOf l)).setRegN Reg.COPY_RETIRED (clrBit (d.regN Reg.COPY_RETIRED) i)
  if tapsOk seg sel then
    let d1 := put d sel
    (({ d1 with cal := { d1.cal with delayUser := old.set i (maskOf sel) } }).markDirty 1 0, true)
  else
    let d1 := d.calReject 0 i (tapsFail seg sel)
    if tapsOk seg user then (put d1 user, false)
    else if tapsOk seg fac then (put d1 fac, false)
    else (d1.setRegN Reg.COPY_RETIRED (setBit (d1.regN Reg.COPY_RETIRED) i), false)

/-- R99: what the copies retired leave: none TRIPLEX, one DUPLEX, more HALTED. -/
def Device.voteRestart (d : Device) : Device :=
  let n := popCount 3 (d.regN Reg.COPY_RETIRED)
  if n = 0 then d.setReg Reg.VOTE_STATE 0
  else if n = 1 then d.setReg Reg.VOTE_STATE 2
  else d.voteHalt

/-- R99, R224: class 0 over the three copies. A reset that brings no measurement leaves the selection as it is. -/
def Device.runDelay (d : Device) (segs : List (List Nat)) : Device :=
  if segs.isEmpty then d.voteRestart
  else
    let r := [0, 1, 2].foldl (fun (a : Device × Bool) i =>
      let x := a.1.delayCal i (segs.getD i [])
      (x.1, a.2 && x.2)) (d, true)
    (r.1.calDone 0 (if r.2 then calApplied else calRejected)).voteRestart

/-- AIN_TRIM_WRITE (the note after R244): a write of a trim is a class 2 calibration. -/
def Device.ainTrimmed (d : Device) : Device := (d.calDone 2 calApplied).markDirty 1 0

/-- R224: the corrected reading of analog input i. -/
def Device.ainCorrect (d : Device) (i : Nat) (raw : Int) : Int :=
  let valid := bit (d.regN Reg.FACTORY_VALID) 2
  let fg := if valid then d.fuseI (296 + 4 * i) 2 else 0
  let fo := if valid then d.fuseI (298 + 4 * i) 2 else 0
  let f := quotOpen 224 (raw * (65536 + fg)) 65536 + fo
  quotOpen 224 (f * (65536 + d.reg (Reg.AIN_TRIM_GAIN + i))) 65536 + d.reg (Reg.AIN_TRIM_OFFSET + i)

/-! ### Commands (R234) -/

/-- R234: the status of CAL_CMD. -/
def Device.calCmdCheck (d : Device) (cmd : Nat) : Status :=
  let c := d.regN Reg.CAL_CLASS_SEL
  let st := d.reg (Reg.CAL_STATE + c)
  if cmd = 1 then if c < 5 ∨ 9 < c then .range else if st ≠ 0 then .busy else .ok
  else if cmd = 3 then if st = 1 then .state else .ok
  else .ok

/-- R234, 01h: one run of the selected class. -/
def Device.calRun (d : Device) : Device :=
  let c := d.regN Reg.CAL_CLASS_SEL
  if c = 5 then d.runFlight
  else if c = 6 then d.runNozzles true false
  else if c = 7 then d.runNozzles false true
  else if c = 8 then d.densStart d.now
  else if c = 9 then d.regStart
  else d

/-- R234, 02h: collection ends; nothing is applied. -/
def Device.calAbort (d : Device) : Device :=
  let c := d.regN Reg.CAL_CLASS_SEL
  (d.setReg (Reg.CAL_STATE + c) 0).calDone c calAborted

/-- R234, 03h: every field whose origin bit is set returns to its default. -/
def Device.revertNoz (d : Device) (b : Nat) (f : Nat → Nat) : Device :=
  allChans.foldl (fun (d : Device) c =>
    ((List.range (d.mapLen c)).filter (fun n => bit ((d.nozMap c).originOf n) b)).foldl (fun (d : Device) n =>
      (d.writeNoz c n (f ((d.nozMap c).newest n))).setOrigin c n (clrBit ((d.nozMap c).originOf n) b)) d) d

/-- R234, 03h, class 0: the factory selection where there is one, else the default. -/
def Device.revertDelay (d : Device) : Device :=
  let d1 := [0, 1, 2].foldl (fun (d : Device) i =>
    let f := if bit (d.regN Reg.FACTORY_VALID) 0 then d.fuse (256 + 2 * i) 2 else 0
    d.setRegN (Reg.DELAY_SEL_IN_FORCE + i) f) d
  { d1 with cal := { d1.cal with delayUser := [] } }.markDirty 1 0

/-- R234, 03h: the user record of the selected class is discarded. -/
def Device.calRevert (d : Device) : Device :=
  let c := d.regN Reg.CAL_CLASS_SEL
  if c = 0 then d.revertDelay
  else if c = 2 then
    ((List.range 16).foldl (fun (d : Device) i =>
      (d.setReg (Reg.AIN_TRIM_GAIN + i) 0).setReg (Reg.AIN_TRIM_OFFSET + i) 0) d).markDirty 1 0
  else if c = 3 then ({ d with cal := { d.cal with laneEx := [255, 255, 255, 255] } }).markDirty 1 0
  else if c = 4 then ({ d with cal := { d.cal with retired := 0 } }).markDirty 1 0
  else if c = 5 then
    allChans.foldl (fun (d : Device) c =>
      if d.reg (Reg.FLIGHT_NS + c) = 0 then d else d.calSet (Reg.FLIGHT_NS + c) 0) d
  else if c = 6 then d.revertNoz 0 (fun w => nozWithState w 0)
  else if c = 7 then d.revertNoz 1 (fun w => withShare w 0)
  else if c = 8 then d.revertNoz 2 (fun w => withGain w 32)
  else if c = 9 then
    let d1 := allChans.foldl (fun (d : Device) c =>
      if d.reg (Reg.HEAD_TRIM_PU + c) = 0 then d else d.calSet (Reg.HEAD_TRIM_PU + c) 0) d
    (List.range 16).foldl (fun (d : Device) p =>
      if d.reg (Reg.PLANE_TRIM_PU + p) = 0 then d else d.calSet (Reg.PLANE_TRIM_PU + p) 0) d1
  else d

end Sys2Proof.Machine
end

