-- ==== Sys2Proof/Machine/BoilerOps.lean ====
section
/-! DEFINITION. The Boiler: loop slots, their compensator in fixed point and binary32, the plant model, the safe state,
enable and shutdown, the PWM outputs and the monitor conversions (R265 … R281). -/
namespace Sys2Proof.Machine

/-- The default record of every slot. -/
def slot0 (_ : Nat) : Slot := {}

/-- Slot s. -/
def Device.slot (d : Device) (s : Nat) : Slot := tget slot0 d.boiler.slots s

/-- Write slot s. -/
def Device.setSlot (d : Device) (s : Nat) (x : Slot) : Device :=
  { d with boiler := { d.boiler with slots := tset slot0 d.boiler.slots s x } }

/-- An entry of slot s. -/
def Device.lp (d : Device) (s k : Nat) : Int := d.reg (Reg.un k s)

/-- An entry of slot s as a natural. -/
def Device.lpN (d : Device) (s k : Nat) : Nat := (d.lp s k).toNat

/-- Write an entry of slot s. -/
def Device.setLp (d : Device) (s k : Nat) (v : Int) : Device := d.setReg (Reg.un k s) v

/-- An at-reset entry of slot s as it will act at the enable. -/
def Device.lpStored (d : Device) (s k : Nat) : Int :=
  match assoc d.dict.stored (Reg.un k s) with
  | some (.n v) => v
  | _ => d.lp s k

/-- R270, R276: an entry of slot s as the next samples use it: a running slot keeps what its enable took, any other slot
takes what is stored for its enable or restore. -/
def Device.lpAct (d : Device) (s k : Nat) : Int := if d.lp s Reg.LOOP_STATE = 3 then d.lp s k else d.lpStored s k

/-- All slots. -/
def allSlots : List Nat := List.range 64

/-- LOOP_STATE of slot s. -/
def Device.loopState (d : Device) (s : Nat) : Int := d.lp s Reg.LOOP_STATE

/-- A slot that takes samples: RUN or SAFE. -/
def Device.loopLive (d : Device) (s : Nat) : Bool := d.loopState s == 3 || d.loopState s == 4

/-- R278: the slot is enabled: it runs, is SAFE, or its enable is pending. -/
def Device.loopEnabled (d : Device) (s : Nat) : Bool := d.lp s Reg.LOOP_ENABLE != 0

/-! ### Quantisation (R270) -/

/-- R461 on a finite binary32 value scaled by a quotient of integers. -/
def quant (b : Nat) (num den : Int) : Int := f32RoundScaled b num den

/-- R270: the fixed-point coefficient of a binary32 value at SCALE_SHIFT k. -/
def coefQ (b k : Nat) : Int := quant b 32768 (2 ^ k : Nat)

/-- R270: every other value, limited to 16 bits. -/
def valueQ (b : Nat) : Int := clampI (-32768) 32767 (quant b 32768 1)

/-- The coefficient subindices B0 … A3. -/
def isCoef (sub : Nat) : Bool := decide (0x13 ≤ sub ∧ sub ≤ 0x19)

/-- The subindices of R270's other quantised values: SETPOINT, SP_SLEW, OUT_MIN, OUT_MAX and INIT_OUT. -/
def isLoopValue (sub : Nat) : Bool := sub == 0x11 || sub == 0x12 || sub == 0x1B || sub == 0x1C || sub == 0x1D

/-- R270: the binary32 value that an entry of FORMAT 0 reads back, or none where the coefficient is out of range. -/
def loopQuant (k sub b : Nat) : Option Nat :=
  if isCoef sub then
    let q := coefQ b k
    if q < -32768 ∨ 32767 < q then none else some (f32OfRat (q * (2 ^ k : Nat)) 32768)
  else if isLoopValue sub then some (f32OfRat (valueQ b) 32768)
  else some b

/-- Saturation to w bits, signed. -/
def satW (w : Nat) (v : Int) : Int := clampI (-(2 ^ (w - 1) : Nat)) ((2 ^ (w - 1) : Nat) - 1) v

/-- Arithmetic right shift. -/
def asr (v : Int) (n : Nat) : Int := v.fdiv (2 ^ n : Nat)

/-- Left shift. -/
def shl (v : Int) (n : Nat) : Int := v * (2 ^ n : Nat)

/-! ### Load (R265, R266) -/

/-- R265: cost of one sample in CTRL cycles. -/
def sampleCost (fmt : Int) : Nat := if fmt = 0 then 48 else 64

/-- R265: SAMPLE_HZ × cost over the enabled slots other than `but`. -/
def Device.loopCost (d : Device) (but : Nat) : Nat :=
  ((allSlots.filter (fun s => s != but && d.loopEnabled s)).map
    (fun s => d.lpN s Reg.SAMPLE_HZ * sampleCost (d.lp s Reg.FORMAT))).foldl (· + ·) 0

/-- R265: LOOP_LOAD_PERMILLE. -/
def Device.loopLoad (d : Device) : Nat := (quotOpen 265 (d.loopCost 64) 400000).toNat

/-- R266: samples per second of the shared converter, without slot `but` and with input `i` at `hz` when given. -/
def Device.ainRate (d : Device) (but : Nat) (mon : Option (Nat × Nat)) : Nat :=
  let a := ((allSlots.filter (fun s => s != but && d.loopEnabled s && d.lp s Reg.SRC_KIND == 1)).map
    (fun s => d.lpN s Reg.SAMPLE_HZ)).foldl (· + ·) 0
  let hzOf (i : Nat) : Nat :=
    match mon with
    | some (j, v) => if i = j then v else d.regN (Reg.un Reg.AIN_MON_HZ i)
    | none => d.regN (Reg.un Reg.AIN_MON_HZ i)
  a + ((List.range 16).map hzOf).foldl (· + ·) 0

/-- R266: AIN_LOAD_KSPS. -/
def Device.ainLoad (d : Device) : Nat := (quotOpen 266 (d.ainRate 64 none) 1000).toNat

/-- R266: a write of AIN_MON_HZ may not raise the converter's load above 2,000 kS/s. -/
def Device.ainMonOk (d : Device) (i hz : Nat) : Bool :=
  decide (d.ainRate 64 (some (i, hz)) ≤ 2000000) ||
    decide (hz ≤ d.regN (Reg.un Reg.AIN_MON_HZ i))

/-- R267: bits of a frame of slot s. -/
def Device.spiBits (d : Device) (s : Nat) : Nat :=
  8 * ((d.lpStored s Reg.SPI_CMD_BYTES).toNat + (d.lpStored s Reg.SPI_READ_BYTES).toNat)

/-- R267: the queue of a bus, slot s among it, takes less than half the sample period of s. -/
def Device.spiFits (d : Device) (s : Nat) : Bool :=
  let bus := (d.lpStored s Reg.SRC_UNIT).toNat / 4
  let others := allSlots.filter (fun o => o != s && d.loopEnabled o && d.lp o Reg.SRC_KIND == 2 &&
    d.lpN o Reg.SRC_UNIT / 4 == bus)
  let bits := d.spiBits s +
    ((others.map (fun o => 8 * (d.lpN o Reg.SPI_CMD_BYTES + d.lpN o Reg.SPI_READ_BYTES))).foldl (· + ·) 0)
  let khz := d.regN (Reg.un Reg.SPI_KHZ bus)
  decide ((bits * 1000000 + 200 * (others.length + 1) * khz) * 2 * (d.lpStored s Reg.SAMPLE_HZ).toNat <
    1000000000 * khz)

/-- R275: the dead time in samples. -/
def deadSamples (b hz : Nat) : Int := quant b hz 1

/-- R270: every coefficient of slot s fits at FORMAT and SCALE_SHIFT as they will act. -/
def Device.coefsFit (d : Device) (s : Nat) : Bool :=
  d.lpStored s Reg.FORMAT != 0 ||
    (List.range 7).all (fun i => (loopQuant (d.lpStored s Reg.SCALE_SHIFT).toNat (0x13 + i)
      (d.lpN s (Reg.B0 + i))).isSome)

/-- R266: SRC_UNIT names a unit of SRC_KIND. -/
def srcUnitOk (kind unit : Int) : Bool :=
  if kind = 1 ∨ kind = 2 then decide (unit ≤ 15) else kind == 3 && decide (unit ≤ 191)

/-- R265 … R267, R274, R275: what an enable is refused with. -/
def Device.loopCheck (d : Device) (s : Nat) : Status :=
  let hz := (d.lpStored s Reg.SAMPLE_HZ).toNat
  let kind := d.lpStored s Reg.SRC_KIND
  let unit := d.lpStored s Reg.SRC_UNIT
  let out := (d.lpStored s Reg.OUT_PWM).toNat
  let load := d.loopCost s + hz * sampleCost (d.lpStored s Reg.FORMAT)
  let ainOk := kind != 1 || decide (d.ainRate s none + hz ≤ 2000000)
  let fieldOk := decide (d.lpStored s Reg.FIELD_LSB + d.lpStored s Reg.FIELD_BITS ≤ 8 * d.lpStored s Reg.SPI_READ_BYTES)
  let outOk := out == 255 || !allSlots.any (fun o => o != s && (d.slot o).out == out)
  if kind = 0 ∨ srcUnitOk kind unit = false ∨ 400000000 < load ∨ ainOk = false then .range
  else if kind = 3 ∧ 2000 < hz then .range
  else if kind = 2 ∧ (fieldOk = false ∨ d.spiFits s = false) then .range
  else if outOk = false ∨ 255 < deadSamples (d.lpN s Reg.MODEL_DEAD_S) hz ∨ d.coefsFit s = false then .range
  else .ok

/-! ### Inputs (R266 … R269) -/

/-- Where the sample of slot s comes from: its raw value, or none where the sample failed. -/
def Device.ainTake (d : Device) (i : Nat) (raw : Nat) : Device × Nat :=
  let c := (clampI 0 65535 (d.ainCorrect i raw)).toNat
  (d.setRegN (Reg.un Reg.AIN_CODE i) c, c)

/-- R267: a frame of slot s on its bus: the chip select, then the command bytes in the bus's mode, at the sample instant
or behind the frame before it. The chip select stays released for 200 ns after it. -/
def Device.spiSend (d : Device) (s : Nat) : Device :=
  let unit := d.lpN s Reg.SRC_UNIT
  let bus := unit / 4
  let cmd := (leBytes (d.lpN s Reg.SPI_CMD_BYTES) (d.lpN s Reg.SPI_CMD)).reverse
  let free := (assoc d.boiler.busTo bus).getD 0
  let start := if d.ps < free then free else d.ps
  let bits := 8 * (d.lpN s Reg.SPI_CMD_BYTES + d.lpN s Reg.SPI_READ_BYTES)
  let stop := start + bits * 1000000000 / d.regN (Reg.un Reg.SPI_KHZ bus) + 200000
  ({ d with boiler := { d.boiler with busTo := assocSet d.boiler.busTo bus stop } } : Device).send
    (.spi bus (d.regN (Reg.un Reg.SPI_MODE bus)) start ((unit % 4) :: cmd))

/-- R267: a frame of a lower slot on the bus of slot s is due together with that of s and has not run. -/
def Device.spiBehind (d : Device) (s : Nat) : Bool :=
  let bus := d.lpN s Reg.SRC_UNIT / 4
  d.lp s Reg.SRC_KIND == 2 && (List.range s).any (fun o => d.loopLive o && d.lp o Reg.SRC_KIND == 2 &&
    d.lpN o Reg.SRC_UNIT / 4 == bus && (d.slot o).sampleAt == (d.slot s).sampleAt)

/-- R267: a bus sample: the frame goes out, and the word that came in is judged. -/
def Device.spiTake (d : Device) (s w : Nat) : Device × Option Int :=
  let bus := d.lpN s Reg.SRC_UNIT / 4
  let d1 := d.spiSend s
  let word := w % 2 ^ (8 * d.lpN s Reg.SPI_READ_BYTES)
  if word &&& d.lpN s Reg.STATUS_MASK != 0 then
    let d2 := d1.incReg (Reg.un Reg.SPI_ERRORS bus)
    let d3 := if oncePerSecond d.now (assoc d.boiler.busErr bus) then
        ({ d2 with boiler := { d2.boiler with busErr := assocSet d2.boiler.busErr bus d.now } } : Device).raise
          Ev.LOOP_SENSOR_BUS_ERROR bus [.u 0 (d2.regN (Reg.un Reg.SPI_ERRORS bus))]
      else d2
    (d3, none)
  else
    let n := d.lpN s Reg.FIELD_BITS
    let f := (word >>> d.lpN s Reg.FIELD_LSB) % 2 ^ n
    (d1, some (if d.lp s Reg.FIELD_SIGNED != 0 then toSigned n f else (f : Int)))

/-- R266: a head-temperature sample; one with no new poll counts an overrun. -/
def Device.tempTake (d : Device) (s : Nat) : Device × Option Int :=
  let c := d.lpN s Reg.SRC_UNIT
  let x := d.slot s
  let p := (d.chan c).polls
  let d1 := d.setSlot s { x with polls := p }
  if d.present c = false then (d1, none)
  else
    let t := d.reg (Reg.TEMP_DC + c)
    if p = x.polls then
      let d2 := d1.incReg (Reg.un Reg.OVERRUNS s)
      let d3 := if oncePerSecond d.now x.overAt then
          (d2.setSlot s { d2.slot s with overAt := some d.now }).raise Ev.LOOP_OVERRUN s
            [.u 0 (d2.regN (Reg.un Reg.OVERRUNS s))]
        else d2
      (d3, some t)
    else (d1, some t)

/-- R266: the raw value of one sample. -/
def Device.loopTake (d : Device) (s inp : Nat) : Device × Option Int :=
  let kind := d.lp s Reg.SRC_KIND
  if kind = 1 then
    let i := d.lpN s Reg.SRC_UNIT
    let (d1, c) := d.ainTake i inp
    if d.lpN s Reg.SRC_UNIT < 16 ∧ d.regB (Reg.un Reg.RAIL_CHECK i) ∧ (c = 0 ∨ c = 65535) then (d1, none)
    else (d1, some (c : Int))
  else if kind = 2 then d.spiTake s inp
  else d.tempTake s

/-- R269: the measurement of a raw value. -/
def Device.loopMeas (d : Device) (s fmt : Nat) (r : Int) : Int :=
  let mul := d.lp s Reg.IN_MUL
  let sh := d.lpN s Reg.IN_SHIFT
  let add := d.lp s Reg.IN_ADD
  if fmt = 0 then satW 16 (asr (r * mul) sh + add)
  else (f32Add (f32Mul (f32OfInt (r * mul)) ((127 - sh) * 2 ^ 23)) (f32OfInt add) : Nat)

/-! ### The compensator (R270, R271) -/

/-- What one run of the compensator gives. -/
structure LoopOut where
  rsp  : Int
  u    : Int
  uc   : Int
  s1   : Int
  s2   : Int
  s3   : Int
  duty : Nat
deriving DecidableEq, Repr

/-- R270: the setpoint after one sample's slew. -/
def slewQ (rsp sp slew : Int) : Int := if slew = 0 then sp else rsp + clampI (-slew) slew (sp - rsp)

/-- R270: the duty of a clamped output. -/
def dutyQ (uc : Int) : Nat := (asr ((if uc < 0 then 0 else uc) * 65535 + 16384) 15).toNat

/-- R270: the pseudocode of one fixed-point sample. `b` and `a` are the quantised coefficients. -/
def compensate0 (x : Slot) (y sp slew lo hi : Int) (aw : Bool) (b0 b1 b2 b3 a1 a2 a3 : Int) : LoopOut :=
  let rsp := slewQ x.rsp sp slew
  let e := satW 16 (rsp - y)
  let acc := satW 40 (x.s1 + shl (b0 * e) x.k)
  let u := satW 16 (asr (acc + 16384) 15)
  let uc := max lo (min hi u)
  let uf := if aw then uc else u
  { rsp := rsp, u := u, uc := uc
    s1 := satW 40 (x.s2 + shl (b1 * e - a1 * uf) x.k)
    s2 := satW 40 (x.s3 + shl (b2 * e - a2 * uf) x.k)
    s3 := satW 40 (shl (b3 * e - a3 * uf) x.k)
    duty := dutyQ uc }

/-- R271: max and min of binary32 values. -/
def f32Max (a b : Nat) : Nat := if f32Lt a b then b else a
def f32Min (a b : Nat) : Nat := if f32Lt b a then b else a

/-- R271: the same sample in binary32. -/
def compensate1 (x : Slot) (y sp slew lo hi : Nat) (aw : Bool) (b0 b1 b2 b3 a1 a2 a3 : Nat) : LoopOut :=
  let r0 := x.rsp.toNat
  let rsp := if f32IsZero slew then sp
    else f32Add r0 (f32Max (f32NegOf slew) (f32Min slew (f32Sub sp r0)))
  let e := f32Sub rsp y
  let u := f32Add x.s1.toNat (f32Mul b0 e)
  let uc := f32Max lo (f32Min hi u)
  let uf := if aw then uc else u
  let s1 := f32Add x.s2.toNat (f32Sub (f32Mul b1 e) (f32Mul a1 uf))
  let s2 := f32Add x.s3.toNat (f32Sub (f32Mul b2 e) (f32Mul a2 uf))
  let s3 := f32Sub (f32Mul b3 e) (f32Mul a3 uf)
  let dv := f32Mul (f32Min 0x3F800000 (f32Max 0 uc)) (f32OfInt 65535)
  { rsp := (rsp : Int), u := (u : Int), uc := (uc : Int), s1 := (s1 : Int), s2 := (s2 : Int), s3 := (s3 : Int)
    duty := if f32Finite dv then (f32RoundScaled dv 1 1).toNat else 0 }

/-- One run of the compensator of slot s at the measurement y. -/
def Device.compensate (d : Device) (s : Nat) (x : Slot) (y : Int) : LoopOut :=
  let aw := d.lp s Reg.ANTIWINDUP == 1
  let v (k : Nat) : Nat := d.lpN s k
  if x.fmt = 0 then
    let c (i : Nat) : Int := coefQ (v (Reg.B0 + i)) x.k
    compensate0 x y (valueQ (v Reg.SETPOINT)) (valueQ (v Reg.SP_SLEW)) (valueQ (v Reg.OUT_MIN))
      (valueQ (v Reg.OUT_MAX)) aw (c 0) (c 1) (c 2) (c 3) (c 4) (c 5) (c 6)
  else
    compensate1 x y.toNat (v Reg.SETPOINT) (v Reg.SP_SLEW) (v Reg.OUT_MIN) (v Reg.OUT_MAX) aw (v Reg.B0)
      (v (Reg.B0 + 1)) (v (Reg.B0 + 2)) (v (Reg.B0 + 3)) (v Reg.A1) (v (Reg.A1 + 1)) (v (Reg.A1 + 2))

/-- R271: a value of FORMAT 1 that is NaN or infinite. -/
def badF32 (x : Slot) (v : Int) : Bool := x.fmt != 0 && !f32Finite v.toNat

/-- A slot number in slot units as binary32. -/
def slotF32 (fmt : Nat) (v : Int) : Nat := if fmt = 0 then f32OfRat v 32768 else v.toNat

/-! ### The plant model (R275) -/

/-- R275: the model of a slot starts at the measurement y. -/
def Device.modelStart (d : Device) (s : Nat) (x : Slot) (y : Int) : Slot :=
  let hz := d.lpN s Reg.SAMPLE_HZ
  let t := f32Mul (f32OfInt hz) (d.lpN s Reg.MODEL_TAU_S)
  let a := f32Sub 0x3F800000 (Config.expF32 (BitVec.ofNat 32 (f32Div 0xBF800000 t))).toNat
  let dead := (deadSamples (d.lpN s Reg.MODEL_DEAD_S) hz).toNat
  let init := if x.fmt = 0 then slotF32 0 (valueQ (d.lpN s Reg.INIT_OUT)) else d.lpN s Reg.INIT_OUT
  { x with alpha := a, dead := dead, yhat := slotF32 x.fmt y, delay := List.replicate 255 init, overRun := 0,
           remodel := false }

/-- R275: one sample of the model: the slot, and rho. -/
def Device.modelStep (d : Device) (s : Nat) (x : Slot) (y uc : Int) : Slot × Nat :=
  let ucF := slotF32 x.fmt uc
  let ud := if x.dead = 0 then ucF else x.delay.getD (x.dead - 1) 0
  let t := f32Sub (f32Add (f32Mul (d.lpN s Reg.MODEL_K) ud) (d.lpN s Reg.MODEL_BIAS)) x.yhat
  let yhat := f32Add x.yhat (f32Mul x.alpha t)
  let rho := f32Sub (slotF32 x.fmt y) yhat
  let overRun := if f32Lt (d.lpN s Reg.RESID_LIMIT) (f32Abs rho) then x.overRun + 1 else 0
  ({ x with yhat := yhat, overRun := overRun, delay := (ucF :: x.delay).take 255 }, rho)

/-! ### The safe state (R276) -/

/-- R276: slot s enters SAFE with a cause. -/
def Device.enterSafe (d : Device) (s cause : Nat) : Device :=
  let x := d.slot s
  let d1 := d.setSlot s { x with
    safeAt := d.now, safeDuty := d.lpN s Reg.SAFE_DUTY, safeHigh := d.lp s Reg.SAFE_LEVEL != 0, restore := false, forced := false, overRun := 0, failRun := 0 }
  let d2 := (d1.setLp s Reg.LOOP_STATE 4).setLp s Reg.SAFE_CAUSE cause
  let d3 := if cause = 2 then d2.raise Ev.LOOP_IMPLAUSIBLE s [.raw 0 (d.lpN s Reg.RESIDUAL)] else d2
  d3.raise Ev.LOOP_SAFE_STATE s [.u 0 cause]

/-- R276, LOOP_CMD 01h: a running slot enters SAFE; behind a waiting restore the cause waits for the sample after it. -/
def Device.loopForceSafe (d : Device) (s : Nat) : Device :=
  let x := d.slot s
  if d.loopState s = 3 then d.enterSafe s 1
  else if d.loopState s = 4 ∧ x.restore then d.setSlot s { x with forced := true }
  else d

/-- R276, LOOP_CMD 02h: a slot in SAFE restores at its next sample instant; any other slot is not touched. -/
def Device.loopRestore (d : Device) (s : Nat) : Device :=
  if d.loopState s = 4 then d.setSlot s { d.slot s with restore := true } else d

/-- R276: every slot in SAFE. -/
def Device.loopsSafe (d : Device) : Nat := maskOf (allSlots.filter (fun s => d.loopState s == 4))

/-! ### Enable (R272, R278) -/

/-- The at-reset entries of a slot. -/
def loopResetKeys : List Nat :=
  [Reg.FORMAT, Reg.SAMPLE_HZ, Reg.SRC_KIND, Reg.SRC_UNIT, Reg.SPI_CMD, Reg.SPI_CMD_BYTES, Reg.SPI_READ_BYTES,
   Reg.FIELD_LSB, Reg.FIELD_BITS, Reg.FIELD_SIGNED, Reg.SCALE_SHIFT, Reg.INIT_OUT, Reg.OUT_PWM]

/-- R270: the quantised entries of a slot of FORMAT 0 read back as quantised at FORMAT and SCALE_SHIFT in force. -/
def Device.requantise (d : Device) (s : Nat) : Device :=
  if d.lp s Reg.FORMAT != 0 then d
  else
    [0x11, 0x12, 0x13, 0x14, 0x15, 0x16, 0x17, 0x18, 0x19, 0x1B, 0x1C, 0x1D].foldl (fun (d : Device) sub =>
      let key := 0x2C4000 + sub
      match loopQuant (d.lpN s Reg.SCALE_SHIFT) sub (d.lpN s key) with
      | some v => d.setLp s key v
      | none => d) d

/-- R272, R278: slot s is enabled: its at-reset entries come into force, and its first sample is due at once. -/
def Device.loopStartSlot (d : Device) (s : Nat) : Device :=
  let d1 := (loopResetKeys.foldl (fun (d : Device) k => d.loadStored (Reg.un k s)) d).requantise s
  let x := d1.slot s
  let hz := Nat.max 1 (d1.lpN s Reg.SAMPLE_HZ)
  let y : Slot :=
    { fmt := d1.lpN s Reg.FORMAT, k := d1.lpN s Reg.SCALE_SHIFT, out := d1.lpN s Reg.OUT_PWM,
      period := (roundDiv 400000000 hz).toNat, sampleAt := d1.now, fresh := true,
      y := if x.fmt = d1.lpN s Reg.FORMAT then x.y else 0, duty := d1.lpN s Reg.SAFE_DUTY, polls := x.polls,
      overAt := x.overAt }
  ((d1.setSlot s y).setLp s Reg.LOOP_STATE 3).setLp s Reg.SAFE_CAUSE 0

/-- R278: a write of LOOP_ENABLE 1 that was accepted. -/
def Device.loopEnable (d : Device) (s : Nat) : Device :=
  let st := d.loopState s
  let x := d.slot s
  let d1 := d.setLp s Reg.LOOP_ENABLE 1
  if st = 0 then d1.loopStartSlot s
  else if st = 1 then d1.setLp s Reg.LOOP_STATE 2
  else if x.stopping then d1.setSlot s { x with again := true }
  else d1

/-- R278: a write of LOOP_ENABLE 0. -/
def Device.loopDisable (d : Device) (s : Nat) : Device :=
  let st := d.loopState s
  let x := d.slot s
  let d1 := d.setLp s Reg.LOOP_ENABLE 0
  if st = 2 then d1.setLp s Reg.LOOP_STATE 1
  else if st = 3 ∨ st = 4 then d1.setSlot s { x with stopping := true, again := false }
  else d1

/-- R278: the shutdown is complete when the output has taken SAFE_DUTY. -/
def Device.loopOff (d : Device) (s : Nat) : Device :=
  let st := d.loopState s
  let x := d.slot s
  if (st = 1 ∨ st = 2) ∧ (x.parked = true ∨ 64 ≤ x.out) then
    let d1 := d.setLp s Reg.LOOP_STATE 0
    if st = 2 then
      (if d1.loopCheck s = .ok then d1.loopStartSlot s else d1.setLp s Reg.LOOP_ENABLE 0)
    else d1
  else d

/-! ### One sample -/

/-- R272: the state of the compensator at an enable. -/
def Device.freshState (d : Device) (s : Nat) (x : Slot) : Slot :=
  let v (k : Nat) : Nat := d.lpN s k
  if x.fmt = 0 then
    { x with rsp := valueQ (v Reg.SETPOINT), s1 := shl (valueQ (v Reg.INIT_OUT)) 15, s2 := 0, s3 := 0 }
  else { x with rsp := (v Reg.SETPOINT : Nat), s1 := (v Reg.INIT_OUT : Nat), s2 := 0, s3 := 0 }

/-- R277: the saturation count of a slot after a sample. -/
def Device.loopSat (d : Device) (s : Nat) (sat : Bool) : Device :=
  let x := d.slot s
  if sat = false then d.setSlot s { x with satRun := 0, satTold := false }
  else if d.regN Reg.SAT_WARN_SAMPLES ≤ x.satRun + 1 ∧ x.satTold = false then
    let d1 := (d.setSlot s { x with satRun := x.satRun + 1, satTold := true }).incReg (Reg.un Reg.SAT_COUNT s)
    d1.raise Ev.LOOP_SATURATED s [.u 0 (d1.regN (Reg.un Reg.SAT_COUNT s))]
  else d.setSlot s { x with satRun := x.satRun + 1 }

/-- The compensator and the model of slot s run at the measurement y. `judge` is false on a sample at which a restore acts
(R276). -/
def Device.loopCompute (d : Device) (s : Nat) (y : Int) (judge : Bool) : Device :=
  let x := d.slot s
  let o := d.compensate s x y
  let x1 := { x with rsp := o.rsp, y := y, uc := o.uc, s1 := o.s1, s2 := o.s2, s3 := o.s3, duty := o.duty }
  let bad := badF32 x y || badF32 x o.u || badF32 x o.s1 || badF32 x o.s2 || badF32 x o.s3
  let model := !f32IsZero (d.lpN s Reg.MODEL_K)
  let (x2, rho) := if model then d.modelStep s x1 y o.uc else (x1, d.lpN s Reg.RESIDUAL)
  let x3 := if judge then x2 else { x2 with overRun := 0 }
  let d1 := (d.setSlot s x3).setLp s Reg.Y (slotF32 x.fmt y)
  let d2 := (d1.setLp s Reg.U (slotF32 x.fmt o.uc)).setLp s Reg.RESIDUAL rho
  let sat := if x.fmt = 0 then o.u != o.uc else f32Lt o.u.toNat o.uc.toNat || f32Lt o.uc.toNat o.u.toNat
  let d3 := d2.loopSat s sat
  if judge = false then d3
  else if bad then d3.enterSafe s 4
  else if model = true ∧ d.lpN s Reg.RESID_COUNT ≤ x3.overRun then d3.enterSafe s 2
  else d3

/-- The sample of a slot in RUN, or in SAFE with a restore due: the input is taken and judged (R268), then computed. On a
sample at which a restore acts, `judge` is false: no cause is judged, and the counts restart (R276). -/
def Device.loopRun (d : Device) (s inp : Nat) (judge : Bool) : Device :=
  let (d1, r) := d.loopTake s inp
  let x := d1.slot s
  let y := match r with
    | some v => d1.loopMeas s x.fmt v
    | none => x.y
  let fails := if r.isNone && judge then x.failRun + 1 else 0
  let x1 := { x with failRun := fails, fresh := false, forced := if judge then false else x.forced }
  let x2 := if x.fresh then d1.modelStart s (d1.freshState s x1) y
    else if x.remodel then d1.modelStart s x1 y else x1
  let d2 := d1.setSlot s x2
  if judge = true ∧ x.forced = true then d2.enterSafe s 1
  else if judge = true ∧ r.isNone = true ∧ d.lpN s Reg.SENSOR_FAIL_SAMPLES ≤ fails then d2.enterSafe s 3
  else d2.loopCompute s y judge

/-- R276: the restore of a slot in SAFE: the enable of R272 on this sample, with the entries stored for it. Where an
enable would be refused with what is stored, the slot stays in SAFE (log entry 169). `due` is the sample instant. -/
def Device.loopRestoreNow (d : Device) (s inp due : Nat) : Device :=
  let x := d.slot s
  if d.loopCheck s = .ok then
    let d1 := d.loopStartSlot s
    let y := d1.slot s
    let nxt := if d.now < due + y.period then due + y.period else d.now + y.period
    let d2 := d1.setSlot s { y with sampleAt := nxt, forced := x.forced }
    (d2.loopRun s inp false).raise Ev.LOOP_RESTORED s [.u 0 ((d.now - x.safeAt) / 400000)]
  else d.setSlot s { x with restore := false }

/-- R265 … R278: the sample instant of slot s; `inp` is what the converter or the bus brings. -/
def Device.loopSample (d : Device) (s inp : Nat) : Device :=
  let x := d.slot s
  if d.domainOn 55 = false ∨ d.loopLive s = false ∨ d.now < x.sampleAt ∨ d.spiBehind s = true then d
  else
    let nxt := if d.now < x.sampleAt + x.period then x.sampleAt + x.period else d.now + x.period
    let d1 := d.setSlot s { x with sampleAt := nxt }
    if x.stopping then
      (d1.setSlot s { d1.slot s with stopping := false, again := false, restore := false, forced := false, parked := false
        }).setLp s Reg.LOOP_STATE (if x.again then 2 else 1)
    else if d.loopState s = 3 then d1.loopRun s inp true
    else if x.restore then d1.loopRestoreNow s inp x.sampleAt
    else d1

/-! ### Outputs (R273, R274) -/

/-- The slot bound to an output. -/
def Device.boundTo (d : Device) (n : Nat) : Option Nat := allSlots.find? (fun s => (d.slot s).out == n)

/-- R274, R276: the duty an output takes at its next period. -/
def Device.pwmWant (d : Device) (n : Nat) : Nat :=
  match d.boundTo n with
  | none => 0
  | some s =>
    if d.loopState s = 3 then (d.slot s).duty
    else if d.loopState s = 4 then (d.slot s).safeDuty
    else d.lpN s Reg.SAFE_DUTY

/-- R273: the high time of a duty in a period of p cycles. -/
def pwmHigh (duty p : Nat) : Nat := (roundDiv (duty * p) 65535).toNat

/-- R273: one output takes its newest duty. -/
def Device.pwmTake (d : Device) (n p : Nat) : Device :=
  let w := d.pwmWant n
  let d1 := d.setRegN (Reg.PWM_DUTY + n) w
  let d2 := match d.boundTo n with
    | some s => if d.loopState s = 1 ∨ d.loopState s = 2 then d1.setSlot s { d1.slot s with parked := true } else d1
    | none => d1
  if pwmHigh w p = 0 then d2 else d2.send (.pulse 4 n d.ps (pwmHigh w p * 2500) (d.boiler.invert.contains n))

/-- R273: a period of bank b starts. -/
def Device.pwmPeriod (d : Device) (b : Nat) : Device :=
  let at_ := (assoc d.boiler.pwmAt b).getD 0
  let p := (assoc d.boiler.pwmP b).getD 20000
  if d.domainOn 55 = false ∨ d.now < at_ ∨ 8 ≤ b then d
  else
    let nxt := if d.now < at_ + p then at_ + p else d.now + p
    let d1 := { d with boiler := { d.boiler with pwmAt := assocSet d.boiler.pwmAt b nxt } }
    (List.range 8).foldl (fun (d : Device) i => d.pwmTake (8 * b + i) p) d1

/-- R274, R276: the level each output is held at under the isolation clamp; a SAFE_LEVEL written in SAFE acts at the restore. -/
def Device.pwmClamp (d : Device) (n : Nat) : Bool :=
  match d.boundTo n with
  | none => false
  | some s =>
    (if d.loopState s = 4 then (d.slot s).safeHigh else d.lp s Reg.SAFE_LEVEL != 0) != d.boiler.invert.contains n

/-- R274, R374: what the clamp's latch holds: while the domain runs it follows the configuration. -/
def Device.boilerLatch (d : Device) : Device :=
  if d.domainOn 55 then { d with boiler := { d.boiler with latch := (List.range 64).filter d.pwmClamp } } else d

/-! ### Monitor conversions (R266) -/

/-- R266: an analog input is converted at its monitor rate. -/
def Device.ainMon (d : Device) (i raw : Nat) : Device :=
  let hz := d.regN (Reg.un Reg.AIN_MON_HZ i)
  let at_ := (assoc d.boiler.ainAt i).getD 0
  if d.domainOn 55 = false ∨ hz = 0 ∨ 16 ≤ i ∨ d.now < at_ then d
  else
    let p := (roundDiv 400000000 hz).toNat
    let nxt := if d.now < at_ + p then at_ + p else d.now + p
    ({ d with boiler := { d.boiler with ainAt := assocSet d.boiler.ainAt i nxt } } : Device).ainTake i raw |>.1

/-! ### The domain (R274) -/

/-- The Boiler is reset: its at-reset entries come into force, no slot runs and no output is bound. Every chip select is
high for 200 ns before a frame (R428). -/
def Device.boilerReset (d : Device) : Device :=
  let keys := ((List.range 4).map (fun b => [Reg.un Reg.SPI_KHZ b, Reg.un Reg.SPI_MODE b])).flatten ++
    (List.range 8).map (fun b => Reg.PWM_FREQ_HZ + b) ++ (List.range 64).map (fun n => Reg.PWM_INVERT + n)
  let d1 := keys.foldl (fun (d : Device) k => d.loadStored k) d
  let ps := (List.range 8).map (fun b => (b, (roundDiv 400000000 (d1.reg (Reg.PWM_FREQ_HZ + b))).toNat))
  let inv := (List.range 64).filter (fun n => d1.regB (Reg.PWM_INVERT + n))
  let bus := (List.range 4).map (fun b => (b, d1.ps + 200000))
  let d2 := { d1 with boiler := { pwmP := ps, invert := inv, busTo := bus, latch := d1.boiler.latch } }
  let d3 := allSlots.foldl (fun (d : Device) s => (d.setLp s Reg.LOOP_STATE 0).setLp s Reg.SAFE_CAUSE 0) d2
  (List.range 64).foldl (fun (d : Device) n => d.setRegN (Reg.PWM_DUTY + n) 0) d3

/-- R274: after NIGHT, every slot with LOOP_ENABLE 1 runs the enable of R272; one whose enable would be refused stays OFF (log
entry 178). -/
def Device.boilerResume (d : Device) : Device :=
  (allSlots.filter d.loopEnabled).foldl (fun (d : Device) s =>
    if d.loopCheck s = .ok then d.loopStartSlot s else d.setLp s Reg.LOOP_ENABLE 0) d

/-- R275: a change of MODEL_TAU_S or MODEL_DEAD_S restarts the model at the next sample. -/
def Device.loopRemodel (d : Device) (s : Nat) : Device := d.setSlot s { d.slot s with remodel := true }

/-- R270: the FORMAT is fixed point and the SCALE_SHIFT that a write of slot s is quantised with. -/
def Device.loopFixed (d : Device) (s : Nat) : Option Nat :=
  if d.lpAct s Reg.FORMAT = 0 then some (d.lpAct s Reg.SCALE_SHIFT).toNat else none

/-- R270, R275: what a write of an F32 entry of slot s is refused with beyond its range. -/
def Device.loopWriteCheck (d : Device) (s sub : Nat) (v : Int) : Status :=
  if sub = 0x24 ∧ 255 < deadSamples v.toNat (d.lpAct s Reg.SAMPLE_HZ).toNat then .range
  else
    match d.loopFixed s with
    | some k => if (loopQuant k sub v.toNat).isNone then .range else .ok
    | none => .ok

/-- R270: the value an F32 entry of slot s takes. -/
def Device.loopWriteValue (d : Device) (s sub : Nat) (v : Int) : Int :=
  match d.loopFixed s with
  | some k => (((loopQuant k sub v.toNat).getD v.toNat : Nat) : Int)
  | none => v

end Sys2Proof.Machine
end

