-- ==== Sys2Proof/Machine/Crypto.lean ====
section
/-! DEFINITION. The cryptographic functions the spec names: SHA-256 and HMAC-SHA-256 (R28), SHA-384 and ECDSA over P-384
(R29, R359, R360, R397). PRESUMED (FIPS 180-4, FIPS 186-4, RFC 2104; log entry 30): the spec names them and does not
describe them. -/
namespace Sys2Proof.Machine

/-- Round constants, SHA-256. -/
def k256_0 : List Nat :=
  [0x428A2F98, 0x71374491, 0xB5C0FBCF, 0xE9B5DBA5,
   0x3956C25B, 0x59F111F1, 0x923F82A4, 0xAB1C5ED5,
   0xD807AA98, 0x12835B01, 0x243185BE, 0x550C7DC3,
   0x72BE5D74, 0x80DEB1FE, 0x9BDC06A7, 0xC19BF174]
/-- Round constants, SHA-256. -/
def k256_1 : List Nat :=
  [0xE49B69C1, 0xEFBE4786, 0xFC19DC6, 0x240CA1CC,
   0x2DE92C6F, 0x4A7484AA, 0x5CB0A9DC, 0x76F988DA,
   0x983E5152, 0xA831C66D, 0xB00327C8, 0xBF597FC7,
   0xC6E00BF3, 0xD5A79147, 0x6CA6351, 0x14292967]
/-- Round constants, SHA-256. -/
def k256_2 : List Nat :=
  [0x27B70A85, 0x2E1B2138, 0x4D2C6DFC, 0x53380D13,
   0x650A7354, 0x766A0ABB, 0x81C2C92E, 0x92722C85,
   0xA2BFE8A1, 0xA81A664B, 0xC24B8B70, 0xC76C51A3,
   0xD192E819, 0xD6990624, 0xF40E3585, 0x106AA070]
/-- Round constants, SHA-256. -/
def k256_3 : List Nat :=
  [0x19A4C116, 0x1E376C08, 0x2748774C, 0x34B0BCB5,
   0x391C0CB3, 0x4ED8AA4A, 0x5B9CCA4F, 0x682E6FF3,
   0x748F82EE, 0x78A5636F, 0x84C87814, 0x8CC70208,
   0x90BEFFFA, 0xA4506CEB, 0xBEF9A3F7, 0xC67178F2]
/-- The round constants of SHA-256. -/
def k256 : List Nat := k256_0 ++ k256_1 ++ k256_2 ++ k256_3
/-- Round constants, SHA-512 and SHA-384. -/
def k512_0 : List Nat :=
  [0x428A2F98D728AE22, 0x7137449123EF65CD, 0xB5C0FBCFEC4D3B2F, 0xE9B5DBA58189DBBC,
   0x3956C25BF348B538, 0x59F111F1B605D019, 0x923F82A4AF194F9B, 0xAB1C5ED5DA6D8118,
   0xD807AA98A3030242, 0x12835B0145706FBE, 0x243185BE4EE4B28C, 0x550C7DC3D5FFB4E2,
   0x72BE5D74F27B896F, 0x80DEB1FE3B1696B1, 0x9BDC06A725C71235, 0xC19BF174CF692694]
/-- Round constants, SHA-512 and SHA-384. -/
def k512_1 : List Nat :=
  [0xE49B69C19EF14AD2, 0xEFBE4786384F25E3, 0xFC19DC68B8CD5B5, 0x240CA1CC77AC9C65,
   0x2DE92C6F592B0275, 0x4A7484AA6EA6E483, 0x5CB0A9DCBD41FBD4, 0x76F988DA831153B5,
   0x983E5152EE66DFAB, 0xA831C66D2DB43210, 0xB00327C898FB213F, 0xBF597FC7BEEF0EE4,
   0xC6E00BF33DA88FC2, 0xD5A79147930AA725, 0x6CA6351E003826F, 0x142929670A0E6E70]
/-- Round constants, SHA-512 and SHA-384. -/
def k512_2 : List Nat :=
  [0x27B70A8546D22FFC, 0x2E1B21385C26C926, 0x4D2C6DFC5AC42AED, 0x53380D139D95B3DF,
   0x650A73548BAF63DE, 0x766A0ABB3C77B2A8, 0x81C2C92E47EDAEE6, 0x92722C851482353B,
   0xA2BFE8A14CF10364, 0xA81A664BBC423001, 0xC24B8B70D0F89791, 0xC76C51A30654BE30,
   0xD192E819D6EF5218, 0xD69906245565A910, 0xF40E35855771202A, 0x106AA07032BBD1B8]
/-- Round constants, SHA-512 and SHA-384. -/
def k512_3 : List Nat :=
  [0x19A4C116B8D2D0C8, 0x1E376C085141AB53, 0x2748774CDF8EEB99, 0x34B0BCB5E19B48A8,
   0x391C0CB3C5C95A63, 0x4ED8AA4AE3418ACB, 0x5B9CCA4F7763E373, 0x682E6FF3D6B2B8A3,
   0x748F82EE5DEFB2FC, 0x78A5636F43172F60, 0x84C87814A1F0AB72, 0x8CC702081A6439EC,
   0x90BEFFFA23631E28, 0xA4506CEBDE82BDE9, 0xBEF9A3F7B2C67915, 0xC67178F2E372532B]
/-- Round constants, SHA-512 and SHA-384. -/
def k512_4 : List Nat :=
  [0xCA273ECEEA26619C, 0xD186B8C721C0C207, 0xEADA7DD6CDE0EB1E, 0xF57D4F7FEE6ED178,
   0x6F067AA72176FBA, 0xA637DC5A2C898A6, 0x113F9804BEF90DAE, 0x1B710B35131C471B,
   0x28DB77F523047D84, 0x32CAAB7B40C72493, 0x3C9EBE0A15C9BEBC, 0x431D67C49C100D4C,
   0x4CC5D4BECB3E42B6, 0x597F299CFC657E2A, 0x5FCB6FAB3AD6FAEC, 0x6C44198C4A475817]
/-- The round constants of SHA-512 and SHA-384. -/
def k512 : List Nat := k512_0 ++ k512_1 ++ k512_2 ++ k512_3 ++ k512_4

/-- Rotation right by n in words of w bits. -/
def ror (w n x : Nat) : Nat := (x >>> n) ||| ((x <<< (w - n)) % 2 ^ w)

/-- The big-endian number spelled by bytes. -/
def beNat (l : List Nat) : Nat := l.foldl (fun a b => a * 256 + b % 256) 0

/-- The n big-endian bytes of a number. -/
def beBytes (n v : Nat) : List Nat := (leBytes n v).reverse

/-- What the two members of the SHA-2 family differ in: word size in bytes, rounds and rotations. -/
structure ShaConf where
  wb  : Nat
  ks  : List Nat
  s0  : Nat × Nat × Nat
  s1  : Nat × Nat × Nat
  e0  : Nat × Nat × Nat
  e1  : Nat × Nat × Nat

/-- SHA-256. -/
def conf256 : ShaConf :=
  { wb := 4, ks := k256, s0 := (7, 18, 3), s1 := (17, 19, 10), e0 := (2, 13, 22), e1 := (6, 11, 25) }

/-- SHA-512 and SHA-384. -/
def conf512 : ShaConf :=
  { wb := 8, ks := k512, s0 := (1, 8, 7), s1 := (19, 61, 6), e0 := (28, 34, 39), e1 := (14, 18, 41) }

/-- The padded message. -/
def shaPad (wb : Nat) (m : List Nat) : List Nat :=
  let blk := 16 * wb
  let z := (2 * blk - 1 - 2 * wb - m.length % blk) % blk
  m ++ [0x80] ++ List.replicate z 0 ++ beBytes (2 * wb) (8 * m.length)

/-- The message schedule: `w` holds the words so far, newest first. -/
def shaSched (c : ShaConf) : Nat → List Nat → List Nat
  | 0, w => w.reverse
  | n + 1, w =>
    let b := 8 * c.wb
    let x15 := w.getD 14 0
    let x2 := w.getD 1 0
    let a := ror b c.s0.1 x15 ^^^ ror b c.s0.2.1 x15 ^^^ (x15 >>> c.s0.2.2)
    let d := ror b c.s1.1 x2 ^^^ ror b c.s1.2.1 x2 ^^^ (x2 >>> c.s1.2.2)
    shaSched c n (((a + d + w.getD 6 0 + w.getD 15 0) % 2 ^ b) :: w)

/-- One round over the eight working variables. -/
def shaRound (c : ShaConf) (v : List Nat) (kw : Nat × Nat) : List Nat :=
  let b := 8 * c.wb
  let m := 2 ^ b - 1
  let g (i : Nat) : Nat := v.getD i 0
  let s1 := ror b c.e1.1 (g 4) ^^^ ror b c.e1.2.1 (g 4) ^^^ ror b c.e1.2.2 (g 4)
  let ch := ((g 4) &&& (g 5)) ^^^ ((m ^^^ (g 4)) &&& (g 6))
  let t1 := g 7 + s1 + ch + kw.1 + kw.2
  let s0 := ror b c.e0.1 (g 0) ^^^ ror b c.e0.2.1 (g 0) ^^^ ror b c.e0.2.2 (g 0)
  let mj := ((g 0) &&& (g 1)) ^^^ ((g 0) &&& (g 2)) ^^^ ((g 1) &&& (g 2))
  [(t1 + s0 + mj) % 2 ^ b, g 0, g 1, g 2, (g 3 + t1) % 2 ^ b, g 4, g 5, g 6]

/-- One block. -/
def shaBlock (c : ShaConf) (h blk : List Nat) : List Nat :=
  let w0 := (List.range 16).map (fun i => beNat (bytesAt blk (i * c.wb) c.wb))
  let ws := shaSched c (c.ks.length - 16) w0.reverse
  let v := (c.ks.zip ws).foldl (shaRound c) h
  (h.zip v).map (fun p => (p.1 + p.2) % 2 ^ (8 * c.wb))

/-- All blocks of a padded message. -/
def shaBlocks (c : ShaConf) : Nat → List Nat → List Nat → List Nat
  | 0, h, _ => h
  | n + 1, h, m => shaBlocks c n (shaBlock c h (m.take (16 * c.wb))) (m.drop (16 * c.wb))

/-- A hash: the chaining values as bytes. -/
def sha (c : ShaConf) (iv m : List Nat) : List Nat :=
  let p := shaPad c.wb m
  ((shaBlocks c (p.length / (16 * c.wb)) iv p).map (beBytes c.wb)).flatten

/-- SHA-256. -/
def sha256 (m : List Nat) : List Nat :=
  sha conf256 [0x6A09E667, 0xBB67AE85, 0x3C6EF372, 0xA54FF53A,
    0x510E527F, 0x9B05688C, 0x1F83D9AB, 0x5BE0CD19] m

/-- SHA-384. -/
def sha384 (m : List Nat) : List Nat :=
  (sha conf512 [0xCBBB9D5DC1059ED8, 0x629A292A367CD507, 0x9159015A3070DD17, 0x152FECD8F70E5939,
    0x67332667FFC00B31, 0x8EB44A8768581511, 0xDB0C2E0D64F98FA7, 0x47B5481DBEFA4FA4] m).take 48

/-- HMAC-SHA-256. -/
def hmac256 (key m : List Nat) : List Nat :=
  let k0 := if 64 < key.length then sha256 key else key
  let k := k0 ++ List.replicate (64 - k0.length) 0
  sha256 (k.map (· ^^^ 0x5C) ++ sha256 (k.map (· ^^^ 0x36) ++ m))

/-! ### P-384 -/

/-- The field prime. -/
def p384P : Nat := 2 ^ 384 - 2 ^ 128 - 2 ^ 96 + 2 ^ 32 - 1

/-- The group order. -/
def p384N : Nat :=
  0xFFFFFFFFFFFFFFFFFFFFFFFFFFFFFFFFFFFFFFFFFFFFFFFFC7634D81F4372DDF581A0DB248B0A77AECEC196ACCC52973

/-- The coefficient b. -/
def p384B : Nat :=
  0xB3312FA7E23EE7E4988E056BE3F82D19181D9C6EFE8141120314088F5013875AC656398D8A2ED19D2A85C8EDD3EC2AEF

/-- The base point. -/
def p384G : Nat × Nat :=
  (0xAA87CA22BE8B05378EB1C71EF320AD746E1D3B628BA79B9859F741E082542A385502F25DBF55296C3A545E3872760AB7,
   0x3617DE4A96262C6F5D9E98BF9292DC29F8F41DBD289A147CE9DA3113B5F0B8C00A60B1CE1D7E819D7A431D7C90EA0E5F)

/-- b^e modulo m, over the low `n` bits of e. -/
def powMod (m : Nat) : Nat → Nat → Nat → Nat
  | 0, _, _ => 1 % m
  | n + 1, b, e =>
    let r := powMod m n (b * b % m) (e / 2)
    if e % 2 = 1 then b * r % m else r

/-- The inverse modulo a prime. -/
def invMod (m a : Nat) : Nat := powMod m 384 (a % m) (m - 2)

/-- A point in Jacobian coordinates; Z = 0 is the point at infinity. -/
structure EcPt where
  x : Nat
  y : Nat
  z : Nat

/-- Difference in the field. -/
def subP (a b : Nat) : Nat := (a + p384P - b % p384P) % p384P

/-- Point doubling on y² = x³ − 3x + b. -/
def ecDouble (q : EcPt) : EcPt :=
  if q.z = 0 ∨ q.y = 0 then ⟨1, 1, 0⟩
  else
    let z2 := q.z * q.z % p384P
    let m := 3 * (subP q.x z2 * ((q.x + z2) % p384P) % p384P) % p384P
    let y2 := q.y * q.y % p384P
    let s := 4 * q.x * y2 % p384P
    let x := subP (m * m % p384P) (2 * s)
    ⟨x, subP (m * subP s x % p384P) (8 * (y2 * y2 % p384P)), 2 * q.y * q.z % p384P⟩

/-- Point addition. -/
def ecAdd (a b : EcPt) : EcPt :=
  if a.z = 0 then b
  else if b.z = 0 then a
  else
    let za := a.z * a.z % p384P
    let zb := b.z * b.z % p384P
    let ua := a.x * zb % p384P
    let ub := b.x * za % p384P
    let sa := a.y * (zb * b.z % p384P) % p384P
    let sb := b.y * (za * a.z % p384P) % p384P
    if ua = ub then (if sa = sb then ecDouble a else ⟨1, 1, 0⟩)
    else
      let h := subP ub ua
      let r := subP sb sa
      let h2 := h * h % p384P
      let h3 := h * h2 % p384P
      let v := ua * h2 % p384P
      let x := subP (subP (r * r % p384P) h3) (2 * v)
      ⟨x, subP (r * subP v x % p384P) (sa * h3 % p384P), h * (a.z * b.z % p384P) % p384P⟩

/-- k × q, over the low `n` bits of k. -/
def ecMul : Nat → Nat → EcPt → EcPt
  | 0, _, _ => ⟨1, 1, 0⟩
  | n + 1, k, q =>
    let r := ecMul n (k / 2) (ecDouble q)
    if k % 2 = 1 then ecAdd q r else r

/-- A point of the curve. -/
def onCurve (x y : Nat) : Bool :=
  decide (x < p384P ∧ y < p384P) && y * y % p384P == (subP (x * x % p384P * x) (3 * x) + p384B) % p384P

/-- ECDSA over P-384 with SHA-384: an uncompressed public key of 97 bytes, a signature r ‖ s of 96 bytes (R29, R359). -/
def ecdsaOk (pub sig msg : List Nat) : Bool :=
  let x := beNat (bytesAt pub 1 48)
  let y := beNat (bytesAt pub 49 48)
  let r := beNat (bytesAt sig 0 48)
  let s := beNat (bytesAt sig 48 48)
  if pub.length ≠ 97 ∨ pub.getD 0 0 ≠ 4 ∨ onCurve x y = false ∨ r = 0 ∨ p384N ≤ r ∨ s = 0 ∨ p384N ≤ s then false
  else
    let e := beNat (sha384 msg)
    let w := invMod p384N s
    let q := ecAdd (ecMul 384 (e * w % p384N) ⟨p384G.1, p384G.2, 1⟩) (ecMul 384 (r * w % p384N) ⟨x, y, 1⟩)
    if q.z = 0 then false
    else
      let zi := invMod p384P q.z
      q.x * (zi * zi % p384P) % p384P % p384N == r

end Sys2Proof.Machine
end

