-- ==== Sys2Proof/Machine/TimeOps.lean ====
section
/-! DEFINITION. The time bases: the servo of TB1 and TB2, the choice of press time's source, and its rate (R293 … R301,
R319). -/
namespace Sys2Proof.Machine

/-- Time base 1 or 2. -/
def Device.tb (d : Device) (t : Nat) : TimeBase := if t = 1 then d.time.b1 else d.time.b2

/-- Write time base 1 or 2. -/
def Device.setTb (d : Device) (t : Nat) (x : TimeBase) : Device :=
  if t = 1 then { d with time := { d.time with b1 := x } } else { d with time := { d.time with b2 := x } }

/-- An entry of time base 1 or 2. -/
def tbKey (k t : Nat) : Nat := Reg.un k (t - 1)

/-- TB_STATE. -/
def Device.tbState (d : Device) (t : Nat) : Int := d.reg (tbKey Reg.TB_STATE t)

/-- One ns in a counter's units. -/
def nsUnit : Nat := 2 ^ 32

/-- The counters wrap as a U64 of ns. -/
def tbWrap (v : Int) : Nat := (v % (2 ^ 96 : Nat)).toNat

/-- R293: the increment every 2.56 ns at the nominal rate. -/
def incNominal : Nat := 10995116278

/-- R297: the increment at f ppb, f in binary32. -/
def incOf (f : Nat) : Nat :=
  let e := f32Exp f
  let m := f32Mant f
  let (n, s) : Int × Nat := if 0 ≤ e then (m * (2 ^ e.toNat : Nat), 1) else (m, 2 ^ (-e).toNat)
  (quotOpen 293 (64 * 2 ^ 32 * (10 ^ 9 * s + n)) (25 * 10 ^ 9 * s)).toNat

/-- Whole ns of a counter. -/
def nsOf (c : Nat) : Nat := c / 2 ^ 32 % 2 ^ 64

/-- Magnitude of an integer as a natural. -/
def magI (v : Int) : Nat := v.natAbs

/-! ### The servo (R297) -/

/-- R297: LOCKED is left with a cause. -/
def Device.lockLost (d : Device) (t cause : Nat) : Device :=
  if d.tbState t = 3 then d.raise Ev.TIME_LOCK_LOST t [.u 0 cause] else d

/-- R297: a new state of a time base; leaving LOCKED is reported with its cause. -/
def Device.tbEnter (d : Device) (t st cause : Nat) : Device :=
  let d1 := if st = 3 then d else d.lockLost t cause
  let x := d1.tb t
  (d1.setTb t { x with lockRun := 0, offRun := 0 }).setReg (tbKey Reg.TB_STATE t) st

/-- R297: the PI of one Sync with offset o ns and interval T s. -/
def Device.servoPi (d : Device) (t : Nat) (o : Int) (ms : Nat) : Device :=
  let x := d.tb t
  let tS := f32OfRat ms 1000
  let oF := f32OfInt o
  let a := f32Add x.a (f32Div (f32Mul (d.regN (tbKey Reg.SERVO_KI t)) oF) tS)
  let mx := f32OfInt (d.reg (tbKey Reg.FREQ_MAX_PPB t))
  let p := f32Add (f32Div (f32Mul (d.regN (tbKey Reg.SERVO_KP t)) oF) tS) a
  let f := f32Clamp (f32NegOf mx) mx p
  (d.setTb t { x with a := a, inc := incOf f }).setRegN (tbKey Reg.FREQ_PPB t) f

/-- R297: the action of one Sync in ACQUIRING. -/
def Device.servoAcquire (d : Device) (t : Nat) (o : Int) (ms : Nat) : Device :=
  if d.regN (tbKey Reg.STEP_THRESH_NS t) < magI o then
    let x := d.tb t
    d.setTb t { x with cnt := tbWrap (x.cnt + o * nsUnit), a := 0, lockRun := 0 }
  else
    let d1 := d.servoPi t o ms
    let x := d1.tb t
    let run := if magI o ≤ d.regN (tbKey Reg.LOCK_THRESH_NS t) then x.lockRun + 1 else 0
    if d.regN (tbKey Reg.LOCK_SAMPLES t) ≤ run then
      let d2 := d1.tbEnter t 3 0
      (d2.setTb t { d2.tb t with lockAt := d.now }).raise Ev.TIME_LOCKED t [.s 4 o]
    else d1.setTb t { x with lockRun := run }

/-- R297: the action of one Sync in LOCKED. -/
def Device.servoLocked (d : Device) (t : Nat) (o : Int) (ms : Nat) : Device :=
  let d1 := d.servoPi t o ms
  let x := d1.tb t
  let run := if d.regN (tbKey Reg.UNLOCK_THRESH_NS t) < magI o then x.offRun + 1 else 0
  if 4 ≤ run then d1.tbEnter t 2 2 else d1.setTb t { x with offRun := run }

/-- R297: a Sync of the selected grandmaster: `t1` the master's time and `stamp` this device's, in ps. -/
def Device.servoSync (d : Device) (t port : Nat) (t1 stamp : Int) (ms : Nat) : Device :=
  let x := d.tb t
  let t2 := stamp - d.reg (Reg.un Reg.TS_RX_DELAY_PS port)
  let o := quotOpen 297 (t1 + x.delay - t2) 1000
  let d1 := (d.setTb t { x with syncAt := d.now, syncMs := ms, t1 := t1, t2 := t2 }).setReg (tbKey Reg.OFFSET_NS t) o
  let d2 := if d1.tbState t = 4 then d1.tbEnter t 2 0 else d1
  if d2.tbState t = 2 then d2.servoAcquire t o ms
  else if d2.tbState t = 3 then d2.servoLocked t o ms
  else d2

/-- R295: PTP_PORTS admits the port. -/
def Device.ptpPort (d : Device) (t port : Nat) : Bool :=
  decide (port < 2) && bit (d.regN (tbKey Reg.PTP_PORTS t)) port && d.reg (Reg.un Reg.PORCH_PORT_STATE port) == 4

/-- R295: the port is a master port of time base t as a time-aware relay. -/
def Device.relays (d : Device) (t port : Nat) : Bool := d.reg (tbKey Reg.PTP_PROFILE t) == 1 && d.ptpPort t port

/-- R295: a message interval within the range of the profile, in ms. PRESUMED (IEEE 1588, log entry 28): the default profile
has Announce 1 … 16 s, Sync 0.5 … 2 s and Delay_Req 1 … 32 s; 802.1AS sets no bound that matters here. -/
def Device.ptpInterval (d : Device) (t lo hi ms : Nat) : Nat :=
  if d.reg (tbKey Reg.PTP_PROFILE t) = 1 then ms else clampN lo hi ms

/-- R295, R297: a Sync, one-step or with its Follow_Up, from a sender; one that does not come from the selected
grandmaster's port and sender is no valid Sync. A time-aware relay sends it on by its other port, two-step. -/
def Device.ptpSync (d : Device) (t port sender : Nat) (t1 stamp : Int) (ms : Nat) : Device :=
  if (t ≠ 1 ∧ t ≠ 2) ∨ d.tbState t = 0 ∨ d.ptpPort t port = false ∨ ms = 0 then d
  else
    match (d.tb t).gm with
    | none => d
    | some g =>
      if g.port ≠ port ∨ g.ann.sender ≠ sender then d
      else
        let d1 := d.servoSync t port t1 stamp (d.ptpInterval t 500 2000 ms)
        if d1.relays t (1 - port) then d1.post (4 * (1 - port)) 2 (.ptp (4 * (1 - port)) t 3 []) else d1

/-! ### Best Master Clock and path delay (R295) -/

/-- Comparison of two lists of numbers, the first difference deciding. -/
def lexLt : List Nat → List Nat → Bool
  | x :: xs, y :: ys => decide (x < y) || (x == y && lexLt xs ys)
  | _, _ => false

/-- PRESUMED (IEEE 1588, log entry 28): the order of the Best Master Clock algorithm. -/
def masterKey (m : Master) : List Nat :=
  let a := m.ann
  [a.prio1, a.cls, a.acc, a.var, a.prio2, a.gm, a.steps, a.sender, m.port]

/-- The best of the masters heard. -/
def bestMaster : List Master → Option Master
  | [] => none
  | m :: ms =>
    match bestMaster ms with
    | none => some m
    | some b => if lexLt (masterKey b) (masterKey m) then some b else some m

/-- An Announce that has not timed out. PRESUMED (IEEE 1588, log entry 28): it times out after three intervals. -/
def Device.announced (d : Device) (m : Master) : Bool := decide (d.now < m.at_ + 3 * cycMs m.ann.intMs)

/-- R297: the grandmaster is selected anew, among the masters whose Announce has not timed out. PRESUMED (802.1AS, log entry
28): a sender whose priority1 is 255 is no grandmaster of gPTP. -/
def Device.selectMaster (d : Device) (t : Nat) : Device :=
  let x := { d.tb t with masters := (d.tb t).masters.filter d.announced }
  let gptp := d.reg (tbKey Reg.PTP_PROFILE t) == 1
  let best := bestMaster (x.masters.filter (fun m => !(gptp && m.ann.prio1 == 255)))
  let d1 := d.setTb t { x with gm := best }
  match best with
  | none => if d.tbState t = 0 then d1 else d1.tbEnter t 1 3
  | some b =>
    let changed : Bool := match x.gm with
      | none => true
      | some g => g.ann.gm != b.ann.gm
    let d2 := ((d1.setRegN (tbKey Reg.GM_IDENTITY t) b.ann.gm).setRegN (tbKey Reg.STEPS_REMOVED t)
      (b.ann.steps + 1)).setReg (tbKey Reg.UTC_OFFSET_S t) b.ann.utc
    if d.tbState t == 1 || changed then d2.tbEnter t 2 3 else d2

/-- R295: a delay measured: `dl` ps. -/
def Device.setDelay (d : Device) (t : Nat) (dl : Int) (ms : Nat) : Device :=
  let x := d.tb t
  (d.setTb t { x with delay := dl, t3 := none, reqMs := ms }).setRegN (tbKey Reg.PATH_DELAY_NS t) (f32OfRat dl 1000)

/-- R295: a time-aware relay announces the grandmaster that it follows by its master port, one step further. -/
def Device.relayAnnounce (d : Device) (t port : Nat) (a : Announce) : Device :=
  match (d.tb t).gm with
  | none => d
  | some g =>
    if g.port = port ∧ g.ann.sender = a.sender ∧ d.relays t (1 - port) = true then
      d.post (4 * (1 - port)) 2 (.ptp (4 * (1 - port)) t 8
        [a.prio1, a.cls, a.acc, a.var, a.prio2, a.gm, (a.steps + 1 : Nat), a.utc])
    else d

/-- R295: a PTP message other than Sync. -/
def Device.ptpMessage (d : Device) (t port : Nat) (m : PtpMsg) : Device :=
  if (t ≠ 1 ∧ t ≠ 2) ∨ d.tbState t = 0 ∨ d.ptpPort t port = false then d
  else
    let x := d.tb t
    let peer := d.reg (tbKey Reg.PTP_PROFILE t) == 1
    match m with
    | .announce a =>
      let rest := x.masters.filter (fun o => o.port != port || o.ann.sender != a.sender)
      let b := { a with intMs := d.ptpInterval t 1000 16000 a.intMs }
      ((d.setTb t { x with masters := rest ++ [{ port := port, ann := b, at_ := d.now }] }).selectMaster t).relayAnnounce
        t port a
    | .delayResp t4 ms =>
      match x.t3 with
      | some t3 => if peer then d else d.setDelay t (quotOpen 295 ((x.t2 - x.t1) + (t4 - t3)) 2)
        (d.ptpInterval t 1000 32000 ms)
      | none => d
    | .pdelayResp t2 t3 t4 ms =>
      match x.t3 with
      | some t1 =>
        if peer then d.setDelay t (quotOpen 295 ((t4 - d.reg (Reg.un Reg.TS_RX_DELAY_PS port) - t1) - (t3 - t2)) 2) ms
        else d
      | none => d
    | .pdelayReq stamp =>
      if peer then d.post (4 * port) 2 (.ptp (4 * port) t 5 [stamp - d.reg (Reg.un Reg.TS_RX_DELAY_PS port)]) else d

/-- The present time of a time base in ps. -/
def tbPs (c : Nat) : Int := ((c * 1000 / 2 ^ 32 : Nat) : Int)

/-- R295, R297: a time base queues its delay request when it is due; its stamp is taken as it leaves (R296). -/
def Device.ptpDelayReq (d : Device) (t : Nat) : Device :=
  let x := d.tb t
  let peer := d.reg (tbKey Reg.PTP_PROFILE t) == 1
  let port := match x.gm with
    | some g => g.port
    | none => if d.ptpPort t 0 then 0 else 1
  if (t ≠ 1 ∧ t ≠ 2) ∨ d.tbState t = 0 ∨ d.now < x.reqAt ∨ d.ptpPort t port = false ∨ (peer = false ∧ x.gm = none) then d
  else
    (d.setTb t { x with t3 := none, reqAt := d.now + cycMs x.reqMs }).post (4 * port) 2
      (.ptp (4 * port) t (if peer then 2 else 1) [])

/-- R296: a PTP message leaves its port and is stamped as its start of frame crosses the ball: a request keeps the stamp, a
relayed Sync and an answer to a peer's request are followed by the message that carries it. Kinds: 1 Delay_Req, 2
Pdelay_Req, 3 Sync, 5 Pdelay_Resp with the request's stamp, 6 Pdelay_Resp_Follow_Up with the answer's, 7 Follow_Up with
the grandmaster's time and the correction (path delay and residence), 8 Announce. -/
def Device.ptpLeft (d : Device) (unit t kind : Nat) : Device :=
  let x := d.tb t
  let stamp := tbPs x.cnt + d.reg (Reg.un Reg.TS_TX_DELAY_PS (unit / 4))
  if kind = 1 ∨ kind = 2 then d.setTb t { x with t3 := some stamp }
  else if kind = 3 then d.post unit 2 (.ptp unit t 7 [x.t1, x.delay + (stamp - x.t2)])
  else if kind = 5 then d.post unit 2 (.ptp unit t 6 [stamp])
  else d

/-- R297: no valid Sync for SYNC_LOSS_INTERVALS, or an announce timeout. PRESUMED (IEEE 1588, log entry 28): an Announce times out
after three intervals. -/
def Device.syncLoss (d : Device) (t : Nat) : Device :=
  if t ≠ 1 ∧ t ≠ 2 then d
  else
    let x := d.tb t
    let noSync : Bool := decide (x.syncAt + d.regN (tbKey Reg.SYNC_LOSS_INTERVALS t) * cycMs x.syncMs ≤ d.now)
    let noAnn : Bool := match x.gm with
      | some g =>
        match x.masters.find? (fun m => m.port == g.port && m.ann.sender == g.ann.sender) with
        | some m => !d.announced m
        | none => true
      | none => false
    let st := d.tbState t
    if (st = 2 ∨ st = 3) ∧ (noSync || noAnn) = true then d.tbEnter t 4 1
    else if st = 4 ∧ noAnn = true then d.selectMaster t
    else d

/-! ### Press time (R298 … R300) -/

/-- R298: the source that TB3_MODE chooses. -/
def Device.tb3Choose (d : Device) : Nat :=
  let mode := d.regN Reg.TB3_MODE
  let lk (t : Nat) : Bool := d.tbState t == 3
  let pref := if mode = 0 ∨ mode = 2 then 1 else 2
  let alt := 3 - pref
  let cur := d.regN Reg.TB3_SOURCE
  if mode = 4 then 4
  else if mode = 2 ∨ mode = 3 then (if lk pref then pref else 0)
  else if (cur = 1 ∨ cur = 2) ∧ lk cur then
    if cur ≠ pref ∧ lk pref ∧ d.regB Reg.TB3_REVERT ∧
        (d.tb pref).lockAt + cycS (d.regN Reg.TB3_REVERT_HOLD_S) ≤ d.now then pref else cur
  else if lk pref then pref
  else if lk alt then alt
  else 0

/-- R299: o3 against source t, in whole ns. -/
def Device.tb3Offset (d : Device) (t : Nat) : Int :=
  if t = 1 ∨ t = 2 then quotOpen 299 (((d.tb t).cnt : Int) - (d.time.tb3 : Int)) nsUnit else 0

/-- R303: TB3 steps to a value: launches it passes are late. -/
def markLate (old new : Nat) (l : List Launch) : List Launch :=
  l.map (fun x => if nsOf old < x.ns ∧ x.ns < nsOf new then { x with late := true } else x)

/-- R299: TB3 steps to a value of the counter. -/
def Device.tb3Set (d : Device) (c : Nat) : Device :=
  let m := markLate d.time.tb3 c
  { d with time := { d.time with tb3 := c }
           porch := { d.porch with a := { d.porch.a with launches := m d.porch.a.launches }
                                   b := { d.porch.b with launches := m d.porch.b.launches } } }

/-- R299: TB3 steps to source t; the event has old and new source equal. -/
def Device.tb3StepTo (d : Device) (t : Nat) : Device :=
  let o := d.tb3Offset t
  (d.tb3Set (d.tb t).cnt).raise Ev.TIME_SOURCE_SWITCH 3 [.u 1 t, .u 1 t, .s 4 o]

/-- R299: the rate of TB3 for a source, and what TB3_STATE becomes. -/
def Device.tb3Rate (d : Device) (src : Nat) : Device :=
  let set (d : Device) (inc fs : Nat) (st : Int) : Device :=
    ({ d with time := { d.time with inc3 := inc, fs := fs } } : Device).setReg Reg.TB3_STATE st
  if src = 1 ∨ src = 2 then
    let o := d.tb3Offset src
    let fs := d.regN (tbKey Reg.FREQ_PPB src)
    let mx := f32OfInt (d.reg Reg.TB3_MAX_SLEW_PPB)
    let c := f32Clamp (f32NegOf mx) mx (f32Div (f32OfInt o) (d.regN Reg.TB3_TC_S))
    let st := if magI o ≤ d.regN (tbKey Reg.LOCK_THRESH_NS src) then 1 else 2
    (set d (incOf (f32Add fs c)) fs st).setReg Reg.TB3_OFFSET_NS o
  else
    let d1 := d.setReg Reg.TB3_OFFSET_NS 0
    let free := d.reg Reg.TB3_STATE == 0
    if src = 4 then set d1 d.time.inc0 d.time.fs (if free then 0 else 3)
    else if free then set d1 d.time.inc0 d.time.fs 0
    else set d1 (incOf d.time.fs) d.time.fs 3

/-- R298 … R300: the update of TB3 every 1 ms. On a member TB3 is received over the Hallway (R301). -/
def Device.tb3Update (d : Device) : Device :=
  if d.now < d.time.updAt then d
  else
    let nxt := if d.now < d.time.updAt + cycMs 1 then d.time.updAt + cycMs 1 else d.now + cycMs 1
    let d1 := { d with time := { d.time with updAt := nxt } }
    if d.isMember then d1.setReg Reg.TB3_SOURCE 3
    else
      let src := d1.tb3Choose
      let old := d1.regN Reg.TB3_SOURCE
      let d2 := d1.setReg Reg.TB3_SOURCE src
      let d3 := if src = old then d2 else d2.incReg Reg.TB3_SWITCHES
      let d4 := if src = old then d3
        else d3.raise Ev.TIME_SOURCE_SWITCH 3 [.u 1 old, .u 1 src, .s 4 (d3.tb3Offset src)]
      let d5 := if (src = 1 ∨ src = 2) ∧ d1.reg Reg.TB3_STATE = 0 then d4.tb3StepTo src else d4
      d5.tb3Rate src

/-- R299: TB3_STEP_CMD steps TB3 to the selected source; without a source nothing changes. -/
def Device.tb3Step (d : Device) : Device :=
  let src := d.regN Reg.TB3_SOURCE
  if d.isMember = false ∧ (src = 1 ∨ src = 2) then d.tb3StepTo src else d

/-- R408: the increment that makes TB0 follow the crystal where the clock of NET lies `ppb` from it. -/
def incSteered (ppb : Int) : Nat := (roundDiv (incNominal * 1000000000) (1000000000 + ppb)).toNat

/-- R293, R408: the counters advance over one ENC cycle; `net` tells that the NET domain runs. Until it does, TB3 is FREE and
equal to TB0 (R299). -/
def TimeBases.tick (t : TimeBases) (net : Bool) : TimeBases :=
  let n := t.net + 125 * (1000000000 + t.lane).toNat
  if n < 128 * 10 ^ 9 then { t with net := n }
  else
    let t1 := { t with net := n - 128 * 10 ^ 9, tb0 := (t.tb0 + t.inc0) % 2 ^ 96 }
    if net then
      { t1 with b1 := { t.b1 with cnt := (t.b1.cnt + t.b1.inc) % 2 ^ 96 }
                b2 := { t.b2 with cnt := (t.b2.cnt + t.b2.inc) % 2 ^ 96 }
                tb3 := (t.tb3 + t.inc3) % 2 ^ 96 }
    else { t1 with tb3 := t1.tb0 }

/-- R408: the clock of NET lies `ppb` from the crystal; a TB3 that runs with TB0 goes on doing so (R299). -/
def TimeBases.setLane (t : TimeBases) (ppb : Int) : TimeBases :=
  let i := incSteered ppb
  { t with lane := ppb, inc0 := i, inc3 := if t.inc3 = t.inc0 then i else t.inc3 }

/-- R297: the time bases start after a reset of the NET domain: LISTENING where a profile is selected. -/
def Device.timeReset (d : Device) : Device :=
  let d1 := [1, 2].foldl (fun (d : Device) t =>
    let old := d.tbState t
    let d0 := [Reg.PTP_PROFILE, Reg.PTP_DOMAIN, Reg.PTP_PORTS].foldl (fun (d : Device) k => d.loadStored (tbKey k t)) d
    let off := d0.reg (tbKey Reg.PTP_PROFILE t) == 0
    let d2 := if off ∧ old = 3 then d0.raise Ev.TIME_LOCK_LOST t [.u 0 4] else d0
    let d3 := (d2.setTb t {}).setReg (tbKey Reg.TB_STATE t) (if off then 0 else 1)
    [Reg.OFFSET_NS, Reg.FREQ_PPB, Reg.PATH_DELAY_NS, Reg.GM_IDENTITY, Reg.STEPS_REMOVED, Reg.UTC_OFFSET_S].foldl
      (fun (d : Device) k => d.setReg (tbKey k t) 0) d3) d
  let d2 := { d1 with time := { d1.time with tb3 := d1.time.tb0, inc3 := d1.time.inc0, fs := 0, updAt := d.now } }
  ((d2.setReg Reg.TB3_STATE 0).setReg Reg.TB3_SOURCE 0).setReg Reg.TB3_OFFSET_NS 0

/-- R294: at the exit from NIGHT TB0 advances by the RC oscillator's count of the time spent there, within 2 % of it. After a
rollback the other time bases go on by the same count, so that TB3 does not step (R299, R300; log entry 207). -/
def Device.tb0Wake (d : Device) : Device :=
  match d.time.nightAt with
  | none => d
  | some t0 =>
    let (v, d1) := d.takeFree
    let el : Nat := (d.now - t0) * 5 * 2 ^ 31
    let err : Int := ((v.toNat % 40001 : Nat) : Int) - 20000
    let adv := (((el : Int) * (1000000 + err)) / 1000000).toNat
    let go (c : Nat) : Nat := (c + adv) % 2 ^ 96
    let t := d1.time
    ({ d1 with time := { t with tb0 := go t.tb0, tb3 := go t.tb3, b1 := { t.b1 with cnt := go t.b1.cnt },
                                b2 := { t.b2 with cnt := go t.b2.cnt }, nightAt := none } } : Device).setReg Reg.TB0_STATUS 1

/-- R295: two time bases may not use one profile with one domain. `t`'s profile and domain as they would be stored. -/
def Device.ptpClash (d : Device) (t prof dom : Nat) : Bool :=
  let o := 3 - t
  prof != 0 && prof == d.storedN (tbKey Reg.PTP_PROFILE o) && dom == d.storedN (tbKey Reg.PTP_DOMAIN o)

end Sys2Proof.Machine
end

