-- ==== Sys2Proof/Machine/PorchOps.lean ====
section
/-! DEFINITION. The Porch: ports, bypass, frames in, the internal switch and frames launched at an instant of press time
(R282 … R292, R302, R303). -/
namespace Sys2Proof.Machine

/-- The unit of a port event (R304). -/
def portUnit (p sub : Nat) : Nat := 4 * p + sub

/-- R284: the endpoint's address. -/
def Device.baseMac (d : Device) : Nat := d.regN Reg.BASE_MAC

/-! ### Bypass (R290) -/

/-- R289, R290: the port is ON, or stops and still completes the frame in transmission. -/
def Device.portSends (d : Device) (p : Nat) : Bool := d.pportState p == 4 || (d.pport p).sending

/-- R290: a port's own conditions of HOLD. -/
def Device.holdOwn (d : Device) (p : Nat) : Bool :=
  d.domainOn 52 && d.time.nightAt.isNone && d.portSends p && d.regB (Reg.un Reg.PORCH_HOLD_OWN p) &&
    (d.pport p).trained && !(d.pport p).fallen

/-- R290: the level of a port's HOLD output. -/
def Device.holdLevel (d : Device) (p : Nat) : Bool :=
  d.holdOwn p && (!d.regB Reg.PORCH_HOLD_PAIRED || d.holdOwn (1 - p))

/-- R290, R291: both HOLD outputs follow their conditions; where one rises, the link's training time begins. -/
def Device.holdUpdate (d : Device) : Device :=
  [0, 1].foldl (fun (d : Device) p =>
    let k := Reg.un Reg.PORCH_HOLD_STATE p
    let now := d.holdLevel p
    let d1 := if now && !d.regB k then d.setPport p { d.pport p with waitAt := d.now, wasUp := false } else d
    d1.setReg k (if now then 1 else 0)) d

/-! ### Launches (R302, R303) -/

/-- The rate of a sub-port in Gbit/s. -/
def portGbps (mode : Nat) : Nat := if mode = 2 then 25 else if mode = 3 then 10 else 100

/-- R303: ENC cycles that a frame of n bytes takes with preamble, FCS and gap. -/
def frameCycles (mode n : Nat) : Nat := ceilDivNat (8 * (8 + (if n < 60 then 60 else n) + 4 + 12) * 2) (5 * portGbps mode)

/-- The ones' complement sum of 16-bit big-endian words. -/
def sum16 : List Nat → Nat
  | [] => 0
  | [x] => 256 * x
  | x :: y :: r => 256 * x + y + sum16 r

/-- The Internet checksum of a sum. -/
def inetCsum (s : Nat) : Nat :=
  let a := s % 65536 + s / 65536
  let b := a % 65536 + a / 65536
  let c := b % 65536 + b / 65536
  0xFFFF - c

/-- A 16-bit big-endian field of a frame. -/
def be16 (f : List Nat) (i : Nat) : Nat := 256 * f.getD i 0 + f.getD (i + 1) 0

/-- Put a 16-bit big-endian field. -/
def putBe16 (f : List Nat) (i v : Nat) : List Nat := overlay f i [v / 256 % 256, v % 256]

/-- The UDP checksum of the datagram at offset u: `pseudo` is the sum over its pseudo-header's addresses. -/
def insertUdp (f : List Nat) (u pseudo : Nat) : List Nat :=
  let n := be16 f (u + 4)
  let f1 := putBe16 f (u + 6) 0
  let c := inetCsum (pseudo + 17 + n + sum16 (bytesAt f1 u n))
  putBe16 f1 (u + 6) (if c = 0 then 0xFFFF else c)

/-- R286, R302 FLAGS[0]: the IPv4 header checksum and the UDP checksum, over IPv4 or IPv6, are inserted. -/
def insertCsums (f : List Nat) : List Nat :=
  let o := if be16 f 12 = 0x8100 then 18 else 14
  if be16 f (o - 2) = 0x86DD then
    (if f.getD (o + 6) 0 = 17 then insertUdp f (o + 40) (sum16 (bytesAt f (o + 8) 32)) else f)
  else if be16 f (o - 2) ≠ 0x0800 then f
  else
    let ihl := 4 * (f.getD o 0 % 16)
    let f1 := putBe16 f (o + 10) 0
    let f2 := putBe16 f1 (o + 10) (inetCsum (sum16 (bytesAt f1 o ihl)))
    if f.getD (o + 9) 0 ≠ 17 then f2
    else insertUdp f2 (o + ihl) (sum16 (bytesAt f2 (o + 12) 8))

/-- R302: what a submitted launch is refused with. `l` holds the bytes of the transfer. -/
def Device.launchCheck (d : Device) (l : List Nat) : Status :=
  let n := fieldAt l 14 2
  let port := fieldAt l 12 1
  let p := port % 4
  if l.length < 34 then .length
  else if crc32c (l.take (l.length - 4)) ≠ fieldAt l (l.length - 4) 4 then .check
  else if l.length ≠ 20 + n then .length
  else if fieldAt l 13 1 / 2 ≠ 0 ∨ port / 16 ≠ 0 then .reserved
  else if n < 14 ∨ 9018 < n ∨ 1 < p ∨ (4 ≤ port ∧ (d.pport p).mode ≠ 2) then .range
  else if d.pportState p ≠ 4 then .state
  else if 64 ≤ (d.pport p).launches.length then .busy
  else if fieldAt l 0 8 < d.tb3Ns + d.regN Reg.LAUNCH_MIN_LEAD_NS then .range
  else .ok

/-- Put a launch behind those at or before its instant. -/
def placeLaunch (x : Launch) : List Launch → List Launch
  | [] => [x]
  | y :: ys => if y.ns ≤ x.ns then y :: placeLaunch x ys else x :: y :: ys

/-- LAUNCH_PENDING follows the queue. -/
def Device.notePending (d : Device) (p : Nat) : Device :=
  d.setRegN (Reg.un Reg.LAUNCH_PENDING p) (d.pport p).launches.length

/-- R302: an accepted launch enters its port's queue. -/
def Device.launchAccept (d : Device) (l : List Nat) : Device :=
  let port := fieldAt l 12 1
  let p := port % 4
  let x := d.pport p
  let a : Launch :=
    { ns := fieldAt l 0 8, tag := fieldAt l 8 4, sub := port / 4 % 4, flags := fieldAt l 13 1,
      frame := bytesAt l 16 (fieldAt l 14 2) }
  (d.setPport p { x with launches := placeLaunch a x.launches }).notePending p

/-- R302: every pending launch of a tag is removed. -/
def Device.launchCancel (d : Device) (tag : Nat) : Device :=
  [0, 1].foldl (fun (d : Device) p =>
    let x := d.pport p
    (d.setPport p { x with launches := x.launches.filter (fun a => a.tag != tag) }).notePending p) d

/-- R303: a late launch is counted and reported. -/
def Device.noteLate (d : Device) (p : Nat) (a : Launch) : Device :=
  let us := (d.tb3Ns - a.ns) / 1000
  (d.incReg Reg.LAUNCH_LATE).raise Ev.PORCH_LAUNCH_LATE (portUnit p a.sub) [.raw 4 a.tag, .u 2 us]

/-- R302, R303: a launch leaves. -/
def Device.launchSend (d : Device) (p : Nat) (a : Launch) : Device :=
  let x := d.pport p
  let f0 := a.frame ++ List.replicate (60 - a.frame.length) 0
  let f := if bit a.flags 0 then insertCsums f0 else f0
  let d1 := d.setPport p { x with busyTo := assocSet x.busyTo a.sub (d.now + frameCycles x.mode f.length) }
  let u := portUnit p a.sub
  let d2 := ((d1.send (.wire u none 0 (.eth u f))).incReg Reg.LAUNCH_SENT).addReg64 (Reg.un Reg.TX_FRAMES p) 1
  (d2.setRegN Reg.LAUNCH_LAST_TAG a.tag).setRegN Reg.LAUNCH_LAST_NS d.tb3Ns

/-- The port can start a frame on a sub-port. -/
def Device.portFree (d : Device) (p sub : Nat) : Bool :=
  let x := d.pport p
  decide ((assoc x.busyTo sub).getD 0 ≤ d.now) && decide (x.pauseTo ≤ d.now)

/-! ### Transmit order (R283, R287, R288, R303) -/

/-- R288: the priority code point of a level. -/
def levelPcp (level : Nat) : Nat := if level = 2 then 7 else 6

/-- R283, R288: the device's tag on a message of its own: none without a VLAN. PRESUMED (802.1AS, log entry 28): messages of
gPTP are untagged. -/
def Device.vlanTag (d : Device) (f : TxFrame) : Option (Nat × Nat) :=
  let v := d.regN Reg.VLAN_ID
  if v = 0 then none
  else
    match f.body with
    | .ptp _ t _ _ => if d.reg (tbKey Reg.PTP_PROFILE t) = 1 then none else some (levelPcp f.level, v)
    | _ => if f.level = 4 then none else some (levelPcp f.level, v)

/-- R284: the next hop of an IP destination: itself where it is on the link, else the gateway (0 where none is set). -/
def Device.nextHop (d : Device) (ip : Nat) : Nat :=
  if ip < 2 ^ 32 then
    let s := 2 ^ (32 - d.regN Reg.IPV4_PREFIX)
    if ip / s = d.regN Reg.IPV4_ADDR / s then ip else d.regN Reg.IPV4_GATEWAY
  else
    let big (l : List Nat) : Nat := (bytesAt l 0 16).foldl (fun v b => 256 * v + b) 0
    let n := d.regN Reg.IPV6_PREFIX
    let s := 2 ^ (128 - n)
    if ip / 2 ^ 118 = 0x3FA ∨ (n ≠ 0 ∧ ip / s = big (d.blob Reg.IPV6_ADDR) / s) then ip else big (d.blob Reg.IPV6_GATEWAY)

/-- The next hop of a message. -/
def Device.hopOf (d : Device) : Tx → Nat
  | .qdp ip _ _ => d.nextHop ip
  | .event ip _ _ _ _ => d.nextHop ip
  | .qpt ip _ _ => d.nextHop ip
  | _ => 0

/-- Where the PTP header lies in a frame: behind the Ethernet header, or behind IPv4 or IPv6 and UDP. -/
def ptpAt (f : List Nat) : Nat :=
  let o := if be16 f 12 = 0x8100 then 18 else 14
  let et := be16 f (o - 2)
  if et = 0x0800 then o + 4 * (f.getD o 0 % 16) + 8 else if et = 0x86DD then o + 48 else o

/-- R287: a residence time in ps added to the correctionField, I64 in 2^-16 ns, and the checksums made right again. -/
def addResidence (f : List Nat) (ps : Nat) : List Nat :=
  let o := ptpAt f + 8
  let old := (bytesAt f o 8).foldl (fun v b => 256 * v + b) 0
  let new := (old + ps * 65536 / 1000) % 2 ^ 64
  insertCsums (overlay f o (leBytes 8 new).reverse)

/-- The present message of a queued frame: a forwarded PTP event message has its residence time added: from the arrival of
its start of frame, one frame time before RX_FRAME (log entry 171), to that of its departure. -/
def Device.txBody (d : Device) (p : Nat) (f : TxFrame) : Tx :=
  match f.body, f.came with
  | .eth u data, some c => .eth u (addResidence data ((d.now - c + frameCycles (d.pport (1 - p)).mode f.len) * 2500))
  | b, _ => b

/-- R288, R296: a queued frame leaves its port. -/
def Device.txLeave (d : Device) (p : Nat) (f : TxFrame) : Device :=
  let x := d.pport p
  let tag := d.vlanTag f
  let len := f.len + (if tag.isSome then 4 else 0)
  let u := portUnit p f.sub
  let d1 := d.setPport p { x with txq := x.txq.erase f, busyTo := assocSet x.busyTo f.sub (d.now + frameCycles x.mode len) }
  let d2 := (d1.send (.wire u tag (d.hopOf f.body) (d.txBody p f))).addReg64 (Reg.un Reg.TX_FRAMES p) 1
  match f.body with
  | .ptp unit t kind _ => d2.ptpLeft unit t kind
  | _ => d2

/-- R288: the next frame of a sub-port: the first of the lowest level that it has. -/
def nextFrameOf (l : List TxFrame) (sub : Nat) : Option TxFrame :=
  let mine := l.filter (fun f => f.sub == sub)
  ((mine.find? (fun f => f.level == 2)).or (mine.find? (fun f => f.level == 3))).or (mine.find? (fun f => f.level == 4))

/-- R303: a frame of n bytes, with its gap, ends at or before the next launch instant of its sub-port. -/
def Device.endsBeforeLaunch (d : Device) (p sub n : Nat) : Bool :=
  let x := d.pport p
  let ns := ceilDivNat (frameCycles x.mode n * 5) 2
  x.launches.all (fun a => a.sub != sub || (!a.late && decide (d.tb3Ns + ns ≤ a.ns)))

/-- R288: a port that is ON sends, on each sub-port whose link is up and which is free, its next frame. -/
def Device.portTx (d : Device) (p : Nat) : Device :=
  if d.pportState p ≠ 4 ∨ (d.pport p).txq = [] then d
  else
    [0, 1, 2, 3].foldl (fun (d : Device) sub =>
      match nextFrameOf (d.pport p).txq sub with
      | none => d
      | some f =>
        if bit (d.regN (Reg.un Reg.LINK_UP p)) sub && d.portFree p sub && d.endsBeforeLaunch p sub (f.len + 4) then
          d.txLeave p f
        else d) d

/-- A launch leaves the list of its port. -/
def Device.launchGone (d : Device) (p : Nat) (a : Launch) : Device :=
  let x := d.pport p
  (d.setPport p { x with launches := x.launches.erase a }).notePending p

/-- R303: a launch whose instant has come, or that is late: it leaves at its instant; a late one is discarded, or sent as
soon as the port can send it. -/
def Device.launchOne (d : Device) (p : Nat) (a : Launch) : Device :=
  let ready := d.pportState p == 4 && d.portFree p a.sub
  let note (d : Device) : Device := if a.noted then d else d.noteLate p a
  if a.late = false ∧ d.tb3Ns < a.ns then d
  else if a.late = false ∧ ready = true then (d.launchGone p a).launchSend p a
  else if d.reg Reg.LAUNCH_LATE_POLICY = 1 then note (d.launchGone p a)
  else if ready then (note (d.launchGone p a)).launchSend p a
  else
    let off := d.pportState p != 4
    let x := d.pport p
    let d1 := if off then note d else d
    d1.setPport p { x with launches := x.launches.map (fun y =>
      if y = a then { a with late := true, noted := a.noted || off } else y) }

/-- R303: the launch that a sub-port serves next: a late one, else the first. -/
def nextLaunch (l : List Launch) (sub : Nat) : Option Launch :=
  let mine := l.filter (fun a => a.sub == sub)
  (mine.find? (fun a => a.late)).or mine.head?

/-- R303: on each sub-port of a port, the launch that it serves next. -/
def Device.launchDue (d : Device) (p : Nat) : Device :=
  [0, 1, 2, 3].foldl (fun (d : Device) sub =>
    match nextLaunch (d.pport p).launches sub with
    | none => d
    | some a => d.launchOne p a) d

/-- R289, R303: the launches pending on a port that stops are late: they are counted and reported, and discarded, or sent
when the port is ON again. -/
def Device.launchesLate (d : Device) (p : Nat) : Device :=
  let x := d.pport p
  let d1 := (x.launches.filter (fun a => !a.noted)).foldl (fun (d : Device) a => d.noteLate p a) d
  if d.reg Reg.LAUNCH_LATE_POLICY = 1 then (d1.setPport p { d1.pport p with launches := [] }).notePending p
  else d1.setPport p { d1.pport p with launches := x.launches.map (fun a => { a with late := true, noted := true }) }

/-! ### Enabling and disabling a port (R289) -/

/-- R291, R304: the links of a port go down with a cause. -/
def Device.linksDown (d : Device) (p cause : Nat) : Device :=
  let k := Reg.un Reg.LINK_UP p
  let ups := bitsOf 4 (d.regN k)
  ups.foldl (fun (d : Device) s => d.raise Ev.PORCH_LINK_DOWN (portUnit p s) [.u 0 cause]) (d.setReg k 0)

/-- The at-reset entries of a port. -/
def porchPortKeys : List Nat := [Reg.PORT_MODE, Reg.AUTONEG, Reg.FEC_25G, Reg.PAUSE]

/-- R289: the port's enable: its at-reset entries take effect, and its own training begins. -/
def Device.porchStart (d : Device) (p : Nat) : Device :=
  let d1 := porchPortKeys.foldl (fun (d : Device) k => d.loadStored (Reg.un k p)) d
  let x := d1.pport p
  let pz := d1.regN (Reg.un Reg.PAUSE p)
  (d1.setPport p { launches := x.launches, mode := d1.regN (Reg.un Reg.PORT_MODE p), pauseRx := bit pz 0,
                   pauseTx := bit pz 1 }).setReg (Reg.un Reg.PORCH_PORT_STATE p) 3

/-- R289: PORT_ENABLE is set. -/
def Device.porchEnable (d : Device) (p : Nat) : Device :=
  let d1 := d.setReg (Reg.un Reg.PORCH_PORT_ENABLE p) 1
  if d.domainOn 52 = false then d1
  else if d.pportState p = 0 then d1.porchStart p
  else if d.pportState p = 1 then d1.setReg (Reg.un Reg.PORCH_PORT_STATE p) 2
  else d1

/-- R289: when a port's frames in transmission end. -/
def PorchPort.endAt (x : PorchPort) : Nat := maxN (x.stopAt :: x.busyTo.map Prod.snd)

/-- R289 steps 2 and 3: with no frame in transmission any more HOLD falls and the lanes go to electrical idle. -/
def Device.porchStopTick (d : Device) (p : Nat) : Device :=
  let x := d.pport p
  if x.sending ∧ x.endAt ≤ d.now then ((d.setPport p { x with sending := false }).linksDown p 2).holdUpdate else d

/-- R289: PORT_ENABLE is cleared: the frames still queued are discarded and counted. -/
def Device.porchDisable (d : Device) (p : Nat) : Device :=
  let d1 := d.setReg (Reg.un Reg.PORCH_PORT_ENABLE p) 0
  let st := d.pportState p
  if st = 2 then d1.setReg (Reg.un Reg.PORCH_PORT_STATE p) 1
  else if st = 3 ∨ st = 4 then
    let d2 := (d1.setReg (Reg.un Reg.PORCH_PORT_STATE p) 1).launchesLate p
    let x := d2.pport p
    let d3 := d2.addReg (Reg.un Reg.TX_DISCARDS p) x.txq.length
    (d3.setPport p { x with stopAt := d.now, sending := true, txq := [] }).porchStopTick p
  else d1

/-- R289: the shutdown is complete 1 µs after the frame in transmission; a pending enable starts. -/
def Device.porchOff (d : Device) (p : Nat) : Device :=
  let st := d.pportState p
  if (st = 1 ∨ st = 2) ∧ (d.pport p).endAt + cycUs 1 ≤ d.now then
    let d1 := (d.porchStopTick p).setReg (Reg.un Reg.PORCH_PORT_STATE p) 0
    if st = 2 then d1.porchStart p else d1
  else d

/-- R290, R291: a port's own lane calibration and PCS lock are complete: at its enable, and again after HOLD fell, when HOLD
rises once HOLD_RETRY_S has passed. -/
def Device.porchTrained (d : Device) (p : Nat) : Device :=
  let x := d.pport p
  if d.reg Reg.LANE_REF_STATE ≠ 0 then d
  else if d.pportState p = 3 then
    let d1 := d.setPport p { x with trained := true, fallen := false }
    (d1.setReg (Reg.un Reg.PORCH_PORT_STATE p) 4).holdUpdate
  else if d.pportState p = 4 ∧ x.trained = false then
    (d.setPport p { x with trained := true, fallen := x.fallen && decide (d.now < x.retryAt) }).holdUpdate
  else d

/-- R282: the FEC in use, as the event names it. -/
def Device.fecInUse (d : Device) (p : Nat) : Nat :=
  let m := (d.pport p).mode
  if m = 3 then 2 else if m = 2 then d.regN (Reg.un Reg.FEC_25G p) else 0

/-- R291: a link comes up. -/
def Device.porchLinkUp (d : Device) (p sub : Nat) : Device :=
  let k := Reg.un Reg.LINK_UP p
  let x := d.pport p
  if d.reg Reg.LANE_REF_STATE = 0 ∧ d.pportState p = 4 ∧ d.regB (Reg.un Reg.PORCH_HOLD_STATE p) ∧ bit (d.regN k) sub = false ∧
      (sub = 0 ∨ (x.mode = 2 ∧ sub < 4)) then
    ((d.setPport p { x with wasUp := true }).setRegN k (setBit (d.regN k) sub)).raise Ev.PORCH_LINK_UP (portUnit p sub)
      [.u 2 x.mode, .u 0 (d.fecInUse p)]
  else d

/-- R291: a link goes down at its partner's side. -/
def Device.porchLinkDown (d : Device) (p sub : Nat) : Device :=
  let k := Reg.un Reg.LINK_UP p
  if bit (d.regN k) sub then
    let d1 := (d.setRegN k (clrBit (d.regN k) sub)).raise Ev.PORCH_LINK_DOWN (portUnit p sub) [.u 0 1]
    if d1.regN k = 0 then d1.setPport p { d1.pport p with waitAt := d.now } else d1
  else d

/-- R291: the link is not up within LINK_UP_TIMEOUT_MS, or stays down for more than LINK_DOWN_HOLD_MS: HOLD falls. -/
def Device.porchHoldTimeout (d : Device) (p : Nat) : Device :=
  let x := d.pport p
  let past : Bool := if x.wasUp then decide (x.waitAt + cycMs (d.regN (Reg.un Reg.PORCH_LINK_DOWN_HOLD_MS p)) < d.now)
    else decide (x.waitAt + cycMs (d.regN (Reg.un Reg.PORCH_LINK_UP_TIMEOUT_MS p)) ≤ d.now)
  if d.regB (Reg.un Reg.PORCH_HOLD_STATE p) ∧ d.regN (Reg.un Reg.LINK_UP p) = 0 ∧ past = true then
    let d1 := (d.setPport p { x with
      fallen := true, trained := false, retryAt := d.now + cycS (d.regN (Reg.un Reg.PORCH_HOLD_RETRY_S p))
      }).holdUpdate
    if x.wasUp then d1 else d1.raise Ev.PORCH_LINK_DOWN (portUnit p 0) [.u 0 3]
  else d

/-- R291: HOLD_RETRY_S after HOLD fell a port that has repeated its own training raises HOLD again. -/
def Device.porchHoldRetry (d : Device) (p : Nat) : Device :=
  let x := d.pport p
  if x.fallen ∧ x.trained ∧ x.retryAt ≤ d.now then (d.setPport p { x with fallen := false }).holdUpdate else d

/-! ### Frames in (R283, R285 … R287) -/

/-- R287: a MAC address is learnt. -/
def Device.fdbLearn (d : Device) (mac p : Nat) : Device :=
  let rest := d.porch.fdb.filter (fun e => e.1 != mac)
  if rest.length < 1024 then
    ({ d with porch := { d.porch with fdb := (mac, p, d.now) :: rest } } : Device).setRegN Reg.FDB_ENTRIES (rest.length + 1)
  else d

/-- R287: a learnt address ages out. -/
def Device.fdbAge (d : Device) (mac : Nat) : Device :=
  let keep := d.porch.fdb.filter (fun e => !(e.1 == mac && decide (e.2.2 + cycS (d.regN Reg.FDB_AGE_S) ≤ d.now)))
  ({ d with porch := { d.porch with fdb := keep } } : Device).setRegN Reg.FDB_ENTRIES keep.length

/-- R285, R287, R295: a time base of a profile and a domain. A default profile of IEEE 1588 is numbered as its transport. -/
def Device.ptpDomain (d : Device) (prof dom : Nat) : Bool :=
  [1, 2].any (fun t => d.regN (tbKey Reg.PTP_PROFILE t) == prof && d.regN (tbKey Reg.PTP_DOMAIN t) == dom)

/-- R287: the domain of a message of IEEE 1588 is enabled, whatever transport its time base uses. -/
def Device.ptpEnabled (d : Device) (dom : Nat) : Bool := [2, 3, 4].any (fun prof => d.ptpDomain prof dom)

/-- R287: the bytes of forwarded frames in a port's egress buffer. -/
def PorchPort.egress (x : PorchPort) : Nat := ((x.txq.filter (fun f => f.level == 4)).map TxFrame.len).foldl (· + ·) 0

/-- R287: a frame goes to the other port's egress buffer of 256 KiB, an event message of an enabled domain with the cycle
in which it came. -/
def Device.forward (d : Device) (p : Nat) (f : EthFrame) : Device :=
  let q := 1 - p
  let came := match f.kind with
    | .ptp1588 dom _ event _ => if event && d.ptpEnabled dom then some d.now else none
    | _ => none
  if d.pportState q = 4 ∧ (d.pport q).egress + f.len ≤ 262144 then
    (d.postFrame (4 * q) { level := 4, sub := 0, len := f.len, body := .eth (4 * q) f.data, came := came }).addReg64
      Reg.FWD_FRAMES 1
  else d.incReg Reg.FWD_DROPS

/-- R284: the frame's IP destination is an address of this device (all address bytes, IPv4 or IPv6). -/
def Device.ourIp (d : Device) (a : List Nat) : Bool :=
  let m := d.baseMac
  let mb := (leBytes 6 m).reverse
  let ll := [0xFE, 0x80, 0, 0, 0, 0, 0, 0, mb.getD 0 0 ^^^ 2, mb.getD 1 0, mb.getD 2 0, 0xFF, 0xFE, mb.getD 3 0,
    mb.getD 4 0, mb.getD 5 0]
  let v4 := d.regN Reg.IPV4_ADDR
  (a.length == 4 && v4 != 0 && a == (leBytes 4 v4).reverse) || a == ll ||
    (d.regN Reg.IPV6_PREFIX != 0 && a.length == 16 && a == bytesAt (d.blob Reg.IPV6_ADDR) 0 16)

/-- R285, R286: an IP packet for the endpoint. The datagram of a QDP or QPT port is a command of its own (log entry
29). -/
def Device.ipIn (d : Device) (p u : Nat) (f : EthFrame) : Device :=
  let drop := d.incReg (Reg.un Reg.RX_DROPS p)
  if f.frag then d.incReg Reg.IP_FRAG_DROPS
  else if f.ipOk = false then d.incReg Reg.CSUM_ERRORS
  else
    match f.kind with
    | .udp _ port ok =>
      if ok = false then d.incReg Reg.CSUM_ERRORS
      else if d.ourIp f.dstIp ∧ (port = d.regN Reg.QDP_UDP_PORT ∨ port = d.regN Reg.QPT_UDP_PORT) then d
      else drop
    | .icmp _ => if d.ourIp f.dstIp then d.post u 3 (.answer p 2 f.src) else drop
    | .nd t => if d.ourIp t then d.post u 3 (.answer p 1 f.src) else drop
    | _ => drop

/-- R283: a frame for the endpoint is in the device's VLAN: tagged with VLAN_ID, or untagged where none is set (log entry
172). -/
def Device.inVlan (d : Device) (f : EthFrame) : Bool :=
  match f.vlan with
  | none => d.regN Reg.VLAN_ID == 0
  | some (_, v) => v == d.regN Reg.VLAN_ID

/-- R285, R286: a frame delivered to the endpoint. `u` is the port and sub-port it came by. -/
def Device.endpoint (d : Device) (p u : Nat) (f : EthFrame) : Device :=
  let drop := d.incReg (Reg.un Reg.RX_DROPS p)
  if d.inVlan f = false then drop
  else
    match f.kind with
    | .ptp1588 dom tr _ ok =>
      if tr ≠ 4 ∧ f.frag = true then d.incReg Reg.IP_FRAG_DROPS
      else if tr ≠ 4 ∧ (ok = false ∨ f.ipOk = false) then d.incReg Reg.CSUM_ERRORS
      else if d.ptpDomain tr dom ∧ 2 ≤ tr then d else drop
    | .arp t => if t != 0 && t == d.regN Reg.IPV4_ADDR then d.post u 3 (.answer p 0 f.src) else d
    | .udp .. => d.ipIn p u f
    | .icmp _ => d.ipIn p u f
    | .nd _ => d.ipIn p u f
    | .ipOther => d.ipIn p u f
    | _ => drop

/-- R283: a PAUSE acts on the receiving port when its receive PAUSE is enabled: one quantum is 512 bit times. -/
def Device.pauseIn (d : Device) (p quanta : Nat) : Device :=
  let x := d.pport p
  if x.pauseRx then d.setPport p { x with pauseTo := d.now + ceilDivNat (quanta * 512 * 2) (5 * portGbps x.mode) } else d

/-- A group address, broadcast among them. -/
def isGroup (mac : Nat) : Bool := bit mac 40

/-- R287: the switch handles a received frame. -/
def Device.switchIn (d : Device) (p u : Nat) (f : EthFrame) : Device :=
  let fwd := d.regN Reg.SWITCH_MODE == 1
  let d1 := if fwd && !isGroup f.src then d.fdbLearn f.src p else d
  if 0x0180C2000000 ≤ f.dst ∧ f.dst ≤ 0x0180C200000F then
    match f.kind with
    | .pause q => d1.pauseIn p q
    | .gptp dom => if d1.ptpDomain 1 dom then d1 else d1.incReg (Reg.un Reg.RX_DROPS p)
    | _ => d1.incReg (Reg.un Reg.RX_DROPS p)
  else if f.dst = d.baseMac then d1.endpoint p u f
  else if isGroup f.dst then (if fwd then d1.forward p f else d1).endpoint p u f
  else if fwd = false then d1.incReg (Reg.un Reg.RX_DROPS p)
  else
    match d1.porch.fdb.find? (fun e => e.1 == f.dst) with
    | some e => if e.2.1 = p then d1 else d1.forward p f
    | none => d1.forward p f

/-- R286: PAUSE is sent when the receive buffer is at least 75 % full and taken back below 50 %, by a port that is ON (R289). -/
def Device.pauseOut (d : Device) (p rx : Nat) : Device :=
  let x := d.pport p
  if x.pauseTx = false ∨ d.pportState p ≠ 4 then d
  else if 786432 ≤ rx ∧ x.paused = false then
    (d.setPport p { x with paused := true }).send (.answer p 3 65535)
  else if rx < 524288 ∧ x.paused then (d.setPport p { x with paused := false }).send (.answer p 3 0)
  else d

/-- R286: while a PAUSE stands, the buffer may fall below 50 % in any cycle; the spec states no rate at which it empties, so
whether it does is a free value (log entry 170). -/
def Device.pauseTick (d : Device) (p : Nat) : Device :=
  if (d.pport p).paused && d.pportState p == 4 then
    let v := d.takeFree
    if v.1.toNat % 2 = 1 then v.2.pauseOut p 0 else v.2
  else d

/-- R283, R285 … R287: a received frame. `rx` is how many bytes of the port's receive buffer are in
use as it comes. -/
def Device.rxFrame (d : Device) (p sub rx : Nat) (f : EthFrame) : Device :=
  if d.domainOn 52 = false ∨ 1 < p ∨ d.pportState p ≠ 4 ∨ bit (d.regN (Reg.un Reg.LINK_UP p)) sub = false then d
  else
    let d1 := (d.addReg64 (Reg.un Reg.FEC_CORRECTED p) f.fecFix).addReg (Reg.un Reg.FEC_UNCORRECTED p) f.fecBad
    if f.fcsOk = false then d1.incReg (Reg.un Reg.FCS_ERRORS p)
    else if 9022 < f.len + 4 ∨ 1048576 < rx + f.len then (d1.incReg (Reg.un Reg.RX_DROPS p)).pauseOut p rx
    else ((d1.addReg64 (Reg.un Reg.RX_FRAMES p) 1).switchIn p (portUnit p sub) f).pauseOut p (rx + f.len)

/-! ### The domain -/

/-- The Porch is reset: its at-reset entries take effect, both ports are OFF with HOLD low, and the enabled ones
start. -/
def Device.porchReset (d : Device) : Device :=
  let d1 := [Reg.IPV4_ADDR, Reg.IPV4_PREFIX, Reg.IPV4_GATEWAY, Reg.IPV6_ADDR, Reg.IPV6_PREFIX, Reg.IPV6_GATEWAY,
    Reg.VLAN_ID, Reg.SWITCH_MODE, Reg.PORCH_HOLD_PAIRED].foldl (fun (d : Device) k => d.loadStored k) d
  let d2 := { d1 with porch := {} }
  let d3 := [0, 1].foldl (fun (d : Device) p =>
    (((d.setReg (Reg.un Reg.PORCH_PORT_STATE p) 0).setReg (Reg.un Reg.LINK_UP p) 0).setReg
      (Reg.un Reg.PORCH_HOLD_STATE p) 0).setReg (Reg.un Reg.LAUNCH_PENDING p) 0) (d2.setReg Reg.FDB_ENTRIES 0)
  [0, 1].foldl (fun (d : Device) p =>
    if d.regB (Reg.un Reg.PORCH_PORT_ENABLE p) then d.porchStart p else d) d3

/-- R291: HOLD falls when RESET_N is asserted or the PORCH domain is isolated. -/
def Device.porchIsolate (d : Device) : Device :=
  let d1 := [0, 1].foldl (fun (d : Device) p =>
    let d0 := d.setReg (Reg.un Reg.LINK_UP p) 0
    (d0.setPport p { d0.pport p with trained := false, sending := false, busyTo := [], txq := [] }).setReg (Reg.un Reg.PORCH_PORT_STATE p) 0) d
  d1.holdUpdate

end Sys2Proof.Machine
end

