-- ==== Sys2Proof/Machine/RedundOps.lean ====
section
/-! DEFINITION. Redundancy (R245 … R256) and self-tests and loopbacks (R451 … R455): shadowing, takeover, second
failures, proof tests and handback, the self-test pattern. -/
namespace Sys2Proof.Machine

/-! ### Catch-up bound (R251) -/

/-- The stripes of the plane of channel c that its columns meet on grid line g of page p. -/
def Device.metStripes (d : Device) (p : Page) (c g : Nat) : Nat :=
  ((p.planeStripes (d.planeAt c g)).filter (fun e => d.meetsStripe c g e.2)).length

/-- R_k in CORE clocks: the nozzles of the group's enabled channels at 8 per clock, and 8 clocks for each switch. -/
def Device.renderClocks (d : Device) (p : Page) (k g : Nat) : Nat :=
  let cs := (groupChans k).filter (fun c => d.chanOn c)
  let noz := sumN (cs.map (fun c => hpNozzles (d.prof c)))
  let sw := sumN (cs.map (fun c => d.metStripes p c g * hpRows (d.prof c)))
  ceilDivNat noz 8 + 8 * sw

/-- D_k in CORE clocks: the contexts of page p that the Room of group k owns, 8 pixels per clock. -/
def Device.decodeClocks (d : Device) (p : Page) (k g : Nat) : Nat :=
  sumN (p.planes.flatMap (fun e => (p.planeStripes e.plane).map (fun s =>
    ceilDivNat s.2.width 8 * (d.allShifts.filter (fun x => (d.readers e.plane g s.2 x).head? == some k)).length)))

/-- The active Rooms: those that render. -/
def Device.activeRooms (d : Device) : List Nat :=
  (List.range 24).filter (fun k => d.reg (Reg.ROOM_STATE + k) == 0 && d.rendering k)

/-- R246: P, the slots between two visits of one Room. -/
def Device.shadowPeriod (d : Device) : Nat :=
  ceilDivNat d.activeRooms.length (Nat.max 1 (d.regN Reg.SHADOW_ROOMS_PER_SLOT))

/-- R251: CATCHUP_BOUND_SLOTS of group k for page p; t_os is slowest × 1,000 / OVERSPEED_PERMILLE ns. -/
def Device.catchupBound (d : Device) (p : Page) (k g : Nat) : Nat :=
  let purge := d.regAt Reg.TAKEOVER_PURGE g != 0
  let l1 := if purge then 65 else 33
  let m := if purge then d.shadowPeriod + 3 else 1
  let x := 2000 + l1 * d.decodeClocks p k g + m * d.renderClocks p k g
  ceilDivNat (x * d.regN Reg.OVERSPEED_PERMILLE) (d.slowest * 1000)

/-- R251: the bounds are recomputed when page p binds at line g. -/
def Device.catchupAll (d : Device) (p : Page) (g : Nat) : Device :=
  (List.range 24).foldl (fun (d : Device) k => d.setRegN (Reg.CATCHUP_BOUND_SLOTS + k) (Nat.min 65535 (d.catchupBound p k g))) d

/-- R79, R172, R251: the page at the head of the queue binds. -/
def Device.bindNext (d : Device) : Device :=
  let d1 := d.bindHead
  if d1.mantel.bound.length = d.mantel.bound.length then d1
  else
    match d1.mantel.bound.getLast? with
    | none => d1
    | some b =>
      match d1.pageOf b with
      | none => d1
      | some p => d1.catchupAll p b.g0

/-! ### Class 4 (R223, R235, R253) -/

/-- R249, R254: a retired unit is recorded; a second Room fails the class's limit and is not recorded. -/
def Device.recordRetired (d : Device) (u : Nat) : Device :=
  let rooms := bitsOf 24 d.cal.retired
  if u < 24 ∧ rooms ≠ [] ∧ rooms ≠ [u] then d.calReject 4 u 1 |>.calDone 4 calRejected
  else
    (({ d with cal := { d.cal with retired := setBit d.cal.retired u } }).markDirty 1 0).calDone 4 calApplied

/-- R255: a unit's retired bit is cleared. -/
def Device.clearRetired (d : Device) (u : Nat) : Device :=
  (({ d with cal := { d.cal with retired := clrBit d.cal.retired u } }).markDirty 1 0).calDone 4 calApplied

/-! ### Takeover (R249 … R254) -/

/-- R176, R249: the checkpoint that context x reloads: the newest usable one, or the older one. -/
def Device.reload1 (m : Memories) (d : Device) (x : Ctx) (older : Bool) : Option Ckpt :=
  let l := x.ck.filter (Device.ckptUsable m d x)
  if older then l.getLast? else l.head?

/-- R249 step 2: a context of the group becomes the Spare's and is reloaded from its checkpoint; one with none that is
usable starts its chain again. -/
def Device.toSpare (m : Memories) (d : Device) (x : Ctx) (older : Bool) : Ctx :=
  { x with owner := 24, dec := (((Device.reload1 m d x older).map Ckpt.dec).getD x.start), buf := [], pend := [] }

/-- R249 step 1 with TAKEOVER_PURGE: the entries of every slot after the last matching check are discarded; with no
matching check yet, all. -/
def Device.purgeFifo (d : Device) (k : Nat) (last : Option Nat) : Device :=
  let sound (h : Nat) : Bool := match last with
    | some l => decide (h ≤ l)
    | none => false
  (groupChans k).foldl (fun (d : Device) c =>
    let x := d.chan c
    d.setChan c { x with fifo := x.fifo.filter (fun e => sound e.slot) }) d

/-- R249 step 4: where the Spare starts for channel c: the first slot that is neither in its FIFO nor older than its next
slot to shift. -/
def Device.spareStart (d : Device) (c : Nat) : Device :=
  let n := d.nextSlot c
  let x := d.chan c
  let h := ((List.range 65).find? (fun i => x.fifo.all (fun e => e.slot != n + i))).getD 0 + n
  d.setChan c { x with rend := h }

/-- R249: the takeover of Room k with a cause: 1 SIGNATURE, 2 STALL, 3 MEMORY. -/
def Device.takeover (m : Memories) (d : Device) (k cause : Nat) : Device :=
  let hd := d.roomNext k
  let purge := d.regB Reg.TAKEOVER_PURGE
  let ck := ((d.rooms.ctxs.filter (fun x => x.owner == k)).filterMap (fun x => Device.reload1 m d x purge)).map (fun c => c.slot)
  let levels := (groupChans k).map (fun c => (d.chan c).fifo.length)
  let d1 := if purge then d.purgeFifo k (assoc d.red.lastOk k) else d
  let d2 := { d1 with rooms := { d1.rooms with
    ctxs := d1.rooms.ctxs.map (fun (x : Ctx) => if x.owner = k then Device.toSpare m d x purge else x) } }
  let start (d : Device) : Device :=
    let x := (groupChans k).foldl (fun (d : Device) c => d.spareStart c) d
    x.setRoom k { x.room k with next := minN hd (hd :: (x.roomChans k).map (fun c => (x.chan c).rend)),
                                ckDue := [], begun := none }
  let d3 := if (d2.room k).started then start d2 else d2
  let d4 := (((d3.setReg (Reg.ROOM_STATE + k) 2).setReg Reg.ROOMS_SPARE_STATE 1).setRegN Reg.SPARE_SERVING k).incReg
    Reg.TAKEOVERS
  let t : Takeover :=
    { room := k, cause := cause, hd := hd, purge := purge, ckpt := maxN ck, levels := levels, at_ := d.now,
      tb3 := d.tb3Ns }
  let d5 := { d4 with red := { d4.red with take := some t } }
  (d5.raise Ev.SPARE_TAKEOVER k [.u 1 cause, .raw 4 hd]).recordRetired k

/-- R173, R253: the contexts that unit u owned when its group was left without a renderer. -/
def Device.passCtxs (d : Device) (u : Nat) : Device := d.passOn (fun x => x.owner == u)

/-- R253: a further failure: the group, until now rendered by unit u, has no renderer. -/
def Device.secondFailure (d : Device) (k u cause : Nat) : Device :=
  let pol := d.regN Reg.SECOND_FAIL_POLICY
  let d1 := ((d.setReg (Reg.ROOM_STATE + k) 2).raise Ev.ROOM_SECOND_FAILURE k [.u 1 cause, .u 0 pol]).passCtxs u
  if pol = 1 then d1.schedStop else d1

/-- R249, R253: Room k is identified as faulty. -/
def Device.roomFaulty (m : Memories) (d : Device) (k cause : Nat) : Device :=
  let d0 := { d with red := { d.red with pend := d.red.pend.filter (fun p => p.room != k) } }
  if 2 ≤ d.regN (Reg.ROOM_STATE + k) then d0
  else if d.reg Reg.ROOMS_SPARE_STATE = 0 then Device.takeover m d0 k cause
  else (d0.secondFailure k k cause).recordRetired k

/-- R254: the Spare is identified as faulty at a slot. -/
def Device.spareFaulty (d : Device) (cause slot : Nat) : Device :=
  let st := d.reg Reg.ROOMS_SPARE_STATE
  if 2 ≤ st then d
  else
    let k := d.regN Reg.SPARE_SERVING
    let d1 := { d with red := { d.red with pend := [], handback := none } }
    let d2 := ((d1.setReg Reg.ROOMS_SPARE_STATE 2).setReg Reg.SPARE_SERVING 0xFF).raise Ev.SPARE_RETIRED 24
      [.u 1 cause, .raw 4 slot]
    let d3 := d2.recordRetired 24
    if st = 1 then d3.secondFailure k 24 cause else d3

/-- R254: the referee matches neither unit. -/
def Device.shadowUnresolved (d : Device) (p : ShadowPend) : Device :=
  let k := d.regN Reg.SPARE_SERVING
  let was := d.reg Reg.ROOMS_SPARE_STATE
  let d1 := { d with red := { d.red with pend := [], handback := none } }
  let d2 := ((d1.setReg (Reg.ROOM_STATE + p.room) 2).setReg Reg.ROOMS_SPARE_STATE 2).setReg Reg.SPARE_SERVING 0xFF
  let d3 := (d2.raise Ev.SHADOW_UNRESOLVED p.room [.u 1 p.ch, .raw 4 p.slot]).recordRetired p.room
  let d4 := d3.recordRetired 24
  let d5 := if was = 1 then d4.secondFailure k 24 1 else d4
  (d5.passCtxs p.room).schedStop

/-- R249 step 5, R263: the record's catch-up and losses. -/
def Takeover.lostMax (t : Takeover) : Nat := maxN (t.lost.map Prod.snd)

/-- R263: TAKEOVER_RECORD. -/
def Takeover.bytes (t : Takeover) : List Nat :=
  let none64 := List.replicate 8 0xFF
  let glc (x : Option (Nat × Int)) : List Nat := match x with
    | some p => leBytes 8 p.1
    | none => none64
  let pt (x : Option (Nat × Int)) : List Nat := match x with
    | some p => leBytesI 8 p.2
    | none => List.replicate 8 0
  withCheck ([0x51, 0x46, 1, t.room, t.cause, (if t.purge then 1 else 0) + (if t.caught.isSome then 2 else 0)] ++
    leBytes 2 (Nat.min 65535 t.lostMax) ++ leBytes 8 (t.hd % 2 ^ 48) ++ leBytes 8 (t.ckpt % 2 ^ 48) ++ glc t.first ++
    glc t.last ++ pt t.first ++ pt t.last ++ leBytes 8 t.tb3 ++
    leBytes 4 ((((t.caught.getD 0) * 5 / 2)) % 2 ^ 32) ++ List.replicate 8 0)

/-- R249 step 5: every channel's FIFO level is back to its level at step 1. -/
def Device.caughtUp (d : Device) (t : Takeover) : Bool :=
  (List.range 8).all (fun i =>
    let c := 8 * t.room + i
    !(d.roomChans t.room).contains c || decide (t.levels.getD i 0 ≤ (d.chan c).fifo.length))

/-- R249 step 5: after a slot that the Spare rendered for group k. -/
def Device.spareRendered (d : Device) (k : Nat) : Device :=
  match d.red.take with
  | none => d
  | some t =>
    if t.room = k ∧ t.caught = none ∧ d.spareServes k = true ∧ d.caughtUp t = true then
      let n := d.now - t.at_
      { d with red := { d.red with take := some { t with caught := some n } } }.raise Ev.SPARE_CAUGHT_UP k
        [.u 2 t.lostMax, .u 0 (n * 5 / 2)]
    else d

/-- R255: the proven Room takes its group and its contexts back before slot h of the group when h mod 32 = 0. -/
def Device.handbackAt (d : Device) (k : Nat) : Device :=
  let h := d.roomNext k
  if d.red.handback = some k ∧ h % 32 = 0 then
    let d1 := { d with
      red := { d.red with handback := none }
      rooms := { d.rooms with ctxs := d.rooms.ctxs.map (fun (x : Ctx) => if x.owner = 24 then { x with owner := k } else x) } }
    (((d1.setReg (Reg.ROOM_STATE + k) 0).setReg Reg.ROOMS_SPARE_STATE 0).setReg Reg.SPARE_SERVING 0xFF).raise
      Ev.ROOM_HANDBACK k [.raw 4 (h % 2 ^ 32)]
  else d

/-- R255: the proof test compares one more channel-line: channel, slot, the signature that it must have, and whether it had. -/
def Device.proofCompare (d : Device) (c h sig : Nat) (ok : Bool) : Device :=
  match d.red.proof with
  | none => d
  | some p =>
    let q := { p with lines := (c, h, sig) :: p.lines
                      miss := if ok || p.miss.isSome then p.miss else some p.lines.length }
    { d with red := { d.red with proof := some q } }

/-- R255: Room k, under a proof test while the Spare serves its group, loads the group's contexts from the Spare's newest
checkpoint, once, and renders every slot that the Spare has rendered since `old`. -/
def Device.proofBeside (m : Memories) (d : Device) (k : Nat) (old : List (Nat × Nat × Nat)) : Device :=
  match d.red.proof with
  | none => d
  | some p =>
    if p.unit ≠ k ∨ d.spareServes k = false ∨ d.reg Reg.SCHED_STATE = 2 then d
    else
      let mine := d.rooms.ctxs.filter (fun x => x.owner == 24)
      let got := p.loaded.getD (mine.filterMap (fun x => (Device.reload1 m d x false).map (fun c => (x.id, c.slot))))
      let d1 := { d with red := { d.red with proof := some { p with loaded := some got } } }
      (((d.room k).sigs.filter (fun s => !old.contains s)).reverse).foldl (fun (d : Device) s =>
        d.proofCompare s.2.1 s.1 s.2.2 true) d1

/-- ROOM_RENDER_SLOT: the unit that serves group k renders its next slot, with the handback and the catch-up that fall
on it, and a Room under test beside it. -/
def Device.renderGroup (m : Memories) (d : Device) (k : Nat) : Device :=
  if d.rendering k then
    Device.proofBeside m ((Device.renderSlot m (d.handbackAt k) k).spareRendered k) k (d.room k).sigs
  else d

/-! ### Shadowing (R246, R247) -/

/-- The signature that the Room computed for its newest slot of channel c. -/
def Device.roomSig (d : Device) (k c : Nat) : Option (Nat × Nat) :=
  ((d.room k).sigs.find? (fun s => s.2.1 == c)).map (fun s => (s.1, s.2.2))

/-- R246: may one more Room be checked in this slot period? -/
def Device.shadowQuota (d : Device) : Bool :=
  match d.red.period with
  | none => true
  | some (l, n) => l != d.mantel.line || decide (n < d.regN Reg.SHADOW_ROOMS_PER_SLOT)

/-- R247 step 1: the Room's entry of (h, c) is rewritten with the line recomputed. -/
def Device.rewriteEntry (m : Memories) (d : Device) (c h : Nat) : Device :=
  let codes := Device.renderCodes m d c h
  let crc := crc32c (entryBytes (d.prof c) codes)
  let x := d.chan c
  d.setChan c { x with fifo := x.fifo.map (fun e => if e.slot = h then { e with codes := codes, crc := crc } else e) }

/-- R247 step 1: a transient: the units whose first result differs are reported. -/
def Device.shadowTransient (m : Memories) (d : Device) (p : ShadowPend) (s : Nat) : Device :=
  let ev (d : Device) (u : Nat) : Device := d.raise Ev.SHADOW_TRANSIENT u [.u 1 p.ch, .raw 4 p.slot]
  let d1 := d.incReg Reg.TRANSIENTS
  let d2 := if p.sr ≠ s then Device.rewriteEntry m (ev d1 p.room) p.ch p.slot else d1
  if p.ss ≠ s then ev d2 24 else d2

/-- The sound signature of slot h of channel c. -/
def Device.soundSig (m : Memories) (d : Device) (c h : Nat) : Nat :=
  crc32c (entryBytes (d.prof c) (Device.renderCodes m d c h))

/-- R452: the contone of the self-test pattern. -/
def patternPix (l col : Nat) : Nat := (37 * col + 101 * l + (col ^^^ l)) % 256

/-- R452: the head of the pattern: 4,096 nozzles in 2 rows, 3 bits, identity DROP_MAP. -/
def patternProf : List Nat :=
  let b := List.replicate 128 0
  let b1 := overlay b 0 (leBytes 2 4096 ++ [2, 3])
  let b2 := overlay b1 32 [0, 1, 2, 3, 4, 5, 6, 7]
  overlay b2 104 (leBytes 4 1)

/-- R452: the rendering of page line l. -/
def patternCfg (l : Nat) : LineCfg :=
  { line := l, pageLine := l, cols := columnsOf patternProf 2, base := 0, first := 0, count := 2048, npc := 2,
    tone := none, gains := none, matrix := matrixDefault, rowPh := 0, colPh := 0, slew := [(0, 16)],
    src := [{ first := 0, pix := (List.range 2048).map (patternPix l) }] }

/-- R452: one FIFO entry of the pattern. -/
def patternEntry (l : Nat) : List Nat :=
  let g := patternCfg l
  entryBytes patternProf (placeCodes 4096 (g.rowCodes {} patternProf 0 ++ g.rowCodes {} patternProf 1))

/-- R255: does the visit of the shadow schedule to Room k belong to a proof test? It is one of the Room, or of the Spare. -/
def Device.proving (d : Device) (k : Nat) : Bool :=
  match d.red.proof with
  | none => false
  | some p => (p.unit == k && !d.spareServes k) || p.unit == 24

/-- R255: in STOPPED the unit under test and its partner render the next line of the self-test pattern. -/
def Device.proofPattern (d : Device) (unit partner : Option Nat) : Device :=
  match d.red.proof with
  | none => d
  | some p =>
    if 24 < p.unit then d
    else
      let l := p.lines.length % 256
      let sig := crc32c (patternEntry l)
      d.proofCompare 0 l sig (unit.getD sig == partner.getD sig)

/-- R246, R255: the Rooms of the shadow schedule: the active ones, and one under a proof test, but for the one the Spare
serves. -/
def Device.shadowNext (d : Device) : Option Nat :=
  let under (k : Nat) : Bool := match d.red.proof with
    | none => false
    | some p => p.unit == k
  let l := (List.range 24).filter (fun k => !d.spareServes k && (d.activeRooms.contains k || under k))
  match l.find? (fun k => decide (d.red.ptr ≤ k)) with
  | some k => some k
  | none => l.head?

/-- R246, R255: the Spare compares: while it shadows or serves, and under its own proof test. -/
def Device.spareCompares (d : Device) : Bool :=
  decide (d.reg Reg.ROOMS_SPARE_STATE < 2) || (match d.red.proof with
    | none => false
    | some p => p.unit == 24)

/-- R246, R255: one visit of the Spare to Room k: of a Room under test the line that comes next, of another the newest. `room`
and `spare` are the signatures of units that computed another line than the sound one. -/
def Device.shadowVisit (m : Memories) (d : Device) (k : Nat) (room spare : Option Nat) : Device :=
  let cs := d.roomChans k
  let turn := (assoc d.red.turns k).getD 0
  let c := cs.getD (turn % Nat.max 1 cs.length) 0
  let n := match d.red.period with
    | some (l, n) => if l = d.mantel.line then n + 1 else 1
    | none => 1
  let d1 := { d with red := { d.red with ptr := k + 1, turns := assocSet d.red.turns k (turn + 1),
                                         period := some (d.mantel.line, n) } }
  if cs.isEmpty then d1
  else if d.proving k && (d.roomSig k c).isNone then
    let h := d.roomNext k
    let sig := Device.soundSig m d c h
    d1.proofCompare c h sig (room.getD sig == spare.getD sig)
  else
    match d.roomSig k c with
    | none => d1
    | some (h, sig) =>
      let sr := room.getD sig
      let ss := spare.getD sig
      if d.proving k then d1.proofCompare c h sig (sr == ss)
      else if sr = ss then { d1 with red := { d1.red with lastOk := assocSet d1.red.lastOk k h } }
      else
        let p : ShadowPend := { room := k, ch := c, slot := h, line := d.mantel.line, sr := sr, ss := ss }
        ({ d1 with red := { d1.red with pend := d1.red.pend ++ [p] } } : Device).incReg Reg.MISMATCHES

/-- SHADOW_CHECK (R246): the Spare's next visit, within the quota of the slot period; in STOPPED, where no slot is rendered,
the next line of a proof test (R255). -/
def Device.shadowCheck (m : Memories) (d : Device) (room spare : Option Nat) : Device :=
  if d.reg Reg.SCHED_STATE = 2 ∧ d.red.proof.isSome = true then d.proofPattern room spare
  else if d.spareCompares = false ∨ d.shadowQuota = false then d
  else
    match d.shadowNext with
    | none => d
    | some k => Device.shadowVisit m d k room spare

/-- SHADOW_RECOMPUTE (R247 step 1), in the next slot period. -/
def Device.shadowRecompute (m : Memories) (d : Device) (room spare : Option Nat) : Device :=
  match d.red.pend.find? (fun p => p.again.isNone) with
  | none => d
  | some p =>
    if d.mantel.line ≤ p.line then d
    else
      let s := Device.soundSig m d p.ch p.slot
      let sr := room.getD s
      let ss := spare.getD s
      let rest := d.red.pend.filter (fun q => q != p)
      if sr = ss then Device.shadowTransient m { d with red := { d.red with pend := rest } } p sr
      else { d with red := { d.red with pend := rest ++ [{ p with line := d.mantel.line, again := some (sr, ss) }] } }

/-- R247: the referee: the next active Room above the Room under test, wrapping. -/
def Device.referee (d : Device) (k : Nat) : Option Nat :=
  let l := d.activeRooms.filter (fun r => r != k)
  match l.find? (fun r => decide (k < r)) with
  | some r => some r
  | none => l.head?

/-- SHADOW_REFEREE (R247 step 2), in the following slot period. `ref` is the signature of a referee that computed another
line than the sound one. With no other active Room there is no signature that matches (log entry 89). -/
def Device.shadowReferee (m : Memories) (d : Device) (ref : Option Nat) : Device :=
  match d.red.pend.find? (fun p => p.again.isSome) with
  | none => d
  | some p =>
    if d.mantel.line ≤ p.line then d
    else
      let a := p.again.getD (0, 0)
      let d1 := { d with red := { d.red with pend := d.red.pend.filter (fun q => q != p) } }
      match d.referee p.room with
      | none => d1.shadowUnresolved p
      | some _ =>
        let s := ref.getD (Device.soundSig m d p.ch p.slot)
        if s = a.2 then Device.roomFaulty m d1 p.room 1
        else if s = a.1 then d1.spareFaulty 1 p.slot
        else d1.shadowUnresolved p

/-- ROOM_STALL and ROOM_MEMORY_ERROR (R248): unit 0 … 23 or the Spare, 24. -/
def Device.unitFaulty (m : Memories) (d : Device) (u cause : Nat) : Device :=
  if u = 24 then d.spareFaulty cause (d.roomNext (if d.reg Reg.ROOMS_SPARE_STATE = 1 then d.regN Reg.SPARE_SERVING else 0))
  else if u < 24 then Device.roomFaulty m d u cause
  else d

/-- R248: unit u has not completed a slot that it has begun within ROOM_STALL_US. While the Spare only shadows, the slots
that it begins are those of SHADOW_CHECK, whose time the command itself tells (log entry 164). -/
def Device.stalled (d : Device) (u : Nat) : Bool :=
  let engaged := d.reg Reg.ROOMS_SPARE_STATE == 1
  let late (k : Nat) : Bool := match (d.room k).begun with
    | some t => decide (t + cycUs (d.regN Reg.ROOM_STALL_US) < d.now)
    | none => false
  if u = 24 then !engaged || late (d.regN Reg.SPARE_SERVING) else late u

/-- ROOM_STALL (R248). -/
def Device.roomStall (m : Memories) (d : Device) (u : Nat) : Device := if d.stalled u then Device.unitFaulty m d u 2 else d

/-! ### Proof tests (R255, R256) -/

/-- The state of a proof unit 0 … 24. -/
def Device.unitState (d : Device) (u : Nat) : Nat :=
  if u = 24 then d.regN Reg.ROOMS_SPARE_STATE else d.regN (Reg.ROOM_STATE + u)

/-- Write the state of a proof unit. -/
def Device.setUnitState (d : Device) (u : Nat) (st : Int) : Device :=
  if u = 24 then d.setReg Reg.ROOMS_SPARE_STATE st else d.setReg (Reg.ROOM_STATE + u) st

/-- R255, R256: the status of PROOF_CMD 01h. `laneOk` says that the port's link is in H0 and L4 carries no data. -/
def Device.proofCheck (d : Device) (laneOk : Bool) : Status :=
  let u := d.regN Reg.PROOF_UNIT
  if d.reg Reg.PROOF_STATUS = 1 then .busy
  else if u ≤ 24 then if d.unitState u = 2 then .ok else .state
  else if laneOk then .ok else .state

/-- PROOF_CMD 01h. -/
def Device.proofStart (d : Device) : Device :=
  let u := d.regN Reg.PROOF_UNIT
  let p : Proof_ := { unit := u, checks := if u ≤ 24 then d.regN Reg.PROOF_CHECKS else d.regN Reg.PROOF_LANE_BITS,
                      limit := if u ≤ 24 then 0 else d.regN Reg.PROOF_LANE_MAX_ERRORS,
                      was := if u ≤ 24 then 0 else d.regN (Reg.HALL_SPARE_STATE + 2048 * (u - 25)) }
  let d1 := { d with red := { d.red with proof := some p } }.setReg Reg.PROOF_STATUS 1
  if u ≤ 24 then d1.setUnitState u 3 else d1

/-- R255: what a passed unit returns to. -/
def Device.proofReturn (d : Device) (u : Nat) : Device :=
  let d1 := d.clearRetired u
  if u = 24 then d1.setReg Reg.ROOMS_SPARE_STATE 0
  else if d1.spareServes u then { d1 with red := { d1.red with handback := some u } }
  else d1.setReg (Reg.ROOM_STATE + u) (if d1.hgState u = 0 then 1 else 0)

/-- R255: how many channel-lines a proof test had compared before the first that did not match: one found at the visit, or one
whose signature by the unit under test, as `wrong` gives it, is not the one compared with. -/
def Proof_.missAt (p : Proof_) (wrong : List (Nat × Nat × Nat)) : Option Nat :=
  let l := p.lines.reverse
  let at_ := ((List.range l.length).zip l).filterMap (fun e =>
    if wrong.any (fun w => w.1 == e.2.1 && w.2.1 == e.2.2.1 && w.2.2 != e.2.2.2) then some e.1 else none)
  (p.miss.toList ++ at_).foldl (fun (a : Option Nat) n => some (Nat.min n (a.getD n))) none

/-- PROOF_DONE for a Room or the Spare (R255): it fails with its memory self-test, before any comparison, or at the first
mismatch; it passes with PROOF_CHECKS matching lines, and goes on before (log entry 162). -/
def Device.proofUnit (d : Device) (p : Proof_) (x : ProofRes) : Device :=
  let miss := if x.mem.isSome then none else p.missAt x.wrong
  let bad := x.mem.isSome || miss.isSome
  if bad = false ∧ p.lines.length < p.checks then d
  else
    let d1 := ({ d with red := { d.red with proof := none } } : Device).setRegN (Reg.LAST_PROOF_TB3_NS + p.unit) d.tb3Ns
    let det : List DF := [.u 4 (if x.mem.isSome then 0 else miss.getD p.lines.length), .u 0 (if miss.isSome then 1 else 0)]
    if bad then ((d1.setReg Reg.PROOF_STATUS 3).raise Ev.PROOF_FAILED p.unit det).setUnitState p.unit 2
    else ((d1.setReg Reg.PROOF_STATUS 2).raise Ev.PROOF_PASSED p.unit det).proofReturn p.unit

/-- PROOF_DONE for a spare lane (R256): a lane that failed is FAILED, one that passed is COLD again. -/
def Device.proofLane (d : Device) (p : Proof_) (x : ProofRes) : Device :=
  let bad := decide (p.limit < x.errs)
  if bad = false ∧ x.n < p.checks then d
  else
    let d1 := (({ d with red := { d.red with proof := none } } : Device).setRegN Reg.PROOF_LANE_ERRORS x.errs).setRegN
      (Reg.LAST_PROOF_TB3_NS + p.unit) d.tb3Ns
    let d2 := d1.setRegN (Reg.HALL_SPARE_STATE + 2048 * (p.unit - 25)) (if bad then 2 else 0)
    (d2.setReg Reg.PROOF_STATUS (if bad then 3 else 2)).raise (if bad then Ev.PROOF_FAILED else Ev.PROOF_PASSED) p.unit
      [.u 4 x.n, .u 0 x.errs]

/-- PROOF_DONE (R255, R256). -/
def Device.proofDone (d : Device) (x : ProofRes) : Device :=
  match d.red.proof with
  | none => d
  | some p => if p.unit ≤ 24 then d.proofUnit p x else d.proofLane p x

/-- PROOF_CMD 02h, and a lane failure during a lane test (R256). What a test of a lane had come to is a free value (log entry
1); one of a unit that still runs has found no mismatch. -/
def Device.proofAbort (d : Device) : Device :=
  match d.red.proof with
  | none => d
  | some p =>
    let d0 := (({ d with red := { d.red with proof := none } } : Device).setReg Reg.PROOF_STATUS 4)
    if p.unit ≤ 24 then
      (d0.setUnitState p.unit 2).raise Ev.PROOF_ABORTED p.unit [.u 4 p.lines.length, .u 0 (p.missAt []).toList.length]
    else
      let n := d0.takeFree
      let e := n.2.takeFree
      e.2.raise Ev.PROOF_ABORTED p.unit [.u 4 (n.1.toNat % 2 ^ 32), .u 0 e.1.toNat]

/-- R224, R249: at reset, a unit recorded as retired stays retired, and the Spare serves the Room's group. -/
def Device.restoreRetired (d : Device) : Device :=
  let d1 := if bit d.cal.retired 24 then d.setReg Reg.ROOMS_SPARE_STATE 2 else d
  match bitsOf 24 d.cal.retired with
  | [] => d1
  | k :: _ =>
    let d2 := d1.setReg (Reg.ROOM_STATE + k) 2
    if bit d.cal.retired 24 then d2 else (d2.setReg Reg.ROOMS_SPARE_STATE 1).setRegN Reg.SPARE_SERVING k

/-! ### Self-tests (R451 … R453) -/

/-- R452: the signature of the 256 entries in line order, SELFTEST_GOLDEN (log entry 25: LAYOUT 0, no row shift). -/
def selftestGolden : Nat := crc32c ((List.range 256).flatMap patternEntry)

/-- R451: the status of SELFTEST_CMD 01h. -/
def Device.selftestCheck (d : Device) : Status :=
  let u := d.regN Reg.SELFTEST_UNIT
  if d.reg Reg.SELFTEST_STATUS = 1 then .busy
  else if u = 25 then if d.reg Reg.SCHED_STATE = 2 then .ok else .state
  else if u = 24 then if 2 ≤ d.regN Reg.ROOMS_SPARE_STATE then .ok else .state
  else if 1 ≤ d.regN (Reg.ROOM_STATE + u) then .ok else .state

/-- SELFTEST_CMD 01h. -/
def Device.selftestStart (d : Device) : Device :=
  ({ d with red := { d.red with selftest := some (d.regN Reg.SELFTEST_UNIT, d.now) } }).setReg Reg.SELFTEST_STATUS 1

/-- R451: the test ends: a group that waited for it starts. -/
def Device.selftestEnd (d : Device) (u : Nat) (st : Int) : Device :=
  let d1 := ({ d with red := { d.red with selftest := none } }).setReg Reg.SELFTEST_STATUS st
  if u < 24 ∧ d1.hgState u = 2 ∧ d1.groupQuiet u = true then d1.startGroup u else d1

/-- SELFTEST_CMD 02h. -/
def Device.selftestAbort (d : Device) : Device :=
  match d.red.selftest with
  | none => d
  | some (u, _) => d.selftestEnd u 4

/-- R453: a Room or the Spare that fails becomes RETIRED. -/
def Device.selftestRetire (d : Device) (u : Nat) : Device :=
  if u ≤ 24 then (d.setUnitState u 2).recordRetired u else d

/-- R452: the signature of the entries that a unit gave, those of `wrong` in place of the pattern's. -/
def selftestSig (wrong : List (Nat × List Nat)) : Nat :=
  crc32c ((List.range 256).flatMap (fun l => (assoc wrong l).getD (patternEntry l)))

/-- R452, R453: where a Room or the Spare failed: stage 1 with the array address, or stage 2 with the first wrong line of
the pattern; none where its signature is SELFTEST_GOLDEN. -/
def selftestFailure (x : SelfRes) : Option (Nat × Nat) :=
  match x.mem with
  | some a => some (1, a)
  | none =>
    if x.wrong.isEmpty || selftestSig x.wrong == selftestGolden then none
    else some (2, minN 255 (x.wrong.map Prod.fst))

/-- R453: a self-test has failed. -/
def Device.selftestFailed (d : Device) (u stage addr : Nat) : Device :=
  (((d.setRegN Reg.SELFTEST_FAIL_ADDR addr).selftestRetire u).selftestEnd u 3).raise Ev.SELFTEST_FAILED u
    [.u 2 stage, .u 0 addr]

/-- R453: a self-test has passed: the time taken in ms. -/
def Device.selftestPassed (d : Device) (u t0 : Nat) : Device :=
  (d.selftestEnd u 2).raise Ev.SELFTEST_PASSED u [.u 0 ((d.now - t0) / 400000)]

/-- SELFTEST_DONE (R453). The Mantel fails with a copy that its measurement leaves retired; the rule gives its failure no
stage and no address, and both are free values (log entry 165). A pass changes no state. -/
def Device.selftestDone (d : Device) (x : SelfRes) : Device :=
  match d.red.selftest with
  | none => d
  | some (u, t0) =>
    if u = 25 then
      let d1 := d.runDelay x.segs
      if d1.regN Reg.COPY_RETIRED = 0 then d.selftestPassed u t0
      else
        let a := d1.takeFree
        let b := a.2.takeFree
        b.2.selftestFailed u (a.1.toNat % 2 ^ 16) (b.1.toNat % 2 ^ 32)
    else
      match selftestFailure x with
      | some (stage, addr) => d.selftestFailed u stage addr
      | none => d.selftestPassed u t0

/-! ### Loopbacks (R454, R455) -/

/-- R454: the status of LOOP_CMD 01h. -/
def Device.loopbackCheck (d : Device) : Status :=
  let t := d.regN Reg.LOOP_TARGET
  let off := if t < 24 then d.hgState t == 0 && !bit (d.regN Reg.FIRE_ENABLE) t
    else if t < 26 then d.reg (Reg.un Reg.PORCH_PORT_STATE (t - 24)) == 0
    else d.reg (Reg.un Reg.HALL_PORT_STATE (8 * (t - 26))) == 0
  if d.reg Reg.LOOP_STATUS = 1 then .busy else if off then .ok else .state

/-- R454: the time of a loopback, ENC cycles. -/
def loopbackTime (t : Nat) : Nat := if t < 24 then cycMs 1 else if t < 26 then 33320000 else 68720000

/-- LOOP_CMD 01h. -/
def Device.loopbackStart (d : Device) : Device :=
  ({ d with red := { d.red with loop := some (d.regN Reg.LOOP_TARGET, d.now) } }).setReg Reg.LOOP_STATUS 1

/-- R454: the bits of LOOP_FAIL_MAP that the test of a target can set. -/
def Device.loopbackMask (d : Device) (t : Nat) : Nat :=
  if t < 24 then
    let on := (List.range 8).filter (fun i => d.regB (Reg.CH_ENABLE + 8 * t + i))
    maskOf (on ++ on.map (fun i => i + 8) ++ on.map (fun i => i + 16) ++ [24, 25])
  else if t < 26 then 0xF else 0x3F

/-- R454: the pairs of a head group that are SHORT or OPEN, and those that are OPEN, by |VOD| in mV. -/
def loopPairs (vod : List Nat) : Nat × Nat :=
  let bad := (List.range 26).filter (fun i => let v := vod.getD i 400; decide (v < 150) || decide (600 < v))
  (maskOf bad, maskOf (bad.filter (fun i => decide (600 < vod.getD i 400))))

/-- R454, R455: the failing pairs or lanes of a target and the OPEN ones among them. A lane fails on any bit error, and FCLK
where its frequency is wrong. -/
def loopFails (t : Nat) (x : LoopRes) : Nat × Nat :=
  if t < 24 then loopPairs x.vod
  else
    let lanes := (List.range 5).filter (fun i => x.errs.getD i 0 != 0)
    (maskOf (lanes ++ if x.fclk then [] else [5]), 0)

/-- LOOPBACK_DONE (R455). -/
def Device.loopbackDone (d : Device) (x : LoopRes) : Device :=
  match d.red.loop with
  | none => d
  | some (t, t0) =>
    if d.now < t0 + loopbackTime t then d
    else
      let f := (loopFails t x).1 &&& d.loopbackMask t
      let o := (loopFails t x).2 &&& f
      let d1 := (({ d with red := { d.red with loop := none } }).setRegN Reg.LOOP_FAIL_MAP f).setRegN Reg.LOOP_OPEN_MAP o
      if f = 0 then d1.setReg Reg.LOOP_STATUS 2
      else (d1.setReg Reg.LOOP_STATUS 3).raise Ev.LOOPBACK_FAILED t [.u 0 f]

end Sys2Proof.Machine
end

