-- ==== Sys2Proof/Machine/HallOps.lean ====
section
/-! DEFINITION. The Hallway: training, link states, bypass, the ring's enumeration, latency, the timeline on a member,
lane failure, PRBS, enable, shutdown and reset (R306 … R326). -/
namespace Sys2Proof.Machine

/-- PORT_STATE of Hallway port p. -/
def Device.hportState (d : Device) (p : Nat) : Int := d.reg (hallKey Reg.HALL_PORT_STATE p)

/-- An entry of Hallway port p as a natural. -/
def Device.hp (d : Device) (p k : Nat) : Nat := d.regN (hallKey k p)

/-- Write an entry of Hallway port p. -/
def Device.setHp (d : Device) (p k : Nat) (v : Int) : Device := d.setReg (hallKey k p) v

/-- Put a path of a member. -/
def Device.path (d : Device) (p : Nat) : Path := if p = 0 then d.hall.pUp else d.hall.pDn
def Device.setPath (d : Device) (p : Nat) (x : Path) : Device :=
  if p = 0 then { d with hall := { d.hall with pUp := x } } else { d with hall := { d.hall with pDn := x } }

/-- The link is in H0, H1 or H2. -/
def Device.linkUp (d : Device) (p : Nat) : Bool :=
  d.linkState p == 2 || d.linkState p == 3 || d.linkState p == 4

/-- The hops by which timeline messages come in on a port: from UP downstream, from DN upstream. A direction that this
enumeration has not reached yet counts as the longest. -/
def Device.pathHops (d : Device) (p : Nat) : Nat :=
  let n := d.regN (if p = 0 then Reg.HOPS_DOWN else Reg.HOPS_UP)
  if n = 0 then 8 else n

/-- A nozzle map whose changes have come into force, with their ramps ended. -/
def NozMap.settled (m : NozMap) : NozMap :=
  let end_ (v : NozVal) : NozVal := { word := v.word, gw := nozGain v.word, leff := 0 }
  let keys := m.base.map Prod.fst ++ m.chg.map Prod.fst
  let last (n : Nat) : NozVal := match tget nozChg0 m.chg n with
    | some x => x.new
    | none => tget nozVal0 m.base n
  let b1 := keys.foldl (fun t n => tset nozVal0 t n (end_ (last n))) m.base
  let b2 := m.wait.foldl (fun t (p : Nat × Option Nat) => match p.2 with
    | some w => tset nozVal0 t p.1 { word := w, gw := nozGain w, leff := 0 }
    | none => t) b1
  { m with base := b2, chg := [], wait := [] }

/-- R78, R94, R394: GLC starts again: what other units hold by old line numbers starts again with it. The lines in the
FIFOs are dropped, the gates that a release left closed for older slots open, and values set for a later line are in force
(log entry 147). -/
def Device.renumber (d : Device) : Device :=
  let first := d.mantel.line + d.regN Reg.ARM_LINES + 1
  let ch (x : Chan) : Chan := { x with
    fifo := [], next := first, rend := first, shifted := none, latched := none, openIntlk := 0, openTherm := 0,
    lostEarly := none, rotAt := d.mantel.line }
  let gr (g : Group) : Group := { g with slots := [], shiftAt := none, ready := false, latSlots := [] }
  let trig (t : Trig) : Trig := { t with first := none, lastAt := none }
  { d with
    heads := { d.heads with chans := d.heads.chans.map (fun p => (p.1, ch p.2)),
                            groups := d.heads.groups.map (fun p => (p.1, gr p.2)) }
    rooms := { d.rooms with rooms := [], ctxs := [], maps := d.rooms.maps.map (fun p => (p.1, p.2.settled)) }
    prot := { d.prot with relSeen := [], ring := d.prot.ring.map (fun r => { r with relAt := r.relAt.map (fun _ => 0) }) }
    cal := { d.cal with settle := [], densLeff := [] }
    red := { d.red with period := none, pend := [], lastOk := [] }
    win := { d.win with trigs := d.win.trigs.map (fun p => (p.1, trig p.2)) }
    dict := { d.dict with superseded := [] } }

/-! ### Bypass (R326) -/

/-- R326: a port's own conditions of HOLD. Step 1 of R309 is complete from step 2 on. -/
def Device.hhOwn (d : Device) (p : Nat) : Bool :=
  d.domainOn 53 && d.time.nightAt.isNone && d.role != 3 && d.hportState p == 4 &&
    d.regB (hallKey Reg.HALL_HOLD_OWN p) && !(d.hport p).fallen

/-- R326: the level of a port's HOLD output. -/
def Device.hhLevel (d : Device) (p : Nat) : Bool :=
  let both := d.regB (hallKey Reg.HALL_PORT_ENABLE 0) && d.regB (hallKey Reg.HALL_PORT_ENABLE 1)
  d.hhOwn p && (!(d.regB Reg.HALL_HOLD_PAIRED && both) || d.hhOwn (1 - p))

/-- R326: both HOLD outputs follow their conditions. -/
def Device.hhUpdate (d : Device) : Device :=
  [0, 1].foldl (fun (d : Device) p =>
    let k := hallKey Reg.HALL_HOLD_STATE p
    let now := d.hhLevel p
    let d1 := if now && !d.regB k then d.setHport p { d.hport p with waitAt := d.now, wasUp := d.linkUp p } else d
    d1.setReg k (if now then 1 else 0)) d

/-! ### Enumeration (R317) -/

/-- R317: a member forgets the hops of the enumeration before. -/
def Device.enumForget (d : Device) : Device :=
  if d.isMember then
    { (d.setReg Reg.HOPS_DOWN 0).setReg Reg.HOPS_UP 0 with hall := { d.hall with cntDown := 0, cntUp := 0 } }
  else d

/-- R317 step 1: the master begins an enumeration, by which an earlier conflict is judged anew; a member whose link entered H0
starts to wait for one. -/
def Device.enumStart (d0 : Device) : Device :=
  let d := d0.enumForget
  let d1 := { d with hall := { d.hall with enumAt := some d.now, told := false } }
  if d.isMaster then
    let b (dir : Nat) : List Nat := [dir, 0, 0] ++ leBytes 4 (d.regN Reg.SERIAL)
    let d2 := if d1.reg Reg.RING_STATE = 3 then d1.setReg Reg.RING_STATE 0 else d1
    (d2.hallSend 1 0x10 0 (b 0)).hallSend 0 0x10 0 (b 1)
  else d1

/-- R317: the event on every device. -/
def Device.enumTell (d : Device) : Device :=
  { d with hall := { d.hall with told := true } }.raise Ev.HALL_RING_ENUMERATED 0xFF
    [.u 2 (d.regN Reg.RING_STATE), .u 2 (d.regN Reg.RING_SIZE), .u 0 (d.regN Reg.RING_POSITION)]

/-- R317 steps 3 and 4: the master knows the ring's state and size and sends ENUM again with the size. -/
def Device.enumDone (d : Device) (closed : Bool) (size : Nat) : Device :=
  let st : Int := if 8 < size then 5 else if closed then 1 else 2
  let d1 := { d with hall := { d.hall with enumAt := none } }
  let d2 := ((d1.setReg Reg.RING_STATE st).setRegN Reg.RING_SIZE (Nat.min 8 size)).setReg Reg.RING_POSITION 0
  let b (dir : Nat) : List Nat := [dir, 0, size % 256] ++ leBytes 4 (d.regN Reg.SERIAL)
  ((d2.hallSend 1 0x10 0 (b 0)).hallSend 0 0x10 0 (b 1)).enumTell

/-- R317: an ENUM message with direction, count, size and the master's SERIAL. -/
def Device.enumIn (d : Device) (h : HallHdr) (dir count size serial : Nat) : Device :=
  let (d0, ok) := d.hallRecv h 0x10
  if ok = false then d0
  else if d0.isMaster then
    if serial ≠ d.regN Reg.SERIAL then
      if d0.reg Reg.RING_STATE = 3 then d0
      else (d0.setReg Reg.RING_STATE 3).raise Ev.HALL_LINK_DOWN h.port [.u 0 5]
    else if size = 0 ∧ d0.hall.enumAt.isSome ∧ d0.reg Reg.RING_STATE ≠ 3 then d0.enumDone true (count + 1)
    else d0
  else if d0.isMember then
    let n := count + 1
    let dz := if size = 0 ∧ d0.hall.told = true then d0.enumForget else d0
    let dc := { dz with hall := if dir = 0 then { dz.hall with cntDown := n } else { dz.hall with cntUp := n } }
    let d1 := (dc.setRegN (if dir = 0 then Reg.HOPS_DOWN else Reg.HOPS_UP) (Nat.min 7 n)).hallSend (1 - h.port) 0x10
      (h.hops + 1) ([dir, n, size] ++ leBytes 4 serial)
    if size = 0 then { d1 with hall := { d1.hall with enumAt := none, told := false } }
    else
      let both := d1.regN Reg.HOPS_DOWN != 0 && d1.regN Reg.HOPS_UP != 0
      let pos := if d1.hall.cntDown ≠ 0 then d1.hall.cntDown else size - d1.hall.cntUp
      let d2 := (d1.setReg Reg.RING_STATE (if both then 1 else 2)).setRegN Reg.RING_SIZE (Nat.min 8 size)
      let d3 := d2.setRegN Reg.RING_POSITION (if pos < 8 then pos else 0xFF)
      if d3.hall.told then d3 else d3.enumTell
  else d0

/-- R317: ENUM_TIMEOUT_MS passes; a master in conflict knows no ring. `reached` is how many members the master's ENUM reached in both directions. -/
def Device.enumTimeout (d : Device) (reached : Nat) : Device :=
  match d.hall.enumAt with
  | none => d
  | some t =>
    if d.now < t + cycMs (d.regN Reg.ENUM_TIMEOUT_MS) then d
    else if d.isMaster then
      (if d.reg Reg.RING_STATE = 3 then { d with hall := { d.hall with enumAt := none } } else d.enumDone false (1 + reached))
    else { d with hall := { d.hall with enumAt := none } }.setReg Reg.RING_STATE 4

/-! ### The timeline path of a member (R308, R319, R321) -/

/-- R308: the ALIGNED path with fewer hops, UP when they are equal. -/
def Device.bestPath (d : Device) : Option Nat :=
  let a := d.hall.pUp.aligned
  let b := d.hall.pDn.aligned
  if a && b then some (if d.pathHops 0 ≤ d.pathHops 1 then 0 else 1)
  else if a then some 0
  else if b then some 1
  else none

/-- R317: which members may take a timeline path. -/
def Device.mayTime (d : Device) : Bool :=
  d.isMember && d.reg Reg.RING_STATE != 3 && d.reg Reg.RING_STATE != 4 && d.reg Reg.RING_POSITION != 0xFF

/-- R319, R321: TL_STATE and TL_PATH follow the paths. -/
def Device.tlUpdate (d : Device) : Device :=
  let st := d.reg Reg.TL_STATE
  match d.bestPath with
  | some p =>
    let x := d.path p
    let d1 := ((d.setReg Reg.TL_STATE 2).setReg Reg.TL_PATH (p + 1)).setReg Reg.TL_LATENCY_PS x.acc
    let d2 := if st = 4 ∨ st ≤ 1 then { d1 with hall := { d1.hall with resync := true } } else d1
    d2.setReg Reg.TB3_STATE 1
  | none =>
    if st = 2 then
      { (d.setReg Reg.TL_STATE 3).setReg Reg.TB3_STATE 2 with hall := { d.hall with coastAt := d.now } }
    else if st = 0 ∧ (d.hall.pUp.live || d.hall.pDn.live) then d.setReg Reg.TL_STATE 1
    else d

/-- R308, R321: a path ends with its link. With no path ALIGNED the member coasts; with the other one ALIGNED it changes
path at the next SYNC or EDGE. -/
def Device.pathLost (d : Device) (p : Nat) : Device :=
  if d.isMember then
    let d1 := d.setPath p {}
    if d1.bestPath.isSome then d1 else d1.tlUpdate
  else d

/-- Slots of channel c that a member skipped are one lost episode with cause 7. -/
def Device.loseSkipped (d : Device) (c a n : Nat) : Device :=
  if n = 0 then d
  else
    let d1 := d.loseSlot c a 7 (d.mantel.slotB a)
    let x := d1.chan c
    let e := x.loss.map (fun e => { e with count := e.count + (n - 1), last := a + n - 1 })
    ((d1.setChan c { x with loss := e }).addReg (Reg.LOST_LINES + c) (n - 1)).setRegN (Reg.LAST_LOST_GLC + c)
      ((a + n - 1) % 2 ^ 48)

/-- R308: a timeline message that came by port p is of the path in use. -/
def Device.pathInUse (d : Device) (p : Nat) : Bool := d.mayTime && d.reg Reg.TL_STATE == 2 && d.regN Reg.TL_PATH == p + 1

/-- R321: no path became ALIGNED within COAST_US: PT and GLC hold, and no strobe fires. -/
def Device.coastTimeout (d : Device) : Device :=
  if d.reg Reg.TL_STATE = 3 ∧ d.hall.coastAt + cycUs (d.regN Reg.COAST_US) ≤ d.now then
    let d1 := d.setReg Reg.TL_STATE 4
    let d2 := d1.mantel.armed.foldl (fun (d : Device) a => (d.loseSlot a.ch a.h 7 a.s0).disarm a) d1
    let p := d.regN Reg.TL_PATH - 1
    d2.raise Ev.HALL_LINK_DOWN p [.u 0 4]
  else d

/-- R320, R321: PT and GLC are taken anew: GLC from the grid in force. Channels with a bound page count the slots
skipped. -/
def Device.resyncLine (d : Device) : Device :=
  match d.hall.grid with
  | none => d
  | some g =>
    let m := { d.mantel with go := g.go, po := g.po, num := g.num, den := g.den, old := [] }
    let old := d.mantel.line
    let new := (m.lastAt d.pt).toNat
    let d1 := { d with mantel := { m with line := new }, hall := { d.hall with resync := false } }
    if new ≤ old ∨ d.mantel.bound.isEmpty = true then d1
    else
      (allChans.filter (fun c => d.chanOn c)).foldl (fun (d : Device) c =>
        let lo := maxN [old + 1, minN old (d.mantel.bound.map (fun b => b.g0))]
        let hi := Nat.min new (maxN (d.mantel.bound.map (fun b => b.g0 + b.lines - 1)))
        d.loseSkipped c lo (hi + 1 - lo)) d1

/-- R55, R320: an EDGE that the member uses: the timeline takes its PT, and runs on from its instant in its own TB3 while
its speed has the edge's direction. -/
def Device.edgeUse (d : Device) (pt : Int) (tb3 : Nat) (v flags : Nat) : Device :=
  let ago := ((d.time.tb3 - tb3) * 1000 / 2 ^ 32 : Nat)
  let rv := if f32Finite v then f32RoundScaled v (5 * 2 ^ 24) 2 else 0
  let dir : Int := if bit flags 0 then -1 else 1
  let moving := decide (0 < rv * dir) && !bit flags 1
  let acc := if moving then d.accOf (rv.natAbs * ago / 2500) else 0
  let d1 := { d with pos := { d.pos with
    ptRx := pt, rxV := rv, rxDir := dir, rxStall := bit flags 1, ago := ago, f := d.fracOf acc, acc := acc, edgeNow := true } }
  let d2 := d1.ptTrack
  if d2.hall.resync && d2.reg Reg.TL_STATE == 2 then d2.resyncLine else d2

/-- R308, R320: an EDGE message: it is forwarded, and used when it came by the path in use. -/
def Device.edgeIn (d : Device) (h : HallHdr) (pt : Int) (ns frac v flags : Nat) : Device × Bool :=
  let (d0, ok) := d.hallRecv h 1
  if ok = false ∨ d0.isMember = false then (d0, false)
  else
    let d1 := (d0.hallSend (1 - h.port) 1 (h.hops + 1) (leBytesI 8 pt ++ leBytes 8 ns ++ leBytes 2 frac ++
      leBytes 4 v ++ [flags])).tlUpdate
    if d1.pathInUse h.port then
      (d1.edgeUse pt (ns * 2 ^ 32 + frac * 2 ^ 16) v flags, true)
    else (d1, false)

/-- R319: the member's TB3 follows o (ps) seen on path p; T_S in ns. -/
def Device.syncSteer (d : Device) (p : Nat) (o : Int) (ts : Nat) : Device :=
  if (d.path p).aligned = false ∧ 1000000 < magI o then
    let c := tbWrap (d.time.tb3 + quotOpen 319 (o * nsUnit) 1000)
    (d.tb3Set c).raise Ev.TIME_SOURCE_SWITCH 3 [.u 1 3, .u 1 3, .s 4 (quotOpen 319 o 1000)]
  else
    let lim : Int := 200 * 256 * ts * 1000
    let n := clampI (-lim) lim (1000000 * o)
    let den : Int := 256 * ts * 1000
    { d with time := { d.time with
      inc3 := (quotOpen 319 (64 * 2 ^ 32 * (1000000 * den + n)) (25 * 1000000 * den)).toNat } }

/-- R319: the ALIGNED judgement of one SYNC with offset o ps. -/
def Path.judge (x : Path) (o acc : Int) : Path :=
  let good := if o.natAbs ≤ 250 then x.good + 1 else 0
  let bad := if 500 < o.natAbs then x.bad + 1 else 0
  let al := if x.aligned then decide (bad < 4) else decide (64 ≤ good)
  { live := true, aligned := al, good := Nat.min 64 good, bad := Nat.min 4 bad, acc := acc }

/-- The path that steers TB3: the one in use, else the one with fewer hops among those that carry SYNC. -/
def Device.steers (d : Device) (p : Nat) : Bool :=
  match d.bestPath with
  | some q => p == q
  | none =>
    let other := d.path (1 - p)
    !other.live || decide (d.pathHops p < d.pathHops (1 - p)) || (d.pathHops p == d.pathHops (1 - p) && p == 0)

/-- R319: a SYNC message; `arrPs` is this device's TB3 at its arrival at the ball, `resid` the residence time of the
forwarded copy, both in ps. -/
def Device.syncIn (d : Device) (h : HallHdr) (ns frac acc : Nat) (arrPs : Int) (resid : Nat) : Device :=
  let (d0, ok) := d.hallRecv h 2
  if ok = false ∨ d0.isMember = false then d0
  else
    let lat := d0.reg (hallKey Reg.LATENCY_PS h.port) - d0.reg (hallKey Reg.ASYM_PS h.port)
    let tot : Int := (acc : Int) + lat
    let d1 := d0.hallSend (1 - h.port) 2 (h.hops + 1) (leBytes 8 ns ++ leBytes 2 frac ++ leBytesI 4 (tot + resid))
    if d1.mayTime = false ∨ d1.linkState h.port ≠ 2 then d1
    else
      let o := (ns : Int) * 1000 + quotOpen 319 (frac * 1000) 65536 + tot - arrPs
      let ts := if d1.reg Reg.PWR_STATE = 0 then d1.regN Reg.SYNC_PERIOD_NS else 100000
      let d2 := if d1.steers h.port then (d1.syncSteer h.port o ts).setReg Reg.TL_OFFSET_PS o else d1
      (d2.setPath h.port ((d2.path h.port).judge o tot)).tlUpdate

/-- R19, R78, R320: the member takes the master's grid. Where its first line is line 0 at a place of its own, the master's
Mantel has been reset: GLC and what is counted by it start again. -/
def Device.gridUse (d : Device) (g : GridMsg) : Device :=
  let m := d.mantel
  let again := decide (g.go = 0 ∧ m.boundary 0 ≠ g.po)
  let m1 : Mantel := { m with
    old := if m.line < g.go then m.seg :: m.old else [], go := g.go, po := g.po, num := g.num, den := g.den }
  let d1 := { d with hall := { d.hall with grid := some g }, mantel := m1 }.setReg Reg.MODE g.mode
  if again then ({ d1 with mantel := { m1 with line := (m1.lastAt d1.pt).toNat } } : Device).renumber else d1

/-- R308, R320: a GRID message is forwarded, and sets the member's line grid where it came by the path in use. -/
def Device.gridIn (d : Device) (h : HallHdr) (g : GridMsg) : Device :=
  let (d0, ok) := d.hallRecv h 3
  if ok = false ∨ d0.isMember = false then d0
  else
    let d1 := d0.hallSend (1 - h.port) 3 (h.hops + 1) (leBytes 8 g.go ++ leBytesI 8 g.po ++ leBytes 4 g.num ++
      leBytes 4 g.den ++ [g.mode])
    if d1.pathInUse h.port && d1.hall.grid != some g then d1.gridUse g else d1

/-- R308, R320: a CUE message, taken from the path in use and in cue-sequence order. -/
def Device.cueIn (d : Device) (h : HallHdr) (pt : Int) (seq : Nat) : Device :=
  let (d0, ok) := d.hallRecv h 4
  if ok = false ∨ d0.isMember = false then d0
  else
    let d1 := d0.hallSend (1 - h.port) 4 (h.hops + 1) (leBytesI 8 pt ++ leBytes 4 seq)
    let new := match d1.hall.cueRx with
      | none => true
      | some s => serialAfter 32 seq s
    if d1.pathInUse h.port && new then { d1 with hall := { d1.hall with cueRx := some seq } }.cueLatch pt else d1

/-- R320: the master sends a cue latch on. -/
def Device.cueSend (d : Device) (pt : Int) : Device :=
  if d.isMaster then
    let n := (d.hall.cueTx + 1) % 2 ^ 32
    { d with hall := { d.hall with cueTx := n } }.hallBoth 4 (leBytesI 8 pt ++ leBytes 4 n)
  else d

/-- R320: an accepted POS0 edge of the master waits to be sent. -/
def Device.edgeNote (d : Device) : Device :=
  if d.isMaster then
    { d with hall := { d.hall with edgeDue := true, edgePt := d.ptExact, edgeTb3 := d.time.tb3 } }
  else d

/-- R320: the master sends EDGE, at most once per EDGE_MIN_NS. -/
def Device.edgeSend (d : Device) : Device :=
  if d.isMaster && d.hall.edgeDue && decide (d.hall.edgeAt + ceilDivNat (d.regN Reg.EDGE_MIN_NS * 2) 5 ≤ d.now) then
    let v := f32OfRat (d.pos.p0.v * 2) (5 * 2 ^ 24)
    let fl := (if d.pos.p0.lastDir < 0 then 1 else 0) + (if d.pos.p0.method == .stalled then 2 else 0)
    { d with hall := { d.hall with edgeDue := false, edgeAt := d.now } }.hallBoth 1 (leBytesI 8 d.hall.edgePt ++
      leBytes 8 (nsOf d.hall.edgeTb3) ++ leBytes 2 (d.hall.edgeTb3 / 2 ^ 16 % 2 ^ 16) ++ leBytes 4 v ++ [fl])
  else d

/-- R319: the master sends SYNC every SYNC_PERIOD_NS in RUN and every 100 µs in READY. -/
def Device.syncSend (d : Device) : Device :=
  let st := d.reg Reg.PWR_STATE
  let per := if st = 0 then ceilDivNat (d.regN Reg.SYNC_PERIOD_NS * 2) 5 else cycUs 100
  if d.isMaster && decide (st ≤ 1) && decide (d.hall.syncAt + per ≤ d.now) then
    { d with hall := { d.hall with syncAt := d.now } }.hallBoth 2 (leBytes 8 d.tb3Ns ++ leBytes 2 d.tb3Frac ++
      leBytes 4 0)
  else d

/-- R314: the master's grid. -/
def Device.gridNow (d : Device) : GridMsg :=
  { go := d.mantel.go.toNat, po := d.mantel.po, num := d.mantel.num, den := d.mantel.den, mode := d.regN Reg.MODE }

/-- R314: the master sends GRID at every change and every 1 ms. -/
def Device.gridSend (d : Device) : Device :=
  let g := d.gridNow
  if d.isMaster && (d.hall.grid != some g || decide (d.hall.gridAt + cycMs 1 ≤ d.now)) then
    { d with hall := { d.hall with grid := some g, gridAt := d.now } }.hallBoth 3 (leBytes 8 g.go ++ leBytesI 8 g.po ++
      leBytes 4 g.num ++ leBytes 4 g.den ++ [g.mode])
  else d

/-! ### Latency (R318) -/

/-- R318: one-way latency of a round trip and a turnaround. -/
def Device.oneWay (d : Device) (p rt turn : Nat) : Int :=
  quotOpen 318 ((rt : Int) - turn + d.reg (hallKey Reg.ASYM_PS p)) 2

/-- R312, R318: a returned probe in H0: the mean of the last 256 is held against the value in use. After an H2 exit the mean
of 16 is, and where it differs by more than LAT_TOL_PS a full measurement of 256 gives the value. -/
def Device.latSample (d : Device) (p : Nat) (v : Int) : Device :=
  let x := d.hport p
  let l := (v :: x.samples).take 256
  let use : Int := d.hp p Reg.LATENCY_PS
  if x.check = 1 then
    if l.length < 16 then d.setHport p { x with samples := l }
    else
      let far := decide ((d.regN Reg.LAT_TOL_PS : Int) < (quotOpen 318 (sumI l) 16 - use).natAbs)
      d.setHport p (if far then { x with samples := [], check := 2 } else { x with samples := l, check := 0 })
  else if l.length < 256 then d.setHport p { x with samples := l }
  else if x.check = 2 then
    (d.setHport p { x with samples := l, check := 0 }).setHp p Reg.LATENCY_PS (quotOpen 318 (sumI l) 256)
  else
    let mean := quotOpen 318 (sumI l) 256
    if (d.regN Reg.LAT_TOL_PS : Int) < (mean - use).natAbs then
      let d1 := (d.setHport p { x with samples := l, moving := true }).setHp p Reg.LATENCY_PS
        (use + clampI (-10) 10 (mean - use))
      if x.moving then d1 else d1.raise Ev.HALL_LATENCY_CHANGED p [.s 4 (mean - use)]
    else d.setHport p { x with samples := l, moving := false }

/-- R318: a LAT_PROBE message. A probe (turnaround 0) is returned with this device's turnaround `ps`; a return brings
its round trip `ps`. -/
def Device.latProbe (d : Device) (h : HallHdr) (num turn ps : Nat) : Device :=
  let (d0, ok) := d.hallRecv h 7
  if ok = false then d0
  else if turn = 0 then d0.hallSend h.port 7 0 (leBytes 2 num ++ leBytes 4 ps)
  else d0.latSample h.port (d0.oneWay h.port ps turn)

/-- R318: a probe is sent every LAT_CHECK_US in H0, and at once in a check or a full measurement. -/
def Device.latProbeSend (d : Device) (p : Nat) : Device :=
  let x := d.hport p
  if d.linkState p = 2 ∧ (x.check ≠ 0 ∨ x.probeAt + cycUs (d.regN Reg.LAT_CHECK_US) ≤ d.now) then
    (d.setHport p { x with probeAt := d.now, probeNo := (x.probeNo + 1) % 65536 }).hallSend p 7 0
      (leBytes 2 x.probeNo ++ leBytes 4 0)
  else d

/-! ### Training (R309 … R311) -/

/-- R309: the port enters a training step. -/
def Device.trainStep (d : Device) (p n : Nat) : Device :=
  let x := d.hport p
  let d1 := d.setHport p { x with step := n, stepAt := if n = 2 then d.now else x.stepAt }
  d1.setHp p Reg.LINK_STATE (if n = 0 then 0 else 1)

/-- The link leaves H0 (R317, R319): the ring is enumerated anew, a timeline path by it ends, and messages under way
stay for the replay. -/
def Device.leaveH0 (d : Device) (p : Nat) : Device :=
  if d.linkUp p ∨ d.linkState p = 5 then
    let x := d.hport p
    let d1 := (d.setHport p { x with
      waitAt := d.now, samples := [], moving := false, txq := [], check := 0, shErrs := [], halfIn := false, halfOut := false }).setHp p Reg.LINK_STATE 0
    let d2 := (d1.setHp p Reg.LANES_ACTIVE 0).pathLost p
    if d2.isMaster then d2.enumStart
    else
      let still := d2.linkUp (1 - p)
      { d2.enumForget with hall := { d2.hall with told := false, enumAt := if still then d2.hall.enumAt else none } }
  else d

/-- R309: the port restarts at step 2. Messages not yet acknowledged are kept for the replay (R315). -/
def Device.retrain (d : Device) (p : Nat) : Device :=
  let d1 := d.leaveH0 p
  if d1.hportState p = 4 then (d1.setHport p { d1.hport p with badIn := [], badOut := [] }).trainStep p 2 else d1

/-- R325: the neighbour's port shuts down: its numbering of the messages starts again at its next enable (log entry 191). -/
def Device.hallForget (d : Device) (p : Nat) : Device :=
  d.setHport p { d.hport p with txSeq := [], rxSeq := [], unacked := [], ident := none }

/-- Whether class 3 or the neighbour excludes a lane of the port. -/
def Device.laneOut (d : Device) (p : Nat) : Bool := d.hp p Reg.EXCLUDED_IN != 255 || d.hp p Reg.EXCLUDED_OUT != 255

/-- R309 step 10: H0. -/
def Device.enterH0 (d : Device) (p : Nat) : Device :=
  let x := d.hport p
  let d1 := (d.setHport p { x with step := 0, wasUp := true, probeAt := d.now }).setHp p Reg.LINK_STATE 2
  let d2 := (d1.setHp p Reg.LANES_ACTIVE 4).raise Ev.HALL_LINK_UP p [.u 2 4, .u 4 (d1.hp p Reg.LATENCY_PS)]
  if d2.role = 0 then d2 else d2.enumStart

/-! ### Equalisation (R311) -/

/-- R311: a transmit lane's taps after one request: c−1 0 … −12, c+1 0 … −22, in 1/64; c0 is what the condition on the sum
leaves (log entry 192). -/
def ffeStep (c : Int × Int) : Nat × FfeReq → Int × Int
  | (0, .inc) => (clampI (-12) 0 (c.1 + 1), c.2)
  | (0, .dec) => (clampI (-12) 0 (c.1 - 1), c.2)
  | (2, .inc) => (c.1, clampI (-22) 0 (c.2 + 1))
  | (2, .dec) => (c.1, clampI (-22) 0 (c.2 - 1))
  | _ => c

/-- R311: the exchange of one lane: it ends when every tap holds, or after 128 requests. `held` are the taps that hold. -/
def ffeRun (c : Int × Int) (held : List Nat) : Nat → List (Nat × FfeReq) → Int × Int
  | 0, _ => c
  | _, [] => c
  | n + 1, r :: rs =>
    if [0, 1, 2].all held.contains then c
    else ffeRun (ffeStep c r) (if r.2 = .hold then r.1 :: held else held.filter (fun t => t != r.1)) n rs

/-- R311, R329: the TX_FFE word of taps c−1 and c+1. -/
def ffeWord (c : Int × Int) : Nat := ofSigned 8 c.1 * 2 ^ 16 + (64 + c.1 + c.2).toNat * 2 ^ 8 + ofSigned 8 c.2

/-- The taps c−1 and c+1 of a TX_FFE word. -/
def ffeTaps (w : Nat) : Int × Int := (toSigned 8 (w / 2 ^ 16), toSigned 8 w)

/-- R309 step 4: the receive lanes that are trained adapt their peaking, 0 … 15 (R310, R311). -/
def Device.trainPeaking (d : Device) (p : Nat) (l : List Nat) : Device :=
  ((List.range 5).filter (fun i => i != d.hp p Reg.EXCLUDED_IN)).foldl (fun (d : Device) i =>
    d.setHp p (Reg.RX_PEAKING + i) (Nat.min 15 (l.getD i 0) : Nat)) d

/-- R309 step 5: the transmit lanes that are trained exchange their FFE (R310, R311), from the values in use on. -/
def Device.trainFfe (d : Device) (p : Nat) (reqs : List (List (Nat × FfeReq))) : Device :=
  ((List.range 5).filter (fun i => i != d.hp p Reg.EXCLUDED_OUT)).foldl (fun (d : Device) i =>
    d.setHp p (Reg.TX_FFE + i) (ffeWord (ffeRun (ffeTaps (d.hp p (Reg.TX_FFE + i))) [] 128 (reqs.getD i [])) : Nat)) d

/-- R309 step 8 begins: this end's IDENT goes out: role, SERIAL and excluded lanes. -/
def Device.trainIdent (d : Device) (p : Nat) : Device :=
  (d.trainStep p 8).send (.ident p d.role (d.regN Reg.SERIAL) (d.hp p Reg.EXCLUDED_OUT) (d.hp p Reg.EXCLUDED_IN))

/-- R309 step 8, R310: the neighbour's IDENT. A lane that the neighbour excludes is excluded at this end too where this end
excludes none in that direction (log entry 193). -/
def Device.identIn (d : Device) (p : Nat) (x : HallTrain) : Device :=
  let take (k lane : Nat) (d : Device) : Device :=
    if d.hp p k = 255 ∧ lane ≤ 4 then (d.setHp p k lane).setHp p Reg.HALL_SPARE_STATE 1 else d
  let d1 := (d.setHport p { d.hport p with ident := some (x.role, x.exOut, x.exIn) }).setHp p Reg.NEIGHBOUR_SERIAL x.serial
  take Reg.EXCLUDED_IN x.exOut (take Reg.EXCLUDED_OUT x.exIn d1)

/-- R309: a training step completes, and the next begins. -/
def Device.trainDone (d : Device) (p : Nat) (t : HallTrain) : Device :=
  let x := d.hport p
  if d.domainOn 53 = false ∨ d.reg Reg.LANE_REF_STATE ≠ 0 then d
  else if d.hportState p = 3 then
    if x.step = 1 then
      ((d.setHp p Reg.HALL_PORT_STATE 4).trainStep p 2).hhUpdate
    else d
  else if d.hportState p ≠ 4 ∨ d.regB (hallKey Reg.HALL_HOLD_STATE p) = false then d
  else if x.step = 2 ∨ x.step = 3 then d.trainStep p (x.step + 1)
  else if x.step = 4 then (d.trainPeaking p t.peaking).trainStep p 5
  else if x.step = 5 then (d.trainFfe p t.reqs).trainStep p 6
  else if x.step = 6 then
    if d.laneOut p then (d.setHp p Reg.HALL_SPARE_STATE 1).trainIdent p else d.trainStep p 7
  else if x.step = 7 then (d.setHp p Reg.HALL_SPARE_STATE (if t.l4 = 0 then 0 else 2)).trainIdent p
  else if x.step = 8 then (d.identIn p t).trainStep p 9
  else if x.step = 9 then
    (d.setHp p Reg.LATENCY_PS (quotOpen 318 (t.rt + d.reg (hallKey Reg.ASYM_PS p)) 2)).enterH0 p
  else d

/-- R309: step 10 is not reached within 4 ms. -/
def Device.trainRestart (d : Device) (p : Nat) : Device :=
  let x := d.hport p
  if 2 ≤ x.step ∧ x.stepAt + cycMs 4 ≤ d.now then d.trainStep p 2 else d

/-! ### Enable, shutdown, reset (R325, R326) -/

/-- R309 step 1: the port's enable. -/
def Device.hallStart (d : Device) (p : Nat) : Device :=
  let ex (i : Nat) : Nat := d.cal.laneEx.getD (2 * p + i) 255
  let d1 := ((d.setHport p { step := 1 }).setHp p Reg.HALL_PORT_STATE 3).setHp p Reg.LINK_STATE 1
  (d1.setHp p Reg.EXCLUDED_OUT (ex 0)).setHp p Reg.EXCLUDED_IN (ex 1)

/-- R309, R325: PORT_ENABLE is set. A device strapped 11b keeps its Hallway ports disabled (R18). -/
def Device.hallEnable (d : Device) (p : Nat) : Device :=
  let d1 := d.setHp p Reg.HALL_PORT_ENABLE 1
  if d.domainOn 53 = false ∨ d.role = 3 then d1
  else if d.hportState p = 0 then (d1.hallStart p).hhUpdate
  else if d.hportState p = 1 then (d1.setHp p Reg.HALL_PORT_STATE 2).hhUpdate
  else d1.hhUpdate

/-- R325: PORT_ENABLE is cleared: what awaits an ACK is discarded, DOWN is sent, and HOLD falls. -/
def Device.hallDisable (d : Device) (p : Nat) : Device :=
  let d1 := d.setHp p Reg.HALL_PORT_ENABLE 0
  let st := d.hportState p
  if st = 2 then (d1.setHp p Reg.HALL_PORT_STATE 1).hhUpdate
  else if st = 3 ∨ st = 4 then
    let up := d1.linkUp p
    let d2 := if up then d1.hallCtl p 6 [] else d1
    let d3 := d2.leaveH0 p
    let d4 := (d3.setHport p { stopAt := d.now }).setHp p Reg.HALL_PORT_STATE 1
    let d5 := (d4.setHp p Reg.LINK_STATE 0).hhUpdate
    if up then d5.raise Ev.HALL_LINK_DOWN p [.u 0 2] else d5
  else d1.hhUpdate

/-- R325: the shutdown is complete; a pending enable starts. -/
def Device.hallOff (d : Device) (p : Nat) : Device :=
  let st := d.hportState p
  if (st = 1 ∨ st = 2) ∧ (d.hport p).stopAt + cycUs 1 ≤ d.now then
    let d1 := d.setHp p Reg.HALL_PORT_STATE 0
    if st = 2 then d1.hallStart p else d1.hhUpdate
  else d

/-- R326: H0 is not reached within LINK_UP_TIMEOUT_MS of HOLD rising, or is lost for longer than LINK_DOWN_HOLD_MS. -/
def Device.hallHoldTimeout (d : Device) (p : Nat) : Device :=
  let x := d.hport p
  let past : Bool := if x.wasUp then decide (x.waitAt + cycMs (d.hp p Reg.HALL_LINK_DOWN_HOLD_MS) < d.now)
    else decide (x.waitAt + cycMs (d.hp p Reg.HALL_LINK_UP_TIMEOUT_MS) ≤ d.now)
  if d.regB (hallKey Reg.HALL_HOLD_STATE p) ∧ d.linkUp p = false ∧ d.linkState p ≠ 5 ∧ past = true then
    let d1 := (d.setHport p { x with fallen := true, step := 0, retryAt := d.now + cycS (d.hp p Reg.HALL_HOLD_RETRY_S)
      }).setHp p Reg.LINK_STATE 0
    let d2 := d1.hhUpdate
    if x.wasUp then d2 else d2.raise Ev.HALL_LINK_DOWN p [.u 0 3]
  else d

/-- R326: HOLD rises again after HOLD_RETRY_S, and the port trains from step 2. -/
def Device.hallHoldRetry (d : Device) (p : Nat) : Device :=
  let x := d.hport p
  if x.fallen ∧ x.retryAt ≤ d.now then ((d.setHport p { x with fallen := false }).trainStep p 2).hhUpdate else d

/-- R325: LINK_RESET_CMD. -/
def Device.linkReset (d : Device) (p : Nat) : Device :=
  if d.hportState p = 4 then (d.hallCtl p 5 []).retrain p else d

/-- R325: a received RESET restarts the port at step 2; a received DOWN takes it out of H0. -/
def Device.hallResetIn (d : Device) (p : Nat) (down : Bool) : Device :=
  if d.hportState p = 4 then
    if down then
      let up := d.linkUp p
      let d1 := (d.retrain p).hallForget p
      if up then d1.raise Ev.HALL_LINK_DOWN p [.u 0 2] else d1
    else d.retrain p
  else d

/-- R312: H1 is entered in READY when no message waits. -/
def Device.h1Enter (d : Device) (p : Nat) : Device :=
  if d.linkState p = 2 ∧ d.reg Reg.PWR_STATE = 1 ∧ (d.hport p).unacked.isEmpty ∧ (d.hport p).txq.isEmpty then
    (d.hallCtl p 4 []).setHp p Reg.LINK_STATE 3
  else d

/-! ### Lane failure (R322, R323) -/

/-- Class 3 records the exclusion of a lane: `i` is 0 for out and 1 for in. -/
def Device.recordLane (d : Device) (p i lane : Nat) : Device :=
  let d1 := { d with cal := { d.cal with laneEx := d.cal.laneEx.set (2 * p + i) lane } }
  ((d1.calDone 3 calApplied).markDirty 1 0).setHp p (if i = 0 then Reg.EXCLUDED_OUT else Reg.EXCLUDED_IN) lane

/-- R323: the link goes down for its lanes and retrains. -/
def Device.lanesDown (d : Device) (p : Nat) : Device := (d.retrain p).raise Ev.HALL_LINK_DOWN p [.u 0 1]

/-- R322, R323: no beat leaves in the gap of a switch-over of the outgoing direction. -/
def Device.gapOut (d : Device) (p i gap : Nat) : Device :=
  if i = 0 then d.setHport p { d.hport p with beatAt := Nat.max (d.hport p).beatAt (d.ps + gap * 1000) } else d

/-- R256, R322, R323: a lane of direction i fails; the switch-over takes `gap` ns. A proof test of the spare lane is aborted
first, and a spare that had not failed before is switched in. -/
def Device.laneGone (d : Device) (p i lane gap : Nat) : Device :=
  let tested := d.reg (hallKey Reg.HALL_SPARE_STATE p) == 3
  let was := match d.red.proof with
    | some x => x.was
    | none => 0
  let d := if tested then (d.proofAbort).setHp p Reg.HALL_SPARE_STATE was else d
  let sp := d.reg (hallKey Reg.HALL_SPARE_STATE p)
  let ex := d.hp p (if i = 0 then Reg.EXCLUDED_OUT else Reg.EXCLUDED_IN)
  if lane = 4 ∧ ex = 255 then d.setHp p Reg.HALL_SPARE_STATE 2
  else if sp = 0 ∧ ex = 255 then
    (((d.setHp p Reg.HALL_SPARE_STATE 1).recordLane p i lane).gapOut p i gap).raise Ev.HALL_LANE_SWITCHED p
      [.u 2 lane, .u 2 (if i = 0 then 1 else 0), .u 0 gap]
  else
    let x := d.hport p
    let bad := (if i = 0 then x.badOut else x.badIn) ++ [lane]
    let good := d.lanesGood p i bad
    let d1 := d.setHport p (if i = 0 then { x with badOut := bad, halfOut := true } else { x with badIn := bad, halfIn := true })
    if good.length < 2 then d1.lanesDown p
    else ((d1.setHp p Reg.LANES_ACTIVE 2).gapOut p i gap).raise Ev.HALL_LANE_DEGRADED p [.u 0 (maskOf (good.take 2))]

/-- R322: the sync-header errors of a lane with `errs` more of them now: the port, and their number within
LANE_ERR_WINDOW_US. -/
def Device.laneErrs (d : Device) (p lane errs : Nat) : HallPort × Nat :=
  let x := d.hport p
  let l := (lane, d.now, errs) :: x.shErrs.filter (fun e => decide (d.now < e.2.1 + cycUs (d.regN Reg.LANE_ERR_WINDOW_US)))
  ({ x with shErrs := l }, ((l.filter (fun e => e.1 == lane)).map (fun e => e.2.2)).foldl (· + ·) 0)

/-- R322: receive lane `lane` shows `errs` invalid sync headers, 5 being FCLK missing for 100 ns. It fails when it has lost its
block lock, or when its errors reach LANE_ERR_THRESH within LANE_ERR_WINDOW_US. -/
def Device.laneFail (d : Device) (p lane gap errs : Nat) (lost : Bool) : Device :=
  if d.linkState p ≠ 2 ∨ 5 < lane then d
  else if lane = 5 then d.lanesDown p
  else
    let e := d.laneErrs p lane errs
    let d1 := (d.addReg (hallKey (Reg.SH_ERRORS + lane) p) errs).setHport p e.1
    if lost ∨ d.regN Reg.LANE_ERR_THRESH ≤ e.2 then
      ((d1.setHport p { e.1 with shErrs := e.1.shErrs.filter (fun w => w.1 != lane) }).hallCtl p 3 [lane]).laneGone p 1 lane gap
    else d1

/-- R322: a received LANE_SWITCH moves the failed lane's role to L4, and ALIGN is sent. -/
def Device.laneSwitch (d : Device) (p lane gap : Nat) : Device :=
  if d.linkState p ≠ 2 ∨ 4 < lane then d
  else
    let d1 := d.laneGone p 0 lane gap
    if d1.linkState p = 2 then d1.hallCtl p 7 [] else d1

/-! ### PRBS (R324) -/

/-- R324: the taps of a pattern: PRBS7 x^7 + x^6 + 1, PRBS15 x^15 + x^14 + 1, PRBS31 x^31 + x^28 + 1. -/
def prbsTaps (pattern : Nat) : Nat × Nat := if pattern = 1 then (7, 6) else if pattern = 2 then (15, 14) else (31, 28)

/-- The bit of a pattern that follows the last bits, newest first. -/
def prbsNext (pattern : Nat) (h : List Bool) : Bool :=
  let t := prbsTaps pattern
  (h.getD (t.1 - 1) false) != (h.getD (t.2 - 1) false)

/-- The bits of a pattern that follow the last bits `h`, newest first, against those received: the mismatches. -/
def prbsErrs (pattern : Nat) : List Bool → List Bool → Nat
  | _, [] => 0
  | h, b :: bs =>
    let e := prbsNext pattern h
    (if b == e then 0 else 1) + prbsErrs pattern ((e :: h).take 31) bs

/-- R324: a checker synchronises itself on the first bits of the register's length and counts the mismatched bits behind
them (log entry 196). -/
def prbsCount (pattern : Nat) (rx : List Bool) : Nat :=
  let n := (prbsTaps pattern).1
  prbsErrs pattern (rx.take n).reverse (rx.drop n)

/-- R324: what PRBS_CMD 01h is refused with. -/
def Device.prbsCheck (d : Device) : Status := if d.reg Reg.SCHED_STATE = 2 then .ok else .state

/-- R324: the link of PRBS_PORT goes into TEST and carries PRBS_PATTERN; a port that is not ON has none (log entry 174). -/
def Device.prbsStart (d : Device) : Device :=
  let p := d.regN Reg.PRBS_PORT
  let pat := d.regN Reg.PRBS_PATTERN
  if d.hportState p ≠ 4 then d
  else
  let d1 := d.leaveH0 p
  let d2 := (d1.setHp p Reg.LINK_STATE 5).setHport p { d1.hport p with step := 0 }
  let d3 := (List.range 5).foldl (fun (d : Device) i => d.setHp p (Reg.PRBS_ERRORS + i) 0) d2
  ({ d3 with hall := { d3.hall with prbs := some (p, d.now, pat) } }.setReg Reg.PRBS_BITS 0).send (.prbs p pat)

/-- R324: the test ends with the mismatched bits of each lane among those received, and the link retrains. The bits run in
the time that passed at 12.5 Gbit/s. -/
def Device.prbsStop (d : Device) (rx : List (List Bool)) : Device :=
  match d.hall.prbs with
  | none => d
  | some (p, t, pat) =>
    let errs := rx.map (prbsCount pat)
    let d1 := (List.range 5).foldl (fun (d : Device) i => d.setHp p (Reg.PRBS_ERRORS + i) ((errs.getD i 0 : Nat) : Int)) d
    let bits := ((d.now - t) * 125 / 4) % 2 ^ 64
    let d2 := ({ d1 with hall := { d1.hall with prbs := none } } : Device).setRegN Reg.PRBS_BITS bits
    let sum := (errs.take 5).foldl (· + ·) 0
    let d3 := if sum = 0 then d2 else d2.raise Ev.HALL_PRBS_ERRORS p [.u 4 sum]
    d3.retrain p

/-! ### Status and statistics (R314, R316) -/

/-- R329: the RING_MEMBER_STATE word of this device. -/
def Device.memberWord (d : Device) : Nat :=
  Nat.min 255 d.log.unacked.length * 2 ^ 24 + d.hp 0 Reg.LINK_STATE * 2 ^ 12 + d.hp 1 Reg.LINK_STATE * 2 ^ 8 +
    d.regN Reg.TL_STATE * 16 + (if d.fireEnOut then 8 else 0)

/-- The port by which fewer hops lead to the master. -/
def Device.toMaster (d : Device) : Nat :=
  if d.reg Reg.HOPS_UP = 0 then 0 else if d.reg Reg.HOPS_DOWN = 0 then 1
  else if d.regN Reg.HOPS_DOWN ≤ d.regN Reg.HOPS_UP then 0 else 1

/-- R314: a member sends STATUS every 10 ms. -/
def Device.statusSend (d : Device) : Device :=
  if d.isMember && decide (d.hall.statusAt + cycMs 10 ≤ d.now) then
    { d with hall := { d.hall with statusAt := d.now } }.hallSend d.toMaster 0x13 0 (leBytes 4 d.memberWord)
  else d

/-- The ring position that a class 1 message comes from, by the port it arrived on and its hops. -/
def Device.originOfMsg (d : Device) (h : HallHdr) : Nat :=
  if h.port = 1 then h.hops + 1 else d.regN Reg.RING_SIZE - 1 - h.hops

/-- The links of a member that are up, as its STATUS word says. -/
def linksUp (w : Nat) : List Bool := [w / 2 ^ 12 % 16, w / 2 ^ 8 % 16].map (fun s => decide (2 ≤ s ∧ s ≤ 4))

/-- R314, R317: a STATUS message: the master keeps it, and enumerates the ring anew where a member's link has come up or gone
(log entry 197); a member forwards it. -/
def Device.statusIn (d : Device) (h : HallHdr) (w : Nat) : Device :=
  let (d0, ok) := d.hallRecv h 0x13
  if ok = false then d0
  else if d0.isMaster then
    let p := d0.originOfMsg h
    let old := d0.regN (Reg.RING_MEMBER_STATE + p)
    if p < 8 then
      let d1 := d0.setRegN (Reg.RING_MEMBER_STATE + p) w
      if old ≠ 0 ∧ linksUp old ≠ linksUp w then d1.enumStart else d1
    else d0
  else d0.hallSend (1 - h.port) 0x13 (h.hops + 1) (leBytes 4 w)

/-- R316: the largest piece of a record in one STATS message. -/
def statsPiece : Nat := 4096 - 13

/-- R316: a completed record of context c goes to the ring positions of its mask: around a closed ring once, in an open one
both ways. The body names no position (R314); which devices it is for comes with the message (log entry 198). -/
def Device.statsSend (d : Device) (c frame : Nat) (r : List Nat) : Device :=
  let m := d.regN (Reg.STATS_FWD_MASK + c)
  if m = 0 ∨ d.role = 0 then d
  else
    (List.range (ceilDivNat r.length statsPiece)).foldl (fun (d : Device) i =>
      let piece := (r.drop (i * statsPiece)).take statsPiece
      let body := [c] ++ leBytes 4 frame ++ leBytes 4 (i * statsPiece) ++ leBytes 4 r.length ++ piece
      if d.reg Reg.RING_STATE = 1 then d.hallSend 1 0x20 0 body else d.hallBoth 0x20 body) d

/-- R316: a STATS message. It goes on until it has reached every other device of the ring. Answers the context and
record once it is whole. A device that is not among the positions
the record is for only forwards it: `mine` says that it is. -/
def Device.statsIn (d : Device) (h : HallHdr) (mine : Bool) (c frame off total : Nat) (bs : List Nat) : Device × Option (List Nat) :=
  let (d0, ok) := d.hallRecv h 0x20
  if ok = false then (d0, none)
  else
    let body := [c] ++ leBytes 4 frame ++ leBytes 4 off ++ leBytes 4 total ++ bs
    let d1 := if h.hops + 3 ≤ d0.regN Reg.RING_SIZE then d0.hallSend (1 - h.port) 0x20 (h.hops + 1) body else d0
    if mine = false then (d1, none)
    else
      let old := (d1.hall.stats.find? (fun s => s.ctx == c && s.frame == frame && off != 0)).map StatsIn.data
      let data := (old.getD []) ++ bs
      let rest := d1.hall.stats.filter (fun s => s.ctx != c)
      if total ≤ data.length then
        let d2 := { d1 with hall := { d1.hall with stats := rest } }
        if d2.regB (Reg.CTX_ENABLE + c) then (d2.incReg Reg.STATS_FWD_DROPS, none) else (d2, some data)
      else
        ({ d1 with hall := { d1.hall with stats := rest ++ [{ ctx := c, frame := frame, total := total, data := data }] } },
          none)

/-! ### The domain -/

/-- R312: by the power manager, links go to H2 in STANDBY and back. -/
def Device.hallSleep (d : Device) : Device :=
  [0, 1].foldl (fun (d : Device) p =>
    if d.linkState p = 2 ∨ d.linkState p = 3 then (d.setHp p Reg.LINK_STATE 4).pathLost p else d) d
def Device.hallWake (d : Device) : Device :=
  [0, 1].foldl (fun (d : Device) p => if d.linkState p = 4 then d.linkWake p else d) d

/-- The Hallway is reset: its at-reset entries take effect, both ports are OFF with HOLD low, and the enabled ones
start; a device strapped 11b keeps them disabled (R18). -/
def Device.hallReset (d : Device) : Device :=
  let d1 := [Reg.SYNC_PERIOD_NS, Reg.EDGE_MIN_NS, Reg.HALL_HOLD_PAIRED].foldl (fun (d : Device) k => d.loadStored k) d
  let d2 := { d1 with hall := {} }
  let d3 := [0, 1].foldl (fun (d : Device) p =>
    let z := (d.setHp p Reg.HALL_PORT_STATE 0).setHp p Reg.LINK_STATE 0
    (((z.setHp p Reg.LANES_ACTIVE 0).setHp p Reg.HALL_SPARE_STATE 0).setHp p Reg.HALL_HOLD_STATE 0).setHp p
      Reg.NEIGHBOUR_SERIAL 0) d2
  let d4 := [Reg.RING_STATE, Reg.HOPS_DOWN, Reg.HOPS_UP, Reg.TL_STATE, Reg.TL_PATH, Reg.TL_LATENCY_PS,
    Reg.TL_OFFSET_PS].foldl (fun (d : Device) k => d.setReg k 0) d3
  let d5 := (d4.setReg Reg.RING_SIZE 1).setReg Reg.RING_POSITION 255
  [0, 1].foldl (fun (d : Device) p =>
    if d.regB (hallKey Reg.HALL_PORT_ENABLE p) ∧ d.role ≠ 3 then d.hallStart p else d) d5

/-- R326: the HALL domain is isolated or RESET_N is asserted: HOLD falls and the links are gone. -/
def Device.hallIsolate (d : Device) : Device :=
  let d1 := [0, 1].foldl (fun (d : Device) p =>
    ((d.setHport p {}).setHp p Reg.LINK_STATE 0).setHp p Reg.HALL_PORT_STATE 0) d
  d1.hhUpdate

end Sys2Proof.Machine
end

