-- ==== Sys2Proof/Machine/PantryOps.lean ====
section
/-! DEFINITION. The Pantry: the address map, transactions with their write queues, row disturbance and ECC, panic,
refresh, scrub, training and self-refresh (R330 … R348). -/
namespace Sys2Proof.Machine

/-- R332: PANTRY_BYTES. -/
def pantryBytes (density ranks : Nat) (ecc : Bool) : Nat :=
  let n := pantryFitted density ranks
  if ecc then n / 16 * 15 else n

/-- R330: the supported configurations. -/
def pantryConfOk (density ranks : Nat) : Bool :=
  (density == 8 && (ranks == 1 || ranks == 2)) || (density == 16 && (ranks == 1 || ranks == 2)) ||
    (density == 32 && ranks == 1)

/-! ### Bandwidth -/

/-- The counters of the second that `now` lies in. -/
def PCh.roll (x : PCh) (now : Nat) : PCh :=
  let s := now / 400000000
  if s = x.sec then x
  else if s = x.sec + 1 then { x with sec := s, rdLast := x.rd, wrLast := x.wr, rd := 0, wr := 0 }
  else { x with sec := s, rdLast := 0, wrLast := 0, rd := 0, wr := 0 }

/-- BW_READ_MBPS and BW_WRITE_MBPS of channel c. -/
def Device.bwRead (d : Device) (c : Nat) : Nat := ((d.pch c).roll d.now).rdLast / 1000000
def Device.bwWrite (d : Device) (c : Nat) : Nat := ((d.pch c).roll d.now).wrLast / 1000000

/-! ### Row disturbance (R341, R342) -/

/-- R341: the entry of lowest count, the first of equals. -/
def lowestRow : List (Nat × Nat) → Option (Nat × Nat)
  | [] => none
  | e :: es =>
    match lowestRow es with
    | none => some e
    | some f => if e.2 ≤ f.2 then some e else some f

/-- R341: one activate of a row in a bank's table: the table and the count of the row. -/
def rhCount (t : List (Nat × Nat)) (r : Nat) : List (Nat × Nat) × Nat :=
  match assoc t r with
  | some n => (assocSet t r (n + 1), n + 1)
  | none =>
    if t.length < 16 then (t ++ [(r, 1)], 1)
    else
      match lowestRow t with
      | some (q, m) => (t.map (fun e => if e.1 = q then (r, m + 1) else e), m + 1)
      | none => (t, 0)

/-- R341: the rows that a neighbour refresh of row r covers, those that exist. -/
def Device.rhRows (d : Device) (r : Nat) : List Nat :=
  let n := d.regN Reg.RH_RADIUS
  ((List.range (2 * n + 1)).map (fun i => r + i)).filterMap (fun q =>
    if n ≤ q ∧ q ≠ r + n ∧ q - n < 2 ^ d.rowBits then some (q - n) else none)

/-- R341, R342: an activate of row r in bank b: the tables count it, and what comes due waits at the bank's channel. -/
def Device.activate (d : Device) (b r : Nat) : Device :=
  let x := d.bank b
  let (t, n) := rhCount x.rows r
  let hit := decide (d.regN Reg.RH_THRESH ≤ n)
  let raa := x.raa + 1
  let ch := d.pch (b / 64)
  let rfm := d.pantry.rfm && decide (0 < ch.imt ∧ ch.imt ≤ raa)
  let d1 := d.setBank b { x with
    rows := if hit then assocSet t r 0 else t
    raa := if rfm then raa - ch.dec else raa
    row := some r }
  let y := d1.pch (b / 64)
  d1.setPch (b / 64) { y with
    due := y.due ++ (if hit then (d.rhRows r).map (fun q => (b, some q)) else []) ++ (if rfm then [(b, none)] else []) }

/-- R336 level 1: the oldest neighbour refresh or RFM that is due in channel c issues. A refresh of a row closes the one
its bank holds open. -/
def Device.dueIssued (d : Device) (c : Nat) : Device :=
  let x := d.pch c
  match x.due with
  | [] => d
  | (b, q) :: rest =>
    let d1 := (d.setPch c { x with due := rest, busyTo := d.now + 1 }).setBank b { d.bank b with row := none }
    match q with
    | some _ => d1.addReg64 Reg.RH_REFRESHES 1
    | none => d1.addReg64 Reg.RFM_COMMANDS 1

/-- R341: the refresh window of channel c ends: 32 ms divided by the MR4 multiplier. -/
def Device.rhWindow (d : Device) (c : Nat) : Device :=
  let x := d.pch c
  if d.now < x.rhAt then d
  else
    let w := cycMs 32 * 4 / Nat.max 1 (d.regN (Reg.REFRESH_MULT + c))
    let d1 := d.setPch c { x with rhAt := d.now + w }
    (List.range 64).foldl (fun (d : Device) i =>
      let b := c * 64 + i
      d.setBank b { d.bank b with rows := [] }) d1

/-! ### The order of transactions (R335 … R338) -/

/-- R336, R345: the requester number of the patrol scrub; the others are those of the transaction. -/
def scrubber : Nat := 5

/-- R335: a transaction the Pantry takes: at most 256 bytes within one span of the fitted memory, once READY. A Workshop engine
reaches the Workshop's window of the engine area alone (R353, R361). -/
def Device.pantryTakes (d : Device) (t : PantryReq) : Bool :=
  let n := txnLen t
  let win := d.regN Reg.RESERVED_BASE + 960 * 2 ^ 20
  d.reg Reg.PANTRY_STATE == 3 && decide (0 < n ∧ n ≤ 256) && decide (t.addr + n ≤ d.regN Reg.PANTRY_BYTES) &&
    d.spanOf t.addr == d.spanOf (t.addr + n - 1) &&
    (!isShopTxn t || decide (win ≤ t.addr ∧ t.addr + n ≤ win + 64 * 2 ^ 20))

/-- The reads of channel x in flight that belong to one of the requesters. -/
def PCh.reads (x : PCh) (who : List Nat) : List PantryReq :=
  (x.txns.take inFlight).filter (fun t => !t.write && who.contains t.who)

/-- R337: whether write drain is active in channel x: outside panic from WQ_HIGH entries on, or with no read waiting, until
WQ_LOW with one waiting; during panic from 64 entries down to 56. -/
def Device.drains (d : Device) (x : PCh) : Bool :=
  let n := x.wq.length
  if d.pantry.panic.isSome then decide (64 ≤ n) || (x.drain && decide (56 < n))
  else
    let waits := !(x.reads [0, 1, 2, 3, 4]).isEmpty
    decide (d.regN Reg.WQ_HIGH ≤ n) || !waits || (x.drain && decide (d.regN Reg.WQ_LOW < n))

/-- R342: bank b of channel x may be activated: its rolling count stays below RAAIMT times the multiplier. -/
def Device.mayActivate (d : Device) (x : PCh) (b : Nat) : Bool :=
  !d.pantry.rfm || x.imt * x.mult == 0 || decide ((d.bank b).raa < x.imt * x.mult)

/-- R336: of transactions of one level the one to take: the oldest, or the oldest row hit ahead of it, at most
ROW_HIT_LIMIT times in a row for one bank; with the run of such hits after it. -/
def Device.pickTxn (d : Device) (x : PCh) (l : List PantryReq) : Option (PantryReq × (Nat × Nat)) :=
  let bank (t : PantryReq) : Nat := (d.txnPlace t).2.1
  let hits (t : PantryReq) : Bool := (d.bank (bank t)).row == some (d.txnPlace t).2.2
  match l.filter (fun t => hits t || d.mayActivate x (bank t)) with
  | [] => none
  | t :: rest =>
    if hits t then some (t, (0, 0))
    else
      let may (u : PantryReq) : Bool := hits u && !(x.ahead.1 == bank u && decide (d.regN Reg.ROW_HIT_LIMIT ≤ x.ahead.2))
      match rest.find? may with
      | none => some (t, (0, 0))
      | some u => some (u, (bank u, if x.ahead.1 = bank u then x.ahead.2 + 1 else 1))

/-- R335: the ENC cycles of a transaction's data: 64-byte bursts of 16 beats at the data rate. -/
def Device.txnCycles (d : Device) (t : PantryReq) : Nat :=
  let n := (t.addr + txnLen t - 1) / 64 - t.addr / 64 + 1
  ceilDivNat (n * 16 * 400) (Nat.max 1 (d.regN Reg.DATA_RATE_MTS))

/-- R344: what poisoned data does to the engine or the pipeline that read it: an engine of the Workshop takes its trap, a
line of a frame becomes a bad line. A stripe decoder and a checkpoint reload find the sector themselves. -/
def Device.poisonedFor (d : Device) (t : PantryReq) : Device :=
  if t.who = 2 ∧ 12 ≤ t.unit then
    (d.incReg (Reg.WS_TRAPS + (t.unit - 12))).raise Ev.ENG_WORKSHOP_TRAP t.unit
      [.raw 4 ((0x40000000 + t.addr - (d.regN Reg.RESERVED_BASE + 960 * 2 ^ 20)) % 2 ^ 32)]
  else if t.who = 1 then
    let holds (f : Frame) : Bool := f.ctx == t.unit && f.num == t.frame && decide (t.line < f.lines.length)
    if d.win.waiting.any holds then
      let drop (f : Frame) : Frame :=
        if holds f = true then
          { f with
            lines := f.lines.eraseIdx (f.lines.length - 1 - t.line)
            bad := f.bad + 1
            count := f.count - 1
            flags := setBit f.flags 4 }
        else f
      ({ d with win := { d.win with waiting := d.win.waiting.map drop } } : Device).incReg (Reg.LINES_BAD + t.unit)
    else d
  else d

/-- The sectors that transaction t takes from another location (R343). -/
def wrongSectors (t : PantryReq) : List Nat := (t.ecc.filter (fun e => e.wrong)).map (fun e => e.sector)

/-- R344: a read meets a sector that decodes as bad. -/
def Device.readPoisoned (d : Device) (t : PantryReq) : Bool :=
  d.pantry.ecc && (d.rangeBad t.addr (txnLen t) ||
    (sectorsOf t.addr (txnLen t)).any (fun s => (wrongSectors t).contains s))

/-- R338, R344: the data that a read brings goes to its requester, marked where it is poisoned. -/
def Device.readAnswer (d : Device) (t : PantryReq) (bad : Bool) : Device := d.send (.pantry t.who t.unit t.addr t.data bad)

/-- R336 … R344: channel c serves transaction t, read or queued write: its row is activated unless the bank holds it open,
its sectors are decoded, and a scrub that read the last span has completed a pass (R345). -/
def Device.serve (d : Device) (c : Nat) (t : PantryReq) (ahead : Nat × Nat) : Device :=
  let (_, b, r) := d.txnPlace t
  let n := txnLen t
  let x := (d.pch c).roll d.now
  let d1 := d.setPch c { x with
    txns := if t.write then x.txns else x.txns.erase t
    wq := if t.write then x.wq.erase t else x.wq
    ahead := ahead
    busyTo := d.now + d.txnCycles t
    rd := if t.write then x.rd else x.rd + n
    wr := if t.write then x.wr + n else x.wr }
  let d2 := if (d1.bank b).row = some r then d1 else d1.activate b r
  let d3 := d2.setBank b { d2.bank b with span := spanInRow (d.spanOf t.addr) }
  if t.write then d3.eccWrite t.addr n (wrongSectors t)
  else
    let d4 := (d3.shopWent t).eccRead t.addr n (wrongSectors t)
    let bad := d3.readPoisoned t
    let d5 := if bad then d4.poisonedFor t else d4
    if t.who = scrubber then (if d5.regN Reg.PANTRY_BYTES < t.addr + 2 * n then d5.incReg Reg.SCRUB_PASSES else d5)
    else d5.readAnswer t bad

/-! ### Refresh (R340, R342) -/

/-- R340: the bank of channel c whose turn a refresh is: the banks of each rank in turn. -/
def Device.refreshBank (d : Device) (c : Nat) : Nat :=
  let i := (d.pch c).refBank
  c * 64 + i / 16 * 32 + i % 16

/-- R340, R342, R348: a refresh of channel c issues, to the bank whose turn it is: the bank closes its row and its rolling
activate count falls by the devices' decrement. A drifted oscillator reading becomes the baseline, and the write delays are
corrected with it. -/
def Device.refreshIssued (d : Device) (c : Nat) : Device :=
  let x := d.pch c
  let b := d.refreshBank c
  let fresh := x.dqsNew.isSome
  let (v, d0) := if fresh then d.takeFree else (x.delays, d)
  let d1 := d0.setPch c { x with
    owed := x.owed - 1
    refBank := (x.refBank + 1) % (16 * Nat.max 1 d.pantry.ranks)
    busyTo := d.now + 1
    dqs := x.dqsNew.getD x.dqs
    dqsNew := none
    delays := v }
  let y := d1.bank b
  d1.setBank b { y with
    raa := y.raa - x.dec
    row := none }

/-! ### The order of commands (R336) -/

/-- R361: the engine reads that may go: a house engine's, a checkpoint's and the Porch's at once, a Workshop engine's once its limit admits it. -/
def Device.engReads (d : Device) (x : PCh) : List PantryReq :=
  (x.reads [2, 3, 4]).filter d.shopMay

/-- What a channel does next. -/
inductive PAct where
  | idle
  | due
  | txn (t : PantryReq) (ahead : Nat × Nat)
  | refresh
deriving DecidableEq, Repr

/-- The transaction of a level, if one is there. -/
def Device.level (d : Device) (x : PCh) (l : List PantryReq) : Option PAct := (d.pickTxn x l).map (fun p => .txn p.1 p.2)

/-- R336: the next command of a channel. -/
def Device.chNext (d : Device) (x : PCh) : PAct :=
  let panic := d.pantry.panic.isSome
  if !x.due.isEmpty then .due
  else
    match (if panic then d.level x (x.reads [0, 3]) else none) with
    | some a => a
    | none =>
      if d.regN Reg.REFRESH_POSTPONE_MAX < x.owed then .refresh
      else
        match (if x.drain then d.level x x.wq else none) with
        | some a => a
        | none =>
          match d.level x (x.reads [0, 1]) with
          | some a => a
          | none =>
            match d.level x (d.engReads x) with
            | some a => a
            | none =>
              if 0 < x.owed ∧ panic = false then .refresh
              else
                match d.level x (x.reads [scrubber]) with
                | some a => a
                | none => .idle

/-- R336, R337: channel c in one ENC cycle: writes enter the queue, drain is decided, and when the channel is free its
next command issues. -/
def Device.chTick (d : Device) (c : Nat) : Device :=
  let x := d.pch c
  if x.txns.isEmpty && x.wq.isEmpty && x.due.isEmpty && x.owed == 0 then d
  else if d.now < x.busyTo then d
  else
    let d0 := Device.takeWrites c inFlight d
    let x2 := { d0.pch c with drain := d0.drains (d0.pch c) }
    let d1 := d0.setPch c x2
    match d1.chNext x2 with
    | .idle => d1
    | .due => d1.dueIssued c
    | .txn t ahead => d1.serve c t ahead
    | .refresh => d1.refreshIssued c

/-- R336, R337: the channels of a trained Pantry in one ENC cycle; the streams whose writes waited for a write queue move on. -/
def Device.pantryTick (m : List Host.Cell) (d : Device) : List Host.Cell × Device :=
  if d.reg Reg.PANTRY_STATE = 3 then
    let l := (List.range 16).filter (fun s => d.porchWaits.any (fun t => t.unit == s))
    Device.streamsMove m ([0, 1, 2, 3].foldl (fun (d : Device) c => d.chTick c) d) l
  else (m, d)

/-- R338: a read whose bytes a queued write holds takes them from the queue. -/
def Device.fromQueue (d : Device) (c : Nat) (t : PantryReq) : Bool :=
  !t.write && (d.pch c).wq.any (fun u => txnWithin t u)

/-- R343: what the DRAM has done to sectors that transaction t touches. -/
def Device.dramErrs (d : Device) (t : PantryReq) : Device :=
  if d.pantry.ecc then
    (t.ecc.filter (fun e => (sectorsOf t.addr (txnLen t)).contains e.sector)).foldl
      (fun (d : Device) e => if e.bits.isEmpty then d else d.hitSector e.sector e.bits) d
  else d

/-- R338: a transaction as it waits: a read with the bytes last written to its address. -/
def txnCaught (m : List Host.Cell) (t : PantryReq) : PantryReq :=
  if t.write then t else { t with data := mread m t.addr t.len }

/-- R335, R338: a transaction arrives: it waits at its channel, unless it is a read that a queued write answers. Memory holds
what was last written, whether or not its write has left the queue, so that a read returns the last data written before
it. -/
def Device.pantryTxn (m : Memories) (d : Device) (t : PantryReq) : Memories × Device :=
  if d.pantryTakes t = false then (m, d)
  else
    let d0 := d.dramErrs t
    let u := txnCaught m.store t
    let d1 :=
      if d.fromQueue (d.txnPlace t).1 t then d0.readAnswer u false
      else if t.write then (d0.eccQueued t.addr (txnLen t)).txnWaits u
      else d0.txnWaits u
    (if t.write then { m with store := mwrite m.store t.addr t.data } else m, d1)

/-! ### Panic (R339) -/

/-- R337, R339: the prefetch fill (KiB) falls below PANIC_LEVEL_KIB: write drain is suspended. -/
def Device.panicStart (d : Device) (fill : Nat) : Device :=
  if d.pantry.panic.isNone ∧ fill < d.regN Reg.PANIC_LEVEL_KIB ∧ d.reg Reg.PANTRY_STATE = 3 then
    let d1 := [0, 1, 2, 3].foldl (fun (d : Device) c => d.setPch c { d.pch c with drain := false }) d
    { d1 with pantry := { d1.pantry with panic := some (d.now, fill) } }.incReg Reg.PANIC_COUNT
  else d

/-- R339, R340: the fill reaches PANIC_CLEAR_KIB: the channels pay back the refreshes owed from now on. `low` is the lowest
fill reached. -/
def Device.panicEnd (d : Device) (fill low : Nat) : Device :=
  match d.pantry.panic with
  | none => d
  | some (t, f) =>
    if fill < d.regN Reg.PANIC_CLEAR_KIB then d
    else
      let us := (d.now - t) / 400
      let sum := d.pantry.panicCyc + (d.now - t)
      let d2 := { d with pantry := { d.pantry with panic := none, panicCyc := sum } }.addReg64 Reg.PANIC_TIME_US
        (sum / 400 - d.pantry.panicCyc / 400)
      if oncePerSecond d.now d.pantry.panicTold then
        { d2 with pantry := { d2.pantry with panicTold := some d.now } }.raise Ev.PANTRY_PANIC 0xFF
          [.u 2 (Nat.min f low), .u 0 us]
      else d2

/-- R340: the ENC cycles between two refreshes of channel c, by the multiplier that its devices report. -/
def Device.refreshInterval (d : Device) (c : Nat) : Nat :=
  Config.refreshCycles (d.regN Reg.DEVICE_DENSITY_GBIT) d.pantry.ranks * 4 / Nat.max 1 (d.regN (Reg.REFRESH_MULT + c))

/-- R340: a refresh interval of channel c expires: one more refresh is due, which the channel issues or postpones. -/
def Device.refresh (d : Device) (c : Nat) : Device :=
  let x := d.pch c
  if d.reg Reg.PANTRY_STATE ≠ 3 ∨ d.now < x.refAt then d
  else d.setPch c { x with
    owed := x.owed + 1
    refAt := d.now + d.refreshInterval c }

/-- R340: MR4 of channel c is read: a refresh multiplier × 4. -/
def Device.mr4Read (d : Device) (c mult : Nat) : Device :=
  let x := d.pch c
  if d.reg Reg.PANTRY_STATE ≠ 3 ∨ d.now < x.mr4At ∨ ¬ [2, 4, 8, 16].contains mult then d
  else
    let d1 := (d.setPch c { x with mr4At := d.now + cycMs 16 }).setRegN (Reg.REFRESH_MULT + c) mult
    if 4 < mult ∧ mult ≠ d.regN (Reg.REFRESH_MULT + c) then d1.raise Ev.PANTRY_TEMP_DERATE c [.u 0 mult] else d1

/-! ### Scrub and retraining (R345, R348) -/

/-- R345: the spans of the fitted memory. -/
def Device.spans (d : Device) : Nat := d.regN Reg.PANTRY_BYTES / d.spanBytes

/-- R345: the patrol asks for the next span, at the level of the scrub; `ecc` is what the DRAM has done to its sectors. -/
def Device.scrubStep (d : Device) (ecc : List SectorErr) : Device :=
  let h := d.regN Reg.SCRUB_HOURS
  let n := d.spans
  if d.reg Reg.PANTRY_STATE ≠ 3 ∨ h = 0 ∨ n = 0 ∨ d.now < d.pantry.scrubAt then d
  else
    let i := d.pantry.scrub
    let t : PantryReq := { who := scrubber, addr := i * d.spanBytes, len := d.spanBytes, ecc := ecc }
    let nxt := if i + 1 < n then i + 1 else 0
    let d1 := { d with pantry := { d.pantry with scrub := nxt, scrubAt := d.now + h * 3600 * 400000000 / n } }
    (d1.dramErrs t).txnWaits t

/-- R348: the DQS interval oscillator of channel c is read, in 1/1,024 UI: after a drift of more than 1/32 UI the next
refresh corrects the write delays and takes the reading as the baseline. -/
def Device.dqsTake (d : Device) (c : Nat) (r : Int) : Device :=
  let x := d.pch c
  d.setPch c { x with
    dqsAt := d.now + cycMs (d.regN Reg.RETRAIN_MS)
    dqsNew := if 32 < (r - x.dqs).natAbs then some r else x.dqsNew }

/-- R348: the reading every RETRAIN_MS. -/
def Device.dqsCheck (d : Device) (c : Nat) (r : Int) : Device :=
  if d.reg Reg.PANTRY_STATE ≠ 3 ∨ d.now < (d.pch c).dqsAt then d else d.dqsTake c r

/-! ### Training and self-refresh (R346, R347) -/

/-- R346: the step that a try failed, 0 for none: an eye below 0.35 UI fails step 5 or 6. -/
def trainFailed (r : TrainRes) (mts : Nat) : Nat :=
  let low (ps : Nat) : Bool := decide (ps * mts < 350000)
  if 0 < r.fail ∧ r.fail ≤ 5 then r.fail
  else if low r.rdEye then 5
  else if r.fail ≠ 0 ∧ r.fail ≤ 6 then r.fail
  else if low r.wrEye then 6
  else r.fail

/-- R346, R347: one channel trains; a second failure is final. `first` and `again` are its two tries. The write delays that
training finds are the devices' own (log entry 202). -/
def Device.trainCh (d : Device) (c : Nat) (first again : TrainRes) : Device :=
  let mts := d.regN Reg.DATA_RATE_MTS
  let r := if trainFailed first mts = 0 then first else again
  if trainFailed r mts ≠ 0 then
    (d.setReg Reg.PANTRY_STATE 5).raise Ev.PANTRY_TRAINING_FAILED c [.u 2 (trainFailed r mts), .u 0 r.rank]
  else
    let (v, d0) := d.takeFree
    let d1 := d0.setPch c { dqs := r.dqs, rhAt := d.now + cycMs 32, mr4At := d.now + cycMs 16,
                            dqsAt := d.now + cycMs (d.regN Reg.RETRAIN_MS), refAt := d.now + d.refreshInterval c,
                            imt := r.imt, mult := r.mult, dec := r.dec, delays := v }
    (d1.setRegN (Reg.READ_EYE_PS + c) r.rdEye).setRegN (Reg.WRITE_EYE_PS + c) r.wrEye

/-- R331, R346: the configuration stored in the boot configuration is loaded. -/
def Device.pantryLoad (d : Device) : Device :=
  [Reg.DEVICE_DENSITY_GBIT, Reg.RANKS, Reg.DATA_RATE_MTS, Reg.ECC_ENABLE, Reg.BOOT_ZERO, Reg.RFM_ENABLE].foldl
    (fun (d : Device) k => d.loadStored k) d

/-- R346 step 8: with ECC_ENABLE or BOOT_ZERO the whole DRAM is written with zeros. -/
def Device.zeroes (d : Device) : Bool := d.regB Reg.ECC_ENABLE || d.regB Reg.BOOT_ZERO

/-- R346 step 9: READY, with STORE_BYTES set. -/
def Device.pantryReady (d : Device) : Device :=
  let n := pantryBytes (d.regN Reg.DEVICE_DENSITY_GBIT) (d.regN Reg.RANKS) (d.regB Reg.ECC_ENABLE)
  ((d.setReg Reg.PANTRY_STATE 3).setRegN Reg.PANTRY_BYTES n).setRegN Reg.RESERVED_BASE (n - 2 ^ 30)
    |>.setRegN Reg.STORE_BYTES (n - 2 ^ 30)

/-- R346: the training: the configuration is taken and the channels train; then INIT, where the DRAM is to be written with
zeros, or READY. A configuration that is not supported fails step 1 (R330, R331). -/
def Device.pantryTrain (d : Device) (tries : List (TrainRes × TrainRes)) : Device :=
  let d1 := d.pantryLoad
  let den := d1.regN Reg.DEVICE_DENSITY_GBIT
  let rk := d1.regN Reg.RANKS
  let d2 := { d1 with pantry := { ecc := d1.regB Reg.ECC_ENABLE, ranks := rk, rfm := d1.regB Reg.RFM_ENABLE } }.setReg
    Reg.PANTRY_STATE 1
  let bad : TrainRes := { fail := 1 }
  let conf := pantryConfOk den rk
  let d3 := [0, 1, 2, 3].foldl (fun (d : Device) c =>
    let t := tries.getD c ({}, {})
    d.trainCh c (if conf then t.1 else bad) (if conf then t.2 else bad)) d2
  if d3.reg Reg.PANTRY_STATE = 5 then d3
  else if d3.zeroes then d3.setReg Reg.PANTRY_STATE 2 else d3.pantryReady

/-- R346: the writing with zeros ends. -/
def Device.pantryInit (d : Device) : Device := if d.reg Reg.PANTRY_STATE = 2 then d.pantryReady else d

/-- Entry to self-refresh, and the exit with a reading of each channel's oscillator (R348). -/
def Device.pantrySleep (d : Device) : Device :=
  if d.reg Reg.PANTRY_STATE = 3 then
    let d1 := [0, 1, 2, 3].foldl (fun (d : Device) c => d.setPch c { d.pch c with txns := [], wq := [], drain := false, due := [], owed := 0 }) d
    { d1 with pantry := { d1.pantry with panic := none } }.setReg Reg.PANTRY_STATE 4
  else d
def Device.pantryWake (d : Device) (dqs : List Int) : Device :=
  if d.reg Reg.PANTRY_STATE = 4 then
    [0, 1, 2, 3].foldl (fun (d : Device) c =>
      d.dqsTake c (dqs.getD c (d.pch c).dqs)) (d.setReg Reg.PANTRY_STATE 3)
  else d

end Sys2Proof.Machine
end

