-- ==== Sys2Proof/Machine/EngOps.lean ====
section
/-! DEFINITION. The engines and the Workshop (R351 … R365): watchdogs, the mailbox, BULK, images and their check,
restart and halt. -/
namespace Sys2Proof.Machine

/-! ### Images (R359, R360, R397) -/

/-- What an image must show to be accepted: MAGIC, its largest body, the admitted ENTRY range, the key hash that counts
for its byte 3 (none where the key is absent or revoked) and the least VERSION. -/
structure ImageRule where
  magic   : List Nat
  maxLen  : Nat
  entryLo : Nat
  entryHi : Nat
  minVer  : Nat
deriving DecidableEq, Repr

/-- R359: the header is well formed. -/
def imageHeadOk (r : ImageRule) (l : List Nat) : Bool :=
  let n := fieldAt l 8 4
  decide (264 ≤ l.length) && bytesAt l 0 3 == r.magic ++ [1] && decide (n ≤ r.maxLen) && l.length == 264 + n &&
    decide (r.entryLo ≤ fieldAt l 12 4) && decide (fieldAt l 12 4 < r.entryHi)

/-- R360, R397: the reason why an image is not accepted (after R397: 1 header, 2 key, 3 signature, 4 body hash,
5 version), 0 none. -/
def imageFail (r : ImageRule) (hash : Option (List Nat)) (l : List Nat) : Nat :=
  if imageHeadOk r l = false then 1
  else
    let pub := bytesAt l 64 97
    if hash ≠ some (sha384 pub) then 2
    else if ecdsaOk pub (bytesAt l 161 96) (l.take 161) = false then 3
    else if sha384 (l.drop 264) ≠ bytesAt l 16 48 then 4
    else if fieldAt l 4 4 < r.minVer then 5
    else 0

/-- R401: a field of the Foundation as bytes. -/
def Device.fuseBytes (d : Device) (off n : Nat) : List Nat := bytesAt d.shadow off n

/-- R401: OEM_KEY_LOCK. -/
def Device.oemLocked (d : Device) : Bool := bit (d.fuse 160 4) 31

/-- R401: the OEM key hash, none while OEM_KEY_LOCK is 0. -/
def Device.oemHash (d : Device) : Option (List Nat) := if d.oemLocked then some (d.fuseBytes 112 48) else none

/-- R401: a thermometer of 8 bytes. -/
def Device.thermometer (d : Device) (off : Nat) : Nat := popCount 64 (d.fuse off 8)

/-- R359, R360: what a Workshop image must show. -/
def Device.shopRule (d : Device) : ImageRule :=
  { magic := [0x51, 0x57], maxLen := 1048576, entryLo := 0x10000000, entryHi := 0x10100000, minVer := d.thermometer 172 }

/-- R12: the reserved bits of a Workshop image. -/
def shopImageReserved (l : List Nat) : Bool := l.getD 3 0 ≥ 16 || (bytesAt l 257 7).any (fun b => b != 0)

/-- R360: the check of a WORKSHOP_IMAGE before it is stored. -/
def Device.shopImageCheck (d : Device) (l : List Nat) : Status :=
  if imageFail d.shopRule d.oemHash l ≠ 0 then .check else if shopImageReserved l then .reserved else .ok

/-- The place of the Workshop image in the flash (after R399). -/
def shopImageAt : Nat := 33 * 2 ^ 20

/-- The image stored at an address of the flash: as long as its header says, none where the place is erased. -/
def storedImage (m : List Host.Cell) (a size : Nat) : Option (List Nat) :=
  if flashErased m a size then none
  else some (flashRead m a (Nat.min size (264 + leNat (flashRead m (a + 8) 4))))

/-- The Workshop image as stored. -/
def shopImage (m : List Host.Cell) : Option (List Nat) := storedImage m shopImageAt (2 * 2 ^ 20)

/-! ### Starting and stopping the Workshop (R360, R362) -/

/-- The Workshop engines. -/
def allShops : List Nat := [0, 1, 2, 3]

/-- R362: a Workshop engine is stopped: its slots, rings and subscriptions return to their reset state. `st` is its
ENG_STATE. -/
def Device.shopStop (d : Device) (st : Int) (w : Nat) : Device :=
  (d.setShop w { starts := (d.shop w).starts + 1 }).setReg (Reg.ENG_STATE + 12 + w) st

/-- A Workshop engine starts at ENTRY. -/
def Device.shopStart (d : Device) (w : Nat) : Device :=
  (d.setShop w { on := true, kickAt := d.now, starts := (d.shop w).starts + 1 }).setReg (Reg.ENG_STATE + 12 + w) 0

/-- R353: the shared SRAM's place of Workshop address a from 1000_0000h on. -/
def sramAt (a : Nat) : Nat := 6 * 2 ^ 20 + (a - 0x10000000)

/-- R359: the body of an image is loaded at 1000_0000h. -/
def Device.loadBody (d : Device) (l : List Nat) : Device :=
  { d with eng := { d.eng with sram := mwrite d.eng.sram (sramAt 0x10000000) (l.drop 264) } }

/-- R360, R362: W0 … W3 start from the stored image once it passes; with `count` each start counts as a restart. -/
def Device.workshopStart (m : List Host.Cell) (d : Device) (count : Bool) : Device :=
  let d0 := (allShops.foldl (fun (d : Device) w => d.shopStop 1 w) d).setReg Reg.WORKSHOP_VERSION 0
  if d.oemLocked = false then d0.setReg Reg.WORKSHOP_STATE 4
  else
    match shopImage m with
    | none => d0.setReg Reg.WORKSHOP_STATE 0
    | some l =>
      let why := imageFail d.shopRule d.oemHash l
      if why ≠ 0 then (d0.setReg Reg.WORKSHOP_STATE 3).raise Ev.BOOT_WORKSHOP_REJECTED 0xFF [.u 0 why]
      else
        let d1 := (allShops.filter (fun w => bit (l.getD 3 0) w)).foldl (fun (d : Device) w =>
          let z := d.shopStart w
          if count then z.incReg (Reg.ENG_RESTARTS + 12 + w) else z) (d0.loadBody l)
        (d1.setReg Reg.WORKSHOP_STATE 1).setRegN Reg.WORKSHOP_VERSION (fieldAt l 4 4)

/-- R362, WORKSHOP_CMD 02h: running engines halt. -/
def Device.workshopHalt (d : Device) : Device :=
  if d.reg Reg.WORKSHOP_STATE = 1 then
    (allShops.foldl (fun (d : Device) w => if (d.shop w).on then d.shopStop 2 w else d) d).setReg Reg.WORKSHOP_STATE 2
  else d

/-- WORKSHOP_CMD 01h. In STANDBY the engines stay in reset until its exit (R373, R385). -/
def Device.workshopRestart (m : List Host.Cell) (d : Device) : Device :=
  if d.reg Reg.PWR_STATE = 2 then d else d.workshopStart m true

/-! ### Watchdogs and memory errors (R352, R362, R363) -/

/-- R27, R352: E0's sessions are lost with it. -/
def Device.loseSessions (d : Device) : Device :=
  let d1 := d.dict.sessions.foldl (fun (d : Device) (s : Session) => d.closeStreamsOf s.num) d
  { d1 with dict := { d1.dict with sessions := [] } }

/-- An engine is running. -/
def Device.engRuns (d : Device) (e : Nat) : Bool :=
  decide (e < 16) && d.reg (Reg.ENG_STATE + e) == 0 && (decide (e < 12) || (d.shop (e - 12)).on)

/-- R352: a restarted house engine's services resume within 200 ms, when exactly is open (log entry 152). -/
def Device.engBack (d : Device) (e : Nat) : Device :=
  let (v, d1) := d.takeFree
  { d1 with eng := { d1.eng with backAt := assocSet d1.eng.backAt e (d.now + v.toNat % (cycMs 200 + 1)) } }

/-- An engine is reset and restarts (R352, R362, R363). -/
def Device.engRestart (d : Device) (e : Nat) : Device :=
  let d1 := d.incReg (Reg.ENG_RESTARTS + e)
  if 12 ≤ e then d1.shopStart (e - 12) else if e = 0 then (d1.loseSessions).engBack 0 else d1.engBack e

/-- ENG_WATCHDOG. The house engines' 50 ms watchdogs are theirs to restart, and the command says that one expired; a
Workshop engine's is due WORKSHOP_WDT_MS after the last WDT_KICK. -/
def Device.engWatchdog (d : Device) (e : Nat) : Device :=
  let due := decide (e < 12) || decide ((d.shop (e - 12)).kickAt + cycMs (d.regN Reg.WORKSHOP_WDT_MS) ≤ d.now)
  if d.engRuns e && due then
    let d1 := d.engRestart e
    d1.raise Ev.ENG_WATCHDOG e [.u 0 (d1.regN (Reg.ENG_RESTARTS + e))]
  else d

/-- WDT_KICK. -/
def Device.wdtKick (d : Device) (w : Nat) : Device :=
  if (d.shop w).on then d.setShop w { d.shop w with kickAt := d.now } else d

/-- R353: what lies at an address of the map of Workshop engine w. -/
inductive ShopRegion where
  | tcm | sram | ring | control | pantry
deriving DecidableEq, Repr

/-- R353: the map of Workshop engine w; none where an access faults. -/
def shopMap (w a : Nat) : Option ShopRegion :=
  let within (lo n : Nat) : Bool := decide (lo ≤ a) && decide (a < lo + n)
  if within 0 0x10000 then some .tcm
  else if within 0x10000000 0x100000 || within (0x10100000 + w * 0x20000) 0x20000 then some .sram
  else if within (0x10180000 + w * 0x2000) 0x2000 || within (0x10188000 + w * 0x4000) 0x4000 then some .ring
  else if within 0x20000000 0x1000 then some .control
  else if within 0x40000000 (64 * 2 ^ 20) then some .pantry
  else none

/-- R353: an access of a Workshop engine: the byte that it writes, none for a read. Outside its map, and where it writes a ring,
it traps; a write to its own memory, the Workshop SRAM or its mailbox slots is stored there. Its accesses to the Pantry
window are the transactions of R335, where poisoned data traps (R344), and those to its control registers act by R354. -/
def Device.workshopTrap (d : Device) (w a : Nat) (byte : Option Nat) : Device :=
  if (d.shop w).on = false ∨ 4 ≤ w then d
  else
    let trap := (d.incReg (Reg.WS_TRAPS + w)).raise Ev.ENG_WORKSHOP_TRAP (12 + w) [.raw 4 a]
    match shopMap w a, byte with
    | none, _ => trap
    | some .ring, some _ => trap
    | some .tcm, some b =>
      { d with eng := { d.eng with tcm := mset d.eng.tcm ((12 + w) * 65536 + a) (BitVec.ofNat 8 b) } }
    | some .sram, some b => { d with eng := { d.eng with sram := mset d.eng.sram (sramAt a) (BitVec.ofNat 8 b) } }
    | _, _ => d

/-- R363: an error in the memory that engine e read: corrected, or the engine restarts; one in the shared Workshop SRAM,
whoever read it, restarts W0 … W3. -/
def Device.sramEcc (m : List Host.Cell) (d : Device) (e a : Nat) (fixable : Bool) : Device :=
  if fixable then d.incReg Reg.SRAM_ECC_CORRECTED
  else if d.engRuns e = false then d
  else
    let d1 := (d.incReg Reg.SRAM_ECC_UNCORRECTED).raise Ev.ENG_SRAM_ECC e [.raw 4 a]
    let shared := decide (0x10000000 ≤ a ∧ a < 0x10100000)
    let d2 := if 12 ≤ e ∧ shared = true then d1 else d1.engRestart e
    if shared then d2.workshopRestart m else d2

/-! ### The mailbox (R354 … R357) -/

/-- R356: a write of MB_POST: the slot is taken, or the write is ignored and counted. -/
def Device.mbPost (d : Device) (w : Nat) (r : MbReq) : Device × Bool :=
  let x := d.shop w
  if x.on = false ∨ 4 ≤ w then (d, false)
  else if 8 ≤ r.slot then (d, false)
  else if x.busy.any (fun b => b.slot == r.slot) ∨ x.done.contains r.slot then
    let d1 := d.incReg (Reg.MB_OVERFLOWS + w)
    if oncePerSecond d.now (assoc d.eng.ovfAt w) then
      (({ d1 with eng := { d1.eng with ovfAt := assocSet d1.eng.ovfAt w d.now } } : Device).raise
        Ev.ENG_MAILBOX_OVERFLOW (12 + w) [.u 0 (d1.regN (Reg.MB_OVERFLOWS + w))], false)
    else (d1, false)
  else (d.setShop w { x with busy := x.busy ++ [r] }, true)

/-- R354: an access of the engine to one of its control registers: offset and value written. A read of TB3_NS_LO
snapshots TB3_NS_HI. -/
def Device.mbReg (d : Device) (w off v : Nat) : Device :=
  let x := d.shop w
  let u := v % 2 ^ 32
  if off = 0x10 then d.setShop w { x with evMin := u }
  else if off = 0x18 then d.setShop w { x with evRd := u }
  else if off = 0x20 then d.setShop w { x with bulkRd := u }
  else if off = 0x24 then d.wdtKick w
  else if off = 0x28 then d.setShop w { x with irq := u % 8 }
  else if off = 0x30 then d.setShop w { x with tb3Hi := d.tb3Ns / 2 ^ 32 }
  else d

/-- R354: MB_ACK frees the response slots written as 1; `regs` holds the engine's accesses to its other registers. -/
def Device.mbAck (d : Device) (w mask : Nat) (regs : List (Nat × Nat)) : Device :=
  if (d.shop w).on = false ∨ 4 ≤ w then d
  else
    let x := d.shop w
    let d1 := d.setShop w { x with done := x.done.filter (fun s => !bit mask s) }
    regs.foldl (fun (d : Device) r => d.mbReg w r.1 r.2) d1

/-- R354: the engine's local interrupt 16. -/
def Shop.irq16 (x : Shop) : Bool :=
  (bit x.irq 0 && !x.done.isEmpty) || (bit x.irq 1 && x.evWr != x.evRd) || (bit x.irq 2 && x.bulkWr != x.bulkRd)

/-- R357: a BULK message enters the receive ring of Workshop engine w, or is lost. -/
def Device.bulkTake (d : Device) (w srcPos srcW : Nat) (data : List Nat) : Device :=
  if 4 ≤ w then d
  else
    let x := d.shop w
    if 8 ≤ (x.bulkWr + 2 ^ 32 - x.bulkRd) % 2 ^ 32 then d.incReg (Reg.BULK_LOST + w)
    else d.setShop w { x with bulk := assocSet x.bulk (x.bulkWr % 8) ([srcPos, srcW] ++ leBytes 2 data.length ++ data)
                              bulkWr := (x.bulkWr + 1) % 2 ^ 32 }

/-- The port by which fewer hops lead to a ring position, DN when they are equal; the other one where the link is not
up. -/
def Device.towards (d : Device) (pos : Nat) : Nat :=
  let n := d.regN Reg.RING_SIZE
  let me := d.regN Reg.RING_POSITION
  let dn := (pos + n - me % n) % n
  let p := if 2 * dn ≤ n then 1 else 0
  if d.linkUp p then p else 1 - p

/-- R357: the device has a ring. -/
def Device.hasRing (d : Device) : Bool := d.role != 0 && decide (1 < d.regN Reg.RING_SIZE) && decide (d.regN Reg.RING_POSITION < 8)

/-- R357: a BULK message arrives: it is for this device, or goes on. `srcW` is the source engine. -/
def Device.bulkIn (d : Device) (h : HallHdr) (pos eng srcW : Nat) (data : List Nat) : Device :=
  let (d0, ok) := d.hallRecv h 0x30
  if ok = false then d0
  else if pos = d0.regN Reg.RING_POSITION then
    let n := d0.regN Reg.RING_SIZE
    let src := if h.port = 1 then (pos + h.hops + 1) % n else (pos + 8 * n - h.hops - 1) % n
    d0.bulkTake eng src srcW data
  else d0.hallSend (1 - h.port) 0x30 (h.hops + 1) ([pos, eng] ++ leBytes 2 data.length ++ data)

/-- R361: the share of the last second in which an engine was busy: measured, so open (log entry 23). -/
def Device.engLoad (d : Device) (e : Nat) : Nat := (Config.unstated 365 [(e : Int), (d.now : Int)]).toNat % 1001

end Sys2Proof.Machine
end

