-- ==== Sys2Proof/Machine/PowerOps.lean ====
section
/-! DEFINITION. The power manager (R366 … R390): when a state may be requested, the Doorbell, the entries to STANDBY and
NIGHT with their abort points and rollback, the exit from STANDBY, the ring's protocol, and supervision. -/
namespace Sys2Proof.Machine

/-- The domains outside AON run: the device stands in RUN, READY or STANDBY, or passes between them. -/
def Device.up (d : Device) : Bool :=
  match d.pwr.phase with
  | .steady => true
  | .entry .. => true
  | .leave _ => true
  | _ => false

/-- R18, R396: house firmware runs: the device is up, or in a boot from step 9 on, or after a strap fault. -/
def Device.firmware (d : Device) : Bool :=
  d.up || (match d.pwr.phase with
    | .boot n => decide (9 ≤ n)
    | .strapFault => true
    | _ => false)

/-- R31, R351, R352: the dictionary is served: firmware runs, and E0 with its services. -/
def Device.served (d : Device) : Bool := d.firmware && d.engUp 0

/-- R240, R383: records are written by E5, and by the power manager in an entry to NIGHT, whose step 2 finds E5 halted (log
entry 208). -/
def Device.cellarRuns (d : Device) : Bool :=
  d.firmware && (d.engUp 5 || (match d.pwr.phase with | .entry _ night n => night && n == 2 | _ => false))

/-- The AON domain runs alone: NIGHT, OFF. -/
def Device.inNight (d : Device) : Bool := d.pwr.phase == .night || d.pwr.phase == .off

/-- Write the phase. -/
def Device.setPhase (d : Device) (p : Phase) : Device := { d with pwr := { d.pwr with phase := p } }

/-- R377: no page prints and no drop test runs. -/
def Device.quiet (d : Device) : Bool :=
  d.reg Reg.SCHED_STATE == 2 && d.reg Reg.DT_STATE != 1 && d.reg Reg.DT_STATE != 2

/-- R379: the keep-alive counter could not follow POS0. -/
def Device.tooFast (d : Device) : Bool :=
  d.regB Reg.KA_ENABLE && decide ((1000000 : Int) * 2 ^ 34 < speedCps34 (d.pos.p0.v.natAbs : Int))

/-! ### Domains (R373) -/

/-- The domain numbers of the Rooms and the Spare. -/
def roomDomains : List Nat := (List.range 25).map (· + 2)

/-- Set or clear the bits of domains in DOMAIN_ON. -/
def Device.domains (d : Device) (l : List Nat) (on : Bool) : Device :=
  d.setRegN Reg.DOMAIN_ON (l.foldl (fun m n => putBit m n on) (d.regN Reg.DOMAIN_ON))

/-- R373: the domains that are on in READY. -/
def readyDomains : List Nat := [0, 1] ++ (List.range 30).map (· + 27)

/-- R373: in RUN the Rooms and the Spare are clocked; in READY they are gated and no slot is armed. -/
def Device.roomsClock (d : Device) (on : Bool) : Device :=
  let d1 := (List.range 25).foldl (fun (d : Device) k => d.setRoom k { d.room k with started := false })
    (d.domains roomDomains on)
  { d1 with mantel := { d1.mantel with armed := [] } }

/-! ### State changes -/

/-- PWR_STATE changes, and the event says so. R380: an entry in progress does not restart the count of movement. -/
def Device.pwrEnter (d : Device) (st : Nat) : Device :=
  let old := d.regN Reg.PWR_STATE
  if old = st then d
  else
    let c := match d.pwr.phase with
      | .entry final _ n => if final = 2 ∧ n = 7 then d.pos.p0.c else d.pwr.c0
      | _ => d.pos.p0.c
    let d1 := { d with pwr := { d.pwr with c0 := c } }
    (d1.setRegN Reg.PWR_STATE st).raise Ev.PWR_STATE_ENTERED 0xFF [.u 2 st, .u 0 old]

/-- R377: RUN and READY pass into one another. -/
def Device.runReady (d : Device) (st : Nat) : Device := (d.roomsClock (st == 0)).pwrEnter st

/-- PWR_STATUS. -/
def Device.pwrStatus (d : Device) (st : Int) : Device := d.setReg Reg.PWR_STATUS st

/-! ### The Doorbell (R380, R381) -/

/-- A latch is set. -/
def Device.latchWake (d : Device) (n : Nat) : Device :=
  { d with pwr := { d.pwr with latches := setBit d.pwr.latches n } }

/-- The latched sources that are enabled; a command always is. -/
def Device.wakes (d : Device) : Nat := d.pwr.latches &&& (d.regN Reg.WAKE_ENABLE ||| 8)

/-- R383 step 5, R380: POS0 is counted by the keep-alive counter: in NIGHT, and from the step of its entry in which the
position passes to it. -/
def Device.keepAlive (d : Device) : Bool :=
  match d.pwr.phase with
  | .night => true
  | .entry _ night n => night && decide (6 ≤ n)
  | _ => false

/-- R380: net movement of POS0 since the present state was entered. A boot held in NIGHT has no count. -/
def Device.netCounts (d : Device) : Int :=
  if d.boot.hold then 0 else (if d.keepAlive then d.pos.ka.cFrozen + d.pos.ka.count else d.pos.p0.c) - d.pwr.c0

/-- R380: WAKE_COUNTS has been reached. -/
def Device.moved (d : Device) : Bool := decide (d.regN Reg.WAKE_COUNTS ≤ d.netCounts.natAbs)

/-- R380: TB0 has reached WAKE_TB0_NS. In NIGHT TB0 runs from the RC oscillator. -/
def Device.tb0Alarm (d : Device) : Bool :=
  let ns := match d.time.nightAt with
    | none => nsOf d.time.tb0
    | some t => nsOf d.time.tb0 + (d.now - t) * 5 / 2
  d.regN Reg.WAKE_TB0_NS != 0 && decide (d.regN Reg.WAKE_TB0_NS ≤ ns)

/-! ### The POWER message (R388) -/

/-- The body of a POWER message. -/
def Device.powerBody (d : Device) (kind target number status : Nat) : List Nat :=
  [kind, target] ++ leBytes 2 number ++ [d.regN Reg.RING_POSITION % 256, status, 0, 0]

/-- The master sends a POWER message to every member. -/
def Device.powerAll (d : Device) (kind target number : Nat) : Device :=
  if d.isMaster && d.hasRing then d.hallBoth 0x12 (d.powerBody kind target number (d.regN Reg.PWR_STATUS)) else d

/-- A member answers the master. -/
def Device.powerReply (d : Device) (kind target number status : Nat) : Device :=
  d.hallSend d.toMaster 0x12 0 (d.powerBody kind target number status)

/-! ### The rails (R369) -/

/-- R369: the rails go down from ENC cycle `start` on in descending slot order: each enable is released RAIL_DELAY_US after the PG before it has
deasserted, or after RAIL_PG_TIMEOUT_MS; when a PG deasserts is open (log entry 177). -/
def Device.railsDown (d : Device) (start : Nat) : Device :=
  let one (x : Device × Nat) (k : Nat) : Device × Nat :=
    if x.1.reg (Reg.un Reg.RAIL_STATE k) = 0 then x
    else
      let (v, d1) := x.1.takeFree
      let fall := v.toNat % (cycMs (d1.regN (Reg.un Reg.RAIL_PG_TIMEOUT_MS k)) + 1)
      ((d1.setReg (Reg.un Reg.RAIL_STATE k) 0).send (.pwrEn k false x.2),
       x.2 + fall + cycUs (d1.regN (Reg.un Reg.RAIL_DELAY_US k)))
  ([5, 4, 3, 2, 1, 0].foldl one (d, start)).1

/-- R369: PWR_ENn is low while the AON domain is in reset. -/
def Device.enablesLow (d : Device) : Device :=
  (List.range 6).foldl (fun (d : Device) k =>
    if d.reg (Reg.un Reg.RAIL_STATE k) = 0 then d else d.send (.pwrEn k false d.now)) d

/-! ### Isolation (R373, R374) -/

/-- R373, R374: what the latches of the clamps hold: while a domain runs they follow its configuration. CMP_OUTn and CAM_TRIGn
are inactive, which is high under polarity 1. -/
def Device.clampLatch (d : Device) : Device :=
  let d1 := d.boilerLatch
  let cmp := (List.range 4).filter (fun n => d1.regB (Reg.un Reg.CMP_POLARITY n))
  let trig := (List.range 4).filter (fun p => d1.regB (Reg.TRIG_POLARITY + p))
  { d1 with pwr := { d1.pwr with cmpClamp := if d1.domainOn 56 then cmp else d1.pwr.cmpClamp
                                 trigClamp := if d1.domainOn 54 then trig else d1.pwr.trigClamp } }

/-- R373: every clamp closes: HOLD falls with those of the Porch and the Hallway. -/
def Device.clampAll (d : Device) : Device :=
  (((d.clampLatch).setRegN Reg.DOMAIN_ON 1).porchIsolate).hallIsolate

/-! ### Entries (R381 … R383) -/

/-- R381: the request is refused because of a wake. -/
def Device.refuseWake (d : Device) (target : Nat) : Device :=
  let w := d.wakes
  let d1 := (d.setRegN Reg.WAKE_CAUSE w).pwrStatus 3
  ({ d1 with pwr := { d1.pwr with latches := 0 } } : Device).raise Ev.PWR_REFUSED_WAKE 0xFF [.u 2 target, .u 0 w]

/-- AP0: the entry towards `final` begins; a device in RUN passes to READY first, a device in STANDBY goes on to
NIGHT. Its first step writes the dirty Cellar records. -/
def Device.beginEntry (d : Device) (final : Nat) : Device :=
  let st := d.regN Reg.PWR_STATE
  let d1 := { d with pwr := { d.pwr with from_ := st, ap := 0, wake := false, ring := none, exitTo := 1, byGo := false,
                                         phase := .entry final (st == 2) 2 } }
  let d2 := (d1.pwrStatus 1).setReg Reg.PWR_LAST_AP 0
  (if st = 0 then d2.runReady 1 else d2).cellarFlush

/-- R381, R387: a request is sampled: a latched wake refuses it; the master of a ring asks its members first. -/
def Device.sampleRequest (d : Device) (final : Nat) : Device :=
  if d.wakes ≠ 0 then d.refuseWake final
  else if d.isMaster && d.hasRing then
    let n := (d.pwr.ringNo + 1) % 65536
    let d1 := { d with pwr := { d.pwr with ringNo := n, from_ := d.regN Reg.PWR_STATE, ap := 0,
                                           ring := some { number := n, target := final, at_ := d.now } } }
    (d1.pwrStatus 1).powerAll 0 final n
  else d.beginEntry final

/-- The units of a NIGHT entry's step 3 begin their shutdown; their enable entries keep their values. -/
def Device.unitsStop (d : Device) : Device :=
  let d1 := ((List.range 24).foldl (fun (d : Device) k => d.hgClear k) d).passIdle
  let d2 := [0, 1].foldl (fun (d : Device) p =>
    let e := d.reg (Reg.un Reg.PORCH_PORT_ENABLE p)
    (d.porchDisable p).setReg (Reg.un Reg.PORCH_PORT_ENABLE p) e) d1
  let d3 := [0, 1].foldl (fun (d : Device) p =>
    let e := d.reg (hallKey Reg.HALL_PORT_ENABLE p)
    (d.hallDisable p).setReg (hallKey Reg.HALL_PORT_ENABLE p) e) d2
  allSlots.foldl (fun (d : Device) s =>
    let e := d.lp s Reg.LOOP_ENABLE
    (d.loopDisable s).setLp s Reg.LOOP_ENABLE e) d3

/-- Every group, port and slot is OFF. -/
def Device.unitsOff (d : Device) : Bool :=
  (List.range 24).all (fun k => d.hgState k == 0) &&
    [0, 1].all (fun p => d.pportState p == 0 && d.hportState p == 0) && allSlots.all (fun s => d.loopState s == 0)

/-- The units start again as their entries hold (R384). -/
def Device.unitsStart (d : Device) : Device :=
  let d1 := allSlots.foldl (fun (d : Device) s => if d.lp s Reg.LOOP_ENABLE = 1 then d.loopEnable s else d) d
  let d2 := [0, 1].foldl (fun (d : Device) p =>
    if d.regB (Reg.un Reg.PORCH_PORT_ENABLE p) then d.porchEnable p else d) d1
  let d3 := [0, 1].foldl (fun (d : Device) p =>
    if d.regB (hallKey Reg.HALL_PORT_ENABLE p) then d.hallEnable p else d) d2
  (List.range 24).foldl (fun (d : Device) k => if bit (d.regN Reg.HG_ENABLE) k then d.hgSet k else d) d3

/-- The Window ports shut down; their enables keep their values. -/
def Device.windowStop (d : Device) : Device :=
  [0, 1, 2, 3].foldl (fun (d : Device) p =>
    let e := d.reg (Reg.WIN_PORT_ENABLE + p)
    (d.winPortDisable p).setReg (Reg.WIN_PORT_ENABLE + p) e) d

/-- The Window ports are enabled as PORT_ENABLE holds. -/
def Device.windowStart (d : Device) : Device :=
  [0, 1, 2, 3].foldl (fun (d : Device) p => if d.regB (Reg.WIN_PORT_ENABLE + p) then d.winPortEnable p else d) d

/-- ENG_STATE of a set of engines. -/
def Device.engines (d : Device) (l : List Nat) (st : Int) : Device :=
  l.foldl (fun (d : Device) e => d.setReg (Reg.ENG_STATE + e) st) d

/-- R373: the house engines that halt in STANDBY. -/
def standbyHalted : List Nat := [1, 2, 5, 6, 7, 8, 9, 10]

/-- An abort point is passed. -/
def Device.passAp (d : Device) (n : Nat) : Device :=
  ({ d with pwr := { d.pwr with ap := n } } : Device).setRegN Reg.PWR_LAST_AP n

/-- R382, R383: step 3 begins. -/
def Device.entryStop (d : Device) (night : Bool) : Device := if night then d.unitsStop else d.windowStop

/-- R373, R382: the action with which step n of the STANDBY entry completes; none while it has not ended. With the clamps
of the Rooms the line FIFOs are empty. -/
def Device.standbyStep (d : Device) (n : Nat) : Option Device :=
  if n = 2 then (if d.cellarClean then some d else none)
  else if n = 3 then
    if [0, 1, 2, 3].all (fun p => d.reg (Reg.WIN_PORT_STATE + p) == 0) then
      some (((d.engines standbyHalted 2).workshopHalt).passAp 1)
    else none
  else if n = 4 then some (d.pantrySleep.passAp 2)
  else if n = 5 then
    let dry (p : Nat × Chan) : Nat × Chan := (p.1, { p.2 with fifo := [] })
    let d1 := { d with heads := { d.heads with chans := d.heads.chans.map dry } }
    some ((d1.hallSleep.clampLatch.domains (54 :: roomDomains) false).passAp 3)
  else if n = 6 then some (d.passAp 4)
  else some ((d.pwrEnter 2).pwrStatus (if d.pwr.phase == .entry 3 false 7 then 1 else 2))

/-- R383: the action with which step n of the NIGHT entry completes. -/
def Device.nightStep (d : Device) (n : Nat) : Option Device :=
  if n = 2 then (if d.cellarClean then some d else none)
  else if n = 3 then (if d.unitsOff then some ((d.engines (List.range 12) 2).passAp 1) else none)
  else if n = 4 then some (d.passAp 2)
  else if n = 5 then
    let d1 := { d.kaFreeze with time := { d.time with nightAt := some d.now } }
    some (d1.clampAll.passAp 3)
  else if n = 6 then
    some ((d.railsDown d.now).passAp 4)
  else
    let d1 := d.setReg Reg.PWR_STATE 3
    let a : Aon := { d1.pwr.aon with nightFrom := some (d.regN Reg.PWR_STATE), target := d.regN Reg.WAKE_TARGET }
    some { d1 with pwr := { d1.pwr with phase := .night, wake := false, aon := a } }

/-! ### Exit and rollback (R384, R385) -/

/-- R385: the STANDBY exit begins, towards READY or RUN. -/
def Device.startLeave (d : Device) (goal : Nat) : Device :=
  let d1 := { d with pwr := { d.pwr with phase := .leave 2, exitTo := goal } }
  (d1.setRegN Reg.WAKE_CAUSE d.wakes).pwrStatus 1 |>.powerAll 5 goal d.pwr.ringNo

/-- Step 2 of the exit: the switches close and the clamps open. The Rooms stay gated. -/
def Device.leave2 (d : Device) : Device := d.domains [54] true

/-- Step 3: the Pantry and the links come out of their low-power states; `dqs` are the readings of R348. -/
def Device.leave3 (d : Device) (dqs : List Int) : Device := (d.pantryWake dqs).hallWake

/-- Step 4: the halted engines resume and the Workshop starts from the stored image. -/
def Device.leave4 (m : Memories) (d : Device) : Device := Device.workshopStart m.flash (d.engines standbyHalted 0) true

/-- Step 5: the Window ports are enabled, and the state is READY, or RUN. -/
def Device.leave5 (d : Device) : Device :=
  let goal := d.pwr.exitTo
  let d1 := d.windowStart
  let d2 := (if goal = 0 then d1.runReady 0 else d1.pwrEnter 1).pwrStatus 2
  { d2 with pwr := { d2.pwr with phase := .steady, latches := 0, wake := false } }

/-- The STANDBY part of a rollback, steps 2 to n completed. -/
def Device.undoStandby (m : Memories) (d : Device) (n : Nat) (dqs : List Int) : Device :=
  let d1 := if 5 ≤ n then d.leave2.hallWake else d
  let d2 := if 4 ≤ n then d1.pantryWake dqs else d1
  let d3 := if 3 ≤ n then d2.leave4 m else d2
  let d4 := if 3 ≤ n then d3.windowStart else d3
  if d4.pwr.from_ = 0 then d4.runReady 0 else d4.pwrEnter d4.pwr.from_

/-- R428: the clamp of the BOILER opens: every sensor select is high for 200 ns before a frame. -/
def Device.selectsHigh (d : Device) : Device :=
  { d with boiler := { d.boiler with busTo := (List.range 4).map (fun b => (b, d.ps + 200000)) } }

/-- The NIGHT part of a rollback, steps 2 to n completed. -/
def Device.undoNight (d : Device) (n : Nat) : Device :=
  let d1 := if 5 ≤ n then (d.kaRestore.tb0Wake.selectsHigh).domains ((readyDomains).filter (fun x => x != 54)) true else d
  let d2 := if 3 ≤ n then d1.engines [0, 3, 4, 11] 0 else d1
  if 3 ≤ n then d2.unitsStart else d2

/-- R384, R387: the completed steps are reversed, and the device stands where the request was made. -/
def Device.rollBack (m : Memories) (d : Device) (final : Nat) (night : Bool) (n : Nat) (dqs : List Int) : Device :=
  let d1 := if night then d.undoNight n else d
  let d2 := if night && d1.pwr.from_ == 2 then d1
    else Device.undoStandby m d1 (if night then 7 else n) dqs
  let ap := d2.pwr.ap
  let d3 := ({ d2 with pwr := { d2.pwr with phase := .steady, wake := false } } : Device).pwrStatus 4
  let d4 := d3.raise Ev.PWR_ROLLBACK 0xFF [.u 2 final, .u 2 ap, .u 0 (d3.regN Reg.WAKE_CAUSE)]
  if d4.isMaster then d4.powerAll 5 (d4.regN Reg.PWR_STATE) d4.pwr.ringNo
  else if d4.isMember && d4.pwr.byGo && ap == 0 then d4.powerReply 4 final d4.pwr.ringNo 4
  else d4

/-- The next step of an entry begins, or what follows its last one. -/
def Device.entryNext (m : Memories) (d : Device) (final : Nat) (night : Bool) (n : Nat) (dqs : List Int) : Device :=
  let passed := decide (6 ≤ n) && (night || final == 2)
  if d.pwr.phase == .night then d
  else if (d.pwr.wake || d.wakes != 0) && !passed then
    Device.rollBack m (if d.wakes = 0 then d else d.setRegN Reg.WAKE_CAUSE d.wakes) final night n dqs
  else if n < 7 then (if n = 2 then d.entryStop night else d).setPhase (.entry final night (n + 1))
  else if final = 3 then (d.setPhase (.entry 3 true 2)).cellarFlush
  else if d.pwr.wake || d.wakes != 0 then (({ d with pwr := { d.pwr with wake := false } } : Device).startLeave d.pwr.exitTo)
  else d.setPhase .steady

/-- R387 step 3: a member's dirty records are written, and it answers PREPARED once. -/
def Device.memberPrepared (d : Device) : Device :=
  match d.pwr.ring with
  | some r =>
    if d.isMember && r.ready.isEmpty && d.cellarClean then
      ({ d with pwr := { d.pwr with ring := some { r with ready := [d.regN Reg.RING_POSITION] } } } : Device).powerReply
        1 r.target r.number 1
    else d
  | none => d

/-- PWR_STEP_DONE: the step in progress completes and the next begins. `dqs` are the readings of the Pantry's
oscillators where the step leaves self-refresh. -/
def Device.pwrStepDone (m : Memories) (d : Device) (dqs : List Int) : Device :=
  match d.pwr.phase with
  | .entry final night n =>
    (match (if night then d.nightStep n else d.standbyStep n) with
     | none => d
     | some d1 => Device.entryNext m d1 final night n dqs)
  | .leave 2 => d.leave2.setPhase (.leave 3)
  | .leave 3 => (d.leave3 dqs).setPhase (.leave 4)
  | .leave 4 => (d.leave4 m).setPhase (.leave 5)
  | .leave _ => d.leave5
  | .steady => d.memberPrepared
  | _ => d

/-! ### Wakes -/

/-- R387: the master gives up a request that its members have not all answered. -/
def Device.ringCancel (d : Device) (st : Int) : Device :=
  match d.pwr.ring with
  | none => d
  | some r => (({ d with pwr := { d.pwr with ring := none } } : Device).pwrStatus st).powerAll 3 r.target r.number

/-- WAKE (R380, R384, R386): an enabled latch makes the device leave STANDBY, rolls an entry back at the end of its
step, or gives up a request that waits for the ring. From NIGHT the device boots (`Device.wakesNight`). `goal` is the
state that the wake asks for. -/
def Device.wakeNow (d : Device) (goal : Nat) : Device :=
  let w := d.wakes
  if w = 0 then d
  else
    match d.pwr.phase with
    | .steady =>
      (match d.pwr.ring with
       | none => if d.reg Reg.PWR_STATE = 2 then d.startLeave goal else d
       | some r =>
         if d.isMaster then
           (((d.setRegN Reg.WAKE_CAUSE w).ringCancel 4).setReg Reg.PWR_LAST_AP 0).raise Ev.PWR_ROLLBACK 0xFF
             [.u 2 r.target, .u 2 0, .u 0 w]
         else d)
    | .entry .. => ({ d with pwr := { d.pwr with wake := true, exitTo := goal } } : Device).setRegN Reg.WAKE_CAUSE w
    | _ => d

/-- A wake from NIGHT is due. -/
def Device.wakesNight (d : Device) : Bool := d.pwr.phase == .night && d.wakes != 0

/-! ### Requests (R377 … R379) -/

/-- R20, R377, R379: what a write of PWR_REQUEST is refused with. -/
def Device.pwrCheck (d : Device) (t : Nat) : Status :=
  if d.isMember then .role
  else
    match d.pwr.phase with
    | .steady =>
      let st := d.regN Reg.PWR_STATE
      let waits := match d.pwr.ring with | some r => some r.target | none => none
      if waits.isSome then (if t < waits.getD 0 then .ok else .busy)
      else if t = st then .ok
      else if st = 0 ∧ d.quiet = false then .state
      else if t = 3 ∧ d.tooFast = true then .state
      else .ok
    | .entry final _ _ => if t < final then .ok else .busy
    | .strapFault => .state
    | _ => .busy

/-- R377: an accepted PWR_REQUEST. -/
def Device.pwrRequest (d : Device) (t : Nat) : Device :=
  match d.pwr.phase with
  | .steady =>
    let st := d.regN Reg.PWR_STATE
    if d.pwr.ring.isSome then (d.latchWake 3).wakeNow t
    else if t = st then d.pwrStatus 2
    else if 2 ≤ t ∧ st < t then d.sampleRequest t
    else if st = 2 then (d.latchWake 3).wakeNow t
    else ((d.runReady t).pwrStatus 2).powerAll 5 t d.pwr.ringNo
  | .entry .. => (d.latchWake 3).wakeNow (Nat.min t 1)
  | _ => d

/-- SLEEP_N_FALL (R376, R378): the request is made; in RUN it stops the scheduler and the drop test first. -/
def Device.sleepFall (d : Device) : Device :=
  let d1 := { d with pwr := { d.pwr with sleepN := false, sleepReq := !d.inNight } }
  if d.up && d.reg Reg.PWR_STATE == 0 then (d1.schedStop).dtAbort 0 else d1

/-- SLEEP_REQUEST_SAMPLE (R378, R379): the held request is sampled. -/
def Device.sleepSample (d : Device) : Device :=
  if d.pwr.sleepReq && d.pwr.phase == .steady && d.pwr.ring.isNone && (d.reg Reg.PWR_STATE != 0 || d.quiet) &&
      !d.tooFast then
    ({ d with pwr := { d.pwr with sleepReq := false } } : Device).sampleRequest 3
  else d

/-- SLEEP_N's filtered rising edge: it latches its wake and cancels a request not yet sampled. -/
def Device.sleepRise (d : Device) : Device :=
  ({ d with pwr := { d.pwr with sleepN := true, sleepReq := false } } : Device).latchWake 0

/-! ### The ring (R387, R388) -/

/-- R387: a POWER message goes on around the ring. -/
def Device.powerOn (d : Device) (h : HallHdr) (kind target number origin status : Nat) : Device :=
  d.hallSend (1 - h.port) 0x12 (h.hops + 1) ([kind, target] ++ leBytes 2 number ++ [origin, status, 0, 0])

/-- R387 step 3: REQUEST on a member. A second copy of it is only forwarded. -/
def Device.powerReqIn (d : Device) (h : HallHdr) (target number status : Nat) : Device :=
  let (d0, ok) := d.hallRecv h 0x12
  if ok = false ∨ d0.isMember = false then d0
  else
    let d1 := d0.powerOn h 0 target number 0 status
    if d1.pwr.ringNo = number ∨ d1.pwr.phase ≠ .steady then d1
    else
      let d2 := { d1 with pwr := { d1.pwr with ringNo := number } }
      if d2.wakes ≠ 0 then (d2.refuseWake target).powerReply 4 target number 3
      else ({ d2 with pwr := { d2.pwr with ring := some { number := number, target := target, at_ := d2.now } } } :
        Device).cellarFlush.memberPrepared

/-- R387 step 4: PREPARED on the master; a member forwards it. With the last one the entry begins. -/
def Device.powerPreparedIn (d : Device) (h : HallHdr) (target number origin status : Nat) : Device :=
  let (d0, ok) := d.hallRecv h 0x12
  if ok = false then d0
  else if d0.isMember then d0.powerOn h 1 target number origin status
  else
    match d0.pwr.ring with
    | none => d0
    | some r =>
      if r.number ≠ number ∨ r.ready.contains origin ∨ origin = 0 then d0
      else
        let r1 := { r with ready := r.ready ++ [origin] }
        if r1.ready.length + 1 < d0.regN Reg.RING_SIZE then { d0 with pwr := { d0.pwr with ring := some r1 } }
        else (d0.powerAll 2 r.target number).beginEntry r.target

/-- R387 step 5: GO on a member. -/
def Device.powerGoIn (d : Device) (h : HallHdr) (target number status : Nat) : Device :=
  let (d0, ok) := d.hallRecv h 0x12
  if ok = false ∨ d0.isMember = false then d0
  else
    let d1 := d0.powerOn h 2 target number 0 status
    match d1.pwr.ring with
    | some r =>
      if r.number ≠ number then d1
      else if d1.pwr.phase = .steady ∧ d1.regN Reg.PWR_STATE < target then
        let d2 := d1.beginEntry target
        { d2 with pwr := { d2.pwr with byGo := true } }
      else { d1 with pwr := { d1.pwr with ring := none } }
    | none => d1

/-- R387 step 4′: CANCEL on a member. -/
def Device.powerCancelIn (d : Device) (h : HallHdr) (target number status : Nat) : Device :=
  let (d0, ok) := d.hallRecv h 0x12
  if ok = false ∨ d0.isMember = false then d0
  else
    let d1 := d0.powerOn h 3 target number 0 status
    match d1.pwr.ring with
    | some r => if r.number = number then { d1 with pwr := { d1.pwr with ring := none } } else d1
    | none => d1

/-- R387: ABORTED on the master: before GO it cancels, after it the message is a wake: an entry in progress rolls back, and a
device that stands in STANDBY leaves it. -/
def Device.powerAbortedIn (d : Device) (h : HallHdr) (target number origin status : Nat) : Device :=
  let (d0, ok) := d.hallRecv h 0x12
  if ok = false then d0
  else if d0.isMember then d0.powerOn h 4 target number origin status
  else
    match d0.pwr.ring with
    | some r => if r.number = number then d0.ringCancel 5 else d0
    | none =>
      if d0.pwr.ringNo ≠ number then d0
      else
        match d0.pwr.phase with
        | .entry .. => (d0.latchWake 3).wakeNow 1
        | .steady => if d0.reg Reg.PWR_STATE = 2 then (d0.latchWake 3).wakeNow 1 else d0
        | _ => d0

/-- R380, R385: EXIT is a wake; its TARGET is the state to end in. In RUN and READY it passes to that state (the
model's choice for a member, which has no PWR_REQUEST of its own: log entry 43). -/
def Device.powerExitIn (d : Device) (h : HallHdr) (target number status : Nat) : Device :=
  let (d0, ok) := d.hallRecv h 0x12
  if ok = false ∨ d0.isMember = false then d0
  else
    let d1 := d0.powerOn h 5 target number 0 status
    let st := d1.regN Reg.PWR_STATE
    if d1.pwr.phase = .steady ∧ st < 2 ∧ target < 2 then (if st = target then d1 else (d1.runReady target).pwrStatus 2)
    else (d1.latchWake 3).wakeNow target

/-- RING_POWER_TIMEOUT. -/
def Device.ringTimeout (d : Device) : Device :=
  match d.pwr.ring with
  | some r => if d.isMaster && decide (r.at_ + cycMs (d.regN Reg.RING_POWER_TIMEOUT_MS) ≤ d.now) then d.ringCancel 5 else d
  | none => d

/-! ### Supply (R366 … R372) -/

/-- R370: every clamp closes, the rails go down and the device enters OFF, at ENC cycle `at_`. -/
def Device.toOff (d : Device) (at_ : Nat) : Device :=
  let d1 := (d.clampAll.headsLow).setPhase .off
  let d2 := d1.railsDown at_
  let d3 := { d2 with time := { d2.time with nightAt := some d2.now } }
  let left := d3.regN Reg.RAIL_RETRY
  { d3 with pwr := { d3.pwr with wake := false, ring := none, retryLeft := decide (d3.pwr.aon.retries < left),
                                 retryAt := at_ + cycS (d3.regN Reg.RAIL_RETRY_S) } }

/-- R383: the rails go down in the entry's step 6. -/
def Device.railsFalling (d : Device) : Bool :=
  match d.pwr.phase with
  | .entry _ night n => night && decide (6 ≤ n)
  | _ => false

/-- The rails are up, or come up. -/
def Device.railsOn (d : Device) : Bool :=
  (d.up && !d.railsFalling) || d.pwr.phase == .held || d.pwr.phase == .rom || d.pwr.phase == .strapFault ||
    (match d.pwr.phase with | .boot n => decide (4 ≤ n) | _ => false)

/-- PWR_RAIL_FAULT (R369, R370): a PG timed out (cause 1) or was lost (cause 2), at ENC cycle `at_`. -/
def Device.railFault (d : Device) (slot cause at_ : Nat) : Device :=
  if d.railsOn = false ∨ 6 ≤ slot ∨ d.regB (Reg.un Reg.RAIL_USED slot) = false then d
  else
    let d1 := { d with pwr := { d.pwr with aon := { d.pwr.aon with rail := some (slot, cause) } } }
    (d1.toOff at_).setReg (Reg.un Reg.RAIL_STATE slot) 3

/-- PWR_TJ_SHUTDOWN (R372, R443): as for a rail fault, with cause 3; each of the 8 sensors acts by itself. -/
def Device.tjShutdown (d : Device) (tj : Int) (sensor : Nat) : Device :=
  if d.railsOn = false ∨ tj < 1450 ∨ 8 ≤ sensor then d
  else
    ({ d with pwr := { d.pwr with aon := { d.pwr.aon with rail := some (0xFF, 3), tjShut := some (tj, sensor) } } } :
      Device).toOff d.now

/-- R366: VBAR is read. -/
def Device.vbar (d : Device) (mv : Nat) : Device :=
  let w := d.regN Reg.VBAR_WARN_MV
  let d1 := d.setRegN Reg.VBAR_MV mv
  if mv < w then
    if d1.pwr.vbarLow then d1
    else ({ d1 with pwr := { d1.pwr with vbarLow := true } } : Device).raise Ev.PWR_VBAR_LOW 0xFF [.u 0 mv]
  else if w + 200 ≤ mv then { d1 with pwr := { d1.pwr with vbarLow := false } } else d1

/-- R372: the junction temperature is read: the highest sensor and its reading. -/
def Device.tjRead (d : Device) (tj : Int) (sensor : Nat) : Device :=
  let w := d.reg Reg.TJ_WARN_DC
  let d1 := d.setReg Reg.TJ_DC tj
  if w ≤ tj then
    if d1.pwr.tjHigh then d1
    else ({ d1 with pwr := { d1.pwr with tjHigh := true } } : Device).raise Ev.PWR_TJ_HIGH 0xFF [.s 2 tj, .u 0 sensor]
  else if tj ≤ w - 50 then { d1 with pwr := { d1.pwr with tjHigh := false } } else d1

/-- R371: one regulator is read, every 10 ms (`all`) or its STATUS_WORD alone on PMB_ALERT_N. The command codes are
PMBus 1.4's (PRESUMED, log entry 106). -/
def Device.pmbusPoll (d : Device) (slot : Nat) (all : Bool) (r : PmRead) : Device :=
  let a := d.regN (Reg.un Reg.PMBUS_ADDR slot)
  if a = 0 ∨ 6 ≤ slot then d
  else
    let d1 := (d.send (.pmbus a (if all then [0x79, 0x8B, 0x8C, 0x8D] else [0x79]))).setRegN
      (Reg.un Reg.PMBUS_STATUS_WORD slot) r.word
    let d2 := if all then
        ((d1.setRegN (Reg.un Reg.VOUT_MV slot) r.vout).setRegN (Reg.un Reg.IOUT_MA slot) r.iout).setReg
          (Reg.un Reg.RAIL_TEMP_DC slot) r.temp
      else d1
    let old := (assoc d2.pwr.pmWord slot).getD 0
    let d3 := { d2 with pwr := { d2.pwr with pmWord := assocSet d2.pwr.pmWord slot r.word } }
    let d4 := if r.word ≠ 0 ∧ r.word ≠ old then d3.raise Ev.PWR_PMBUS_WARNING slot [.u 0 r.word] else d3
    if r.word ≠ 0 then d4.send (.pmbus a [0x03]) else d4

end Sys2Proof.Machine
end

