-- ==== Sys2Proof/Machine/ResetOps.lean ====
section
/-! DEFINITION. Reset, the Foundation and the house image (R391 … R405): what a device reset clears and keeps, the shadow
and its map, programming fuses, which image boots, and the reset of one subsystem. -/
namespace Sys2Proof.Machine

/-! ### The Foundation (R400 … R403) -/

/-- R400: the shadow: the bitwise OR of the two copies. -/
def shadowOf (m : Memories) : List Nat :=
  (List.range 2048).map (fun a => (mget m.fuseA a).toNat ||| (mget m.fuseB a).toNat)

/-- R400: the offsets at which the copies differ, lowest first. -/
def fuseDiffs (m : Memories) : List Nat := (List.range 2048).filter (fun a => mget m.fuseA a != mget m.fuseB a)

/-- R180, R181, R401: the fuse-locked entries as the shadow gives them. -/
def Device.fuseRegs (d0 : Device) : Device :=
  let d := [(Reg.SERIAL, 0, 4), (Reg.BASE_MAC, 4, 6), (Reg.FACTORY_VALID, 11, 1), (Reg.SECURITY, 160, 4)].foldl
    (fun (d : Device) (p : Nat × Nat × Nat) => d.setRegN p.1 (d0.fuse p.2.1 p.2.2)) d0
  let d1 := (List.range 12).foldl (fun (d : Device) n => d.setRegN (Reg.INTLK_FUSE_WORD + n) (d0.fuse (192 + 4 * n) 4)) d
  let w := d0.fuse 240 4
  let r := d0.fuse 244 4
  ((((d1.setRegN Reg.FIRE_SCOPE (if bit w 31 then w % 2 ^ 24 else 0)).setReg Reg.WORKSHOP_FIRE
    (if bit w 31 && bit w 24 then 1 else 0)).setRegN Reg.RING_SCOPE (if bit r 31 then r % 2 ^ 24 else 0xFFFFFF)).setRegN
    Reg.HOUSE_MIN_VERSION (d0.thermometer 164)).setRegN Reg.WORKSHOP_MIN_VERSION (d0.thermometer 172)

/-- R400: the shadow is loaded and checked; the event waits for the firmware. -/
def Device.loadShadow (m : Memories) (d : Device) : Device :=
  let l := fuseDiffs m
  let d1 := { d with shadow := shadowOf m, boot := { d.boot with misAt := l.headD 0, misCount := l.length } }
  d1.fuseRegs.setRegN Reg.FOUNDATION_MISMATCH l.length

/-- R401: the bytes of a range that lie in Afiervo's fields or in reserved ones. -/
def fuseClosed (a : Nat) : Bool :=
  decide (a < 112) || (decide (180 ≤ a) && decide (a < 192)) || (decide (248 ≤ a) && decide (a < 1024))

/-- R402: an INTLK input word whose LOCK is already blown covers the byte. -/
def Device.fuseLockedWord (d : Device) (a : Nat) : Bool :=
  decide (192 ≤ a) && decide (a < 240) && bit (d.fuse (192 + (a - 192) / 4 * 4) 4) 31

/-- R402: FOUNDATION_PROGRAM's fields: offset, length and data. -/
def progFields (l : List Nat) : Nat × Nat × List Nat := (fieldAt l 0 2, fieldAt l 2 2, (l.take (l.length - 4)).drop 8)

/-- R12, R180, R402: what FOUNDATION_PROGRAM is refused with before any fuse is blown. In the byte that holds OEM_KEY_LOCK and other
fields a field is touched where its bit is to be blown. -/
def Device.progCheck (d : Device) (lv : Level) (l : List Nat) : Status :=
  let (off, len, data) := progFields l
  let range := (List.range len).map (· + off)
  let key (a : Nat) : Bool := (decide (112 ≤ a) && decide (a < 160)) ||
    (a == 163 && bit (data.getD (a - off) 0) 7)
  let other (a : Nat) : Bool := (decide (164 ≤ a) && decide (a < 180)) || (decide (192 ≤ a) && decide (a < 248)) ||
    decide (1024 ≤ a) || (a == 163 && (data.getD (a - off) 0) / 32 % 4 != 0)
  let rsv (a : Nat) : Bool := (decide (160 ≤ a) && decide (a < 163) && data.getD (a - off) 0 != 0) ||
    (a == 163 && data.getD (a - off) 0 % 32 != 0) ||
    (decide (192 ≤ a) && decide (a < 240) && a % 4 == 3 && data.getD (a - off) 0 % 4 != 0)
  if l.length < 13 ∨ crc32c (l.take (l.length - 4)) ≠ fieldAt l (l.length - 4) 4 then .check
  else if d.regB Reg.FUSE_VPP_PRESENT = false ∨ d.reg Reg.FIRE_ENABLE ≠ 0 then .state
  else if bytesAt l 4 4 ≠ [0, 0, 0, 0] ∨ range.any rsv then .reserved
  else if len = 0 ∨ 2048 < off + len then .range
  else if len ≠ data.length then .length
  else if range.any (fun a => fuseClosed a || d.fuseLockedWord a) then .range
  else if range.any other && !(lv.holds .serv) then .level
  else if range.any key && d.oemLocked then .range
  else .ok

/-- R402, R403: blow the data's bits in one copy; `stuck` lists the bits (8 × offset + bit) that stay 0 after three
tries. A blown fuse stays blown. -/
def blow (stuck : List Nat) : List Host.Cell → Nat → List Nat → List Host.Cell
  | m, _, [] => m
  | m, a, b :: bs =>
    let mask := (List.range 8).foldl (fun x i => if stuck.contains (8 * a + i) then x else putBit x i (bit b i)) 0
    blow stuck (mset m a (BitVec.ofNat 8 ((mget m a).toNat ||| mask))) (a + 1) bs

/-- The offsets of a programmed range at which a requested bit reads 0 in both copies. -/
def progFailed (m : Memories) (off : Nat) (data : List Nat) : List Nat :=
  (List.range data.length).filterMap (fun i =>
    let have_ := (mget m.fuseA (off + i)).toNat ||| (mget m.fuseB (off + i)).toNat
    if have_ &&& data.getD i 0 = data.getD i 0 then none else some (off + i))

/-- R402, R403: an accepted FOUNDATION_PROGRAM: the fuses, the status, and FOUNDATION_ERROR on a failure. -/
def Device.program (m : Memories) (d : Device) (l : List Nat) (stuckA stuckB : List Nat) : Memories × Device × Status :=
  let (off, _, data) := progFields l
  let m1 := { m with fuseA := blow stuckA m.fuseA off data, fuseB := blow stuckB m.fuseB off data }
  let bad := progFailed m1 off data
  if bad.isEmpty then (m1, d, .ok)
  else (m1, d.raise Ev.FOUNDATION_ERROR 0xFF [.u 2 (bad.headD 0), .u 0 bad.length], .check)

/-! ### The house image (R397 … R399) -/

/-- The place of house slot A (0) or B (1) in the flash. -/
def houseAt (slot : Nat) : Nat := 2 ^ 20 + slot * 16 * 2 ^ 20

/-- R397: what a house image must show. -/
def Device.houseRule (d : Device) : ImageRule :=
  { magic := [0x51, 0x49], maxLen := 6291456, entryLo := 0, entryHi := 6291456, minVer := d.thermometer 164 }

/-- R397: the key hash that an image's KEY_SLOT names; none for a revoked slot. -/
def Device.houseHash (d : Device) (l : List Nat) : Option (List Nat) :=
  if l.getD 3 0 % 2 = 1 then some (d.fuseBytes 64 48)
  else if bit (d.fuse 160 4) 29 then none else some (d.fuseBytes 16 48)

/-- R397: why an image is not valid, 0 for a valid one. -/
def Device.houseFail (d : Device) (l : List Nat) : Nat := imageFail d.houseRule (d.houseHash l) l

/-- R12, R399: the check of a HOUSE_IMAGE before it is stored. -/
def Device.houseCheck (d : Device) (l : List Nat) : Status :=
  if d.houseFail l ≠ 0 then .check
  else if 2 ≤ l.getD 3 0 ∨ (bytesAt l 257 7).any (fun b => b != 0) then .reserved
  else .ok

/-- The image in a house slot. -/
def houseImage (m : List Host.Cell) (slot : Nat) : Option (List Nat) := storedImage m (houseAt slot) (16 * 2 ^ 20)

/-- R397: the order in which the slots are tried: the higher VERSION first, slot A for equals; an erased slot last. -/
def houseOrder (m : List Host.Cell) : List Nat :=
  let v (s : Nat) : Int := match houseImage m s with | some l => (fieldAt l 4 4 : Nat) | none => -1
  if v 0 < v 1 then [1, 0] else [0, 1]

/-- R397, R398: the slot that boots and its image, with the slots tried before it and why they failed. -/
def Device.houseBoot (m : List Host.Cell) (d : Device) : List Nat → List (Nat × Nat) × Option (Nat × List Nat)
  | [] => ([], none)
  | s :: rest =>
    let why := if d.pwr.aon.failed.contains s then 6
      else match houseImage m s with | some l => d.houseFail l | none => 1
    if why = 0 then ([], (houseImage m s).map (fun l => (s, l)))
    else
      let r := Device.houseBoot m d rest
      ((s, why) :: r.1, r.2)

/-- R399: a checked image goes to the slot not booted. -/
def Device.houseStore (m : Memories) (d : Device) (l : List Nat) : Memories :=
  let a := houseAt (1 - d.regN Reg.HOUSE_SLOT)
  { m with flash := flashProgram (flashErase m.flash a (16 * 2 ^ 20)) a l }

/-! ### Device reset (R391, R392) -/

/-- R391: what AON retains through a reset of a cause; a cold start keeps nothing, a brown-out its flag. -/
def Device.aonAfter (d : Device) (cause : Nat) : Aon :=
  let a := d.pwr.aon
  let before := d.regN Reg.PWR_STATE
  if cause = 0 then { cause := 0, before := before }
  else if cause = 1 then { cause := 1, brown := some before, before := before }
  else { a with cause := cause, before := before, failed := if cause = 6 then a.failed else [],
                retries := if cause = 4 then a.retries + 1 else if cause = 3 then a.retries else 0 }

/-- R391, R392: a device reset of a cause; the rails that are up stay up. Everything outside AON is reloaded, and the boot stands at step n. What was stored
for the next reset comes into force (R33). -/
def Device.reset (d : Device) (cause n : Nat) : Device :=
  let cold := decide (cause < 2)
  let lv (x : PosCh) : PosCh := { a := x.a, b := x.b }
  let tb0 := if cold then 0 else d.time.tb0
  let t : TimeBases := { tb0 := tb0, tb3 := tb0, nightAt := if cold then none else d.time.nightAt, lane := d.time.lane, inc0 := d.time.inc0 }
  let p : Pos := { p0 := lv d.pos.p0, p1 := lv d.pos.p1, ka := if cold then {} else { d.pos.ka with running := d.pos.ka.running && decide (cause = 3) } }
  let w : Power := { phase := .boot n, aon := d.aonAfter cause, sleepN := d.pwr.sleepN,
                     latches := if cold then 0 else d.pwr.latches, c0 := if cause = 3 then d.pwr.c0 else 0 }
  let status := d.reg Reg.TB0_STATUS
  let b : Boiler := { latch := if cause = 0 then [] else d.boilerLatch.boiler.latch }
  let z : Device := { now := d.now, free := d.free, shadow := d.shadow, tap := d.tap, out := d.out, time := t, pos := p,
                      pwr := w, boiler := b, dict := { stored := d.dict.stored } }
  let z1 := d.dict.stored.foldl (fun (d : Device) kv => d.setVal kv.1 kv.2) z
  let up := (List.range 6).filter (fun k => !cold && d.reg (Reg.un Reg.RAIL_STATE k) == 2)
  let z2 := up.foldl (fun (z : Device) k => z.setReg (Reg.un Reg.RAIL_STATE k) 2) z1
  (if cold then z2 else z2.setReg Reg.TB0_STATUS status).setRegN Reg.DOMAIN_ON 1

/-- A device reset; the Pantry loses its contents (R391). A boot that starts behind step 2 loads the shadow at once
(R400). -/
def Device.resetTo (m : Memories) (d : Device) (cause n : Nat) : Memories × Device :=
  let d1 := d.reset cause n
  ({ m with store := [] }, if 2 < n then Device.loadShadow m d1 else d1)

/-- R392: RESET_N is asserted, or the test access port holds the device as it does: every domain but AON resets. -/
def Device.toHeld (d : Device) : Device :=
  let d1 := d.clampAll.headsLow
  { d1 with pwr := { d1.pwr with phase := .held, wake := false, ring := none } }

/-! ### Subsystem resets (R394, R395) -/

/-- R33, R394: the entries of the indices lo … hi take their defaults, then what was stored, and then what the strapped
profile holds (log entry 179). -/
def Device.reload (d : Device) (lo hi : Nat) : Device :=
  let mine (k : Nat) : Bool := decide (lo * 256 ≤ k) && decide (k < (hi + 1) * 256)
  let d1 := { d with dict := { d.dict with regs := d.dict.regs.filter (fun p => !mine p.1),
                                           blobs := d.dict.blobs.filter (fun p => !mine p.1) } }
  let d2 := (d1.dict.stored.filter (fun p => mine p.1)).foldl (fun (d : Device) kv => d.setVal kv.1 kv.2) d1
  (d2.boot.prof.filter (fun p => mine p.1)).foldl (fun (d : Device) kv => d.setVal kv.1 kv.2) d2

/-- R116, R394: every group's shutdown, run to completion: pulses end their width, memory writes are cut short with STATE,
and the groups are OFF. Thermal supervision and the interlocks are not reset (R394). -/
def Device.groupsCut (d : Device) : Device :=
  let d1 := ((List.range 24).foldl (fun (d : Device) k => d.hgClear k) d).passIdle
  let d2 := allChans.foldl (fun (d : Device) c => let x := d.cutMem c; x.setChan c (x.chan c).thermal) d1
  (List.range 24).foldl (fun (d : Device) k => (d.setReg (Reg.HG_STATE + k) 0).setGroup k (d.group k).thermal) d2

/-- R19, R320: a member's reset Mantel is on the master's grid and line count as the GRID in force gives them. -/
def Device.gridTake (d : Device) : Device :=
  match d.hall.grid with
  | some g =>
    if d.isMember then
      let m : Mantel := { d.mantel with go := g.go, po := g.po, num := g.num, den := g.den }
      ({ d with mantel := { m with line := (m.lastAt d.pt).toNat } } : Device).setReg Reg.MODE g.mode
    else d
  | none => d

/-- The Mantel's reset (R78, R99, R394); a copy not tested again stays as it was. -/
def Device.mantelReset (d : Device) (segs : List (List Nat)) : Device :=
  let d1 := (d.reload 0x2400 0x24FF).setRegN Reg.COPY_RETIRED (d.regN Reg.COPY_RETIRED)
  (((d1.gridReset).gridTake).renumber).runDelay segs

/-- R167, R189: the nozzle map of channel c after the Rooms' reset: every word at its default, as long as before in a group that is
not OFF, and under the rest that thermal supervision, which is not reset (R394), holds. -/
def Device.mapReset (d : Device) (old : NozMap) (c : Nat) : Device :=
  let n := if d.hgState (c / 8) = 0 then none else old.len
  let d1 := if n = none then d else d.setNozMap c { len := n }
  if old.rested.isEmpty then d1 else d1.setRest c old.rested

/-- The Rooms' reset. -/
def Device.roomsReset (d : Device) : Device :=
  let d1 := d.reload 0x2700 0x27FF
  let d2 : Device := { d1 with rooms := {}, red := { d1.red with pend := [], take := none, handback := none } }
  allChans.foldl (fun (x : Device) c => x.mapReset (d.nozMap c) c) d2

/-- The page store's reset; STORE_BYTES stays as the Pantry's training set it. -/
def Device.storeReset (d : Device) : Device :=
  let n := d.regN Reg.STORE_BYTES
  (((d.reload 0x2800 0x28FF).setRegN Reg.STORE_BYTES n).pagesReset).roomsReset

/-- The Window's reset: its ports start as their entries hold. -/
def Device.windowReset (d : Device) : Device :=
  let d1 := d.reload 0x2A00 0x2AFF
  ({ d1 with win := {} } : Device).windowStart

/-- The fault log's reset; the mirror is the Cellar's. -/
def Device.logReset (d : Device) : Device :=
  let d1 := d.reload 0x2F00 0x2F00
  { d1 with log := { mirror := d.log.mirror } }

/-- R394: what SUBSYS_RESET_CMD is refused with. -/
def Device.subsysCheck (d : Device) (code : Nat) : Status :=
  let stopped := d.reg Reg.SCHED_STATE == 2
  if [0x23, 0x24, 0x25, 0x28, 0x29].contains code then (if stopped then .ok else .state)
  else if code = 0x27 then (if stopped && d.queueDepth == 0 then .ok else .state)
  else if code = 0x2A ∨ code = 0x2F then .ok
  else if code = 0x2C then (if allSlots.all (fun s => d.loopState s == 0) then .ok else .state)
  else .range

/-- R394: an accepted reset of one subsystem, its units' shutdowns run to completion within it. `segs` and `tries` are
what a Mantel self-test and a Pantry training measure. -/
def Device.subsysReset (d : Device) (code : Nat) (segs : List (List Nat)) (tries : List (TrainRes × TrainRes)) : Device :=
  let d1 :=
    if code = 0x23 then ((d.reload 0x2300 0x23FF).posReset).mantelReset segs
    else if code = 0x24 then d.mantelReset segs
    else if code = 0x25 then (d.groupsCut).reload 0x2500 0x25FF
    else if code = 0x27 then d.roomsReset
    else if code = 0x28 then d.storeReset
    else if code = 0x29 then (((d.reload 0x2900 0x29FF).pantryTrain tries).pantryInit).storeReset
    else if code = 0x2A then d.windowReset
    else if code = 0x2C then ((d.boilerLatch.reload 0x2C00 0x2CFF).boilerReset).boilerResume
    else if code = 0x2F then d.logReset
    else d
  d1.setReg Reg.SUBSYS_RESET_STATUS 2

/-- R346: a Pantry reset writes zeros where its configuration says so. -/
def Device.subsysMem (m : Memories) (d : Device) (code : Nat) : Memories :=
  if code = 0x29 ∧ d.zeroes = true then { m with store := [] } else m

/-! ### Leaving OFF, and the pins (R370, R391, R392) -/

/-- POWER_ON. Below 4.0 V the AON domain has been in reset, and every enable low (R366, R369). -/
def Device.powerUp (m : Memories) (d : Device) : Memories × Device := Device.resetTo m d.enablesLow 0 1

/-- PWR_AON_BROWNOUT (R367): AON resets under its own domains: the enables fall (R369), and every output goes to its safe
level (R103). -/
def Device.brownOut (m : Memories) (d : Device) : Memories × Device := Device.resetTo m d.headsLow.enablesLow 1 1

/-! ### The AON regulator (R367, R434) -/

/-- R367: the modes of the AON regulator. -/
inductive AonMode where
  | normal | lowPower
deriving DecidableEq, Repr

/-- R367, R383, R386: low-power from the end of the NIGHT entry's step 6 on, in NIGHT and in OFF. -/
def Device.aonMode (d : Device) : AonMode :=
  match d.pwr.phase with
  | .night | .off => .lowPower
  | .entry _ night n => if night && decide (7 ≤ n) then .lowPower else .normal
  | _ => .normal

/-- R367: the current limit of a mode, in tenths of a µA. -/
def AonMode.limit : AonMode → Nat
  | .normal => 250000
  | .lowPower => 25000

/-- R367, R434: the AON domain's draw in low-power mode, in tenths of a µA: the Doorbell with TB0 and the state machine, the
shadow, 1.2 µA for each 1,000 counts/s of keep-alive counting, and the pull-ups of the board, 108 … 1,080 µA. -/
def Device.aonDraw (d : Device) : Nat :=
  400 + 200 + 12 * d.pos.ka.winN + 10 * (108 + Config.aonPullups % 973)

/-- KA_COUNT (R73, R367): a count that takes the draw above the limit is an AON brown-out. -/
def Device.kaTake (m : Memories) (d : Device) (a b : Bool) (held : Nat) : Memories × Device :=
  let d1 := d.kaCount a b held
  if d1.aonMode = .lowPower ∧ AonMode.lowPower.limit < d1.aonDraw then Device.brownOut m d1 else (m, d1)

/-- RAIL_RETRY. -/
def Device.railRetry (m : Memories) (d : Device) : Memories × Device :=
  if d.pwr.phase = .off ∧ d.pwr.retryLeft = true ∧ d.pwr.retryAt ≤ d.now then Device.resetTo m d 4 1 else (m, d)

/-- R376, R396: a boot held in NIGHT goes on from step 4 with its cause; what woke it stands in WAKE_CAUSE at its end. -/
def Device.leaveHold (d : Device) : Device :=
  let w := d.wakes
  ({ d with boot := { d.boot with hold := false, wake := w }, pwr := { d.pwr with phase := .boot 4 } } : Device).setReg
    Reg.PWR_STATE 1

/-- A wake from NIGHT: the device boots from step 4 (R386). -/
def Device.wakeBoot (m : Memories) (d : Device) : Memories × Device :=
  if d.wakesNight = false then (m, d)
  else if d.boot.hold then (m, d.leaveHold)
  else
    let w := d.wakes
    let r := Device.resetTo m d 3 4
    (r.1, { r.2 with boot := { r.2.boot with wake := w } })

/-- R392: an assertion of RESET_N of some ns: one shorter than 200 ns is ignored, one of 1 µs is recognised; between
them it is open. -/
def Device.resetAssert (d : Device) (ns : Nat) : Device :=
  let (v, d1) := if 200 ≤ ns ∧ ns < 1000 then d.takeFree else (0, d)
  let seen := decide (1000 ≤ ns) || (decide (200 ≤ ns) && v.toNat % 2 == 1)
  if seen = false then d1
  else
    let cold := d1.inNight
    let d2 := if cold then d1.setPhase .held else d1.toHeld
    { d2 with boot := { d2.boot with fromOne := cold }, pwr := { d2.pwr with resetLow := true } }

/-- R392, R448: with RESET_N and the test access port both released, the boot starts: from step 4, or from step 1 after
OFF or NIGHT. -/
def Device.heldRelease (m : Memories) (d : Device) : Memories × Device :=
  if d.pwr.phase = .held ∧ d.pwr.resetLow = false ∧ d.tap.driven = false then
    Device.resetTo m d 2 (if d.boot.fromOne then 1 else 4)
  else (m, d)

/-- R392: the release of RESET_N. -/
def Device.resetRelease (m : Memories) (d : Device) : Memories × Device :=
  Device.heldRelease m { d with pwr := { d.pwr with resetLow := false } }

/-- R393: DEVICE_RESET_CMD is due 1 ms after it was answered. -/
def Device.resetDue (m : Memories) (d : Device) : Memories × Device :=
  match d.boot.resetAt with
  | some t => if t ≤ d.now ∧ d.firmware = true then Device.resetTo m d.headsLow 5 4 else (m, d)
  | none => (m, d)

end Sys2Proof.Machine
end

