-- ==== Sys2Proof/Machine/PinOps.lean ====
section
/-! DEFINITION. The signal balls that the boundary register covers (R426, R449, R450) and the levels that the device holds
its outputs at (R373, R374, R426 … R428). -/
namespace Sys2Proof.Machine

/-- The signals of R426 that have boundary cells. -/
inductive Ball where
  | hdD0 | hdD1 | fire | sclk | lat | hgSda | hgScl | hgAlertN
  | ddrDq | ddrDmi | ddrRdqs | ddrWck | ddrCa | ddrCs | ddrCk | ddrResetN
  | porchTx | porchRx | hallTx | hallTxClk | hallRx | hallRxClk | porchHold | hallHold
  | camD | camClk | camSda | camScl | camTrig
  | posA | posB | posZ | posSda | posSck | probe | intlk | gate | cmpOut | qoutA | qoutB | overspeedN | fireEnOut
  | pwm | sspSck | sspMosi | sspCsN | sspMiso | canTxd | canRxd
  | pwrEn | pwrPg | pmbScl | pmbSda | pmbAlertN | sleepN | resetN | profile | cascRole
  | xspiCsN | xspiResetN | xspiSck | xspiDqs | xspiIo
deriving DecidableEq, Repr

/-- What a boundary cell can do: observe its ball, drive it, or both. -/
inductive CellKind where
  | observe | drive | both
deriving DecidableEq, Repr

/-- One boundary cell: its ball, or the pair that has one cell (R449). -/
structure Cell where
  ball : Ball
  n    : Nat
  kind : CellKind
deriving DecidableEq, Repr

/-- R426, R449: the cells of the head tiles and the Pantry. -/
def cellsHead : List (Ball × Nat × CellKind) :=
  [(.hdD0, 192, .drive), (.hdD1, 192, .drive), (.fire, 192, .drive), (.sclk, 24, .drive), (.lat, 24, .drive),
   (.hgSda, 24, .both), (.hgScl, 24, .both), (.hgAlertN, 24, .observe),
   (.ddrDq, 128, .both), (.ddrDmi, 16, .both), (.ddrRdqs, 32, .both), (.ddrWck, 32, .both),
   (.ddrCa, 28, .both), (.ddrCs, 8, .both), (.ddrCk, 8, .both), (.ddrResetN, 4, .both)]

/-- R426, R449: the cells of the lanes, HOLD and the cameras. -/
def cellsLane : List (Ball × Nat × CellKind) :=
  [(.porchTx, 8, .drive), (.porchRx, 8, .observe), (.hallTx, 10, .drive), (.hallTxClk, 2, .drive),
   (.hallRx, 10, .observe), (.hallRxClk, 2, .observe), (.porchHold, 2, .drive), (.hallHold, 2, .drive),
   (.camD, 16, .observe), (.camClk, 4, .observe), (.camSda, 4, .both), (.camScl, 4, .both), (.camTrig, 4, .drive)]

/-- R426, R449: the cells of the machine inputs and outputs. -/
def cellsMachine : List (Ball × Nat × CellKind) :=
  [(.posA, 2, .observe), (.posB, 2, .observe), (.posZ, 2, .observe), (.posSda, 2, .observe), (.posSck, 2, .drive),
   (.probe, 8, .observe), (.intlk, 12, .observe), (.gate, 4, .observe), (.cmpOut, 4, .drive), (.qoutA, 2, .drive),
   (.qoutB, 2, .drive), (.overspeedN, 1, .drive), (.fireEnOut, 1, .drive)]

/-- R426, R449: the cells of the loops and CAN. -/
def cellsLoop : List (Ball × Nat × CellKind) :=
  [(.pwm, 64, .drive), (.sspSck, 4, .drive), (.sspMosi, 4, .drive), (.sspCsN, 16, .drive), (.sspMiso, 4, .observe),
   (.canTxd, 2, .drive), (.canRxd, 2, .observe)]

/-- R426, R449: the cells of the sequencer, PMBus and the straps. -/
def cellsSeq : List (Ball × Nat × CellKind) :=
  [(.pwrEn, 6, .drive), (.pwrPg, 6, .observe), (.pmbScl, 1, .both), (.pmbSda, 1, .both), (.pmbAlertN, 1, .both),
   (.sleepN, 1, .observe), (.resetN, 1, .observe), (.profile, 3, .observe), (.cascRole, 2, .observe)]

/-- R426, R449: the cells of the flash. -/
def cellsFlash : List (Ball × Nat × CellKind) :=
  [(.xspiCsN, 1, .drive), (.xspiResetN, 1, .drive), (.xspiSck, 1, .drive), (.xspiDqs, 1, .both), (.xspiIo, 8, .both)]

/-- R449: the cells of each signal, one for each ball, or for each LVDS18, CML and DPHY pair. LP5 balls drive and observe;
CAMp_Dq and CAMp_CLK are observed only. The order along the register is the model's: the order of R426's table (log entry
173). -/
def cellTable : List (Ball × Nat × CellKind) :=
  cellsHead ++ cellsLane ++ cellsMachine ++ cellsLoop ++ cellsSeq ++ cellsFlash

/-- R449: the boundary register, bit 0 first. -/
def boundaryCells : List Cell :=
  cellTable.flatMap (fun r => (List.range r.2.1).map (fun i => { ball := r.1, n := i, kind := r.2.2 }))

/-- R450: the transmitting CML pairs, which pulse under EXTEST_PULSE and EXTEST_TRAIN. -/
def Ball.acOut : Ball → Bool
  | .porchTx | .hallTx | .hallTxClk => true
  | _ => false

/-- R450: the receiving CML pairs, whose test receivers detect edges under EXTEST_PULSE and EXTEST_TRAIN. -/
def Ball.acIn : Ball → Bool
  | .porchRx | .hallRx | .hallRxClk => true
  | _ => false

/-- A register of n bits from what is shifted in: missing bits are 0. -/
def fitBits (n : Nat) (l : List Bool) : List Bool := (List.range n).map (fun i => l.getD i false)

/-- R446, R450: how an instruction drives a ball. -/
def tapDrive (ir : Nat) (b : Ball) : TapDrive :=
  if b.acOut && ir == 5 then .pulse else if b.acOut && ir == 6 then .train else .level

/-- R446, R449, R450: what the boundary register drives: the number of each driving cell, its level, and how. -/
def drivenCells (ir : Nat) (bits : List Bool) : List (Nat × Bool × TapDrive) :=
  (boundaryCells.zipIdx.filter (fun x => x.1.kind != .observe)).map (fun x =>
    (x.2, bits.getD x.2 false, tapDrive ir x.1.ball))

/-- R446, R450: what an EXTEST instruction captures: the level at each ball; under EXTEST_PULSE and EXTEST_TRAIN the cell of a
receiving CML pair takes the last edge that its test receiver detected, and one that detected none is a free value (log
entry 210). -/
def extestCapture (ir : Nat) (pins : List Bool) (edges : List (Nat × Bool)) (free : Nat) : List Bool :=
  boundaryCells.zipIdx.map (fun x =>
    if (ir == 5 || ir == 6) && x.1.ball.acIn then (assoc edges x.2).getD (bit free (x.2 % 64)) else pins.getD x.2 false)

/-! ### The levels of the outputs -/

/-- R71, R373: the level of CMP_OUTn: asserted inside a pulse, at CMP_POLARITY. -/
def Device.cmpLevel (d : Device) (n : Nat) : Bool :=
  let x := tget cmp0 d.pos.cmps n
  let on : Bool := match x.until_ with
    | some u => decide (x.from_ ≤ d.now) && decide (d.now < u)
    | none => false
  on != d.regB (Reg.un Reg.CMP_POLARITY n)

/-- R273: the level of PWMn: asserted for its high time of the period in progress, low where PWM_INVERT is set. -/
def Device.pwmLevel (d : Device) (n : Nat) : Bool :=
  let b := n / 8
  let p := (assoc d.boiler.pwmP b).getD 20000
  let next := (assoc d.boiler.pwmAt b).getD 0
  let on := decide (d.now < next) && decide (d.now + p < next + pwmHigh (d.regN (Reg.PWM_DUTY + n)) p)
  on != d.boiler.invert.contains n

/-- R72: the levels of a divided output's phase. -/
def qoutLevels (phase : Nat) : Bool × Bool := (phase == 1 || phase == 2, phase == 2 || phase == 3)

/-- R426: how a ball is held: driven low or high, an open drain released, at high impedance, a lane in electrical idle; a
level that the table does not state; and an input. -/
inductive Hold where
  | low | high | released | highZ | idle | unstated | input
deriving DecidableEq, Repr

/-- The level that a ball is held at, where it is held at one. -/
def Hold.level : Hold → Option Bool
  | .low => some false
  | .high => some true
  | _ => none

/-- R426, R427: how a ball is held in reset. -/
def resetHold : Ball → Hold
  | .posSck | .canTxd | .xspiCsN | .xspiResetN => .high
  | .hdD0 | .hdD1 | .fire | .sclk | .lat | .ddrWck | .ddrCs | .ddrResetN | .porchHold | .hallHold | .camTrig | .cmpOut
  | .qoutA | .qoutB | .overspeedN | .fireEnOut | .pwm | .sspSck | .sspMosi | .sspCsN | .pwrEn | .xspiSck => .low
  | .hgSda | .hgScl | .camSda | .camScl | .pmbScl | .pmbSda | .pmbAlertN => .released
  | .ddrDq | .ddrDmi | .ddrRdqs | .camD | .camClk | .xspiDqs | .xspiIo => .highZ
  | .porchTx | .hallTx | .hallTxClk => .idle
  | .ddrCa | .ddrCk => .unstated
  | .hgAlertN | .porchRx | .hallRx | .hallRxClk | .posA | .posB | .posZ | .posSda | .probe | .intlk | .gate | .sspMiso
  | .canRxd | .pwrPg | .sleepN | .resetN | .profile | .cascRole => .input

/-- The level of a Boolean. -/
def Hold.of (b : Bool) : Hold := if b then .high else .low

/-- R373, R374: how a ball is held while the clamp of its domain is closed: PWM, CMP_OUT and CAM_TRIG by the latches of their
clamps, every other as in reset. After a device reset the latches of CMP_OUT and CAM_TRIG are low (R426; log entry 211). -/
def Device.clampHold (d : Device) (b : Ball) (n : Nat) : Hold :=
  match b with
  | .pwm => .of (d.boiler.latch.contains n)
  | .cmpOut => .of (d.pwr.cmpClamp.contains n)
  | .camTrig => .of (d.pwr.trigClamp.contains n)
  | _ => resetHold b

/-- R375: VIO is up: it is down in NIGHT and OFF, in the entry to NIGHT once the rails have gone down, and in a boot until its
rail has come up. -/
def Device.vioUp (d : Device) : Bool :=
  match d.pwr.phase with
  | .night | .off => false
  | .entry _ night n => !(night && decide (7 ≤ n))
  | .boot n => decide (5 ≤ n) || d.reg Reg.RAIL_STATE == 2
  | _ => true

/-- R375: the balls that the AON domain powers from its own 1.8 V. -/
def Ball.aon : Ball → Nat → Bool
  | .sleepN, _ | .resetN, _ | .pwrEn, _ | .pwrPg, _ => true
  | .posA, n | .posB, n => n == 0
  | _, _ => false

/-- R375: a ball is powered. -/
def Device.ballPowered (d : Device) (b : Ball) (n : Nat) : Bool := b.aon n || d.vioUp

/-- R373: the domain that drives a ball; 0 is AON, which no clamp covers. -/
def ballDomain : Ball → Nat → Nat
  | .hdD0, n | .hdD1, n | .fire, n => 27 + n / 8
  | .sclk, n | .lat, n => 27 + n
  | .hgSda, n | .hgScl, n => 27 + n
  | .ddrDq, _ | .ddrDmi, _ | .ddrRdqs, _ | .ddrWck, _ | .ddrCa, _ | .ddrCs, _ | .ddrCk, _ | .ddrResetN, _ => 51
  | .porchHold, _ | .porchTx, _ => 52
  | .hallHold, _ | .hallTx, _ | .hallTxClk, _ => 53
  | .camTrig, _ | .camSda, _ | .camScl, _ => 54
  | .pwm, _ | .sspSck, _ | .sspMosi, _ | .sspCsN, _ => 55
  | .posSck, _ | .cmpOut, _ | .qoutA, _ | .qoutB, _ | .overspeedN, _ | .fireEnOut, _ => 56
  | .canTxd, _ | .xspiCsN, _ | .xspiResetN, _ | .xspiSck, _ => 1
  | _, _ => 0

/-- The bits of PRBS7 from a seed of 7 bits on, newest first: the first n of them are run. -/
def prbs7Run : Nat → List Bool → List Bool
  | 0, h => h
  | n + 1, h => prbs7Run n (prbsNext 1 h :: h.take 6)

/-- R454: bit n of PRBS7; where the sequence starts is open (log entry 212). -/
def prbs7 (n : Nat) : Bool :=
  let seed := 1 + (Config.unstated 454 []).toNat % 127
  (prbs7Run (n % 127) ((List.range 7).map (fun i => bit seed i))).headD false

/-- R454: what the loopback of group k puts out on its data pairs and SCLK at 1 MHz, while it runs. -/
def Device.loopLevel (d : Device) (k : Nat) : Option Bool :=
  match d.red.loop with
  | some (t, t0) => if t = k ∧ d.now < t0 + loopbackTime t then some (prbs7 ((d.now - t0) / 400)) else none
  | none => none

/-- R103, R432, R454: the level of a data pair of channel c: a loopback's where CH_ENABLE is 1, low while its group is not ON. -/
def Device.dataLevel (d : Device) (c : Nat) : Option Bool :=
  match d.loopLevel (c / 8) with
  | some b => some (b && d.regB (Reg.CH_ENABLE + c))
  | none => if d.hgState (c / 8) = 4 then none else some false

/-- R191: a test drop's FIRE pulse on channel c. -/
def Device.dropFires (d : Device) (c : Nat) : Bool :=
  d.prot.units.any (fun y => match y.fired with
    | some t => y.chans.head? == some c && decide (t ≤ d.ps) && decide (d.ps < t + hpFireWidth (d.prof c) * 1000)
    | none => false)

/-- The level of an output whose domain runs, where the state fixes it: pulses of FIRE and LAT, the machine outputs, PWM, the
chip selects and clocks of the sensor buses between frames, HOLD and the sequencer's enables. -/
def Device.runLevel (d : Device) : Ball → Nat → Option Bool
  | .fire, c => match (d.chan c).firing with
    | some (r, f) => some (decide (r ≤ d.ps) && decide (d.ps < f) || d.dropFires c)
    | none => some (d.dropFires c)
  | .hdD0, c | .hdD1, c => d.dataLevel c
  | .sclk, k => (d.loopLevel k).orElse (fun _ => if d.hgState k = 4 then none else some false)
  | .lat, k => match (d.group k).latRise with
    | some p => some (decide (p.rise ≤ d.ps) && decide (d.ps < p.fall))
    | none => some false
  | .porchHold, p => some (d.regB (Reg.un Reg.PORCH_HOLD_STATE p))
  | .hallHold, p => some (d.regB (hallKey Reg.HALL_HOLD_STATE p))
  | .camTrig, p => match (d.trig p).until_ with
    | some u => if d.now < u then none else some (d.regB (Reg.TRIG_POLARITY + p))
    | none => some (d.regB (Reg.TRIG_POLARITY + p))
  | .posSck, n => if (d.posCh n).ssiRun.isNone then some true else none
  | .cmpOut, n => some (d.cmpLevel n)
  | .qoutA, q => some (qoutLevels (tget qout0 d.pos.qouts q).phase).1
  | .qoutB, q => some (qoutLevels (tget qout0 d.pos.qouts q).phase).2
  | .overspeedN, _ => some (!d.mantel.overspeed)
  | .fireEnOut, _ => some d.fireEnOut
  | .pwm, n => some (d.pwmLevel n)
  | .sspSck, b => if (assoc d.boiler.busTo b).getD 0 ≤ d.ps then some (bit (d.regN (Reg.un Reg.SPI_MODE b)) 1) else none
  | .sspCsN, n => if (assoc d.boiler.busTo (n / 4)).getD 0 ≤ d.ps then some true else none
  | .pwrEn, k => some (d.reg (Reg.un Reg.RAIL_STATE k) == 1 || d.reg (Reg.un Reg.RAIL_STATE k) == 2)
  | _, _ => none

/-- R398: the balls of the flash. -/
def Ball.xspi : Ball → Bool
  | .xspiCsN | .xspiResetN | .xspiSck | .xspiDqs | .xspiIo => true
  | _ => false

/-- R373 … R375, R398, R426, R427: the level of an output; none for an input, where it is not driven, and where the state does
not fix it. An unpowered HOLD output is low by the board's pull-down. -/
def Device.ballLevel (d : Device) (b : Ball) (n : Nat) : Option Bool :=
  if d.ballPowered b n = false then (if b = .porchHold ∨ b = .hallHold then some false else none)
  else if d.boot.released && b.xspi then none
  else if d.domainOn (ballDomain b n) then d.runLevel b n
  else (d.clampHold b n).level

/-- R446: what SAMPLE and PRELOAD capture: the level that the device holds a ball at, else the level found there. -/
def Device.capture (d : Device) (pins : List Bool) : List Bool :=
  boundaryCells.zipIdx.map (fun x => (d.ballLevel x.1.ball x.1.n).getD (pins.getD x.2 false))

end Sys2Proof.Machine
end

