-- ==== Sys2Proof/Machine/ClockOps.lean ====
section
/-! DEFINITION. Clock failures (R417, R418) and the test access port (R445 … R450). -/
namespace Sys2Proof.Machine

/-! ### Clocks (R417, R418) -/

/-- The clocks run: the rails are up and the PLLs have locked (R396 step 5). -/
def Device.clocked (d : Device) : Bool :=
  d.up || d.pwr.phase == .rom || d.pwr.phase == .strapFault ||
    (match d.pwr.phase with | .boot n => decide (6 ≤ n) | _ => false)

/-- R417 steps 1 to 3 with the PLLs concerned, a bit map: FIRE is gated with cause 8, the PLLs switch to the backup
oscillator and the scheduler stops. -/
def Device.clockFail (d : Device) (plls : Nat) : Device :=
  let d1 := { d with mantel := { d.mantel with clockFault := true } }.cutGated
  ((d1.setRegN Reg.BACKUP_ACTIVE (d1.regN Reg.BACKUP_ACTIVE ||| plls)).incReg Reg.CLK_FAULTS).schedStop

/-- CLK_REF_LOST. -/
def Device.refLost (d : Device) : Device :=
  if d.clocked && d.reg Reg.XTAL_STATE == 0 then
    ((d.setReg Reg.XTAL_STATE 1).clockFail 15).raise Ev.CLK_REF_LOST 0xFF [.u 0 15]
  else d

/-- CLK_PLL_UNLOCK: PLL 0 A … 3 D or 4, the lane PLL, with its phase error in ps. -/
def Device.pllUnlock (d : Device) (pll ps : Nat) : Device :=
  if d.clocked && decide (pll < 5) && bit (d.regN Reg.PLL_LOCKED) pll then
    ((d.setRegN Reg.PLL_LOCKED (clrBit (d.regN Reg.PLL_LOCKED) pll)).clockFail (2 ^ pll)).raise Ev.CLK_PLL_UNLOCK pll
      [.u 0 ps]
  else d

/-- R418: a Porch port loses its lanes: its links go down, and HOLD falls when they stay down (R291). -/
def Device.porchUnref (d : Device) (p : Nat) : Device :=
  if d.regN (Reg.un Reg.LINK_UP p) = 0 then d
  else
    let d1 := d.linksDown p 1
    d1.setPport p { d1.pport p with waitAt := d1.now }

/-- R418: the same for a Hallway port (R326): it goes back to step 2 of R309, which does not complete without the reference. -/
def Device.hallUnref (d : Device) (p : Nat) : Device :=
  if d.hportState p = 4 then
    let up := d.linkUp p
    let d1 := d.retrain p
    if up then d1.raise Ev.HALL_LINK_DOWN p [.u 0 1] else d1
  else d

/-- CLK_LANE_REF_LOST: `us` is the time lost. -/
def Device.laneRefLost (d : Device) (us : Nat) : Device :=
  if d.clocked && d.reg Reg.LANE_REF_STATE == 0 then
    let d1 := ((d.setReg Reg.LANE_REF_STATE 1).setRegN Reg.BACKUP_ACTIVE (setBit (d.regN Reg.BACKUP_ACTIVE) 4)).incReg
      Reg.CLK_FAULTS
    let d2 := [1, 2].foldl (fun (d : Device) t =>
      if d.tbState t = 0 ∨ d.tbState t = 4 then d else d.tbEnter t 4 1) { d1 with time := d1.time.setLane 0 }
    let d3 := [0, 1].foldl (fun (d : Device) p => (d.porchUnref p).hallUnref p) d2
    d3.raise Ev.CLK_LANE_REF_LOST 0xFF [.u 0 us]
  else d

/-- LANE_REF_RESTORED: NET returns to the lane PLL, and the ports may train again. -/
def Device.laneRefBack (d : Device) : Device :=
  if d.reg Reg.LANE_REF_STATE = 1 then
    (d.setReg Reg.LANE_REF_STATE 0).setRegN Reg.BACKUP_ACTIVE (clrBit (d.regN Reg.BACKUP_ACTIVE) 4)
  else d

/-! ### The test access port (R445 … R450) -/

/-- R447. -/
def idcode : Nat := 0x1719273D

/-- The bits of a register, bit 0 first. -/
def bitsUp (n v : Nat) : List Bool := (List.range n).map (fun i => bit v i)

/-- R375, R426: the port is powered with VIO. -/
def Device.tapOn (d : Device) : Bool := d.vioUp

/-- R448: an instruction that drives no balls is loaded: what another one held is released. -/
def Device.tapFree (m : Memories) (d : Device) (ir : Nat) (shift : List Bool) : Memories × Device :=
  if d.tapOn = false then (m, d)
  else
    let was := d.tap.driven
    let d1 := { d with tap := { d.tap with ir := ir, driven := false, shift := shift } }
    if was then Device.heldRelease m d1 else (m, d1)

/-- R448: an instruction that drives balls, or HIGHZ, is loaded: it acts as an assertion of RESET_N. `data` is what is
shifted into the boundary register's update stage. -/
def Device.tapHold (d : Device) (ir : Nat) (shift : List Bool) (data : Option (List Bool)) : Device :=
  if d.tapOn = false then d
  else
    let n := boundaryCells.length
    let b := match data with
      | some l => fitBits n l
      | none => d.tap.boundary
    let d1 := { d with tap := { ir := ir, driven := true, shift := shift, boundary := b } }
    let d2 := if d1.pwr.phase = .held then d1
      else let z := d1.toHeld; { z with boot := { z.boot with fromOne := false } }
    d2.send (.tap ir (if ir = 8 then [] else drivenCells ir b))

/-- R446, R450: EXTEST, EXTEST_PULSE and EXTEST_TRAIN capture what they find at the balls and drive what is shifted in. -/
def Device.tapExtest (d : Device) (ir : Nat) (pins data : List Bool) (edges : List (Nat × Bool)) : Device :=
  let (v, d1) := if ir = 4 ∨ d.tapOn = false then (0, d) else d.takeFree
  d1.tapHold ir (extestCapture ir pins edges v.toNat) (some data)

/-- R446: SAMPLE captures the balls; PRELOAD also loads the boundary register's update stage. -/
def Device.tapScan (m : Memories) (d : Device) (ir : Nat) (pins : List Bool) (data : Option (List Bool)) :
    Memories × Device :=
  let r := Device.tapFree m d ir (d.capture pins)
  match data with
  | none => r
  | some l =>
    if d.tapOn then (r.1, { r.2 with tap := { r.2.tap with boundary := fitBits boundaryCells.length l } }) else r

/-- The instructions of R446. -/
inductive TapOp where
  | idcode | sample | preload | extest | clamp | highz | bypass
deriving DecidableEq, Repr

/-- R446: the instruction of an 8-bit code; any code not listed acts as BYPASS. EXTEST_PULSE and EXTEST_TRAIN are EXTEST with
another drive (R450). -/
def tapOp (code : Nat) : TapOp :=
  if code = 1 then .idcode
  else if code = 2 then .sample
  else if code = 3 then .preload
  else if code = 4 ∨ code = 5 ∨ code = 6 then .extest
  else if code = 7 then .clamp
  else if code = 8 then .highz
  else .bypass

/-- R446: a code is loaded into the instruction register. `pins` are the levels at the balls, `data` what is shifted into the
boundary register, `edges` the edges that the test receivers detected. -/
def Device.tapLoad (m : Memories) (d : Device) (code : Nat) (pins data : List Bool) (edges : List (Nat × Bool)) :
    Memories × Device :=
  match tapOp code with
  | .idcode => Device.tapFree m d code (bitsUp 32 idcode)
  | .sample => Device.tapScan m d code pins none
  | .preload => Device.tapScan m d code pins (some data)
  | .extest => (m, d.tapExtest code pins data edges)
  | .clamp => (m, d.tapHold code [false] none)
  | .highz => (m, d.tapHold code [false] none)
  | .bypass => Device.tapFree m d code [false]

end Sys2Proof.Machine
end

