-- ==== Sys2Proof/Machine/Live.lean ====
section
/-! DEFINITION. What the dictionary reads from the machine itself (R40): entries whose value another part of the state
holds, and the default contents of DOMAIN entries. -/
namespace Sys2Proof.Machine

/-- R411: the shift clock of group k in kHz; 0 before a profile is in force. -/
def Device.sclkKhz (d : Device) (k : Nat) : Nat := hpSclk (d.group k).prof * 1000

/-- The signed difference of two 64-bit ns counts. -/
def nsDiff (a b : Nat) : Int := toSigned 64 ((a + 2 ^ 64 - b) % 2 ^ 64)

/-- The inputs of the interlock in a state, as a bit map. -/
def Device.intlkIn12 (d : Device) (st : IntlkSt) : Nat := maskOf ((List.range 12).filter (fun n => (d.intlkIn n).st == st))

/-- The nozzle that SEL_CHANNEL and SEL_NOZZLE select (R167). -/
def Device.selNoz (d : Device) : Nat × Nat := (d.regN Reg.SEL_CHANNEL, d.regN Reg.SEL_NOZZLE)

/-- R167: WORD_IN_FORCE: the selected word for the first grid line not yet rendered, its GAIN as ramped so far. -/
def Device.wordInForce (d : Device) : Nat :=
  let (c, n) := d.selNoz
  withGain ((d.nozMap c).valAt n (d.leff c)).word (d.gainNow c n)

/-- Live numbers of 1000h … 23FFh. -/
def Device.liveA (d : Device) (i s : Nat) : Option Int :=
  if i = 0x1001 ∧ s = 0 then some (if d.log.unacked.isEmpty then 0 else 1)
  else if i = 0x1100 ∧ s = 4 then some d.dict.sessions.length
  else if i = 0x1F80 ∧ s = 9 then some d.dict.openSet.length
  else if (i = 0x2300 ∨ i = 0x2301) ∧ s = 4 then some (d.posCh (i - 0x2300)).c
  else if (i = 0x2320 ∨ i = 0x2321) ∧ s = 7 then some (speedF32 (d.posCh (i - 0x2320)).v)
  else if (i = 0x2320 ∨ i = 0x2321) ∧ s = 8 then some (d.posCh (i - 0x2320)).method.code
  else if i = 0x2330 ∧ s = 1 then some d.pt
  else if i = 0x2330 ∧ s = 2 then some d.pos.k
  else if i = 0x2330 ∧ s = 3 then some d.pos.kt
  else if i = 0x2330 ∧ s = 5 then some (if d.isMember then 1 else 0)
  else if 0x2360 ≤ i ∧ i < 0x2368 ∧ s = 8 then some (tget probe0 d.pos.probes (i - 0x2360)).fifo.length
  else if i = 0x2102 ∧ 1 ≤ s then some (d.sclkKhz (s - 1))
  else none

/-- Live numbers of 2400h … 27FFh. -/
def Device.liveB (d : Device) (i s : Nat) : Option Int :=
  if i = 0x2400 ∧ s = 4 then some d.glc
  else if i = 0x2400 ∧ s = 5 then some (d.mantel.slotB d.mantel.line)
  else if i = 0x2400 ∧ s = 6 then some (d.mantel.go % 2 ^ 48)
  else if i = 0x2400 ∧ s = 7 then some d.mantel.po
  else if i = 0x250A ∧ 1 ≤ s then some (d.chan (s - 1)).fifo.length
  else if i = 0x2601 ∧ s = 1 then some (d.intlkIn12 .asserted)
  else if i = 0x2601 ∧ s = 2 then some (d.intlkIn12 .awaitingAck)
  else if i = 0x2601 ∧ s = 4 then some d.intlkMask
  else if i = 0x2700 ∧ s = 1 then some d.rooms.ctxs.length
  else if i = 0x2700 ∧ s = 2 then some d.rooms.peak
  else if i = 0x2730 ∧ s = 3 then some ((d.nozMap d.selNoz.1).shown d.selNoz.2)
  else if i = 0x2730 ∧ s = 4 then some d.wordInForce
  else none

/-- Live numbers of 2800h … 2BFFh. -/
def Device.liveC (d : Device) (i s : Nat) : Option Int :=
  if i = 0x2800 ∧ s = 1 then some d.queueDepth
  else if 0x2810 ≤ i ∧ i < 0x2820 then
    let x := d.stream (i - 0x2810)
    if s = 5 then some x.received
    else if s = 6 then some x.checked
    else if s = 7 then some x.released
    else if s = 8 then some x.limitOf
    else none
  else if i = 0x2904 ∧ 1 ≤ s then some (d.bwRead (s - 1))
  else if i = 0x2905 ∧ 1 ≤ s then some (d.bwWrite (s - 1))
  else if i = 0x2A40 ∧ s = 3 then some d.pipeLoad
  else if i = 0x2B40 ∧ s = 3 then some d.cellarDirty
  else none

/-- Live numbers of 2C00h and above. -/
def Device.liveD (d : Device) (i s : Nat) : Option Int :=
  if i = 0x2C00 ∧ s = 1 then some d.loopLoad
  else if i = 0x2C00 ∧ s = 2 then some d.ainLoad
  else if i = 0x2C00 ∧ s = 3 then some d.loopsSafe
  else if (i = 0x2E00 ∨ i = 0x2E01) ∧ s = 7 then some (d.baseMac + 1 + (i - 0x2E00 : Nat))
  else if i = 0x2E30 ∧ s = 1 then some (nsOf d.time.tb0)
  else if i = 0x2E31 ∧ s = 0x0D then some (nsOf d.time.b1.cnt)
  else if i = 0x2E32 ∧ s = 0x0D then some (nsOf d.time.b2.cnt)
  else if i = 0x2E33 ∧ s = 9 then some d.tb3Ns
  else if i = 0x2E33 ∧ s = 0x0B then some (nsDiff (nsOf d.time.b2.cnt) (nsOf d.time.b1.cnt))
  else if i = 0x2F00 ∧ s = 1 then some d.log.nextSeq
  else if i = 0x2F00 ∧ s = 2 then some d.log.recs.length
  else if i = 0x2F00 ∧ s = 3 then some d.log.overwritten
  else if i = 0x2F00 ∧ s = 6 then some (Nat.min 65535 d.log.unacked.length)
  else if i = 0x3003 ∧ 1 ≤ s then some (d.engLoad (s - 1))
  else if i = 0x3F00 ∧ s = 5 then some selftestGolden
  else if i = 0x3F02 ∧ s = 1 then some idcode
  else none

/-- The number of an entry that the machine itself holds. -/
def Device.liveNum (d : Device) (k : Nat) : Option Int :=
  let i := k / 256
  let s := k % 256
  if i < 0x2400 then d.liveA i s
  else if i < 0x2800 then d.liveB i s
  else if i < 0x2C00 then d.liveC i s
  else d.liveD i s

/-- R259: EVENT_LOG: the first sequence, the count and the records, oldest first. -/
def Device.eventLog (d : Device) : List Nat :=
  let first := match d.log.recs with
    | [] => d.log.nextSeq
    | r :: _ => r.seq
  leBytes 4 first ++ leBytes 2 d.log.recs.length ++ [0, 0] ++ d.log.recs.flatMap eventBytes

/-- The content of a STR or DOMAIN entry that the machine itself or a memory holds. -/
def Device.liveBlob (m : Memories) (d : Device) (k : Nat) : Option (List Nat) :=
  let i := k / 256
  let s := k % 256
  if k = Reg.DEVICE_NAME then some (ascii "QN7192")
  else if k = Reg.HW_VERSION then some (ascii "B0")
  else if 0x2360 ≤ i ∧ i < 0x2368 ∧ s = 7 then some ((tget probe0 d.pos.probes (i - 0x2360)).fifo.flatMap latchBytes)
  else if k = Reg.ROW_GEOMETRY then some (allChans.flatMap (fun c => (List.range 8).flatMap (d.rowGeometry c)))
  else if i = 0x2509 ∧ 1 ≤ s then some (d.headMem m (s - 1))
  else if i = 0x2720 ∧ 1 ≤ s then some (d.mapBytes (s - 1))
  else if i = 0x2721 ∧ 1 ≤ s then some ((List.range (d.mapLen (s - 1))).map (d.gainNow (s - 1)))
  else if i = 0x2A3A ∧ 1 ≤ s then some (d.winCtx (s - 1)).record
  else if k = Reg.EVENT_LOG then some d.eventLog
  else if k = Reg.FAULT_MIRROR then some d.mirrorBytes
  else if k = Reg.TAKEOVER_RECORD then some (match d.red.take with | none => [] | some t => t.bytes)
  else if k = Reg.FOUNDATION_READ then some (bytesAt d.shadow 0 2048)
  else if k = Reg.WORKSHOP_IMAGE then some ((shopImage m.flash).getD [])
  else if k = Reg.HOUSE_IMAGE then some ((houseImage m.flash (d.regN Reg.HOUSE_SLOT)).getD [])
  else none

/-- R160: the default GAIN_FAMILY. -/
def gainFamily : List Nat :=
  withCheck ((List.range 64).flatMap (fun k => (List.range 256).flatMap (fun y => leBytes 2 (gainDefault k y))))

/-- The content of a DOMAIN entry that was never set, where it is not empty. -/
def Device.blobDefault (d : Device) (k : Nat) : List Nat :=
  let i := k / 256
  let c := k % 256 - 1
  if i = 0x2701 then withCheck (List.range 256)
  else if i = 0x2702 then gainFamily
  else if k = Reg.MATRIX then matrixDefault
  else if i = 0x2A31 then withCheck ((List.range (d.storedN (Reg.CTX_WIDTH + c))).flatMap (fun _ => leBytes 2 4096))
  else if i = 0x2A32 then withCheck ((List.range 12288).flatMap (fun n => leBytes 2 (n % 4096)))
  else if i = 0x2A33 then
    let half := d.storedN (Reg.CTX_MOSAIC + c) != 4 && d.storedN (Reg.CTX_RECON + c) == 0
    let w := d.storedN (Reg.CTX_WIDTH + c)
    withCheck (List.replicate (4 * (if half then w / 2 else w)) 0)
  else if i = 0x2A34 then withCheck (List.replicate 392 0)
  else if i = 0x2B21 then withCheck (List.replicate 256 0)
  else if k = Reg.IPV6_ADDR ∨ k = Reg.IPV6_GATEWAY then List.replicate 16 0
  else []

end Sys2Proof.Machine
end

