-- ==== Sys2Proof/Machine/CommitOps.lean ====
section
/-! DEFINITION. Values in force changing on the line grid (R34 … R39): sealing a staged set, resolving its target, the
ring commit, and what acts at a line event. -/
namespace Sys2Proof.Machine

/-! ### Values changing at a line -/

/-- The value in force of a key, as data. -/
def Device.valNow (d : Device) (k : Nat) : Val :=
  match findEntry k with
  | some e =>
    if e.ty = .domain ∨ e.ty = .str then .b ((d.blob? k).getD (d.blobDefault k)) else .n (d.reg k)
  | none => .n (d.reg k)

/-- R155: the value that key k had stays in force for the grid lines below g. -/
def Device.supersede (d : Device) (k g : Nat) : Device :=
  { d with dict := { d.dict with superseded := d.dict.superseded ++ [(k, g, d.valNow k)] } }

/-- R155: the lowest slot that any channel has yet to render or to place, the next line event's where none has. -/
def Device.oldestSlot (d : Device) : Nat :=
  minN d.mantel.line (d.mantel.line :: (allChans.filter (fun c => d.chanOn c)).flatMap (fun c =>
    [(d.chan c).rend, (d.chan c).next]))

/-- How far below that a line can lie which a row still renders, or renders again from a checkpoint: the row shifts are I16
(R106), a checkpoint is at most 64 slots old (R175) and no gain ramp is longer (R169). -/
def keepLines : Nat := 131072

/-- R155: older values that no line can need any more are dropped. -/
def Device.pruneOld (d : Device) : Device :=
  let low := d.oldestSlot
  { d with dict := { d.dict with superseded := d.dict.superseded.filter (fun p => decide (low < p.2.1 + keepLines)) } }

/-- The index of a key. -/
def keyIdx (k : Nat) : Nat := k / 256

/-- R240: the Cellar record that an entry's change in force makes dirty: BAR for trims and flight times, MATRIX. -/
def Device.cellarTouch (d : Device) (k : Nat) : Device :=
  let i := keyIdx k
  if i = 0x2412 ∨ i = 0x2413 ∨ i = 0x2422 then d.markDirty 2 0
  else if i = 0x2706 then d.markDirty 6 (k % 256 - 1)
  else d

/-- The Boiler slot of an entry. -/
def loopSlot (k : Nat) : Option Nat := if 0x2C40 ≤ k / 256 ∧ k / 256 < 0x2C80 then some (k / 256 - 0x2C40) else none

/-- R270, R275, R278: a Boiler slot's entry takes its value in force. A profile's LOOP_ENABLE 1 that a write would be refused
with leaves the slot as it is (log entry 178). -/
def Device.loopPut (d : Device) (s k : Nat) (v : Int) : Device :=
  let sub := k % 256
  if sub = 1 then (if v ≠ 1 then d.loopDisable s else if d.loopCheck s = .ok then d.loopEnable s else d)
  else if isCoef sub ∨ isLoopValue sub then d.setReg k (d.loopWriteValue s sub v)
  else if (sub = 0x23 ∨ sub = 0x24) ∧ d.reg k ≠ v then (d.setReg k v).loopRemodel s
  else d.setReg k v

/-- R232: a change to a trim's target acts at line g: measurements of it are ignored from there for REG_SETTLE_LINES. -/
def Device.trimSettles (d : Device) (g k : Nat) (v : Val) : Device :=
  if (keyIdx k = 0x2413 ∨ keyIdx k = 0x2422) ∧ v ≠ d.valNow k then
    { d with cal := { d.cal with settle := assocSet d.cal.settle k g } }
  else d

/-- R34, R38: key k takes its value in force at line g. -/
def Device.putAt (d : Device) (g k : Nat) (v : Val) : Device :=
  match loopSlot k, v with
  | some s, .n x => d.loopPut s k x
  | _, _ =>
    let d1 := (((d.trimSettles g k v).supersede k g).setVal k v).cellarTouch k
    if keyIdx k = 0x2504 then d1.chEnableChanged (k % 256 - 1) else d1

/-- R77, R78: a pitch in force that differs from the grid's acts at line g. -/
def Device.pitchAt (d : Device) (g : Nat) : Device :=
  let n := d.regN Reg.LINE_NUM
  let e := d.regN Reg.LINE_DEN
  if d.isMember ∨ (n = d.mantel.num ∧ e = d.mantel.den) then d
  else { d with mantel := d.mantel.setPitch g n e }

/-- R112: the phase spread of every group is recomputed. -/
def Device.spreadAll (d : Device) : Device := (List.range 24).foldl (fun (d : Device) k => d.spreadGroup k) d

/-! ### The target (R37) -/

/-- The slot of the first line at or after a PT value, along the pass. -/
def Mantel.slotFor (m : Mantel) (x : Int) : Nat :=
  ((m.hBase : Int) + (if m.rev then m.kBase - m.lastAt x else m.firstAt x - m.kBase)).toNat

/-- R37: the first line at which a commit requested now may act. -/
def Device.minLine (d : Device) : Nat := d.mantel.line + d.regN Reg.COMMIT_MIN_LEAD_LINES

/-- R37: a set resolved to a line, moved to the minimum lead. -/
def Device.resolveLine (d : Device) (s : Sealed) (l : Int) (pt : Int) : Sealed :=
  let lo := d.minLine
  if l < (lo : Int) then { s with glc := some lo, pt := d.mantel.slotB lo, late := true }
  else { s with glc := some l.toNat, pt := pt }

/-- R37: rendering of a queued page has not begun. -/
def Page.unrendered (p : Page) : Bool := p.state != .printing

/-- R37: a set that names a page. A page bound gives its line, a page not yet bound is waited for; the first queued page
replaces one that cannot take it, else the next page to be queued. -/
def Device.resolvePage (d : Device) (s : Sealed) (n : Nat) : Sealed :=
  let pages := d.pages.queue.filter Page.unrendered
  let take (p : Page) (late : Bool) : Sealed :=
    if p.isBound then { s with glc := some p.g0, pt := d.mantel.slotB p.g0, late := late }
    else { s with page := some p.num, late := late }
  match pages.find? (fun p => p.num == n) with
  | some p => take p false
  | none =>
    match pages with
    | p :: _ => take p true
    | [] => { s with next := true, late := true }

/-- R37: the target of a sealed set. -/
def Device.resolve (d : Device) (s : Sealed) : Sealed :=
  if s.mode = 3 then d.resolvePage s (ofSigned 64 s.target % 2 ^ 32)
  else if s.mode = 2 then
    let delta := toSigned 48 (ofSigned 64 (s.target - d.mantel.line) % 2 ^ 48)
    let l := (d.mantel.line : Int) + delta
    d.resolveLine s l (d.mantel.slotB l.toNat)
  else d.resolveLine s (d.mantel.slotFor s.target) s.target

/-! ### Commands (R35, R38, R39) -/

/-- R39: COMMIT to every member: number, target, KIND. -/
def Device.commitAll (d : Device) (pt : Int) (kind : Nat) : Device :=
  d.hallBoth 5 (leBytes 4 d.hall.commitNo ++ leBytesI 8 pt ++ [kind])

/-- R39: the ring has members whose acknowledgements a commit needs. -/
def Device.ringCommits (d : Device) : Bool := d.isMaster && decide (1 < d.regN Reg.RING_SIZE)

/-- R35, R37, R39: COMMIT_CMD 01h. -/
def Device.commitRequest (d : Device) : Device :=
  let ring := d.ringCommits
  let s0 : Sealed := { mode := d.regN Reg.COMMIT_MODE, target := d.reg Reg.COMMIT_TARGET, items := d.dict.openSet,
                       stands := !ring }
  let s := d.resolve s0
  let d1 := ({ d with dict := { d.dict with openSet := [], sealed := some s } }).setReg Reg.COMMIT_STATUS 1
  if ring then
    ({ d1 with hall := { d1.hall with commitNo := (d1.hall.commitNo + 1) % 2 ^ 32 } } : Device).commitAll s.pt 0
  else d1

/-- R38: COMMIT_CMD 02h. -/
def Device.commitCancel (d : Device) : Device :=
  match d.dict.sealed with
  | none => d
  | some s =>
    let d1 := ({ d with dict := { d.dict with sealed := none } }).setReg Reg.COMMIT_STATUS 4
    if d.ringCommits then d1.commitAll s.pt 2 else d1

/-- R38: COMMIT_CMD 03h. -/
def Device.commitDiscard (d : Device) : Device := { d with dict := { d.dict with openSet := [] } }

/-- R39 step 4: the acknowledgements due are judged: RING_ACK_LEAD_LINES before the target line, and for a page not yet
bound when its line is known and rendering nears it. -/
def Device.ackDue (d : Device) : Bool :=
  d.ringCommits &&
    (match d.dict.sealed with
     | none => false
     | some s => !s.stands &&
        (match s.glc with
         | none => false
         | some g => decide (g ≤ d.mantel.line + (if s.mode = 3 then Nat.max 64 (d.regN Reg.RING_ACK_LEAD_LINES)
             else d.regN Reg.RING_ACK_LEAD_LINES))))

/-- The ring positions whose acknowledgement of the sealed set is missing. -/
def Device.acksMissing (d : Device) (s : Sealed) : List Nat :=
  (List.range (d.regN Reg.RING_SIZE)).filter (fun p => p != 0 && !(s.acks.any (fun a => a.1 == p)))

/-- R39 step 4: confirm, or abort on every device. -/
def Device.ringAckCheck (d : Device) : Device :=
  match d.dict.sealed with
  | none => d
  | some s =>
    if d.ackDue = false then d
    else
      let miss := d.acksMissing s
      if miss.isEmpty then
        ({ d with dict := { d.dict with sealed := some { s with stands := true } } } : Device).commitAll s.pt 1
      else
        let line := match s.glc with
          | some g => g % 2 ^ 32
          | none => 0xFFFFFFFF
        ((({ d with dict := { d.dict with sealed := none } } : Device).setReg Reg.COMMIT_STATUS 5).commitAll s.pt 2).raise
          Ev.COMMIT_ABORTED_RING 0xFF [.u 1 (maskOf miss), .u 0 line]

/-- The CRC-32C over a sealed set: over its WRITE items in the order first written (log entry 32). -/
def setCrc (items : List (Nat × Val)) : Nat := crc32c (items.flatMap (fun p => itemBytes p.1 p.2))

/-- R39 step 3: a member seals its open set and acknowledges it. The staged Ranges were checked at the writes, and are not
checked again here (log entry 181). -/
def Device.memberSeal (d : Device) (number : Nat) (pt : Int) : Device :=
  let s : Sealed := { mode := 1, target := pt, items := d.dict.openSet, glc := some (d.mantel.slotFor pt), pt := pt,
                      stands := false }
  let d1 := ({ d with dict := { d.dict with openSet := [], sealed := some s },
                      hall := { d.hall with commitNo := number } } : Device).setReg Reg.COMMIT_STATUS 1
  d1.hallSend d1.toMaster 0x11 0 (leBytes 4 number ++ leBytes 2 s.items.length ++ leBytes 4 (setCrc s.items))

/-- R39, R308: COMMIT on a member: request, confirm or cancel, where it came by the path in use; every copy is forwarded. -/
def Device.commitIn (d : Device) (h : HallHdr) (number : Nat) (pt : Int) (kind : Nat) : Device :=
  let (d0, ok) := d.hallRecv h 5
  if ok = false ∨ d0.isMember = false then d0
  else
    let d1 := d0.hallSend (1 - h.port) 5 (h.hops + 1) (leBytes 4 number ++ leBytesI 8 pt ++ [kind])
    match (if d1.pathInUse h.port then kind else 3), d1.dict.sealed with
    | 0, none => if d1.hall.commitNo = number then d1 else d1.memberSeal number pt
    | 1, some s =>
      if d1.hall.commitNo = number then
        { d1 with dict := { d1.dict with
          sealed := some { s with stands := true, pt := pt, glc := some (d1.mantel.slotFor pt) } } }
      else d1
    | 2, some s =>
      if d1.hall.commitNo = number then
        ({ d1 with dict := { d1.dict with sealed := none } } : Device).setReg Reg.COMMIT_STATUS (if s.stands then 4 else 5)
      else d1
    | _, _ => d1

/-- R39: COMMIT_ACK on the master; a member forwards it. -/
def Device.commitAckIn (d : Device) (h : HallHdr) (number count crc : Nat) : Device :=
  let (d0, ok) := d.hallRecv h 0x11
  if ok = false then d0
  else if d0.isMember then
    d0.hallSend (1 - h.port) 0x11 (h.hops + 1) (leBytes 4 number ++ leBytes 2 count ++ leBytes 4 crc)
  else
    match d0.dict.sealed with
    | none => d0
    | some s =>
      let p := d0.originOfMsg h
      if d0.isMaster = false ∨ number ≠ d0.hall.commitNo ∨ s.acks.any (fun a => a.1 == p) = true then d0
      else { d0 with dict := { d0.dict with sealed := some { s with acks := s.acks ++ [(p, count, crc)] } } }

/-! ### At a binding and at a line event -/

/-- R37: the set that waits for a page takes the line of the page that has bound: its own, or the first to bind once its
own is no longer queued. A set resolved to a PT keeps it on a moved grid. -/
def Device.commitBound (d : Device) : Device :=
  match d.dict.sealed, d.mantel.bound.getLast? with
  | some s, some b =>
    let own := match s.page with
      | none => s.next
      | some n => n == b.page || !(d.pages.queue.any (fun p => p.num == n && !p.isBound))
    let late := s.late || (match s.page with | some n => n != b.page | none => s.next)
    if s.glc.isNone ∧ own = true then
      { d with dict := { d.dict with sealed := some { s with glc := some b.g0, pt := d.mantel.slotB b.g0, late := late } } }
    else if s.mode = 1 ∧ s.late = false ∧ s.glc.isSome = true then
      { d with dict := { d.dict with sealed := some { s with glc := some (d.mantel.slotFor s.pt) } } }
    else d
  | _, _ => d

/-- R377: a commit acts only in RUN and READY. -/
def Device.commitsAct (d : Device) : Bool := decide (d.regN Reg.PWR_STATE ≤ 1)

/-- R38: the sealed set acts at the present line when that line is at or behind its target. A set that the minimum lead moved
completes as DONE_LATE, an empty one too (log entry 182). -/
def Device.commitLine (d : Device) : Device :=
  match d.dict.sealed with
  | none => d
  | some s =>
    match s.glc with
    | none => d
    | some g =>
      let l := d.mantel.line
      if l < g ∨ s.stands = false ∨ d.commitsAct = false then d
      else
        let d1 := s.items.foldl (fun (d : Device) (p : Nat × Val) => d.putAt l p.1 p.2)
          { d with dict := { d.dict with sealed := none } }
        let st : Nat := if s.late ∨ g < l then 3 else 2
        let d2 := (((((d1.supersede Reg.COMMITS_DONE l).pitchAt l).setRegN Reg.COMMIT_STATUS st).setReg Reg.COMMIT_PT s.pt).setRegN Reg.COMMIT_GLC
          (l % 2 ^ 48)).incReg Reg.COMMITS_DONE
        d2.spreadAll.raise Ev.COMMIT_DONE 0xFF [.u 1 st, .raw 4 (l % 2 ^ 32), .u 0 s.mode]

/-- R242: an item of a profile takes effect at line g: at-reset entries are stored, the others come into force. -/
def Device.putItem (d : Device) (g k : Nat) (v : Val) : Device :=
  match findEntry k with
  | none => d
  | some e =>
    if e.takes = .atReset then { d with dict := { d.dict with stored := assocSet d.dict.stored k v } }
    else d.putAt g k v

/-- R34 step 1, R242: a profile read and checked acts at the page boundary. -/
def Device.profileLine (d : Device) : Device :=
  match d.dict.profileReq with
  | none => d
  | some n =>
    let d1 := d.dict.profileItems.foldl (fun (d : Device) (p : Nat × Val) => d.putItem d.mantel.line p.1 p.2)
      { d with dict := { d.dict with profileReq := none, profileItems := [] } }
    let gen := match assoc d.cellar.inUse (5 * 256 + n) with
      | some (_, g) => g
      | none => 0
    (((d1.setReg Reg.PROFILE_STATUS 2).setRegN Reg.PROFILE_ACTIVE n).setReg Reg.PROFILE_REQUEST 0xFF).raise
      Ev.PROFILE_LOADED n [.u 0 gen]

/-- R34 step 2: the entries that take effect at a page boundary, in their write order. -/
def Device.pageSetLine (d : Device) : Device :=
  d.dict.pageSet.foldl (fun (d : Device) (p : Nat × Val) => d.putAt d.mantel.line p.1 p.2)
    { d with dict := { d.dict with pageSet := [] } }

/-- R9, R34, R112: at the first line of a page, the page-boundary actions; the phase spreads are recomputed. -/
def Device.pageLine (d : Device) : Device :=
  if d.mantel.bound.any (fun b => b.g0 == d.mantel.line) then (((d.profileLine).pageSetLine).pitchAt d.mantel.line).spreadAll else d

/-- LINE_EVENT (R78): GLC increments; the page-boundary actions and the commit act, in that order (R34); groups and heads
are released; the voter's window moves on; slots are armed, and the voter compares the copies' arming records and
OVERSPEED_N (R97); pages over are retired. -/
def Device.lineEvent (d : Device) (v : Vote) : Device :=
  if d.lineDue = false then d
  else
    let d1 := (((d.lineAdvance.refLine).pageLine).commitLine).pruneOld
    let d2 := (((d1.intlkLine).tripLine).thermLine).voteLine
    ((d2.armLine).voteItem v.chan v).retireOver

/-- PAGE_BIND (R79): the page at the head of the queue binds, and a commit that waits for it is resolved. -/
def Device.pageBindNext (d : Device) : Device :=
  let d1 := d.bindNext
  if d1.mantel.bound.length = d.mantel.bound.length then d1 else d1.commitBound

end Sys2Proof.Machine
end

