-- ==== Sys2Proof/Machine/DictCheck.lean ====
section
/-! DEFINITION. The dictionary service's reads and the checks of a write (R6 … R9, R12, R24 … R26, R36, R47, R49): finding
an entry, the requester's level, what a read returns, and every ground on which a write is refused. -/
namespace Sys2Proof.Machine

/-! ### Requesters and levels (R7, R47, R49) -/

/-- An open session of a number. -/
def Device.session? (d : Device) (n : Nat) : Option Session := d.dict.sessions.find? (fun s => s.num == n)

/-- Write an open session. -/
def Device.setSession (d : Device) (s : Session) : Device :=
  { d with dict := { d.dict with sessions := d.dict.sessions.map (fun x => if x.num == s.num then s else x) } }

/-- CAN FD port 0 or 1. -/
def Device.canPort (d : Device) (p : Nat) : CanPort := if p = 0 then d.dict.can0 else d.dict.can1

/-- Write CAN FD port 0 or 1. -/
def Device.setCan (d : Device) (p : Nat) (x : CanPort) : Device :=
  if p = 0 then { d with dict := { d.dict with can0 := x } } else { d with dict := { d.dict with can1 := x } }

/-- R47: the level of CAN FD requests. -/
def Device.canLevel (d : Device) : Level := if d.reg Reg.CAN_ACCESS_LEVEL = 1 then .oper else .pub

/-- The level at which a requester acts; the device acts on its own authority at SERVICE (R242). -/
def Device.reqLevel (d : Device) : Req → Level
  | .session n => match d.session? n with | some s => s.level | none => .pub
  | .mailbox _ => .oper
  | .can _ => d.canLevel
  | .device => .serv

/-- R49: the requester is a Workshop engine. -/
def isMailbox : Req → Bool
  | .mailbox _ => true
  | _ => false

/-- R36: the requester's IN_FORCE_SEL. -/
def Device.selOf (d : Device) : Req → Nat
  | .session n => match d.session? n with | some s => s.sel | none => 0
  | .mailbox w => (assoc d.dict.wsSel w).getD 0
  | .can p => (d.canPort p).sel
  | .device => 0

/-- R36: the requester's IN_FORCE_SEL takes a value. -/
def Device.setSel (d : Device) (r : Req) (v : Nat) : Device :=
  match r with
  | .session n => match d.session? n with | some s => d.setSession { s with sel := v } | none => d
  | .mailbox w => { d with dict := { d.dict with wsSel := assocSet d.dict.wsSel w v } }
  | .can p => d.setCan p { d.canPort p with sel := v }
  | .device => d

/-! ### Finding an entry (R24) -/

/-- What an index and subindex name: nothing, subindex 00 of a record, or an entry. -/
inductive Place where
  | absent (st : Status)
  | count (n : Nat)
  | entry (e : EntryDef)
deriving DecidableEq, Repr

/-- R24. -/
def placeOf (k : Nat) : Place :=
  if indexListed (k / 256) = false ∨ 65536 ≤ k / 256 then .absent .noIndex
  else
    match findEntry k with
    | some e => .entry e
    | none => if k % 256 = 0 then .count (highestSub (k / 256)) else .absent .noSub

/-! ### Reading (R33, R36, R40) -/

/-- R9: these entries act for every page judged after the write, so a write is in force at once. -/
def actsNow (k : Nat) : Bool :=
  k == Reg.CUE_OFFSET_PU || k == Reg.CUE_REPHASE || k == Reg.NOT_READY_POLICY || k == Reg.PROFILE_REQUEST

/-- The newest of the writes to a key in a list of writes. -/
def lastOf (l : List (Nat × Val)) (k : Nat) : Option Val := ((l.filter (fun p => p.1 == k)).getLast?).map Prod.snd

/-- A written value that is not in force yet (R33, R36): a staged one in the open or the sealed set, one stored for the
next reset, one that waits for a page boundary. -/
def Device.pendVal (d : Device) (k : Nat) (e : EntryDef) : Option Val :=
  match e.takes with
  | .atCommit =>
    match assoc d.dict.openSet k with
    | some v => some v
    | none => match d.dict.sealed with
      | some s => assoc s.items k
      | none => none
  | .atReset => assoc d.dict.stored k
  | .atPage => lastOf d.dict.pageSet k
  | _ => none

/-- The number of an entry as it reads in force. -/
def Device.numInForce (d : Device) (k : Nat) : Int :=
  match d.liveNum k with
  | some v => v
  | none =>
    let v := d.reg k
    if 0x2010 ≤ k / 256 ∧ k / 256 < 0x2015 ∧ k % 256 = 1 then 1
    else if k = Reg.WAKE_ENABLE then ((v.toNat ||| 8 : Nat) : Int)
    else v

/-- The value of an entry in force. -/
def Device.valInForce (m : Memories) (d : Device) (k : Nat) (e : EntryDef) : Val :=
  if e.ty = .domain ∨ e.ty = .str then
    match d.liveBlob m k with
    | some l => .b l
    | none => .b ((d.blob? k).getD (d.blobDefault k))
  else .n (d.numInForce k)

/-- R36: the value that a read of an entry returns. -/
def Device.readVal (m : Memories) (d : Device) (k : Nat) (e : EntryDef) (inForce : Bool) : Val :=
  if inForce then d.valInForce m k e else (d.pendVal k e).getD (d.valInForce m k e)

/-- R36: the index and subindex that a selection names, as a key. -/
def selKey (v : Nat) : Nat := v / 2 ^ 16 * 256 + v / 2 ^ 8 % 256

/-- R7, R24: why an entry cannot be read, OK where it can. The access is judged before the level (log entry 33). -/
def Device.readCheck (lv : Level) (e : EntryDef) : Status :=
  if e.acc = .wo then .writeOnly else if lv.holds e.level then .ok else .level

/-- R36: IN_FORCE_VALUE: the status and the bytes of the value in force that the requester's selection names. -/
def Device.readSelected (m : Memories) (d : Device) (r : Req) : Status × List Nat :=
  let sel := d.selOf r
  let k := selKey sel
  if k = Reg.IN_FORCE_SEL then (.ok, leBytes 4 sel)
  else
    match placeOf k with
    | .absent st => (st, [])
    | .count n => (.ok, [n])
    | .entry e =>
      match Device.readCheck (d.reqLevel r) e with
      | .ok =>
        let b := valBytes e (d.valInForce m k e)
        if 65535 < b.length then (.tooLarge, []) else (.ok, b)
      | st => (st, [])

/-- R24, R36, R40: one read: its status, its type code and the bytes. -/
def Device.readKey (m : Memories) (d : Device) (r : Req) (k : Nat) (inForce : Bool) : Status × Nat × List Nat :=
  match placeOf k with
  | .absent st => (st, 0, [])
  | .count n => (.ok, 1, [n])
  | .entry e =>
    match Device.readCheck (d.reqLevel r) e with
    | .ok =>
      if k = Reg.IN_FORCE_SEL then (.ok, e.ty.code, leBytes 4 (d.selOf r))
      else if k = Reg.IN_FORCE_VALUE then
        let x := d.readSelected m r
        (x.1, e.ty.code, x.2)
      else (.ok, e.ty.code, valBytes e (d.readVal m k e inForce))
    | st => (st, e.ty.code, [])

/-! ### Ranges (R8, R12, R25) -/

/-- The number that a bound of an entry's range stands for, as a read of the entry it names returns (R8). For an F32
entry it is a binary32 pattern. -/
def Device.boundVal (m : Memories) (d : Device) (k : Nat) : Bound → Int
  | .lit v => v
  | .ref sub mul div add =>
    let k' := k / 256 * 256 + sub
    match findEntry k' with
    | none => 0
    | some e =>
      match d.readVal m k' e false with
      | .n v => if mul = 1 ∧ div = 1 then v + add else (v * mul).fdiv div + add
      | .b _ => 0

/-- R12: a mask's reserved bits are clear. -/
def inMask (mask v : Nat) : Bool := v &&& mask == v

/-- R8, R12: a number against an entry's Range. -/
def Device.rangeCheck (m : Memories) (d : Device) (k : Nat) (e : EntryDef) (v : Int) : Status :=
  let within (b : Bool) : Status := if b then .ok else .range
  match e.rng with
  | .any => .ok
  | .iv lo hi => within (decide (d.boundVal m k lo ≤ v) && decide (v ≤ d.boundVal m k hi))
  | .oneOf l => within (l.contains v)
  | .mask x => if inMask x v.toNat then .ok else .reserved
  | .maskSet x _ => if inMask x v.toNat then .ok else .reserved
  | .multiple n => within (v % n == 0)
  | .ivStep lo hi step => within (decide ((lo : Int) ≤ v) && decide (v ≤ hi) && v % step == 0)
  | .orIv x lo hi => within (v == x || (decide (lo ≤ v) && decide (v ≤ hi)))
  | .f32 lo hi openLo =>
    let b := v.toNat
    let loOk := match lo with
      | none => true
      | some x =>
        let y := (d.boundVal m k x).toNat
        if openLo then f32Lt y b else f32Le y b
    let hiOk := match hi with
      | none => true
      | some x => f32Le b (d.boundVal m k x).toNat
    within (loOk && hiOk && (lo.isSome || hi.isSome || f32Finite b))
  | .bytes _ => .ok
  | .inForceSel => if v.toNat % 256 ≠ 0 then .reserved else within (selKey v.toNat != Reg.IN_FORCE_VALUE)

/-! ### Types and lengths (R26) -/

/-- The output pixels of a Window context, one MAP_TABLE word for each (R212). -/
def Device.mapPixels (d : Device) (c : Nat) : Nat :=
  let w := d.storedN (Reg.CTX_WIDTH + c)
  if d.storedN (Reg.CTX_MOSAIC + c) != 4 && d.storedN (Reg.CTX_RECON + c) == 0 then w / 2 else w

/-- R26: the length that a STR or DOMAIN entry admits. -/
def Device.lenOf (d : Device) (k : Nat) (e : EntryDef) : ByteLen :=
  let i := k / 256
  let c := k % 256 - 1
  if i = 0x2720 then .exactly (4 * d.mapLen c)
  else if i = 0x2A31 then .exactly (2 * d.storedN (Reg.CTX_WIDTH + c) + 4)
  else if i = 0x2A33 then .exactly (4 * d.mapPixels c + 4)
  else if i = 0x2509 then .upTo 0 (hpMemBytes (d.prof c))
  else
    match e.rng with
    | .bytes l => l
    | _ => .free

/-- R26: a length against what an entry admits. -/
def Device.lenCheck (d : Device) (k : Nat) (e : EntryDef) (n : Nat) : Status :=
  match d.lenOf k e with
  | .exactly x => if n = x then .ok else .length
  | .upTo lo hi => if hi < n then .tooLarge else if n < lo then .length else .ok
  | .free => if e.ty = .str ∧ 255 < n then .tooLarge else .ok

/-- R26: the type code and the length of a write. -/
def Device.typeCheck (d : Device) (k : Nat) (e : EntryDef) (ty n : Nat) : Status :=
  if ty ≠ e.ty.code then .length
  else if e.ty = .domain ∨ e.ty = .str then d.lenCheck k e n
  else if n = e.ty.size then .ok else .length

/-- R25: the value that a write's bytes spell. -/
def valOf (e : EntryDef) (bs : List Nat) : Val :=
  if e.ty = .domain ∨ e.ty = .str then .b bs
  else if e.ty.signed then .n (toSigned (8 * e.ty.size) (leNat bs)) else .n (leNat bs : Nat)

/-! ### Contents (R12, R44, and the rules of each DOMAIN entry) -/

/-- The content of a written DOMAIN entry. -/
def Device.blobCheck (d : Device) (lv : Level) (k : Nat) (l : List Nat) : Status :=
  let i := k / 256
  let c := k % 256 - 1
  if i = 0x2501 then hpVerify l
  else if i = 0x2701 then toneVerify l
  else if i = 0x2702 then gainVerify l
  else if i = 0x2706 then (if l.isEmpty then .ok else matrixVerify l)
  else if i = 0x2720 then d.mapCheck c l
  else if i = 0x2850 then (if l.isEmpty then .ok else histVerify l)
  else if i = 0x2A31 then flatVerify (d.storedN (Reg.CTX_WIDTH + c)) l
  else if i = 0x2A32 then winToneVerify l
  else if i = 0x2A33 then mapTableVerify (d.mapPixels c) l
  else if i = 0x2A34 then measVerify l
  else if i = 0x2A35 then d.psetCheck c l
  else if i = 0x2B21 then regMarksVerify l
  else if k = Reg.LAUNCH_SUBMIT then d.launchCheck l
  else if k = Reg.WORKSHOP_IMAGE then (if l.isEmpty then .ok else d.shopImageCheck l)
  else if k = Reg.HOUSE_IMAGE then d.houseCheck l
  else if k = Reg.FOUNDATION_PROGRAM then d.progCheck lv l
  else if i = 0x2509 then (if d.hgState (c / 8) ≠ 4 then .state else if (d.chan c).write.isSome then .busy else .ok)
  else .ok

/-! ### Numbers with a rule of their own -/

/-- The entries written as commands: each admits the values its Range names. -/
def cmdValues : List (Nat × List Int) :=
  [(Reg.COMMIT_CMD, [1, 2, 3]), (Reg.SCHED_CMD, [1, 2, 3]), (Reg.HIST_CAPTURE_CMD, [1]), (Reg.DT_CMD, [1, 2]),
   (Reg.CAL_CMD, [1, 2, 3]), (Reg.CELLAR_FLUSH_CMD, [1]), (Reg.PROFILE_SAVE_CMD, [1]), (Reg.MIRROR_CLEAR_CMD, [1]),
   (Reg.PROOF_CMD, [1, 2]), (Reg.TB3_STEP_CMD, [1]), (Reg.PRBS_CMD, [1, 2]), (Reg.WORKSHOP_CMD, [1, 2]),
   (Reg.DEVICE_RESET_CMD, [1]), (Reg.SELFTEST_CMD, [1, 2]), (Reg.LB_LOOP_CMD, [1])]

/-- R35: the number that a commit of the open set would put in force. -/
def Device.commitNum (d : Device) (k : Nat) : Int :=
  match assoc d.dict.openSet k with
  | some (.n x) => x
  | _ => d.reg k

/-- R35: the content that a commit of the open set would put in force. -/
def Device.commitBlob (d : Device) (k : Nat) : List Nat :=
  match assoc d.dict.openSet k with
  | some (.b l) => l
  | _ => (d.blob? k).getD (d.blobDefault k)

/-- R35, R77: the pitch rule with the values that a commit would put in force. -/
def Device.commitPitchOk (d : Device) : Bool := decide (4 * d.commitNum Reg.LINE_DEN ≤ d.commitNum Reg.LINE_NUM)

/-- R35, R162: with the values that a commit would put in force, each plane's MATRIX_SEL names a slot that holds a
matrix. -/
def Device.commitMatrixOk (d : Device) : Bool :=
  (List.range 16).all (fun p => !(d.commitBlob (Reg.MATRIX + (d.commitNum (Reg.MATRIX_SEL + p)).toNat)).isEmpty)

/-- R8, R20, R35: COMMIT_CMD. The staged entries whose Range names another entry are checked with the values that the
commit would put in force. -/
def Device.commitCheck (d : Device) (v : Int) : Status :=
  if d.isMember then .role
  else if v ≠ 1 then .ok
  else if d.dict.sealed.isSome then .busy
  else if d.commitPitchOk && d.commitMatrixOk then .ok
  else .range

/-- R256: the Hallway port of a lane test is in H0 and L4 carries no data. -/
def Device.proofLaneOk (d : Device) : Bool :=
  let p := d.regN Reg.PROOF_UNIT - 25
  d.linkState p == 2 && d.hp p Reg.HALL_SPARE_STATE != 1

/-- The commands of one subsystem each. -/
def Device.cmdCheck (d : Device) (k : Nat) (v : Int) : Status :=
  if k = Reg.COMMIT_CMD then d.commitCheck v
  else if k = Reg.SCHED_CMD then 
    (if (v = 2 ∧ d.reg Reg.PWR_STATE ≠ 0) ∨ (v = 3 ∧ d.reg Reg.SCHED_STATE ≠ 2) then .state else .ok)
  else if k = Reg.DT_CMD then
    (if v ≠ 1 then .ok else if d.reg Reg.PWR_STATE ≠ 0 then .state else d.dtCheck)
  else if k = Reg.CAL_CMD then d.calCmdCheck v.toNat
  else if k = Reg.PROFILE_SAVE_CMD then (if d.cellar.save.isSome then .busy else .ok)
  else if k = Reg.PROOF_CMD then (if v = 1 then d.proofCheck d.proofLaneOk else .ok)
  else if k = Reg.PRBS_CMD then (if v = 1 then d.prbsCheck else .ok)
  else if k = Reg.SELFTEST_CMD then (if v = 1 then d.selftestCheck else .ok)
  else if k = Reg.LB_LOOP_CMD then d.loopbackCheck
  else if k = Reg.PWR_REQUEST then d.pwrCheck v.toNat
  else if k = Reg.SUBSYS_RESET_CMD then d.subsysCheck v.toNat
  else if k = Reg.FAULT_ACK then (if serialAfter 32 v.toNat d.log.nextSeq then .range else .ok)
  else .ok

/-- R265 … R278: a write to an entry of a Boiler slot. -/
def Device.loopEntryCheck (m : Memories) (d : Device) (s k : Nat) (e : EntryDef) (v : Int) : Status :=
  let sub := k % 256
  let get (sub : Nat) : Nat := match findEntry (k / 256 * 256 + sub) with
    | some e' => match d.readVal m (k / 256 * 256 + sub) e' false with
      | .n x => x.toNat
      | .b _ => 0
    | none => 0
  if sub = 1 then (if v = 1 then d.loopCheck s else .ok)
  else if sub = 0x29 then (if v = 1 ∨ v = 2 then .ok else .range)
  else if sub = 6 then (if v.toNat ≤ (if get 5 = 1 ∨ get 5 = 2 then 15 else 191) then .ok else .range)
  else if sub = 0x0E then (if get 0x0D + v.toNat ≤ 8 * get 0x0C then .ok else .range)
  else if e.ty = .f32 then d.loopWriteCheck s sub v
  else .ok

/-- R46, R47: the port of a PDO mapping, where the key is one of its mapped entries. -/
def pdoMapped (k : Nat) : Bool :=
  let i := k / 256
  decide (1 ≤ k % 256) && ((decide (0x1600 ≤ i) && decide (i < 0x1610)) || (decide (0x1A00 ≤ i) && decide (i < 0x1A10)))

/-- R47: a PDO mapping names an entry that exists and lies within CAN_ACCESS_LEVEL. -/
def Device.pdoCheck (d : Device) (v : Nat) : Status :=
  if v = 0 then .ok
  else
    match placeOf (v / 2 ^ 8) with
    | .absent st => st
    | .count _ => .ok
    | .entry e => if d.canLevel.holds e.level then .ok else .level

/-- R50: the bits that a PDO maps, with one of its subindices taken as v. -/
def Device.pdoBits (d : Device) (k : Nat) (v : Nat) : Nat :=
  let base := k / 256 * 256
  let get (s : Nat) : Nat := if base + s = k then v else d.regN (base + s)
  ((List.range (get 0)).map (fun j => get (j + 1) % 256)).foldl (· + ·) 0

/-- R50: the mapping record of a PDO. -/
def isPdoMap (k : Nat) : Bool :=
  let i := k / 256
  (decide (0x1600 ≤ i) && decide (i < 0x1610)) || (decide (0x1A00 ≤ i) && decide (i < 0x1A10))

/-- R162: the matrix of a slot as a read of it returns. -/
def Device.matrixSeen (m : Memories) (d : Device) (s : Nat) : List Nat :=
  match findEntry (Reg.MATRIX + s) with
  | some e => match d.readVal m (Reg.MATRIX + s) e false with
    | .b l => l
    | .n _ => []
  | none => []

/-- Rules of single entries beyond their Range. -/
def Device.numCheck (m : Memories) (d : Device) (k : Nat) (e : EntryDef) (v : Int) : Status :=
  let i := k / 256
  let c := k % 256 - 1
  match loopSlot k with
  | some s => d.loopEntryCheck m s k e v
  | none =>
    match assoc cmdValues k with
    | some l => if l.contains v then d.cmdCheck k v else .range
    | none =>
      if k = Reg.PWR_REQUEST ∨ k = Reg.SUBSYS_RESET_CMD ∨ k = Reg.FAULT_ACK then d.cmdCheck k v
      else if isPdoMap k = true ∧ 512 < d.pdoBits k v.toNat then .range
      else if pdoMapped k then d.pdoCheck v.toNat
      else if i = 0x2506 then (if v = 1 then .ok else .range)
      else if k % 256 = 0x0B ∧ (i = 0x2340 ∨ i = 0x2341) then (if v = 1 then .ok else .range)
      else if k = Reg.REF_ANCHOR_CMD then (if v = 1 then .ok else .range)
      else if (0x2380 ≤ i ∧ i < 0x2384) ∧ k % 256 = 7 then (if v = 1 ∨ v = 2 then .ok else .range)
      else if i = 0x2A18 then (if v = 1 ∨ v = 2 then .ok else .range)
      else if (i = 0x2D00 ∨ i = 0x2D08) ∧ k % 256 = 0x0F then (if v = 1 then .ok else .range)
      else if i = 0x2703 then
        (if (d.matrixSeen m v.toNat).isEmpty then .range else .ok)
      else if i = 0x2713 then
        (if hpNozzles (d.prof c) % Nat.max 1 v.toNat = 0 then .ok else .range)
      else if k = Reg.SEL_NOZZLE then
        (if v.toNat < (match (d.nozMap (d.regN Reg.SEL_CHANNEL)).len with | some n => n | none => 4096) then .ok else .range)
      else if k = Reg.NOZZLE_WORD then (d.nozMap d.selNoz.1).wordCheck d.selNoz.2 v.toNat
      else if k = Reg.FIRE_ENABLE then (if v.toNat &&& d.regN Reg.FIRE_SCOPE = v.toNat then .ok else .range)
      else if i = 0x2A20 then
        (if v = 1 ∧ d.regB k = false ∧ (d.ctxClash c ∨ d.poolFits c = false) then .range else .ok)
      else if i = 0x2B05 then (if v = 1 ∧ (c < 5 ∨ 9 < c) then .range else .ok)
      else if (0x2C10 ≤ i ∧ i < 0x2C20) ∧ k % 256 = 1 then (if d.ainMonOk (i - 0x2C10) v.toNat then .ok else .range)
      else if (i = 0x2E31 ∨ i = 0x2E32) ∧ (k % 256 = 1 ∨ k % 256 = 2) then
        (let t := i - 0x2E30
         let prof := if k % 256 = 1 then v.toNat else d.storedN (tbKey Reg.PTP_PROFILE t)
         let dom := if k % 256 = 2 then v.toNat else d.storedN (tbKey Reg.PTP_DOMAIN t)
         if d.ptpClash t prof dom then .range else .ok)
      else .ok

/-! ### Where a write is not permitted (R18, R49) -/

/-- R180, R49: FIRE-related entries that WORKSHOP_FIRE lets Workshop engines drive. -/
def fireRelated (k : Nat) : Bool :=
  [Reg.FIRE_ENABLE, Reg.HG_ENABLE, Reg.INTLK_ACK, Reg.TRIP_ACK, Reg.DT_CMD].contains k

/-- R18, R404: after a strap fault the subsystems stay in reset: their commands and enables are refused. The log, the
Porch, the resets, the images and the Foundation are the service's own. -/
def subsysHeld (k : Nat) (e : EntryDef) : Bool :=
  let i := k / 256
  let free := i == 0x2F00 || (decide (0x2E00 ≤ i) && decide (i < 0x2F00)) || decide (i < 0x2000) || k == Reg.DEVICE_RESET_CMD ||
    i == 0x2220 || i == 0x2210
  !free && (e.acc == .wo || fireRelated k || i == 0x2A00 || i == 0x2A20 || i == 0x2D00 || i == 0x2D08 || i == 0x2509 ||
    i == 0x2720 || k == Reg.NOZZLE_WORD || (decide (0x2C40 ≤ i) && decide (i < 0x2C80) && k % 256 == 1))

/-- The level that a write needs; FOUNDATION_PROGRAM's own rule says which of its fields need SERVICE (R402). -/
def writeLevel (k : Nat) (e : EntryDef) : Level := if k = Reg.FOUNDATION_PROGRAM then .pub else e.level

/-- R7, R8: access, level and what the fuses and straps bar. READ_ONLY comes before LEVEL (log entry 33). -/
def Device.accessCheck (d : Device) (r : Req) (k : Nat) (e : EntryDef) : Status :=
  if e.acc = .ro ∨ e.fuse = true then .readOnly
  else if (d.reqLevel r).holds (writeLevel k e) = false then .level
  else if isMailbox r = true ∧ d.regB Reg.WORKSHOP_FIRE = false ∧ fireRelated k = true then .level
  else .ok

/-- R242: what R265 … R275 refuse an enable with is no check of a profile's items, which the device writes itself. -/
def ownAuthority (r : Req) (k : Nat) : Bool := r == .device && (loopSlot k).isSome && k % 256 == 1

/-- R8, R12, R25, R26, and each entry's own rules: what a write is refused with, OK where it is accepted. A write to
subindex 00 of a record is refused with READ_ONLY before its level, type and length are looked at: DESIGN CHOICE, the
spec states no access for the count (log entry 154). -/
def Device.writeCheck (m : Memories) (d : Device) (r : Req) (k ty : Nat) (bs : List Nat) : Status :=
  match placeOf k with
  | .absent st => st
  | .count _ => .readOnly
  | .entry e =>
    match d.accessCheck r k e with
    | .ok =>
      match d.typeCheck k e ty bs.length with
      | .ok =>
        if d.pwr.phase == .strapFault && subsysHeld k e then .state
        else
          match valOf e bs with
          | .b l => if e.ty = .str ∧ utf8Ok (l.length + 1) l = false then .range else d.blobCheck (d.reqLevel r) k l
          | .n v =>
            if e.ty = .bool ∧ 1 < v then .range
            else if e.ty = .f32 ∧ f32IsNan v.toNat = true then .range
            else
              match d.rangeCheck m k e v with
              | .ok => if ownAuthority r k then .ok else d.numCheck m k e v
              | st => st
      | st => st
    | st => st

end Sys2Proof.Machine
end

