-- ==== Sys2Proof/Machine/ProfileOps.lean ====
section
/-! DEFINITION. Stored profiles (R51, R241, R242, R405): which entries are profile-class, saving them, and reading and
checking a profile. -/
namespace Sys2Proof.Machine

/-- The profile-class entries of the Boiler: every entry of a slot that holds its configuration, and the shared ones
(R279). -/
def profileBoiler (i s : Nat) : Bool :=
  (decide (0x2C40 ≤ i) && decide (i < 0x2C80) && s != 0x29) || i == 0x2C30 || i == 0x2C32 ||
    (decide (0x2C10 ≤ i) && decide (i < 0x2C20) && (s == 1 || s == 3)) ||
    (decide (0x2C20 ≤ i) && decide (i < 0x2C24) && (s == 1 || s == 2))

/-- The text before R241: the head set, the medium, the speeds and the ink set. -/
def profileClass (i s : Nat) : Bool :=
  [0x2500, 0x2501, 0x2504, 0x2410, 0x2411, 0x2415, 0x2416, 0x2420, 0x2421].contains i ||
    (decide (0x2710 ≤ i) && decide (i ≤ 0x2713)) || (decide (0x2701 ≤ i) && decide (i ≤ 0x2705)) ||
    i * 256 + s == Reg.SHARE_DEFAULT || (i == 0x2400 && [2, 3, 0xA, 0xB].contains s) ||
    (i == 0x2401 && [1, 2, 5, 6].contains s) || profileBoiler i s

/-- The keys of the profile-class entries, in the order of the entry tables. -/
def profileKeys : List Nat :=
  [0x24, 0x25, 0x27, 0x2B, 0x2C].flatMap (fun page =>
    (entriesOf page).flatMap (fun e =>
      if e.acc = .rw then
        (List.range e.units).flatMap (fun u =>
          (List.range e.count).filterMap (fun s =>
            let i := e.index + u * e.stride
            if profileClass i (e.sub + s) then some (i * 256 + e.sub + s) else none))
      else []))

/-- R241: the entry holds a value that can be saved; a DOMAIN that was never set and has no default content does not. -/
def Device.hasValue (d : Device) (k : Nat) : Bool :=
  match d.valNow k with
  | .n _ => true
  | .b l => !l.isEmpty

/-- R241: the payload of a PROFILE record: the values in force as WRITE items. -/
def Device.profileBytes (d : Device) : List Nat :=
  (profileKeys.filter d.hasValue).flatMap (fun k => itemBytes k (d.valNow k))

/-- R241: PROFILE_SAVE_CMD 01h: the record is written at once. -/
def Device.profileSave (d : Device) : Device :=
  let slot := d.regN Reg.PROFILE_SAVE_SLOT
  let key := 5 * 256 + slot
  let d1 := { d with cellar := { d.cellar with save := some (slot, d.profileBytes) } }.markDirty 5 slot
  ({ d1 with cellar := { d1.cellar with urgent := d1.cellar.urgent ++ [key] } } : Device).cellarWrite

/-- R42: the WRITE items that bytes spell: key, type, reserved and the value's bytes; none for bytes that end within an
item. -/
def itemsOf : Nat → List Nat → Option (List (Nat × Nat × Nat × List Nat))
  | 0, _ => none
  | f + 1, l =>
    if l.isEmpty then some []
    else
      let n := fieldAt l 4 2
      let total := 8 + n + (4 - n % 4) % 4
      if l.length < total then none
      else
        match itemsOf f (l.drop total) with
        | none => none
        | some r =>
          some ((fieldAt l 0 2 * 256 + fieldAt l 2 1, fieldAt l 3 1, fieldAt l 6 2, bytesAt l 8 n) :: r)

/-- A checked item as later checks see it: already written (R8). -/
def Device.asWritten (d : Device) (k : Nat) (e : EntryDef) (v : Val) : Device :=
  match e.takes with
  | .atCommit => { d with dict := { d.dict with openSet := assocSet d.dict.openSet k v } }
  | .atReset => { d with dict := { d.dict with stored := assocSet d.dict.stored k v } }
  | .atPage => { d with dict := { d.dict with pageSet := d.dict.pageSet ++ [(k, v)] } }
  | _ => d.setVal k v

/-- R242: the items of a profile are checked in order, each with the ones before it taken as written: the accepted
values, or the first failing item's key. -/
def Device.checkItems (m : Memories) (d : Device) : List (Nat × Nat × Nat × List Nat) → List (Nat × Val) ×  Option Nat
  | [] => ([], none)
  | (k, ty, rsv, bs) :: rest =>
    let st := if rsv ≠ 0 then Status.reserved else d.writeCheck m .device k ty bs
    match st, findEntry k with
    | .ok, some e =>
      let v := valOf e bs
      let r := Device.checkItems m (d.asWritten k e v) rest
      ((k, v) :: r.1, r.2)
    | _, _ => ([], some k)

/-- The items of a profile in the order in which they act: they come into force together, so a slot's LOOP_ENABLE meets its
other entries (log entry 178). -/
def enablesLast (l : List (Nat × Val)) : List (Nat × Val) :=
  let en (p : Nat × Val) : Bool := (loopSlot p.1).isSome && p.1 % 256 == 1
  l.filter (fun p => !en p) ++ l.filter en

/-- What reading and checking a profile comes to (R242). -/
inductive ProfileRead where
  | good (items : List (Nat × Val))
  | bad (key : Nat)
deriving DecidableEq, Repr

/-- R242: profile n is read and its items are checked. Where no copy can be used, or its payload is malformed, item
0000h.00 stands for the failing one (log entry 34). -/
def Device.readProfile (m : Memories) (d : Device) (n : Nat) : Device × ProfileRead :=
  let (d1, r) := d.readRecord m.flash (5 * 256 + n)
  match r with
  | none => (d1, .bad 0)
  | some l =>
    let p := recPayload l
    match itemsOf (p.length + 1) p with
    | none => (d1, .bad 0)
    | some items =>
      let z : Device := { d1 with dict := { d1.dict with openSet := [], sealed := none } }
      match Device.checkItems m z items with
      | (_, some k) => (d1, .bad k)
      | (vs, none) => (d1, .good (enablesLast vs))

/-- R33, R394: the strapped profile as a device reset would find it now; one that cannot be used leaves the defaults
(R405). -/
def Device.profAgain (m : Memories) (d : Device) : Device :=
  match d.readProfile m (d.regN Reg.STRAP_PROFILE) with
  | (d1, .good items) => { d1 with boot := { d1.boot with prof := items } }
  | (d1, .bad _) => { d1 with boot := { d1.boot with prof := [] } }

/-- R51, R242, R405: a profile that cannot be used. -/
def Device.profileFail (d : Device) (n key : Nat) : Device :=
  (d.setReg Reg.PROFILE_STATUS 3).raise Ev.PROFILE_FAILED n [.u 2 (key / 256), .u 0 (key % 256)]

/-- R51, R242: PROFILE_REQUEST n is read and checked; a new request replaces one that has not acted. FFh asks for
none, and PROFILE_REQUEST reads FFh again once the request has acted or failed (log entry 180). -/
def Device.profileRequest (m : Memories) (d : Device) (n : Nat) : Device :=
  let d0 := { d with dict := { d.dict with profileReq := none, profileItems := [] } }
  if 7 < n then
    (if d.dict.profileReq.isSome then d0.setReg Reg.PROFILE_STATUS 0 else d0).setReg Reg.PROFILE_REQUEST 0xFF
  else
    let d1 := (d0.setReg Reg.PROFILE_STATUS 1).setRegN Reg.PROFILE_REQUEST n
    match d1.readProfile m n with
    | (d2, .bad k) => (d2.profileFail n k).setReg Reg.PROFILE_REQUEST 0xFF
    | (d2, .good items) => { d2 with dict := { d2.dict with profileReq := some n, profileItems := items } }

end Sys2Proof.Machine
end

