-- ==== Sys2Proof/Machine/DictApply.lean ====
section
/-! DEFINITION. What an accepted dictionary write does (R9, R33 … R38 and each entry's own rule). -/
namespace Sys2Proof.Machine

/-! ### Head acceptance (R124) -/

/-- R124: the seeded word of a nozzle of a NEW head. -/
def Device.seedWord (d : Device) (r : List Nat) (n : Nat) : Nat :=
  let dead := (List.range (fieldAt r 50 1)).any (fun i => fieldAt r (52 + 2 * i) 2 == n)
  let gain := d.regN (Reg.RANK_GAIN_CODE + fieldAt r 43 1)
  if dead then nozWord 0 8 0 gain 4 else nozWord 255 8 0 gain 0

/-- R124: the nozzle words of a NEW head's channel are seeded and every origin bit is cleared. -/
def Device.seedChan (d : Device) (c : Nat) (r : List Nat) : Device :=
  ((List.range (d.mapLen c)).foldl (fun (d : Device) n => (d.writeNoz c n (d.seedWord r n)).setOrigin c n 0) d).markDirty 4 c

/-- R124: HEAD_ACCEPT of channel c: KNOWN_SERIAL becomes the head's SERIAL, and the words of a NEW head are seeded; outside
NEW and NO_RECORD it has no effect (log entry 35). -/
def Device.headAccept (d : Device) (c : Nat) : Device :=
  if d.presence c = 5 then
    match d.validRecord c with
    | some r =>
      (((d.setBlob (Reg.KNOWN_SERIAL + c) (recSerial r)).seedChan c r).enterPresent c).raise Ev.HEAD_ACCEPTED c
        [.u 2 (fieldAt r 43 1), .u 0 (fieldAt r 42 1)]
    | none => d
  else if d.presence c = 3 then
    (((d.setBlob (Reg.KNOWN_SERIAL + c) (recSerial (d.blob (Reg.HEAD_RECORD + c)))).markDirty 4 c).enterPresent c).raise Ev.HEAD_ACCEPTED c [.u 2 0, .u 0 0]
  else d

/-! ### Position (R63, R66, R72) -/

/-- R63: SUSPECT_CLEAR: the state becomes UNCHECKED and the next index is learnt. -/
def Device.suspectClear (d : Device) (ch : Nat) : Device :=
  (d.setPosCh ch { d.posCh ch with learn := true }).setReg (Reg.un Reg.INDEX_STATE ch) 0

/-- R63: INDEX_MODE of a channel; mode 2 learns at the first index after it is enabled. -/
def Device.indexMode (d : Device) (ch : Nat) (v : Int) : Device :=
  let was := d.reg (Reg.un Reg.INDEX_MODE ch)
  let d1 := d.setReg (Reg.un Reg.INDEX_MODE ch) v
  if v = 2 ∧ was ≠ 2 then d1.setPosCh ch { d1.posCh ch with learn := true } else d1

/-- R66: the anchor moment is the next sample of the reference. -/
def Device.anchorNext (d : Device) : Device := { d with pos := { d.pos with anchor := none, anchorDue := true, refAt := d.now } }

/-- R66: REF_SOURCE is written. -/
def Device.refSource (d : Device) (v : Int) : Device := (d.setReg Reg.REF_SOURCE v).anchorNext

/-- R72: QOUT_SOURCE, QOUT_NUM or QOUT_DEN of output q is written. -/
def Device.qoutWrite (d : Device) (k q : Nat) (v : Int) : Device := (d.setReg k v).qoutClear q

/-! ### Commands -/

/-- R35, R38: COMMIT_CMD. -/
def Device.commitCmd (d : Device) (v : Int) : Device :=
  if v = 1 then d.commitRequest else if v = 2 then d.commitCancel else d.commitDiscard

/-- R134: SCHED_CMD. -/
def Device.schedCmd (d : Device) (v : Int) : Device :=
  if v = 1 then d.schedStop else if v = 2 then d.schedResume else d.schedFlush

/-- R234: CAL_CMD. -/
def Device.calCmd (d : Device) (v : Int) : Device :=
  if v = 1 then d.calRun else if v = 2 then d.calAbort else d.calRevert

/-- R255: PROOF_CMD; a lane under test is not spare. -/
def Device.proofCmd (d : Device) (v : Int) : Device :=
  let u := d.regN Reg.PROOF_UNIT
  if v = 1 then (if u ≤ 24 then d.proofStart else (d.proofStart).setHp (u - 25) Reg.HALL_SPARE_STATE 3)
  else
    match d.red.proof with
    | some p => if p.unit ≤ 24 then d.proofAbort else (d.proofAbort).setHp (p.unit - 25) Reg.HALL_SPARE_STATE p.was
    | none => d

/-- R260: FAULT_ACK. -/
def Device.faultAck (d : Device) (v : Nat) : Device :=
  { d with log := { d.log with unacked := d.log.unacked.filter (fun s => !serialAtOrBefore 32 s v) } }

/-- R261: MIRROR_CLEAR_CMD. -/
def Device.mirrorClear (d : Device) : Device := ({ d with log := { d.log with mirror := [] } } : Device).markDirty 3 0

/-- R393: DEVICE_RESET_CMD: the response goes out and the device resets 1 ms later. -/
def Device.resetCmd (d : Device) : Device := { d with boot := { d.boot with resetAt := some (d.now + cycMs 1) } }

/-! ### Entries that act immediately -/

/-- Entries of 1000h … 22FFh. -/
def Device.nowA (m : Memories) (d : Device) (env : WriteEnv) (r : Req) (k : Nat) (v : Int) : Memories × Device :=
  if k = Reg.COMMIT_CMD then (m, d.commitCmd v)
  else if k = Reg.IN_FORCE_SEL then (m, d.setSel r v.toNat)
  else if k = Reg.PROFILE_REQUEST then (m, d.profileRequest m v.toNat)
  else if k = Reg.PWR_REQUEST then (m, d.pwrRequest v.toNat)
  else if k = Reg.DEVICE_RESET_CMD then (m, d.resetCmd)
  else if k = Reg.SUBSYS_RESET_CMD then (d.subsysMem m v.toNat, (d.profAgain m).subsysReset v.toNat env.segs env.tries)
  else (m, d.setReg k v)

/-- Entries of 2300h … 24FFh. -/
def Device.nowB (d : Device) (k : Nat) (v : Int) : Device :=
  let i := k / 256
  let s := k % 256
  if i = 0x2340 ∨ i = 0x2341 then
    (if s = 1 then d.indexMode (i - 0x2340) v else if s = 0x0B then d.suspectClear (i - 0x2340) else d.setReg k v)
  else if k = Reg.REF_SOURCE then d.refSource v
  else if k = Reg.REF_ANCHOR_CMD then d.anchorNext
  else if 0x2360 ≤ i ∧ i < 0x2368 ∧ s = 0x0B then d.probeAck (i - 0x2360) v.toNat
  else if 0x2380 ≤ i ∧ i < 0x2384 ∧ s = 7 then (if v = 1 then d.cmpArm (i - 0x2380) else d.cmpDisarm (i - 0x2380))
  else if (i = 0x2390 ∨ i = 0x2391) ∧ s ≤ 3 then d.qoutWrite k (i - 0x2390) v
  else d.setReg k v

/-- Entries of 2500h … 28FFh. -/
def Device.nowC (d : Device) (k : Nat) (v : Int) : Device :=
  let i := k / 256
  let c := k % 256 - 1
  if k = Reg.HG_ENABLE then (if d.domainOn 27 then (d.hgWrite v.toNat).passIdle else d.setReg k v)
  else if i = 0x2506 then d.headAccept c
  else if k = Reg.NOZZLE_WORD then d.writeNoz d.selNoz.1 d.selNoz.2 v.toNat
  else if k = Reg.INTLK_ACK then d.intlkAck v.toNat
  else if k = Reg.TRIP_ACK then d.tripAck v.toNat
  else if k = Reg.DT_CMD then (if v = 1 then d.dtStart else d.dtAbort 0)
  else if k = Reg.SCHED_CMD then d.schedCmd v
  else if k = Reg.HIST_CAPTURE_CMD then d.captureArm
  else d.setReg k v

/-- Entries of 2900h … 2CFFh. -/
def Device.nowD (d : Device) (k : Nat) (v : Int) : Device :=
  let i := k / 256
  let c := k % 256 - 1
  match loopSlot k with
  | some s =>
    if k % 256 = 0x29 then (if v = 1 then d.loopForceSafe s else d.loopRestore s) else d.loopPut s k v
  | none =>
    if i = 0x2A00 then
      (if d.domainOn 54 = false then d.setReg k v else if v = 1 then d.winPortEnable c else d.winPortDisable c)
    else if i = 0x2A18 then (if v = 1 then d.trigArm c else d.trigDisarm c)
    else if i = 0x2A20 then
      (if v = 1 then (if d.regB k then d else d.ctxEnable c) else if d.regB k then d.ctxDisable c else d)
    else if k = Reg.CAL_CMD then d.calCmd v
    else if i = 0x2B60 ∨ i = 0x2B61 then (d.setReg k v).ainTrimmed
    else if k = Reg.CELLAR_FLUSH_CMD then d.cellarFlush
    else if k = Reg.PROFILE_SAVE_CMD then d.profileSave
    else d.setReg k v

/-- Entries of 2D00h and above. -/
def Device.nowE (m : Memories) (d : Device) (env : WriteEnv) (k : Nat) (v : Int) : Device :=
  let i := k / 256
  let s := k % 256
  if i = 0x2D00 ∨ i = 0x2D08 then
    let p := (i - 0x2D00) / 8
    if s = 1 then (if v = 1 then d.hallEnable p else d.hallDisable p)
    else if s = 0x0A then (d.setReg k v).hhUpdate
    else if s = 0x0F then d.linkReset p
    else d.setReg k v
  else if k = Reg.PRBS_CMD then (if v = 1 then d.prbsStart else d.prbsStop env.rx)
  else if i = 0x2E00 ∨ i = 0x2E01 then
    let p := i - 0x2E00
    if s = 1 then (if v = 1 then d.porchEnable p else d.porchDisable p)
    else if s = 0x10 then (d.setReg k v).holdUpdate
    else d.setReg k v
  else if k = Reg.LAUNCH_CANCEL then d.launchCancel v.toNat
  else if k = Reg.TB3_STEP_CMD then d.tb3Step
  else if k = Reg.FAULT_ACK then d.faultAck v.toNat
  else if k = Reg.MIRROR_CLEAR_CMD then d.mirrorClear
  else if k = Reg.PROOF_CMD then d.proofCmd v
  else if k = Reg.WORKSHOP_CMD then (if v = 1 then d.workshopRestart m.flash else d.workshopHalt)
  else if k = Reg.SELFTEST_CMD then (if v = 1 then d.selftestStart else d.selftestAbort)
  else if k = Reg.LB_LOOP_CMD then d.loopbackStart
  else d.setReg k v

/-- A number written to an entry that acts immediately. -/
def Device.applyNum (m : Memories) (d : Device) (env : WriteEnv) (r : Req) (k : Nat) (v : Int) : Memories × Device :=
  let i := k / 256
  if i < 0x2300 then d.nowA m env r k v
  else if i < 0x2500 then (m, d.nowB k v)
  else if i < 0x2900 then (m, d.nowC k v)
  else if i < 0x2D00 then (m, d.nowD k v)
  else (m, d.nowE m env k v)

/-- The content of a DOMAIN entry that acts when its last segment has been checked (R41). -/
def Device.applyBlob (m : Memories) (d : Device) (env : WriteEnv) (k : Nat) (l : List Nat) : Memories × Device × Status :=
  let i := k / 256
  let c := k % 256 - 1
  if i = 0x2509 then (m, d.startMem c l, .ok)
  else if i = 0x2720 then (m, d.mapWrite c l, .ok)
  else if i = 0x2A35 then (m, d.psetAccept c l, .ok)
  else if k = Reg.LAUNCH_SUBMIT then (m, d.launchAccept l, .ok)
  else if k = Reg.FOUNDATION_PROGRAM then d.program m l env.stuckA env.stuckB
  else if k = Reg.HOUSE_IMAGE then (d.houseStore m l, d, .ok)
  else if k = Reg.WORKSHOP_IMAGE then
    ({ m with flash := flashProgram (flashErase m.flash shopImageAt (2 * 2 ^ 20)) shopImageAt l }, d, .ok)
  else (m, d.setBlob k l, .ok)

/-! ### Every write (R9) -/

/-- R233: a host write of a trim or of a flight time is remembered against a calibration's. -/
def Device.noteHost (d : Device) (k : Nat) : Device :=
  let i := k / 256
  if i = 0x2412 ∨ i = 0x2413 ∨ i = 0x2422 then
    { d with cal := { d.cal with hostWrites := assocSet d.cal.hostWrites k d.now } }
  else d

/-- R33: a value is stored for the next reset; the boot configuration keeps its own in the flash. RAIL_USED of slots
0 … 4 reads 1. -/
def Device.store (d : Device) (k : Nat) (v : Val) : Device :=
  let i := k / 256
  let w := if 0x2010 ≤ i ∧ i < 0x2015 ∧ k % 256 = 1 then Val.n 1 else v
  let d1 := { d with dict := { d.dict with stored := assocSet d.dict.stored k w } }
  if bootKeys.contains k then
    let d2 := d1.markDirty 16 0
    ({ d2 with cellar := { d2.cellar with
      urgent := if d2.cellar.urgent.contains bootRecKey then d2.cellar.urgent else d2.cellar.urgent ++ [bootRecKey] } } :
      Device).cellarWrite
  else d1

/-- R270: an accepted value as it is stored: INIT_OUT of a slot of FORMAT 0 is quantised. -/
def Device.storedVal (d : Device) (k : Nat) (v : Val) : Val :=
  match loopSlot k, v with
  | some s, .n x => if isLoopValue (k % 256) then .n (d.loopWriteValue s (k % 256) x) else v
  | _, _ => v

/-- R9: an accepted write acts by its entry's Takes effect value. -/
def Device.applyVal (m : Memories) (d : Device) (env : WriteEnv) (r : Req) (k : Nat) (e : EntryDef) (v : Val) :
    Memories × Device × Status :=
  let direct := k == Reg.WORKSHOP_IMAGE || k == Reg.HOUSE_IMAGE || k == Reg.FOUNDATION_PROGRAM || actsNow k
  match direct, e.takes, v with
  | false, .atCommit, _ =>
    (m, ({ d with dict := { d.dict with openSet := assocSet d.dict.openSet k v } } : Device).noteHost k, .ok)
  | false, .atReset, _ => (m, d.store k (d.storedVal k v), .ok)
  | false, .atPage, _ => (m, { d with dict := { d.dict with pageSet := d.dict.pageSet ++ [(k, v)] } }, .ok)
  | _, _, .b l => d.applyBlob m env k l
  | _, _, .n x =>
    let y := d.applyNum m env r k x
    (y.1, y.2, .ok)

/-- R402, R407, R426: FUSE_VPP_PRESENT as a read or a write meets it: whether the ball is powered, none where that has not
changed. -/
def Device.senseVpp (d : Device) (b : Option Bool) : Device :=
  match b with
  | some b => d.setReg Reg.FUSE_VPP_PRESENT (if b then 1 else 0)
  | none => d

/-- The same for a write. -/
def Device.seeVpp (d : Device) (env : WriteEnv) : Device := d.senseVpp env.vpp

/-- R31: one write of bytes with a type code: checked, then applied or refused whole. -/
def Device.writeKey (m : Memories) (d0 : Device) (env : WriteEnv) (r : Req) (k ty : Nat) (bs : List Nat) :
    Memories × Device × Status :=
  let d := d0.seeVpp env
  match d.writeCheck m r k ty bs, findEntry k with
  | .ok, some e => d.applyVal m env r k e (valOf e bs)
  | st, _ => (m, d, st)

/-- A write of a number by a requester to an entry: the commands that are one entry's write. The outcome is told to the
requester. -/
def Device.writeNum (m : Memories) (d : Device) (env : WriteEnv) (r : Req) (k : Nat) (v : Int) : Memories × Device :=
  if d.served = false then (m, d)
  else
    match findEntry k with
    | none => (m, d.send (.result r k .noIndex))
    | some e =>
      let x := d.writeKey m env r k e.ty.code (leBytesI e.ty.size v)
      (x.1, x.2.1.send (.result r k x.2.2))

/-- A write of bytes by a requester to an entry. -/
def Device.writeBlob (m : Memories) (d : Device) (env : WriteEnv) (r : Req) (k : Nat) (l : List Nat) : Memories × Device :=
  if d.served = false then (m, d)
  else
    match findEntry k with
    | none => (m, d.send (.result r k .noIndex))
    | some e =>
      let x := d.writeKey m env r k e.ty.code l
      (x.1, x.2.1.send (.result r k x.2.2))

end Sys2Proof.Machine
end

