-- ==== Sys2Proof/Machine/QdpOps.lean ====
section
/-! DEFINITION. The QDP service and the mailbox's dictionary requests (R27 … R32, R40 … R45, R49, R355): admission of a
request, READ and WRITE, DOMAIN transfers, sessions, authentication and events. -/
namespace Sys2Proof.Machine

/-! ### Admission (R27, R42, R43, R355) -/

/-- A value padded to a multiple of 4 bytes. -/
def padLen (n : Nat) : Nat := n + (4 - n % 4) % 4

/-- A response to a datagram that is kept in no cache: session, status, count and payload. -/
def Device.qdpPlain (d : Device) (h : QdpHdr) (op session : Nat) (st : Status) (payload : List Nat) : Device :=
  d.post h.rx 3 (.qdp h.srcIp h.srcPort
    { opcode := op + 0x80, status := st.code, session := session, seq := h.seq, count := 0, payload := payload })

/-- R42, R43: the response to a new request. -/
def Device.qdpDone (d : Device) (h : QdpHdr) (op st count : Nat) (payload : List Nat) : Device :=
  d.qdpAnswer h.rx h.srcIp h.srcPort
    { opcode := op + 0x80, status := st, session := h.session, seq := h.seq, count := count, payload := payload }

/-- The limits and the form of a datagram: the largest payload, the items it counts (none where its opcode has none) and
the length that its fields take. -/
def formCheck (limit flags count payloadLen : Nat) (items : Option Nat) (len : Nat) : Status :=
  if limit < payloadLen ∨ 64 < count then .tooLarge
  else if payloadLen ≠ len then .format
  else if 1 < flags then .reserved
  else match items with
    | some n => if count = n then .ok else .format
    | none => .ok

/-- QDP runs over IPv4 only while IPV4_ENABLE is set; what comes over it otherwise is a frame for nobody (R285). -/
def Device.quietV4 (d : Device) (ip : Nat) : Bool := decide (ip < 2 ^ 32) && !d.regB Reg.IPV4_ENABLE

/-- R27, R42, R43: a datagram arrives, by a port that is ON (R289). Answers with the status that its request is to be answered with, OK where it is to
be executed, and none where nothing more is to be done: it was discarded, or answered already. Refusals that come before
the order by SEQ are kept in no cache (log entry 36). -/
def Device.qdpIn (d : Device) (h : QdpHdr) (op : Nat) (items : Option Nat) (len : Nat) : Device × Option Status :=
  let bad := decide (h.arrivedLen ≠ h.payloadLen) || h.status != 0
  let form := formCheck (d.regN Reg.QDP_MAX_PAYLOAD_BYTES) h.flags h.count h.payloadLen items len
  if d.served = false ∨ d.rxOpen h.rx = false then (d, none)
  else if d.quietV4 h.srcIp then (d.incReg (Reg.un Reg.RX_DROPS (h.rx / 4)), none)
  else if h.magic ≠ 0x4451 ∨ h.version ≠ 1 ∨ h.crcOk = false then (d.incReg Reg.QDP_DISCARDS, none)
  else
    match if h.session = 0 then none else d.session? h.session with
    | none =>
      if bad then (d.qdpPlain h op h.session .format [], none)
      else if h.session ≠ 0 ∨ (op ≠ 0x01 ∧ op ≠ 0x10) then (d.qdpPlain h op h.session .session [], none)
      else (d, some form)
    | some s =>
      if s.ip ≠ h.srcIp then (d.incReg Reg.QDP_DISCARDS, none)
      else
        let d1 := d.setSession { s with lastSeen := d.now, rx := h.rx }
        if bad then (d1.qdpPlain h op h.session .format [], none)
        else if op = 0x10 then (d1.qdpPlain h op h.session .session [], none)
        else
          match assoc s.cache h.seq with
          | some r => (d1.post h.rx 3 (.qdp h.srcIp h.srcPort r), none)
          | none =>
            let fresh := match s.lastSeq with
              | none => true
              | some q => serialAfter 32 h.seq q
            if fresh = false then (d1.qdpPlain h op h.session .sequence [], none)
            else (d1.setSession { s with lastSeen := d.now, rx := h.rx, lastSeq := some h.seq }, some form)

/-- R355, R356: what the header of a mailbox request is answered with. -/
def mbHeadCheck (b : MbHdr) (items : Option Nat) (len : Nat) : Status :=
  if 1 < b.flags ∨ b.rsv ≠ 0 ∨ b.status ≠ 0 then .format else formCheck 8176 b.flags b.count b.payloadLen items len

/-- A request arrives in a datagram or a mailbox slot. -/
def Device.viaIn (d : Device) (v : Via) (op : Nat) (items : Option Nat) (len : Nat) : Device × Option Status :=
  match v with
  | .qdp h => d.qdpIn h op items len
  | .mailbox b =>
    if d.served = false then (d, none)
    else
      let (d1, ok) := d.mbPost b.w { slot := b.slot, tag := b.tag, opcode := op }
      if ok then (d1, some (mbHeadCheck b items len)) else (d1, none)

/-- The response goes the way its request came: status, count and payload. -/
def Device.viaOut (d : Device) (v : Via) (op st count : Nat) (payload : List Nat) : Device :=
  match v with
  | .qdp h => d.qdpDone h op st count payload
  | .mailbox b => d.mbAnswer b.w b.slot b.flags st count payload

/-- A response with a status alone. -/
def Device.viaSt (d : Device) (v : Via) (op : Nat) (st : Status) : Device := d.viaOut v op st.code 0 []

/-- Who makes the request. -/
def viaReq : Via → Req
  | .qdp h => .session h.session
  | .mailbox b => .mailbox b.w

/-- The largest payload of the response. -/
def Device.viaLimit (d : Device) : Via → Nat
  | .qdp _ => d.regN Reg.QDP_MAX_PAYLOAD_BYTES
  | .mailbox _ => 8176

/-- The response to a request that waits for a head's read-back (R120). -/
def Device.viaAnswer (d : Device) (v : Via) (op st count : Nat) (payload : List Nat) : Answer :=
  match v with
  | .qdp h => .qdp h.rx h.srcIp h.srcPort
      { opcode := op + 0x80, status := st, session := h.session, seq := h.seq, count := count, payload := payload }
  | .mailbox b => .box b.w b.slot b.flags (d.shop b.w).starts
      { opcode := op + 0x80, status := st, session := 0, seq := 0, count := count, payload := payload }

/-- The first of two statuses that is not OK. -/
def firstBad (a b : Nat) : Nat := if a = 0 then b else a

/-! ### READ (R36, R40, R42) -/

/-- R42: one item of a READ response. -/
def readItemBytes (k ty : Nat) (st : Status) (bs : List Nat) : List Nat :=
  leBytes 2 (k / 256) ++ [k % 256, st.code, ty, 0] ++ leBytes 2 bs.length ++ bs ++
    List.replicate (padLen bs.length - bs.length) 0

/-- R42: the items of a READ, `left` bytes being free for values: the header's status and the payload. An item whose value
does not fit is TOO_LARGE (log entry 37). -/
def Device.readItems (m : Memories) (d : Device) (r : Req) : Nat → List ReadItem → Nat × List Nat
  | _, [] => (0, [])
  | left, it :: rest =>
    let k := it.index * 256 + it.sub
    let x := if 1 < it.flags then (Status.reserved, 0, []) else d.readKey m r k (it.flags == 1)
    let big := decide (left < padLen x.2.2.length)
    let st := if x.1 = .ok ∧ big = true then Status.tooLarge else x.1
    let bs := if st = .ok then x.2.2 else []
    let y := Device.readItems m d r (left - padLen bs.length) rest
    (firstBad st.code y.1, readItemBytes k x.2.1 st bs ++ y.2)

/-- READ. -/
def Device.qdpRead (m : Memories) (d0 : Device) (v : Via) (items : List ReadItem) : Device :=
  let n := items.length
  match d0.viaIn v 0x01 (some n) (4 * n) with
  | (d, none) => d
  | (d, some .ok) =>
    let y := d.readItems m (viaReq v) (d.viaLimit v - 8 * n) items
    d.viaOut v 0x01 y.1 n y.2
  | (d, some st) => d.viaSt v 0x01 st

/-! ### WRITE (R31, R32) -/

/-- The key of an item. -/
def itemKey (it : WriteItem) : Nat := it.index * 256 + it.sub

/-- One item: the state after it, the code of its check, and the code of its effect. -/
def Device.writeItem (m : Memories) (d0 : Device) (env : WriteEnv) (r : Req) (it : WriteItem) :
    Memories × Device × Status × Status :=
  let d := d0.seeVpp env
  let st := if it.rsv ≠ 0 then Status.reserved else d.writeCheck m r (itemKey it) it.ty it.value
  match st, findEntry (itemKey it) with
  | .ok, some e =>
    let x := d.applyVal m env r (itemKey it) e (valOf e it.value)
    (x.1, x.2.1, .ok, x.2.2)
  | _, _ => (m, d, st, st)

/-- The items of a WRITE, each met by the effects of those before it (log entry 38). -/
def Device.writeItems (env : WriteEnv) (r : Req) : Memories → Device → List WriteItem →
    Memories × Device × List (Status × Status)
  | m, d, [] => (m, d, [])
  | m, d, it :: rest =>
    let x := d.writeItem m env r it
    let y := Device.writeItems env r x.1 x.2.1 rest
    (y.1, y.2.1, (x.2.2.1, x.2.2.2) :: y.2.2)

/-- R42: the payload of a WRITE response. -/
def writeReply : List WriteItem → List Status → List Nat
  | it :: its, st :: sts => leBytes 2 it.index ++ [it.sub, st.code] ++ writeReply its sts
  | _, _ => []

/-- The first code that is not OK. -/
def firstCode (l : List Status) : Nat := ((l.find? (fun s => s != .ok)).getD .ok).code

/-- The channel whose HEAD_MEM the last such item has begun to write (R120). -/
def Device.memStarted (d : Device) (keys : List Nat) : Option Nat :=
  match (keys.filter (fun k => k / 256 == 0x2509)).getLast? with
  | some k => if (d.chan (k % 256 - 1)).write.isSome then some (k % 256 - 1) else none
  | none => none

/-- The response goes out, or waits for the read-back of channel c. -/
def Device.answerOrWait (d : Device) (v : Via) (op st count : Nat) (payload : List Nat) (wait : Option Nat) : Device :=
  match wait with
  | none => d.viaOut v op st count payload
  | some c =>
    let x := d.chan c
    match x.write with
    | none => d.viaOut v op st count payload
    | some w => d.setChan c { x with write := some { w with resp := some (d.viaAnswer v op st count payload) } }

/-- R32: WRITE, all or nothing. -/
def Device.qdpWrite (m : Memories) (d0 : Device) (v : Via) (env : WriteEnv) (items : List WriteItem) :
    Memories × Device :=
  let n := items.length
  let len := (items.map (fun it => 8 + padLen it.value.length)).foldl (· + ·) 0
  match d0.viaIn v 0x02 (some n) len with
  | (d, none) => (m, d)
  | (d, some .ok) =>
    let y := Device.writeItems env (viaReq v) m d items
    if y.2.2.all (fun p => p.1 == .ok) then
      let sts := y.2.2.map Prod.snd
      (y.1, y.2.1.answerOrWait v 0x02 (firstCode sts) n (writeReply items sts)
        (y.2.1.memStarted (items.map itemKey)))
    else
      let sts := y.2.2.map (fun p => if p.1 = .ok then Status.notApplied else p.1)
      (m, (d.seeVpp env).viaOut v 0x02 (firstCode (y.2.2.map Prod.fst)) n (writeReply items sts))
  | (d, some st) => (m, d.viaSt v 0x02 st)

/-! ### DOMAIN transfers (R41, R44) -/

/-- The transfer in progress and the last completed one of a requester. -/
def Device.xferOf (d : Device) : Req → Option Xfer × Option Xfer
  | .session n => match d.session? n with | some s => (s.xfer, s.lastDone) | none => (none, none)
  | .mailbox w => ((d.shop w).xfer, (d.shop w).lastDone)
  | _ => (none, none)

/-- Set them. -/
def Device.setXfer (d : Device) (r : Req) (x done : Option Xfer) : Device :=
  match r with
  | .session n => match d.session? n with
    | some s => d.setSession { s with xfer := x, lastDone := done }
    | none => d
  | .mailbox w => d.setShop w { d.shop w with xfer := x, lastDone := done }
  | _ => d

/-- The transfers in progress in the device. -/
def Device.xfers (d : Device) : List Xfer :=
  d.dict.sessions.filterMap (fun s => s.xfer) ++ allShops.filterMap (fun w => (d.shop w).xfer)

/-- R44: a further transfer of this requester is refused with BUSY. -/
def Device.xferBusy (d : Device) (r : Req) : Bool := (d.xferOf r).1.isSome || decide (4 ≤ d.xfers.length)

/-- R41, R44: what a DOMAIN_READ_START comes to: its status and the frozen content. -/
def Device.readStart (m : Memories) (d : Device) (r : Req) (k : Nat) : Status × List Nat :=
  match placeOf k with
  | .absent st => (st, [])
  | .count _ => (.length, [])
  | .entry e =>
    if e.ty ≠ .domain then (.length, [])
    else
      match Device.readCheck (d.reqLevel r) e with
      | .ok =>
        if d.xferBusy r then (.busy, [])
        else if k = Reg.IN_FORCE_VALUE then d.readSelected m r
        else (.ok, valBytes e (d.readVal m k e false))
      | st => (st, [])

/-- DOMAIN_READ_START. -/
def Device.qdpReadStart (m : Memories) (d0 : Device) (v : Via) (index sub rsv : Nat) : Device :=
  match d0.viaIn v 0x04 none 4 with
  | (d, none) => d
  | (d, some .ok) =>
    let k := index * 256 + sub
    if rsv ≠ 0 then d.viaSt v 0x04 .reserved
    else
      match d.readStart m (viaReq v) k with
      | (.ok, l) => (d.setXfer (viaReq v) (some { key := k, total := l.length, data := l, active := d.now }) none).viaSt v 0x04 .ok
      | (st, _) => d.viaSt v 0x04 st
  | (d, some st) => d.viaSt v 0x04 st

/-- R44: the payload of a DOMAIN_READ_SEG response. -/
def segPayload (x : Xfer) (off n : Nat) : List Nat :=
  (if off = 0 then leBytes 4 x.total else []) ++ (x.data.drop off).take n

/-- R44: how many data bytes a DOMAIN_READ_SEG response carries: the smallest of the request's maximum, the bytes that
remain and those that fit. -/
def Device.segLen (d : Device) (v : Via) (x : Xfer) (off max : Nat) : Nat :=
  Nat.min max (Nat.min (x.total - off) (d.viaLimit v - (if off = 0 then 4 else 0)))

/-- R44: DOMAIN_READ_SEG at an offset, at most `max` bytes: the response's status and payload. A refused segment starts the
idle time anew as an accepted one does (log entry 185). The transfer ends when its
last byte has gone out; that segment may still be repeated. A repeated segment has the length that the repeating
request allows, and the transfer goes on behind it (log entry 39). -/
def Device.readSeg (d : Device) (v : Via) (off max : Nat) : Device × Status × List Nat :=
  let r := (viaReq v)
  let again (x : Option Xfer) : Option Xfer := match x with
    | some y => if y.write = false ∧ y.lastOff = some off then some y else none
    | none => none
  match d.xferOf r with
  | (some x, done) =>
    let next := match x.lastOff with
      | some o => o + x.lastLen
      | none => 0
    if x.write then (d, .domainState, [])
    else if (again (some x)).isSome ∧ next ≠ off then
      let n := d.segLen v x off max
      (d.setXfer r (some { x with lastLen := n, active := d.now }) done, .ok, segPayload x off n)
    else if off ≠ next then (d.setXfer r (some { x with active := d.now }) done, .domainState, [])
    else
      let n := d.segLen v x off max
      let y := { x with lastOff := some off, lastLen := n, active := d.now }
      (if x.total ≤ off + n then d.setXfer r none (some y) else d.setXfer r (some y) done, .ok, segPayload x off n)
  | (none, done) =>
    match again done with
    | some y => (d, .ok, segPayload y off (d.segLen v y off max))
    | none => (d, .domainState, [])

/-- DOMAIN_READ_SEG. -/
def Device.qdpReadSeg (d0 : Device) (v : Via) (off max rsv : Nat) : Device :=
  match d0.viaIn v 0x05 none 8 with
  | (d, none) => d
  | (d, some .ok) =>
    if rsv ≠ 0 then d.viaSt v 0x05 .reserved
    else
      let y := d.readSeg v off max
      y.1.viaOut v 0x05 y.2.1.code 0 y.2.2
  | (d, some st) => d.viaSt v 0x05 st

/-- R26, R44: what a DOMAIN_WRITE_START is refused with. -/
def Device.writeStartCheck (d : Device) (r : Req) (k total : Nat) : Status :=
  match placeOf k with
  | .absent st => st
  | .count _ => .length
  | .entry e =>
    if e.ty ≠ .domain then .length
    else
      match d.accessCheck r k e with
      | .ok =>
        match d.lenCheck k e total with
        | .ok =>
          if d.pwr.phase == .strapFault && subsysHeld k e then .state
          else if d.xferBusy r ∨ d.xfers.any (fun x => x.key == k) = true then .busy
          else .ok
        | st => st
      | st => st

/-- R44: the whole content has come: its CRC is checked, and it is applied or refused. -/
def Device.writeWhole (m : Memories) (d : Device) (env : WriteEnv) (r : Req) (x : Xfer) : Memories × Device × Status :=
  if crc32c x.data ≠ x.crc then (m, d, .check) else d.writeKey m env r x.key 12 x.data

/-- The response to the request that completed a write. -/
def Device.wholeAnswer (d : Device) (v : Via) (op : Nat) (x : Xfer) (st : Status) : Device :=
  d.answerOrWait v op st.code 0 [] (if st = .ok then d.memStarted [x.key] else none)

/-- DOMAIN_WRITE_START. -/
def Device.qdpWriteStart (m : Memories) (d0 : Device) (v : Via) (env : WriteEnv) (index sub rsv total crc : Nat) :
    Memories × Device :=
  match d0.viaIn v 0x06 none 12 with
  | (d, none) => (m, d)
  | (d, some .ok) =>
    let r := (viaReq v)
    let k := index * 256 + sub
    let x : Xfer := { write := true, key := k, total := total, crc := crc, active := d.now }
    match if rsv ≠ 0 then Status.reserved else d.writeStartCheck r k total with
    | .ok =>
      if total = 0 then
        let y := d.writeWhole m env r x
        (y.1, y.2.1.wholeAnswer v 0x06 x y.2.2)
      else (m, (d.setXfer r (some x) none).viaSt v 0x06 .ok)
    | st => (m, d.viaSt v 0x06 st)
  | (d, some st) => (m, d.viaSt v 0x06 st)

/-- R44: a DOMAIN_WRITE_SEG repeats the last acknowledged segment. -/
def segAgain (x : Option Xfer) (off len : Nat) : Bool :=
  match x with
  | some y => y.write && y.lastOff == some off && y.lastLen == len
  | none => false

/-- R44: DOMAIN_WRITE_SEG. A final segment that repeats a completed write's is acknowledged again. A refused segment starts the
idle time anew as an accepted one does (log entry 185). -/
def Device.writeSeg (m : Memories) (d : Device) (v : Via) (env : WriteEnv) (off : Nat) (data : List Nat) :
    Memories × Device :=
  let r := (viaReq v)
  let ok (d : Device) (st : Status) : Memories × Device := (m, d.viaSt v 0x07 st)
  match d.xferOf r with
  | (none, done) => if segAgain done off data.length then ok d .ok else ok d .domainState
  | (some x, done) =>
    let got := x.data.length
    let live := d.setXfer r (some { x with active := d.now }) done
    if x.write = false then ok d .domainState
    else if off ≠ got then (if segAgain (some x) off data.length then ok live .ok else ok live .domainState)
    else if x.total < got + data.length then ok (d.setXfer r none none) .length
    else
      let y := { x with data := x.data ++ data, lastOff := some off, lastLen := data.length, active := d.now }
      if y.data.length = x.total then
        let z := (d.setXfer r none none).writeWhole m env r y
        let z1 := if z.2.2 = .ok then z.2.1.setXfer r none (some { y with data := [] }) else z.2.1
        (z.1, z1.wholeAnswer v 0x07 y z.2.2)
      else ok (d.setXfer r (some y) done) .ok

/-- DOMAIN_WRITE_SEG with its length field. -/
def Device.qdpWriteSeg (m : Memories) (d0 : Device) (v : Via) (env : WriteEnv) (off len rsv : Nat) (data : List Nat) :
    Memories × Device :=
  match d0.viaIn v 0x07 none (8 + data.length) with
  | (d, none) => (m, d)
  | (d, some .ok) =>
    if rsv ≠ 0 then (m, d.viaSt v 0x07 .reserved)
    else if len ≠ data.length then (m, d.viaSt v 0x07 .format)
    else d.writeSeg m v env off data
  | (d, some st) => (m, d.viaSt v 0x07 st)

/-- DOMAIN_ABORT (R44). -/
def Device.qdpAbort (d0 : Device) (v : Via) : Device :=
  match d0.viaIn v 0x08 none 0 with
  | (d, none) => d
  | (d, some .ok) => (d.setXfer (viaReq v) none none).viaSt v 0x08 .ok
  | (d, some st) => d.viaSt v 0x08 st

/-- DOMAIN_IDLE_TIMEOUT of a requester's transfer (R44). -/
def Device.xferIdle (d : Device) (r : Req) : Device :=
  match d.xferOf r with
  | (some x, _) => if x.active + cycMs (d.regN Reg.DOMAIN_IDLE_TIMEOUT_MS) ≤ d.now then d.setXfer r none none else d
  | (none, _) => d

/-! ### Sessions (R27, R28) -/

/-- R27: the next session number after `n`, skipping those of open sessions. -/
def nextSession (used : List Nat) : Nat → Nat → Nat
  | 0, n => n
  | f + 1, n =>
    let x := if n = 0xFFFE then 1 else n + 1
    if used.contains x then nextSession used f x else x

/-- R30: authentication is locked out. The lockout's length is LOCKOUT_S as it stands now, so a write during a lockout
moves its end: DESIGN CHOICE, the spec does not say which value a running lockout keeps (log entry 156). -/
def Device.lockedOut (d : Device) : Bool :=
  match d.dict.lockedAt with
  | some t => decide (d.now < t + cycS (d.regN Reg.LOCKOUT_S))
  | none => false

/-- R27 … R30: what a SESSION_OPEN is refused with. -/
def Device.openCheck (d : Device) (level : Nat) (rsv : Bool) : Status :=
  if level = 1 ∧ d.lockedOut = true then .lockedOut
  else if rsv = true ∨ (level ≠ 1 ∧ level ≠ 2) then .reserved
  else if level = 1 ∧ d.blob? Reg.OPERATOR_KEY = none then .state
  else if 8 ≤ d.dict.sessions.length then .busy
  else .ok

/-- SESSION_OPEN requesting `level`. -/
def Device.qdpOpen (d0 : Device) (h : QdpHdr) (level : Nat) (rsv : Bool) : Device :=
  match d0.qdpIn h 0x10 none 4 with
  | (d, none) => d
  | (d, some .ok) =>
    match d.openCheck level rsv with
    | .ok =>
      let n := nextSession (d.dict.sessions.map Session.num) 9 d.dict.lastNum
      let (non, d1) := d.takeNonce (if level = 1 then 16 else 0)
      let s : Session := { num := n, ip := h.srcIp, port := h.srcPort, rx := h.rx, lastSeen := d.now,
                           opNonce := if level = 1 then some non else none }
      ({ d1 with dict := { d1.dict with sessions := d1.dict.sessions ++ [s], lastNum := n } } : Device).qdpPlain h 0x10 n
        .ok non
    | st => d.qdpPlain h 0x10 0 st []
  | (d, some st) => d.qdpPlain h 0x10 0 st []

/-- R27: a session closes; its transfer, its selections and its streams go with it. Its EVENTs that are still unanswered
go too and are not counted in EVENTS_UNDELIVERED: DESIGN CHOICE, R45 counts an EVENT after its last repeat and says
nothing of a session that closes before (log entry 155). -/
def Device.closeSession (d : Device) (n : Nat) : Device :=
  let d1 := d.closeStreamsOf n
  { d1 with dict := { d1.dict with sessions := d1.dict.sessions.filter (fun s => s.num != n) } }

/-- SESSION_CLOSE. -/
def Device.qdpClose (d0 : Device) (h : QdpHdr) : Device :=
  match d0.qdpIn h 0x11 none 0 with
  | (d, none) => d
  | (d, some .ok) => (d.qdpDone h 0x11 0 0 []).closeSession h.session
  | (d, some st) => d.qdpDone h 0x11 st.code 0 []

/-- SESSION_TIMEOUT of session n. -/
def Device.sessionTimeout (d : Device) (n : Nat) : Device :=
  match d.session? n with
  | some s =>
    if d.served && decide (s.lastSeen + cycMs (d.regN Reg.SESSION_TIMEOUT_MS) ≤ d.now) then d.closeSession n else d
  | none => d

/-- KEEPALIVE. -/
def Device.qdpKeep (d0 : Device) (h : QdpHdr) : Device :=
  match d0.qdpIn h 0x30 none 0 with
  | (d, none) => d
  | (d, some st) => d.qdpDone h 0x30 st.code 0 []

/-! ### Authentication (R28 … R30) -/

/-- R30: a failed authentication; the last of LOCKOUT_THRESHOLD consecutive ones begins a lockout. -/
def Device.authFailed (d : Device) : Device :=
  let d1 := d.incReg Reg.AUTH_FAILURES
  let run := d1.dict.authRun + 1
  if run < d1.regN Reg.LOCKOUT_THRESHOLD then { d1 with dict := { d1.dict with authRun := run } }
  else
    ({ d1 with dict := { d1.dict with authRun := 0, lockedAt := some d1.now } } : Device).raise Ev.AUTH_LOCKOUT 0xFF
      [.raw 4 (d1.regN Reg.AUTH_FAILURES), .u 2 (d1.regN Reg.LOCKOUT_S)]

/-- R30: a successful authentication. -/
def Device.authPassed (d : Device) : Device := { d with dict := { d.dict with authRun := 0 } }

/-- R28: the value that an AUTH must carry. -/
def Device.authValue (d : Device) (nonce : List Nat) (n : Nat) : List Nat :=
  (hmac256 (d.blob Reg.OPERATOR_KEY) (nonce ++ leBytes 2 n)).take 16

/-- R28: a session's first AUTH spends the nonce of its SESSION_OPEN. -/
def Device.nonceSpent (d : Device) (n : Nat) : Device :=
  match d.session? n with
  | some s => d.setSession { s with opNonce := none }
  | none => d

/-- AUTH. An AUTH refused with LOCKED_OUT is the session's first AUTH like any other (R28); one refused with FORMAT is
not an AUTH that the session sent (log entry 157). -/
def Device.qdpAuth (d0 : Device) (h : QdpHdr) (mac : List Nat) : Device :=
  match d0.qdpIn h 0x12 none 16 with
  | (d, none) => d
  | (d, some .ok) =>
    if mac.length ≠ 16 then d.qdpDone h 0x12 Status.format.code 0 []
    else if d.lockedOut then (d.nonceSpent h.session).qdpDone h 0x12 Status.lockedOut.code 0 []
    else
      match d.session? h.session with
      | none => d
      | some s =>
        match s.opNonce with
        | none => d.qdpDone h 0x12 Status.state.code 0 []
        | some non =>
          if mac = d.authValue non s.num then
            ((d.setSession { s with opNonce := none, level := if s.level = .serv then .serv else .oper }).authPassed).qdpDone h 0x12 0 0 []
          else ((d.qdpDone h 0x12 Status.auth.code 0 []).closeSession h.session).authFailed
  | (d, some st) => d.qdpDone h 0x12 st.code 0 []

/-- R29: two sessions hold SERVICE. -/
def Device.serviceFull (d : Device) : Bool := decide (2 ≤ (d.dict.sessions.filter (fun s => s.level == .serv)).length)

/-- CHALLENGE. -/
def Device.qdpChallenge (d0 : Device) (h : QdpHdr) : Device :=
  match d0.qdpIn h 0x13 none 0 with
  | (d, none) => d
  | (d, some .ok) =>
    if d.lockedOut then d.qdpDone h 0x13 Status.lockedOut.code 0 []
    else if d.oemLocked = false then d.qdpDone h 0x13 Status.state.code 0 []
    else if d.serviceFull then d.qdpDone h 0x13 Status.busy.code 0 []
    else
      match d.session? h.session with
      | none => d
      | some s =>
        let (non, d1) := d.takeNonce 48
        (d1.setSession { s with svNonce := some non, svAt := d.now }).qdpDone h 0x13 0 0
          (non ++ leBytesI 4 (d.numInForce Reg.SERIAL))
  | (d, some st) => d.qdpDone h 0x13 st.code 0 []

/-- R29: both checks of a RESPONSE. -/
def Device.responseOk (d : Device) (nonce : List Nat) (n : Nat) (sig pub : List Nat) : Bool :=
  d.oemHash == some (sha384 pub) && ecdsaOk pub sig (nonce ++ leBytesI 4 (d.numInForce Reg.SERIAL) ++ leBytes 2 n)

/-- R29: a RESPONSE on session s, which consumes the nonce: the device and the status. -/
def Device.responseTake (d : Device) (s : Session) (sig pub : List Nat) : Device × Status :=
  let used := { s with svNonce := none }
  if d.lockedOut then (d.setSession used, .lockedOut)
  else
    match s.svNonce with
    | none => (d, .state)
    | some non =>
      if s.svAt + cycS 30 < d.now then (d.setSession used, .state)
      else if d.responseOk non s.num sig pub = false then ((d.setSession used).authFailed, .auth)
      else if s.level ≠ .serv ∧ d.serviceFull = true then (d.setSession used, .busy)
      else ((d.setSession { used with level := .serv }).authPassed, .ok)

/-- RESPONSE. -/
def Device.qdpResponse (d0 : Device) (h : QdpHdr) (sig pub : List Nat) : Device :=
  match d0.qdpIn h 0x14 none 193 with
  | (d, none) => d
  | (d, some .ok) =>
    if sig.length ≠ 96 ∨ pub.length ≠ 97 then d.qdpDone h 0x14 Status.format.code 0 []
    else
      match d.session? h.session with
      | none => d
      | some s =>
        let y := d.responseTake s sig pub
        y.1.qdpDone h 0x14 y.2.code 0 []
  | (d, some st) => d.qdpDone h 0x14 st.code 0 []

/-- LOCKOUT_END (R30). -/
def Device.lockoutEnd (d : Device) : Device :=
  if d.dict.lockedAt.isSome && !d.lockedOut then { d with dict := { d.dict with lockedAt := none } } else d

/-! ### Events (R45) -/

/-- EVENT_SUBSCRIBE. -/
def Device.qdpSubscribe (d0 : Device) (h : QdpHdr) (sev : Nat) (rsv : Bool) : Device :=
  match d0.qdpIn h 0x20 none 4 with
  | (d, none) => d
  | (d, some .ok) =>
    if 3 < sev ∨ rsv = true then d.qdpDone h 0x20 Status.reserved.code 0 []
    else
      match d.session? h.session with
      | none => d
      | some s => (d.setSession { s with sub := some sev, port := h.srcPort }).qdpDone h 0x20 0 0 []
  | (d, some st) => d.qdpDone h 0x20 st.code 0 []

/-- EVENT_ACK: an EVENT response from the session's address stops the resending of that EVENT. It is no request, so it has
no place in the order by SEQ and no answer (log entry 40). -/
def Device.eventAck (d : Device) (h : QdpHdr) (seq : Nat) : Device :=
  if d.served = false ∨ d.rxOpen h.rx = false then d
  else if d.quietV4 h.srcIp then d.incReg (Reg.un Reg.RX_DROPS (h.rx / 4))
  else if h.magic ≠ 0x4451 ∨ h.version ≠ 1 ∨ h.crcOk = false then d.incReg Reg.QDP_DISCARDS
  else
    match d.session? h.session with
    | none => d
    | some s =>
      if s.ip ≠ h.srcIp then d.incReg Reg.QDP_DISCARDS
      else d.setSession { s with lastSeen := d.now, rx := h.rx, unacked := s.unacked.filter (fun e => e.seq != seq) }

/-- EVENT_RESEND: an unanswered EVENT of session n is sent again, or counted after its 5 resends. -/
def Device.eventResend (d : Device) (n seq : Nat) : Device :=
  match d.session? n with
  | none => d
  | some s =>
    match s.unacked.find? (fun e => e.seq == seq) with
    | none => d
    | some e =>
      if d.served = false ∨ d.now < e.sentAt + cycMs (d.regN Reg.EVENT_RESEND_MS) then d
      else if 6 ≤ e.tries then
        (d.setSession { s with unacked := s.unacked.filter (fun x => x.seq != seq) }).incReg Reg.EVENTS_UNDELIVERED
      else
        let e' := { e with tries := e.tries + 1, sentAt := d.now }
        (d.setSession { s with unacked := s.unacked.map (fun x => if x.seq == seq then e' else x) }).post s.rx 3
          (.event s.ip s.port s.num seq e.recs)

/-! ### BULK_SEND (R357) -/

/-- R355 … R357: what a BULK_SEND is refused with. A device none of whose links to the destination is up has no ring to send
by (log entry 204). -/
def Device.bulkCheck (d : Device) (b : MbHdr) (op pos eng len : Nat) (data : List Nat) : Status :=
  if op ≠ 0x40 then .format
  else
    match mbHeadCheck b none (4 + data.length) with
    | .ok =>
      if 1020 < len ∨ 1020 < data.length then .tooLarge
      else if len ≠ data.length then .format
      else if d.hasRing = false then .role
      else if d.regN Reg.RING_SIZE ≤ pos ∨ 4 ≤ eng then .range
      else if pos ≠ d.regN Reg.RING_POSITION ∧ d.linkUp (d.towards pos) = false then .role
      else .ok
    | st => st

/-- R357: BULK_SEND from a Workshop engine. A message to the device's own position enters its own ring. A request of an OPCODE
that R355 does not list is answered as one whose header breaks it. -/
def Device.bulkSend (d : Device) (b : MbHdr) (op pos eng len : Nat) (data : List Nat) : Device :=
  let (d0, ok) := d.mbPost b.w { slot := b.slot, tag := b.tag, opcode := op }
  if ok = false then d0
  else
    let st := d0.bulkCheck b op pos eng len data
    let d1 :=
      if st ≠ .ok then d0
      else if pos = d0.regN Reg.RING_POSITION then d0.bulkTake eng pos b.w data
      else d0.hallSend (d0.towards pos) 0x30 0 ([pos, eng] ++ leBytes 2 len ++ data)
    d1.mbAnswer b.w b.slot b.flags st.code 0 []

/-! ### The generic write -/

/-- ENTRY_WRITE: one write of bytes under a type code to any entry. -/
def Device.entryWrite (m : Memories) (d : Device) (env : WriteEnv) (r : Req) (k ty : Nat) (bs : List Nat) :
    Memories × Device :=
  if d.served = false then (m, d)
  else
    let x := d.writeKey m env r k ty bs
    (x.1, x.2.1.send (.result r k x.2.2))

/-- IN_FORCE_VALUE_READ: the value in force that a requester's selection names, told to the requester. -/
def Device.selectedRead (m : Memories) (d : Device) (r : Req) : Device :=
  if d.served = false then d
  else
    let x := d.readSelected m r
    d.send (.value r x.1 x.2)

end Sys2Proof.Machine
end

