-- ==== Sys2Proof/Machine/BootOps.lean ====
section
/-! DEFINITION. Boot (R396 … R405): the steps, the straps, the records of the flash that are read (R238, R239), the boot
timeout and the boot ROM. -/
namespace Sys2Proof.Machine

/-! ### Records that are read at boot (R238, R239) -/

/-- CAL_INDEX. -/
def Device.restoreCalIndex (d : Device) (p : List Nat) : Device :=
  (List.range 11).foldl (fun (d : Device) c =>
    (d.setRegN (Reg.CAL_COUNT + c) (fieldAt p (12 * c) 4)).setRegN (Reg.CAL_LAST_TB3_NS + c) (fieldAt p (12 * c + 4) 8)) d

/-- ONCHIP: the selections, the trims of the analogue inputs, the excluded lanes and the retired Room. A value that fails
its class's limit (R223) is not used (R224): a selection is judged when the segments are measured. -/
def Device.restoreOnchip (d : Device) (p : List Nat) : Device :=
  let sel := (List.range 3).map (fun i => fieldAt p (2 * i) 2)
  let d2 := (List.range 16).foldl (fun (d : Device) i =>
    let g := fieldAtI p (6 + 2 * i) 2
    let o := fieldAtI p (38 + 2 * i) 2
    let dg := if g.natAbs ≤ 655 then d.setReg (Reg.AIN_TRIM_GAIN + i) g else d
    if o.natAbs ≤ 256 then dg.setReg (Reg.AIN_TRIM_OFFSET + i) o else dg) d
  let lanes := (bytesAt p 70 4).map (fun l => if l ≤ 4 then l else 255)
  let rooms := fieldAt p 74 4 % 2 ^ 25
  { d2 with cal := { d2.cal with
    delayUser := sel, laneEx := lanes, retired := if (bitsOf 24 rooms).length ≤ 1 then rooms else 0 } }

/-- BAR: the flight times and the trims. -/
def Device.restoreBar (d : Device) (p : List Nat) : Device :=
  let d1 := allChans.foldl (fun (d : Device) c =>
    (d.setRegN (Reg.FLIGHT_NS + c) (fieldAt p (4 * c) 4)).setReg (Reg.HEAD_TRIM_PU + c) (fieldAtI p (768 + 4 * c) 4)) d
  (List.range 16).foldl (fun (d : Device) i => d.setReg (Reg.PLANE_TRIM_PU + i) (fieldAtI p (1536 + 4 * i) 4)) d1

/-- R257: a mirrored record's 32 bytes. -/
def eventOf (b : List Nat) : EventRec :=
  { code := fieldAt b 0 2, sev := fieldAt b 2 1, unit := fieldAt b 3 1, glc := fieldAt b 4 6, detail := bytesAt b 10 6,
    pt := fieldAtI b 16 8, tb3 := fieldAt b 24 8 }

/-- R261: the fault mirror, ahead of what this boot has added. -/
def Device.restoreMirror (d : Device) (p : List Nat) : Device :=
  let n := Nat.min 64 (fieldAt p 0 2)
  let all := (List.range n).map (fun i => eventOf (bytesAt p (4 + 32 * i) 32)) ++ d.log.mirror
  { d with log := { d.log with mirror := all.drop (all.length - 64) } }

/-- NOZZLE of channel c: the words, their origins, and the head that they belong to; they stand until another head is
found (R238; log entry 150). -/
def Device.restoreNozzle (d : Device) (c : Nat) (l : List Nat) : Device :=
  let p := recPayload l
  let n := fieldAt p 0 2
  let d0 := (d.setNozMap c { len := some n }).setBlob (Reg.KNOWN_SERIAL + c) (unpad (bytesAt l 32 16))
  let d1 := (List.range n).foldl (fun (d : Device) i =>
    (d.writeNoz c i (fieldAt p (4 + 4 * i) 4)).setOrigin c i (fieldAt p (4 + 4 * n + i) 1)) d0
  { d1 with cal := { d1.cal with nozFrom := assocSet d1.cal.nozFrom c d1.now } }

/-- R238, R239: one record that is in use is written into its entries. An ONCHIP record of another device is not used. -/
def Device.restoreRecord (d : Device) (key : Nat) (l : List Nat) : Device :=
  let t := key / 256
  let p := recPayload l
  if t = 0 then d.restoreCalIndex p
  else if t = 1 then
    (if fieldAt l 28 4 = d.fuse 0 4 then d.restoreOnchip p else d.raise Ev.CELLAR_FOREIGN 1 [.raw 0 (fieldAt l 28 4)])
  else if t = 2 then d.restoreBar p
  else if t = 3 then d.restoreMirror p
  else if t = 4 then d.restoreNozzle (key % 256) l
  else if t = 6 then d.setBlob (Reg.MATRIX + key % 256) p
  else d

/-- The keys of the Cellar's records but the profiles, in the order of R236. -/
def cellarKeys : List Nat :=
  [0, 256, 512, 768] ++ (List.range 192).map (· + 1024) ++ (List.range 8).map (· + 1536)

/-- R238, R239: the records but the profiles. What is read back is not dirty. -/
def Device.readCellar (m : List Host.Cell) (d : Device) : Device :=
  let d1 := cellarKeys.foldl (fun (d : Device) key =>
    match d.readRecord m key with
    | (d0, some l) => d0.restoreRecord key l
    | (d0, none) => d0) d
  { d1 with cellar := { d1.cellar with dirty := d.cellar.dirty, urgent := d.cellar.urgent } }

/-- R224: the classes with a factory part whose factory values are missing. -/
def Device.factoryCheck (d : Device) : Device :=
  [0, 1, 2].foldl (fun (d : Device) c =>
    if bit (d.regN Reg.FACTORY_VALID) c then d else d.raise Ev.CAL_FACTORY_MISSING c []) d

/-- R224: the selections in force before the records are read: the factory's, where they are valid. -/
def Device.factoryDelay (d : Device) : Device :=
  if bit (d.regN Reg.FACTORY_VALID) 0 then
    (List.range 3).foldl (fun (d : Device) i => d.setRegN (Reg.DELAY_SEL_IN_FORCE + i) (d.fuse (256 + 2 * i) 2)) d
  else d

/-- PROFILE_VALID and PROFILE_GENERATION of profile u from the copy in use. -/
def Device.noteValid (d : Device) (u : Nat) : Device :=
  match assoc d.cellar.inUse (5 * 256 + u) with
  | some (_, g) =>
    (d.setRegN Reg.PROFILE_VALID (setBit (d.regN Reg.PROFILE_VALID) u)).setRegN (Reg.PROFILE_GENERATION + u) g
  | none => d

/-- R33, R242, R405: profile u is the strapped one: its items are in force, the "at reset" ones stored as well, or it
fails and the defaults stand. -/
def Device.strapProfile (m : Memories) (d : Device) (u : Nat) : Device :=
  match d.readProfile m u with
  | (d1, .bad k) => d1.profileFail u k
  | (d1, .good items) =>
    let d2 := { d1 with boot := { d1.boot with prof := items } }
    let d3 := items.foldl (fun (d : Device) kv =>
      let z := d.setVal kv.1 kv.2
      match findEntry kv.1 with
      | some e => if e.takes = .atReset then { z with dict := { z.dict with stored := assocSet z.dict.stored kv.1 kv.2 } }
        else z
      | none => z) d2
    let gen := match assoc d3.cellar.inUse (5 * 256 + u) with
      | some (_, g) => g
      | none => 0
    (d3.setReg Reg.PROFILE_STATUS 2).raise Ev.PROFILE_LOADED u [.u 0 gen]

/-- The profiles: each pair is read, the strapped one loaded. -/
def Device.readProfiles (m : Memories) (d : Device) : Device :=
  let u := d.regN Reg.STRAP_PROFILE
  let d1 := ((List.range 8).filter (fun n => n != u)).foldl (fun (d : Device) n => (d.readRecord m.flash (5 * 256 + n)).1) d
  let d2 := Device.strapProfile m d1 u
  (List.range 8).foldl (fun (d : Device) n => d.noteValid n) d2

/-- The boot configuration record (after R399): its items are stored and in force. -/
def Device.readBootConf (m : List Host.Cell) (d : Device) : Device :=
  match d.readRecord m bootRecKey with
  | (d1, none) => d1
  | (d1, some l) =>
    let p := recPayload l
    match itemsOf (p.length + 1) p with
    | none => d1
    | some items => items.foldl (fun (d : Device) it =>
        match findEntry it.1 with
        | some e =>
          let v := valOf e it.2.2.2
          if bootKeys.contains it.1 then
            ({ d with dict := { d.dict with stored := assocSet d.dict.stored it.1 v } } : Device).setVal it.1 v
          else d
        | none => d) d1

/-! ### The straps (R17, R18, R404) -/

/-- Three samples packed into a number, the first lowest. -/
def packSamples (w : Nat) (l : List Nat) : Nat := leNat' w l
where
  leNat' (w : Nat) : List Nat → Nat
    | [] => 0
    | x :: xs => x % 2 ^ w + 2 ^ w * leNat' w xs

/-- R404: the straps are sampled: profile and role, or a strap fault, in which the role is 3. PROFILE_ACTIVE takes the profile
where the samples agree. -/
def Device.sampleStraps (d : Device) (l : List (Nat × Nat)) : Device :=
  let p := (l.headD (0, 0)).1 % 8
  let r := (l.headD (0, 0)).2 % 4
  let same := l.all (fun x => x.1 % 8 == p && x.2 % 4 == r)
  let bad := !same || r == 3
  let d1 := { d with role := if bad then 3 else r, boot := { d.boot with straps := l, strapBad := bad } }
  if same then ((d1.setRegN Reg.STRAP_PROFILE p).setRegN Reg.STRAP_ROLE r).setRegN Reg.PROFILE_ACTIVE p else d1

/-! ### Steps (R396) -/

/-- Step 3: SLEEP_N low holds the device in NIGHT until a wake (R376; log entry 209). -/
def Device.bootHeld (d : Device) : Bool := d.pwr.sleepN == false && d.wakes == 0

/-- R376, R396 step 3: the device is held in NIGHT, its rails down; TB0 runs from the RC oscillator (R294). -/
def Device.holdNight (d : Device) : Device :=
  let at_ := d.time.nightAt.getD d.now
  ({ d with boot := { d.boot with hold := true }, time := { d.time with nightAt := some at_ },
            pwr := { d.pwr with phase := .night } } : Device).setReg Reg.PWR_STATE 3

/-- Step 4, R369: the used rails that are not up come up in ascending slot order; `pg` is each slot's time in µs from its enable to its PG.
One later than RAIL_PG_TIMEOUT_MS is a rail fault. -/
def Device.bootRails (d : Device) (pg : List Nat) : Device :=
  let one (x : Device × Nat × Bool) (k : Nat) : Device × Nat × Bool :=
    let (z, t, ok) := x
    if ok = false ∨ z.reg (Reg.un Reg.RAIL_STATE k) = 2 ∨ z.numInForce (Reg.un Reg.RAIL_USED k) ≠ 1 then x
    else
      let rise := pg.getD k 0
      let z1 := (z.setReg (Reg.un Reg.RAIL_STATE k) 1).send (.pwrEn k true t)
      if (z.numInForce (Reg.un Reg.RAIL_PG_TIMEOUT_MS k)).toNat * 1000 < rise then
        (z1.railFault k 1 (t + cycMs (z.numInForce (Reg.un Reg.RAIL_PG_TIMEOUT_MS k)).toNat), t, false)
      else
        (z1.setReg (Reg.un Reg.RAIL_STATE k) 2,
         t + cycUs (rise + 100 + (z.numInForce (Reg.un Reg.RAIL_DELAY_US k)).toNat), true)
  let r := (List.range 6).foldl one (d, d.now, true)
  if r.2.2 then r.1.setPhase (.boot 5) else r.1

/-- Step 6: core reset is released: the straps are sampled, the domains are on, and the position and TB0 come back from
AON. -/
def Device.bootCore (d : Device) (straps : List (Nat × Nat)) : Device :=
  let d1 := ({ d with boot := { d.boot with coreAt := d.now } } : Device).sampleStraps straps
  let d2 := d1.setRegN Reg.DOMAIN_ON 0 |>.domains (if d1.boot.strapBad then [0, 1, 52] else readyDomains) true
  let d3 := (if d2.pwr.aon.cause = 3 then d2.kaRestore else d2).tb0Wake
  (if d3.pwr.aon.cause = 1 then d3.setReg Reg.KA_STATUS 3 else d3).gridReset

/-- Step 7: the boot ROM loads the house image, or stays in control with the clamps closed (R397, R398). -/
def Device.bootHouse (m : List Host.Cell) (d : Device) : Device :=
  match Device.houseBoot m d (houseOrder m) with
  | (_, none) =>
    let d1 := d.setRegN Reg.DOMAIN_ON 1
    { d1 with boot := { d1.boot with romAt := d.now, released := false }, pwr := { d1.pwr with phase := .rom } }
  | (bad, some (s, l)) =>
    let v := fieldAt l 4 4
    let name := decimal 10 (v / 2 ^ 24) ++ ascii "." ++ decimal 10 (v / 2 ^ 16 % 256) ++ ascii "." ++
      decimal 10 (v % 2 ^ 16) ++ ascii (if s = 0 then " A" else " B")
    let d1 := ((d.setRegN Reg.HOUSE_SLOT s).setRegN Reg.HOUSE_VERSION v).setBlob Reg.FW_VERSION name
    { d1 with boot := { d1.boot with fallback := bad }, pwr := { d1.pwr with phase := .boot 8 } }

/-- What AON kept of the time before the reset is reported. -/
def Device.reportAon (d : Device) : Device :=
  let a := d.pwr.aon
  let d1 := match a.rail with
    | some (slot, cause) => d.raise Ev.PWR_RAIL_FAULT slot [.u 0 cause]
    | none => d
  let d2 := match a.tjShut with
    | some (tj, n) => d1.raise Ev.PWR_TJ_SHUTDOWN 0xFF [.s 2 tj, .u 0 n]
    | none => d1
  let d3 := match a.brown with
    | some st => (d2.incReg Reg.AON_BROWNOUTS).raise Ev.PWR_AON_BROWNOUT 0xFF [.u 0 st]
    | none => d2
  match a.nightFrom with
  | some st => d3.raise Ev.PWR_STATE_ENTERED 0xFF [.u 2 3, .u 0 st]
  | none => d3

/-- What the boot found before the firmware ran is reported. -/
def Device.reportBoot (d : Device) : Device :=
  let b := d.boot
  let d1 := if b.misCount = 0 then d else d.raise Ev.FOUNDATION_ERROR 0xFF [.u 2 b.misAt, .u 0 b.misCount]
  let d2 := b.fallback.foldl (fun (d : Device) x => d.raise Ev.BOOT_IMAGE_FALLBACK 0xFF [.u 2 x.1, .u 0 x.2]) d1
  let d2x := if b.noXtal then d2.raise Ev.CLK_REF_LOST 0xFF [.u 0 15] else d2
  let d3 := if b.noLane then d2x.raise Ev.CLK_LANE_REF_LOST 0xFF [.raw 0 ((Config.unstated 418 []).toNat % 2 ^ 32)] else d2x
  if b.strapBad then
    d3.raise Ev.STRAP_FAULT 0xFF [.u 2 (packSamples 3 (b.straps.map Prod.fst)), .u 0 (packSamples 2 (b.straps.map Prod.snd))]
  else d3

/-- R391, R407: PWR_STATE before the reset; what the record says of a power-on is open, for nothing was on before it
(log entry 23). -/
def Aon.stateBefore (a : Aon) : Nat := if a.cause = 0 then (Config.unstated 391 []).toNat % 256 else a.before

/-- Step 8: the house firmware starts. RESET_CAUSE is the first record of the log (R391); what was raised before it follows.
After a strap fault only the Porch and the dictionary serve (R18). -/
def Device.bootFirmware (m : List Host.Cell) (d : Device) : Device :=
  let a := d.pwr.aon
  let early := d.log.raised
  let d0 : Device := { d with log := { d.log with raised := [] }, boot := { d.boot with fwAt := d.now } }
  let d1 := ((d0.setRegN Reg.RESET_CAUSE a.cause).raise Ev.RESET_CAUSE 0xFF [.u 1 a.cause, .u 0 a.stateBefore]).flush
  let d2 := ((({ d1 with log := { d1.log with raised := early } } : Device).reportAon).reportBoot).readBootConf m
  let d3 := d2.engines (List.range 12) 0
  if d3.boot.strapBad then d3.porchReset.setPhase .strapFault
  else (d3.setReg Reg.PANTRY_STATE 1).setPhase (.boot 9)

/-- Step 9 (R346, R347): the Pantry trains, and where its configuration says so is then written with zeros, which the next
BOOT_STEP ends; one whose training failed lets the boot go on without it. -/
def Device.bootPantry (d : Device) (tries : List (TrainRes × TrainRes)) : Device :=
  if d.reg Reg.PANTRY_STATE = 2 then d.pantryInit.setPhase (.boot 10)
  else
    let d1 := d.pantryTrain tries
    if d1.reg Reg.PANTRY_STATE = 2 then d1 else d1.setPhase (.boot 10)

/-- R17: a device alone has no Hallway links. -/
def Device.aloneHall (d : Device) : Device :=
  if d.role = 0 then
    [0, 1].foldl (fun (d : Device) p => d.setReg (hallKey Reg.HALL_PORT_ENABLE p) 0) d
  else d

/-- Step 10: profiles and Cellar, the Mantel's self-test, the units' resets, and the Workshop. -/
def Device.bootCellar (m : Memories) (d : Device) (segs : List (List Nat)) : Device :=
  let d1 := (Device.readProfiles m (d.factoryDelay)).readCellar m.flash
  let d2 := ((d1.factoryCheck.gridReset).runDelay segs).restoreRetired
  let d3 := ((d2.pagesReset.boilerReset).boilerResume).windowStart
  (Device.workshopStart m.flash d3 false).aloneHall

/-- Step 11: the ports are enabled as their entries hold. -/
def Device.bootPorts (d : Device) : Device := (d.porchReset.timeReset).hallReset

/-- Step 12: READY, unless the Pantry failed its training: the device then serves the dictionary without reaching it (R347). The boot that a wake from NIGHT began ends in WAKE_TARGET (R386). -/
def Device.bootReady (d : Device) : Device :=
  if d.reg Reg.PANTRY_STATE ≠ 3 then d
  else
  let a := d.pwr.aon
  let ms := (d.now - d.boot.coreAt) / 400000
  let d1 := (d.setRegN Reg.BOOT_TIME_MS ms).raise Ev.BOOT_DONE 0xFF
    [.u 2 ms, .u 2 (d.regN Reg.HOUSE_SLOT), .u 0 (d.regN Reg.HOUSE_VERSION % 65536)]
  let night := decide (a.cause = 3 ∨ d.boot.wake ≠ 0)
  let d2 := if night then d1.setRegN Reg.WAKE_CAUSE d.boot.wake else d1
  let a' : Aon := { a with nightFrom := none, rail := none, tjShut := none, brown := none, retries := 0 }
  let d3 := { d2 with pwr := { d2.pwr with phase := .steady, aon := a', latches := if night then 0 else d2.pwr.latches,
                                           c0 := d2.pos.p0.c } }
  let d4 := d3.setReg Reg.PWR_STATE 1
  if a.cause = 3 ∧ a.target = 2 then d4.sampleRequest 2 else d4

/-- Step 5: a missing crystal holds the boot. Without the lane reference NET runs from PLL D (R418). -/
def Device.bootClocks (d : Device) (xtal lane : Bool) : Device :=
  if xtal = false then { d with boot := { d.boot with noXtal := true } }
  else if lane then d.setPhase (.boot 6)
  else
    let d1 := ((d.setReg Reg.LANE_REF_STATE 1).setRegN Reg.BACKUP_ACTIVE (setBit (d.regN Reg.BACKUP_ACTIVE) 4)).incReg
      Reg.CLK_FAULTS
    ({ d1 with boot := { d1.boot with noLane := true }, time := d1.time.setLane 0 } : Device).setPhase (.boot 6)

/-- BOOT_STEP: the step in progress completes and the next begins. -/
def Device.bootStep (m : Memories) (d : Device) (x : BootArgs) : Device :=
  match d.pwr.phase with
  | .boot 1 => d.setPhase (.boot 2)
  | .boot 2 => (Device.loadShadow m d).setPhase (.boot 3)
  | .boot 3 => if d.bootHeld then d.holdNight else d.setPhase (.boot 4)
  | .boot 4 => d.bootRails x.pg
  | .boot 5 => d.bootClocks x.xtal x.lane
  | .boot 6 => (d.bootCore x.straps).setPhase (.boot 7)
  | .boot 7 => d.bootHouse m.flash
  | .boot 8 => d.bootFirmware m.flash
  | .boot 9 => d.bootPantry x.tries
  | .boot 10 => (Device.bootCellar m d x.segs).setPhase (.boot 11)
  | .boot 11 => d.bootPorts.setPhase (.boot 12)
  | .boot _ => d.bootReady
  | _ => d

/-- R396 steps 9 to 12 are in progress. A boot that a failed Pantry keeps from READY is not: the image has started (R347; log
entry 203). -/
def Device.booting (d : Device) : Bool :=
  match d.pwr.phase with
  | .boot n => decide (9 ≤ n) && d.reg Reg.PANTRY_STATE != 5
  | _ => false

/-- BOOT_RETRY (R398): step 12 has not come within 2 s of step 8. The slot that timed out is not tried again. -/
def Device.bootRetry (m : Memories) (d : Device) : Memories × Device :=
  if d.booting && decide (d.boot.fwAt + cycS 2 ≤ d.now) then
    let a := d.pwr.aon
    let r := Device.resetTo m d 6 4
    let p := r.2.pwr
    (r.1, { r.2 with pwr := { p with aon := { p.aon with failed := a.failed ++ [d.regN Reg.HOUSE_SLOT] } } })
  else (m, d)

/-- BOOT_ROM_RELEASE (R398). -/
def Device.romRelease (d : Device) : Device :=
  if d.pwr.phase == .rom && !d.boot.released && decide (d.boot.romAt + cycS 1 ≤ d.now) then
    { d with boot := { d.boot with released := true } }
  else d

end Sys2Proof.Machine
end

