-- ==== Sys2Proof/Machine/CmdBase.lean ====
section
/-! DEFINITION. The forms that the meanings of the commands take: a command acts when its guard holds (its domain runs,
its unit exists, its service is there), and changes nothing when it does not; a command that is the write of one entry. -/
namespace Sys2Proof.Machine

/-- What a command comes to. -/
abbrev Out := Host.Outcome State Fault Refusal

/-- A command of a domain's unit: the domain is on and the unit exists. -/
def inDom (n : Nat) (p : Prop) [Decidable p] (d : Device) : Bool := d.domainOn n && decide p

/-- A command of the dictionary service. -/
def inService (p : Prop) [Decidable p] (d : Device) : Bool := d.served && decide p

/-- R2, R351: a command that house engine e carries out. -/
def inEng (e : Nat) (p : Prop) [Decidable p] (d : Device) : Bool := d.firmware && d.engUp e && decide p

/-- R2: a command of a domain that house engine e has to begin. -/
def inDomEng (n e : Nat) (p : Prop) [Decidable p] (d : Device) : Bool := inDom n p d && d.engUp e

/-- A command that acts on the device where its guard holds. -/
def State.when (s : State) (g : Device → Bool) (f : Device → Device) : Out :=
  s.onDev (fun d => if g d then f d else d)

/-- The same, reading the memories. -/
def State.whenM (s : State) (g : Device → Bool) (f : Memories → Device → Device) : Out :=
  s.onDevM (fun m d => if g d then f m d else d)

/-- The same, writing them. -/
def State.whenB (s : State) (g : Device → Bool) (f : Memories → Device → Memories × Device) :
    Out :=
  s.onBoth (fun m d => if g d then f m d else (m, d))

/-- The write of one number to one entry by a requester; the entry's unit must exist. -/
def State.put (s : State) (p : Prop) [Decidable p] (env : WriteEnv) (r : Req) (k : Nat) (v : Int) :
    Out :=
  s.whenB (inService p) (fun m d => d.writeNum m env r k v)

/-- The write of bytes to one entry. -/
def State.putBlob (s : State) (p : Prop) [Decidable p] (env : WriteEnv) (r : Req) (k : Nat) (l : List Nat) :
    Out :=
  s.whenB (inService p) (fun m d => d.writeBlob m env r k l)

end Sys2Proof.Machine
end

