-- ==== Sys2Proof/Machine/BoilerCmds.lean ====
section
/-! DEFINITION. The commands of the Boiler (R265 … R281), of the fault log (R257 … R263), of the Porch and of the time
bases (R282 … R305). -/
namespace Sys2Proof.Machine

/-- LOOP_SAMPLE (R270): `inp` is what the converter or the bus brings for slot k. -/
def execLoopSample (k inp : Nat) (s : State) : Out := s.when (inDom 55 (k < 64)) (fun d => d.loopSample k inp)

/-- LOOP_FORCE_SAFE (R276). -/
def execLoopForceSafe (r : Req) (k : Nat) (s : State) : Out := s.put (k < 64) {} r (Reg.un Reg.LOOP_LOOP_CMD k) 1

/-- LOOP_RESTORE (R276). -/
def execLoopRestore (r : Req) (k : Nat) (s : State) : Out := s.put (k < 64) {} r (Reg.un Reg.LOOP_LOOP_CMD k) 2

/-- LOOP_DISABLE (R278). -/
def execLoopDisable (r : Req) (k : Nat) (s : State) : Out := s.put (k < 64) {} r (Reg.un Reg.LOOP_ENABLE k) 0

/-- LOOP_ENABLE (R272). -/
def execLoopEnable (r : Req) (k : Nat) (s : State) : Out := s.put (k < 64) {} r (Reg.un Reg.LOOP_ENABLE k) 1

/-- LOOP_OFF (R278). -/
def execLoopOff (k : Nat) (s : State) : Out := s.when (inDom 55 (k < 64)) (fun d => d.loopOff k)

/-- PWM_PERIOD (R273). -/
def execPwmPeriod (b : Nat) (s : State) : Out := s.when (inDom 55 (b < 8)) (fun d => d.pwmPeriod b)

/-- AIN_MON_CONVERSION (R266): the converter's raw code of analog input i. -/
def execAinMonConversion (i raw : Nat) (s : State) : Out := s.when (inDom 55 (i < 16)) (fun d => d.ainMon i raw)

/-- FAULT_ACK (R260). -/
def execFaultAck (r : Req) (seq : Nat) (s : State) : Out := s.put (seq < 2 ^ 32) {} r Reg.FAULT_ACK seq

/-- MIRROR_CLEAR_CMD (R261). -/
def execMirrorClearCmd (r : Req) (s : State) : Out := s.put True {} r Reg.MIRROR_CLEAR_CMD 1

/-- RX_FRAME (R285): `rx` is the bytes in use of the receive buffer. -/
def execRxFrame (p sub rx : Nat) (f : EthFrame) (s : State) : Out :=
  s.when (inDom 52 (p < 2 ∧ sub < 4)) (fun d => d.rxFrame p sub rx f)

/-- PORCH_PORT_DISABLE (R289). -/
def execPorchPortDisable (r : Req) (p : Nat) (s : State) : Out := s.put (p < 2) {} r (Reg.un Reg.PORCH_PORT_ENABLE p) 0

/-- PORCH_PORT_ENABLE (R289). -/
def execPorchPortEnable (r : Req) (p : Nat) (s : State) : Out := s.put (p < 2) {} r (Reg.un Reg.PORCH_PORT_ENABLE p) 1

/-- PORCH_PORT_OFF (R289). -/
def execPorchPortOff (p : Nat) (s : State) : Out := s.when (inDom 52 (p < 2)) (fun d => d.porchOff p)

/-- PORCH_LANES_TRAINED (R290). -/
def execPorchLanesTrained (p : Nat) (s : State) : Out := s.when (inDom 52 (p < 2)) (fun d => d.porchTrained p)

/-- PORCH_LINK_UP (R291). -/
def execPorchLinkUp (p sub : Nat) (s : State) : Out := s.when (inDom 52 (p < 2)) (fun d => d.porchLinkUp p sub)

/-- PORCH_LINK_DOWN (R291). -/
def execPorchLinkDown (p sub : Nat) (s : State) : Out := s.when (inDom 52 (p < 2)) (fun d => d.porchLinkDown p sub)

/-- PORCH_HOLD_TIMEOUT (R291). -/
def execPorchHoldTimeout (p : Nat) (s : State) : Out := s.when (inDom 52 (p < 2)) (fun d => d.porchHoldTimeout p)

/-- PORCH_HOLD_RETRY (R291). -/
def execPorchHoldRetry (p : Nat) (s : State) : Out := s.when (inDom 52 (p < 2)) (fun d => d.porchHoldRetry p)

/-- FDB_AGE (R287). -/
def execFdbAge (mac : Nat) (s : State) : Out := s.when (inDom 52 True) (fun d => d.fdbAge mac)

/-- PTP_SYNC (R297): `t1` and `stamp` in ps. -/
def execPtpSync (t port sender : Nat) (t1 stamp : Int) (ms : Nat) (s : State) : Out :=
  s.when (inDom 52 True) (fun d => d.ptpSync t port sender t1 stamp ms)

/-- PTP_MESSAGE (R295). -/
def execPtpMessage (t port : Nat) (m : PtpMsg) (s : State) : Out := s.when (inDomEng 52 11 True) (fun d => d.ptpMessage t port m)

/-- PTP_DELAY_REQ_SEND (R297). -/
def execPtpDelayReqSend (t : Nat) (s : State) : Out := s.when (inDomEng 52 11 True) (fun d => d.ptpDelayReq t)

/-- SYNC_LOSS (R297). -/
def execSyncLoss (t : Nat) (s : State) : Out := s.when (inDomEng 52 11 True) (fun d => d.syncLoss t)

/-- TB3_UPDATE (R299). -/
def execTb3Update (s : State) : Out := s.when (inDom 52 True) Device.tb3Update

/-- TB3_STEP_CMD (R299). -/
def execTb3StepCmd (r : Req) (s : State) : Out := s.put True {} r Reg.TB3_STEP_CMD 1

/-- LAUNCH_SUBMIT (R302). -/
def execLaunchSubmit (r : Req) (bytes : List Nat) (s : State) : Out := s.putBlob True {} r Reg.LAUNCH_SUBMIT bytes

/-- LAUNCH_CANCEL (R302). -/
def execLaunchCancel (r : Req) (tag : Nat) (s : State) : Out := s.put (tag < 2 ^ 32) {} r Reg.LAUNCH_CANCEL tag

/-- LAUNCH (R303). -/
def execLaunch (p : Nat) (s : State) : Out := s.when (inDom 52 (p < 2)) (fun d => d.launchDue p)

end Sys2Proof.Machine
end

