-- ==== Sys2Proof/Machine/CanOps.lean ====
section
/-! DEFINITION. The CANopen FD ports (R46 … R48). The NMT states and commands, the COB-IDs of the heartbeat and the USDO
response, and the layout of a PDO's records are CiA 1301's: PRESUMED (log entry 41). -/
namespace Sys2Proof.Machine

/-- The port is enabled and the dictionary service runs. -/
def Device.canOn (d : Device) (p : Nat) : Bool := d.served && decide (p < 2) && bit (d.regN Reg.CAN_PORT_ENABLE) p

/-- The node-ID of a port. -/
def Device.nodeId (d : Device) (p : Nat) : Nat := d.regN (Reg.NODE_ID_PORT0 + p)

/-- One heartbeat message with an NMT state. -/
def Device.sendBeat (d : Device) (p st : Nat) : Device := d.send (.can p (0x700 + d.nodeId p) [st])

/-- NMT_COMMAND: a command specifier addressed to a node, 0 for all of them. A reset answers with the boot-up message. -/
def Device.nmtCommand (d : Device) (p cs node : Nat) : Device :=
  if d.canOn p = false ∨ (node ≠ 0 ∧ node ≠ d.nodeId p) then d
  else if cs = 1 then d.setCan p { d.canPort p with nmt := 5 }
  else if cs = 2 then d.setCan p { d.canPort p with nmt := 4 }
  else if cs = 0x80 then d.setCan p { d.canPort p with nmt := 127 }
  else if cs = 0x81 ∨ cs = 0x82 then (d.setCan p { d.canPort p with nmt := 127 }).sendBeat p 0
  else d

/-- HEARTBEAT of a port, due every HEARTBEAT_MS; 0 disables it. -/
def Device.heartbeat (d : Device) (p : Nat) : Device :=
  let t := d.regN Reg.HEARTBEAT_MS
  let x := d.canPort p
  if d.canOn p = false ∨ t = 0 ∨ d.now < x.beatAt + cycMs t then d
  else (d.setCan p { x with beatAt := d.now, beats := x.beats + 1 }).sendBeat p x.nmt

/-- R47: a USDO upload. -/
def Device.usdoUpload (m : Memories) (d : Device) (p k : Nat) : Device :=
  match d.readKey m (.can p) k false with
  | (.ok, _, bs) => if 65535 < bs.length then d.usdoAnswer p k .tooLarge [] else d.usdoAnswer p k .ok bs
  | (st, _, _) => d.usdoAnswer p k st []

/-- R47: a USDO download; its type code is the entry's own. -/
def Device.usdoDownload (m : Memories) (d : Device) (env : WriteEnv) (p k : Nat) (bs : List Nat) : Memories × Device :=
  if 65535 < bs.length then (m, d.usdoAnswer p k .tooLarge [])
  else
    let ty := match findEntry k with
      | some e => e.ty.code
      | none => 0
    let y := d.writeKey m env (.can p) k ty bs
    match if y.2.2 = .ok then y.2.1.memStarted [k] else none with
    | none => (y.1, y.2.1.usdoAnswer p k y.2.2 [])
    | some c =>
      let x := y.2.1.chan c
      (y.1, y.2.1.setChan c { x with write := x.write.map (fun w => { w with resp := some (.usdo p) }) })

/-- USDO_TRANSFER. The USDO server does not serve in NMT state stopped. -/
def Device.usdo (m : Memories) (d : Device) (env : WriteEnv) (p : Nat) (u : UsdoReq) : Memories × Device :=
  let k := u.index * 256 + u.sub
  if d.canOn p = false ∨ (d.canPort p).nmt = 4 then (m, d)
  else if u.write then d.usdoDownload m env p k u.data
  else (m, (d.seeVpp env).usdoUpload m p k)

/-- The index of record n of a port's PDOs. -/
def pdoIndex (base p n : Nat) : Nat := base + 8 * p + n

/-- The entries that a PDO maps: key and bytes. -/
def Device.pdoMap (d : Device) (base p n : Nat) : List (Nat × Nat) :=
  let k := pdoIndex base p n * 256
  (List.range (d.regN k)).map (fun j =>
    let v := d.regN (k + j + 1)
    (v / 2 ^ 8, v % 256 / 8))

/-- A PDO exists: its number, its COB-ID's valid bit (31, 0 valid), and NMT state operational. -/
def Device.pdoOn (d : Device) (base p n : Nat) : Bool :=
  d.canOn p && decide (n < 8) && !bit (d.regN (pdoIndex base p n * 256 + 1)) 31 && (d.canPort p).nmt == 5

/-- The writes of an RPDO, one after another; a refused one has no effect. -/
def Device.rpdoWrites (env : WriteEnv) (p : Nat) : Memories → Device → List (Nat × Nat) → List Nat → Memories × Device
  | m, d, [], _ => (m, d)
  | m, d, (k, n) :: rest, bs =>
    let ty := match findEntry k with
      | some e => e.ty.code
      | none => 0
    let y := d.writeKey m env (.can p) k ty (bs.take n)
    Device.rpdoWrites env p y.1 y.2.1 rest (bs.drop n)

/-- RPDO_RECEIVED: RPDO n of port p. One shorter than its mapping is discarded. -/
def Device.rpdo (m : Memories) (d : Device) (env : WriteEnv) (p n : Nat) (data : List Nat) : Memories × Device :=
  if d.pdoOn 0x1400 p n = false then (m, d)
  else
    let l := d.pdoMap 0x1600 p n
    if data.length < (l.map Prod.snd).foldl (· + ·) 0 then (m, d) else Device.rpdoWrites env p m d l data

/-- The data of a TPDO; none where a mapped entry cannot be read at CAN_ACCESS_LEVEL any more. -/
def Device.tpdoData (m : Memories) (d : Device) (p : Nat) : List (Nat × Nat) → Option (List Nat)
  | [] => some []
  | (k, n) :: rest =>
    match d.readKey m (.can p) k false, Device.tpdoData m d p rest with
    | (.ok, _, bs), some r => some (bytesAt bs 0 n ++ r)
    | _, _ => none

/-- TPDO_TRANSMIT: TPDO n of port p, not sooner than its inhibit time (in 100 µs) after the last one. -/
def Device.tpdo (m : Memories) (d : Device) (p n : Nat) : Device :=
  let i := pdoIndex 0x1800 p n * 256
  let x := d.canPort p
  let wait := match assoc x.tpdoAt n with
    | some t => decide (d.now < t + cycUs (100 * d.regN (i + 3)))
    | none => false
  if d.pdoOn 0x1800 p n = false ∨ wait = true then d
  else
    match d.tpdoData m p (d.pdoMap 0x1A00 p n) with
    | none => d
    | some l => (d.setCan p { x with tpdoAt := assocSet x.tpdoAt n d.now }).send (.can p (d.regN (i + 1) % 2 ^ 29) l)

end Sys2Proof.Machine
end

