-- ==== Sys2Proof/Machine/DictCmds.lean ====
section
/-! DEFINITION. The commands of the dictionary: QDP, the mailbox, sessions, commits, CAN FD (R8 … R51). -/
namespace Sys2Proof.Machine

/-- ENTRY_WRITE (R8). -/
def execEntryWrite (r : Req) (index sub ty : Nat) (bytes : List Nat) (env : WriteEnv) (s : State) : Out :=
  s.onBoth (fun m d => d.entryWrite m env r (index * 256 + sub % 256) ty bytes)

/-- READ (R40): `vpp` says whether FUSE_VPP is powered, where that has changed. -/
def execRead (v : Via) (items : List ReadItem) (vpp : Option Bool) (s : State) : Out :=
  s.onDevM (fun m d => (d.senseVpp vpp).qdpRead m v items)

/-- WRITE (R32). -/
def execWrite (v : Via) (items : List WriteItem) (env : WriteEnv) (s : State) : Out :=
  s.onBoth (fun m d => d.qdpWrite m v env items)

/-- DOMAIN_READ_START (R41). -/
def execDomainReadStart (v : Via) (index sub rsv : Nat) (s : State) : Out :=
  s.onDevM (fun m d => d.qdpReadStart m v index sub rsv)

/-- DOMAIN_READ_SEG (R44). -/
def execDomainReadSeg (v : Via) (off max rsv : Nat) (s : State) : Out := s.onDev (fun d => d.qdpReadSeg v off max rsv)

/-- DOMAIN_WRITE_START (R44). -/
def execDomainWriteStart (v : Via) (index sub rsv total crc : Nat) (env : WriteEnv) (s : State) : Out :=
  s.onBoth (fun m d => d.qdpWriteStart m v env index sub rsv total crc)

/-- DOMAIN_WRITE_SEG (R44). -/
def execDomainWriteSeg (v : Via) (off len rsv : Nat) (data : List Nat) (env : WriteEnv) (s : State) : Out :=
  s.onBoth (fun m d => d.qdpWriteSeg m v env off len rsv data)

/-- DOMAIN_ABORT (R44). -/
def execDomainAbort (v : Via) (s : State) : Out := s.onDev (fun d => d.qdpAbort v)

/-- DOMAIN_IDLE_TIMEOUT (R44). -/
def execDomainIdleTimeout (r : Req) (s : State) : Out := s.when (inService True) (fun d => d.xferIdle r)

/-- SESSION_OPEN (R27). -/
def execSessionOpen (h : QdpHdr) (level : Nat) (rsv : Bool) (s : State) : Out := s.onDev (fun d => d.qdpOpen h level rsv)

/-- SESSION_CLOSE (R27). -/
def execSessionClose (h : QdpHdr) (s : State) : Out := s.onDev (fun d => d.qdpClose h)

/-- SESSION_TIMEOUT (R27). -/
def execSessionTimeout (n : Nat) (s : State) : Out := s.onDev (fun d => d.sessionTimeout n)

/-- AUTH (R28). -/
def execAuth (h : QdpHdr) (mac : List Nat) (s : State) : Out := s.onDev (fun d => d.qdpAuth h mac)

/-- CHALLENGE (R29). -/
def execChallenge (h : QdpHdr) (s : State) : Out := s.onDev (fun d => d.qdpChallenge h)

/-- RESPONSE (R29). -/
def execResponse (h : QdpHdr) (sig pub : List Nat) (s : State) : Out := s.onDev (fun d => d.qdpResponse h sig pub)

/-- LOCKOUT_END (R30). -/
def execLockoutEnd (s : State) : Out := s.when (inService True) Device.lockoutEnd

/-- EVENT_SUBSCRIBE (R45). -/
def execEventSubscribe (h : QdpHdr) (sev : Nat) (rsv : Bool) (s : State) : Out :=
  s.onDev (fun d => d.qdpSubscribe h sev rsv)

/-- EVENT_ACK (R45). -/
def execEventAck (h : QdpHdr) (seq : Nat) (s : State) : Out := s.onDev (fun d => d.eventAck h seq)

/-- EVENT_RESEND (R45). -/
def execEventResend (n seq : Nat) (s : State) : Out := s.onDev (fun d => d.eventResend n seq)

/-- KEEPALIVE (R27). -/
def execKeepalive (h : QdpHdr) (s : State) : Out := s.onDev (fun d => d.qdpKeep h)

/-- COMMIT_REQUEST (R35). -/
def execCommitRequest (r : Req) (s : State) : Out := s.put True {} r Reg.COMMIT_CMD 1

/-- COMMIT_CANCEL (R38). -/
def execCommitCancel (r : Req) (s : State) : Out := s.put True {} r Reg.COMMIT_CMD 2

/-- COMMIT_DISCARD (R38). -/
def execCommitDiscard (r : Req) (s : State) : Out := s.put True {} r Reg.COMMIT_CMD 3

/-- COMMIT_RING_ACK_CHECK (R39 step 4). -/
def execCommitRingAckCheck (s : State) : Out := s.when (inService True) Device.ringAckCheck

/-- IN_FORCE_SEL_WRITE (R36). -/
def execInForceSelWrite (r : Req) (v : Nat) (s : State) : Out := s.put (v < 2 ^ 32) {} r Reg.IN_FORCE_SEL v

/-- IN_FORCE_VALUE_READ (R36). -/
def execInForceValueRead (r : Req) (s : State) : Out := s.onDevM (fun m d => d.selectedRead m r)

/-- PROFILE_REQUEST (R51). -/
def execProfileRequest (r : Req) (n : Nat) (s : State) : Out := s.put (n < 256) {} r Reg.PROFILE_REQUEST n

/-- NMT_COMMAND (R46). -/
def execNmtCommand (p cs node : Nat) (s : State) : Out := s.onDev (fun d => d.nmtCommand p cs node)

/-- HEARTBEAT (R46). -/
def execHeartbeat (p : Nat) (s : State) : Out := s.onDev (fun d => d.heartbeat p)

/-- USDO_TRANSFER (R47). -/
def execUsdoTransfer (p : Nat) (u : UsdoReq) (env : WriteEnv) (s : State) : Out := s.onBoth (fun m d => d.usdo m env p u)

/-- RPDO_RECEIVED (R46). -/
def execRpdoReceived (p n : Nat) (data : List Nat) (env : WriteEnv) (s : State) : Out :=
  s.onBoth (fun m d => d.rpdo m env p n data)

/-- TPDO_TRANSMIT (R46). -/
def execTpdoTransmit (p n : Nat) (vpp : Option Bool) (s : State) : Out := s.onDevM (fun m d => (d.senseVpp vpp).tpdo m p n)

end Sys2Proof.Machine
end

