-- ==== Sys2Proof/Machine/EngCmds.lean ====
section
/-! DEFINITION. The commands of the Pantry (R330 … R350) and of the engines and the Workshop (R351 … R365). -/
namespace Sys2Proof.Machine

/-- PANTRY_TRANSACTION (R336). -/
def execPantryTransaction (t : PantryReq) (s : State) : Out := s.whenB (inDom 51 True) (fun m d => d.pantryTxn m t)

/-- PANIC_START (R339). -/
def execPanicStart (fill : Nat) (s : State) : Out := s.when (inDom 51 True) (fun d => d.panicStart fill)

/-- PANIC_END (R339). -/
def execPanicEnd (fill low : Nat) (s : State) : Out := s.when (inDom 51 True) (fun d => d.panicEnd fill low)

/-- REFRESH (R340). -/
def execRefresh (c : Nat) (s : State) : Out := s.when (inDom 51 (c < 4)) (fun d => d.refresh c)

/-- MR4_READ (R340): the multiplier × 4. -/
def execMr4Read (c mult : Nat) (s : State) : Out := s.when (inDom 51 (c < 4)) (fun d => d.mr4Read c mult)

/-- RH_WINDOW_END (R341). -/
def execRhWindowEnd (c : Nat) (s : State) : Out := s.when (inDom 51 (c < 4)) (fun d => d.rhWindow c)

/-- SCRUB (R345): what the DRAM has done to the sectors of the span. -/
def execScrub (ecc : List SectorErr) (s : State) : Out := s.when (inDom 51 True) (fun d => d.scrubStep ecc)

/-- DQS_CHECK (R348). -/
def execDqsCheck (c : Nat) (x : Int) (s : State) : Out := s.when (inDom 51 (c < 4)) (fun d => d.dqsCheck c x)

/-- ENG_WATCHDOG (R352). -/
def execEngWatchdog (e : Nat) (s : State) : Out := s.when (inDom 1 (e < 16)) (fun d => d.engWatchdog e)

/-- ENG_WORKSHOP_TRAP (R353): an access of a Workshop engine, with the byte that it writes, none for a read. -/
def execEngWorkshopTrap (w addr : Nat) (byte : Option Nat) (s : State) : Out :=
  s.when (inDom 1 (w < 4)) (fun d => d.workshopTrap w addr byte)

/-- ENG_SRAM_ECC (R363). -/
def execEngSramEcc (e addr : Nat) (fixable : Bool) (s : State) : Out :=
  s.whenM (inDom 1 (e < 16)) (fun m d => Device.sramEcc m.flash d e addr fixable)

/-- BULK_SEND (R357), with the header of its slot and its OPCODE. -/
def execBulkSend (b : MbHdr) (op pos eng len : Nat) (data : List Nat) (s : State) : Out :=
  s.when (inDom 1 (b.w < 4)) (fun d => d.bulkSend b op pos eng len data)

/-- MB_ACK (R354). -/
def execMbAck (w mask : Nat) (regs : List (Nat × Nat)) (s : State) : Out :=
  s.when (inDom 1 (w < 4)) (fun d => d.mbAck w mask regs)

/-- WDT_KICK (R362). -/
def execWdtKick (w : Nat) (s : State) : Out := s.when (inDom 1 (w < 4)) (fun d => d.wdtKick w)

/-- WORKSHOP_RESTART (R362). -/
def execWorkshopRestart (r : Req) (s : State) : Out := s.put True {} r Reg.WORKSHOP_CMD 1

/-- WORKSHOP_HALT (R362). -/
def execWorkshopHalt (r : Req) (s : State) : Out := s.put True {} r Reg.WORKSHOP_CMD 2

/-- WORKSHOP_IMAGE_WRITE (R360). -/
def execWorkshopImageWrite (r : Req) (bytes : List Nat) (s : State) : Out := s.putBlob True {} r Reg.WORKSHOP_IMAGE bytes

end Sys2Proof.Machine
end

