-- ==== Sys2Proof/Machine/HallCmds.lean ====
section
/-! DEFINITION. The commands of the Hallway (R306 … R329) and the ring's commits (R39). -/
namespace Sys2Proof.Machine

/-- HALL_PORT_DISABLE (R325). -/
def execHallPortDisable (r : Req) (p : Nat) (s : State) : Out := s.put (p < 2) {} r (hallKey Reg.HALL_PORT_ENABLE p) 0

/-- HALL_PORT_ENABLE (R309). -/
def execHallPortEnable (r : Req) (p : Nat) (s : State) : Out := s.put (p < 2) {} r (hallKey Reg.HALL_PORT_ENABLE p) 1

/-- HALL_PORT_OFF (R325). -/
def execHallPortOff (p : Nat) (s : State) : Out := s.when (inDom 53 (p < 2)) (fun d => d.hallOff p)

/-- HALL_TRAINING_STEP (R309): `t` holds what the step found. -/
def execHallTrainingStep (p : Nat) (t : HallTrain) (s : State) : Out :=
  s.when (inDom 53 (p < 2)) (fun d => d.trainDone p t)

/-- HALL_TRAINING_RESTART (R309). -/
def execHallTrainingRestart (p : Nat) (s : State) : Out := s.when (inDom 53 (p < 2)) (fun d => d.trainRestart p)

/-- HALL_HOLD_TIMEOUT (R326). -/
def execHallHoldTimeout (p : Nat) (s : State) : Out := s.when (inDom 53 (p < 2)) (fun d => d.hallHoldTimeout p)

/-- HALL_HOLD_RETRY (R326). -/
def execHallHoldRetry (p : Nat) (s : State) : Out := s.when (inDom 53 (p < 2)) (fun d => d.hallHoldRetry p)

/-- R320, R87, R92, R97: an EDGE that the member uses acts as an encoder edge does. -/
def Device.ringEdge (d : Device) (h : HallHdr) (pt : Int) (ns frac v flags : Nat) (vote : Vote) : Device :=
  let r := d.edgeIn h pt ns frac v flags
  if r.2 then (r.1.predictEdge).overspeedVote vote else r.1

/-- EDGE (R320). -/
def execEdge (h : HallHdr) (pt : Int) (ns frac v flags : Nat) (vote : Vote) (s : State) : Out :=
  s.when (inDom 53 (h.port < 2)) (fun d => d.ringEdge h pt ns frac v flags vote)

/-- EDGE_SEND (R320). -/
def execEdgeSend (s : State) : Out := s.when (inDom 53 True) Device.edgeSend

/-- SYNC (R319): `arrPs` is this device's TB3 at the arrival and `resid` the residence time of the copy sent on, ps. -/
def execSync (h : HallHdr) (ns frac acc : Nat) (arrPs : Int) (resid : Nat) (s : State) : Out :=
  s.when (inDom 53 (h.port < 2)) (fun d => d.syncIn h ns frac acc arrPs resid)

/-- SYNC_SEND (R319). -/
def execSyncSend (s : State) : Out := s.when (inDom 53 True) Device.syncSend

/-- GRID (R320). -/
def execGrid (h : HallHdr) (go : Nat) (po : Int) (num den mode : Nat) (s : State) : Out :=
  s.when (inDom 53 (h.port < 2 ∧ num ≠ 0 ∧ den ≠ 0)) (fun d =>
    d.gridIn h { go := go, po := po, num := num, den := den, mode := mode })

/-- GRID_SEND (R314). -/
def execGridSend (s : State) : Out := s.when (inDom 53 True) Device.gridSend

/-- CUE (R320). -/
def execCue (h : HallHdr) (pt : Int) (seq : Nat) (s : State) : Out :=
  s.when (inDom 53 (h.port < 2)) (fun d => d.cueIn h pt seq)

/-- COMMIT (R39). -/
def execCommit (h : HallHdr) (number : Nat) (pt : Int) (kind : Nat) (s : State) : Out :=
  s.when (inDom 53 (h.port < 2)) (fun d => d.commitIn h number pt kind)

/-- COMMIT_ACK (R39). -/
def execCommitAck (h : HallHdr) (number count crc : Nat) (s : State) : Out :=
  s.when (inDom 53 (h.port < 2)) (fun d => d.commitAckIn h number count crc)

/-- LAT_PROBE (R318). -/
def execLatProbe (h : HallHdr) (num turn ps : Nat) (s : State) : Out :=
  s.when (inDom 53 (h.port < 2)) (fun d => d.latProbe h num turn ps)

/-- LAT_PROBE_SEND (R318). -/
def execLatProbeSend (p : Nat) (s : State) : Out := s.when (inDom 53 (p < 2)) (fun d => d.latProbeSend p)

/-- ENUM (R317). -/
def execEnum (h : HallHdr) (dir count size serial : Nat) (s : State) : Out :=
  s.when (inDom 53 (h.port < 2)) (fun d => d.enumIn h dir count size serial)

/-- ENUM_TIMEOUT (R317). -/
def execEnumTimeout (reached : Nat) (s : State) : Out := s.when (inDom 53 True) (fun d => d.enumTimeout reached)

/-- STATUS (R314). -/
def execStatus (h : HallHdr) (w : Nat) (s : State) : Out := s.when (inDom 53 (h.port < 2)) (fun d => d.statusIn h w)

/-- STATUS_SEND (R314). -/
def execStatusSend (s : State) : Out := s.when (inDom 53 True) Device.statusSend

/-- R316: a whole record is offered to the calibration manager as one of the device's own context c. -/
def Device.statsTake (d : Device) (h : HallHdr) (mine : Bool) (c frame off total : Nat) (bs : List Nat) : Device :=
  match d.statsIn h mine c frame off total bs with
  | (d1, none) => d1
  | (d1, some r) => d1.calRecord r (d1.blob (Reg.MEAS_CONFIG + c))

/-- STATS (R316). -/
def execStats (h : HallHdr) (mine : Bool) (c frame off total : Nat) (bs : List Nat) (s : State) : Out :=
  s.when (inDom 53 (h.port < 2 ∧ c < 8)) (fun d => d.statsTake h mine c frame off total bs)

/-- BULK (R357). -/
def execBulk (h : HallHdr) (pos eng srcW : Nat) (data : List Nat) (s : State) : Out :=
  s.when (inDom 53 (h.port < 2)) (fun d => d.bulkIn h pos eng srcW data)

/-- HALL_ACK (R315). -/
def execHallAck (p cls seq : Nat) (s : State) : Out := s.when (inDom 53 (p < 2)) (fun d => d.hallAck p cls seq)

/-- HALL_NAK (R315). -/
def execHallNak (p cls : Nat) (s : State) : Out := s.when (inDom 53 (p < 2)) (fun d => d.hallResend p cls)

/-- REPLAY_TIMEOUT (R315). -/
def execReplayTimeout (p cls : Nat) (s : State) : Out := s.when (inDom 53 (p < 2)) (fun d => d.hallReplay p cls)

/-- H1_ENTER (R312). -/
def execH1Enter (p : Nat) (s : State) : Out := s.when (inDom 53 (p < 2)) (fun d => d.h1Enter p)

/-- LANE_FAIL (R322): `lost` where the lane has lost its block lock. -/
def execLaneFail (p lane gap errs : Nat) (lost : Bool) (s : State) : Out :=
  s.when (inDom 53 (p < 2)) (fun d => d.laneFail p lane gap errs lost)

/-- LANE_SWITCH (R322). -/
def execLaneSwitch (p lane gap : Nat) (s : State) : Out := s.when (inDom 53 (p < 2)) (fun d => d.laneSwitch p lane gap)

/-- HALL_RESET (R325): a received RESET, or DOWN. -/
def execHallReset (p : Nat) (down : Bool) (s : State) : Out := s.when (inDom 53 (p < 2)) (fun d => d.hallResetIn p down)

/-- LINK_RESET_CMD (R325). -/
def execLinkResetCmd (r : Req) (p : Nat) (s : State) : Out := s.put (p < 2) {} r (hallKey Reg.LINK_RESET_CMD p) 1

/-- COAST_TIMEOUT (R321). -/
def execCoastTimeout (s : State) : Out := s.when (inDom 53 True) Device.coastTimeout

/-- PRBS_START (R324). -/
def execPrbsStart (r : Req) (s : State) : Out := s.put True {} r Reg.PRBS_CMD 1

/-- PRBS_STOP (R324): the bits received on each lane. -/
def execPrbsStop (r : Req) (rx : List (List Bool)) (s : State) : Out := s.put True { rx := rx } r Reg.PRBS_CMD 2

end Sys2Proof.Machine
end

