-- ==== Sys2Proof/Machine/MantelCmds.lean ====
section
/-! DEFINITION. The commands of the Mantel (R77 … R101) and of the head ports (R102 … R127). -/
namespace Sys2Proof.Machine

/-- LINE_EVENT (R78). -/
def execLineEvent (v : Vote) (s : State) : Out := s.when (inDom 56 True) (fun d => d.lineEvent v)

/-- PAGE_BIND (R79): no page binds while E2 is stopped (R2). -/
def execPageBind (s : State) : Out := s.when (inDomEng 56 2 True) Device.pageBindNext

/-- STROBE_FIRE (R87). -/
def execStrobeFire (c h sub : Nat) (v : Vote) (s : State) : Out :=
  s.when (inDom 56 (c < 192)) (fun d => d.strobeFire c h sub v)

/-- FIRE_PULSE_END (R113). -/
def execFirePulseEnd (c : Nat) (s : State) : Out := s.when (inDom 56 (c < 192)) (fun d => d.firePulseEnd c)

/-- LATCH (R109). -/
def execLatch (k : Nat) (v : Vote) (s : State) : Out := s.when (inDom 56 (k < 24)) (fun d => d.latch k v)

/-- LAT_PULSE_END (R113). -/
def execLatPulseEnd (k : Nat) (s : State) : Out := s.when (inDom 56 (k < 24)) (fun d => d.latPulseEnd k)

/-- SHIFT_START (R110). -/
def execShiftStart (k : Nat) (s : State) : Out := s.when (inDom (27 + k) (k < 24)) (fun d => d.shiftStart k)

/-- SHIFT_DONE (R110). -/
def execShiftDone (k : Nat) (s : State) : Out := s.when (inDom (27 + k) (k < 24)) (fun d => d.shiftDone k)

/-- SPREAD_RECOMPUTE (R112). -/
def execSpreadRecompute (k : Nat) (s : State) : Out := s.when (inDom 56 (k < 24)) (fun d => d.spreadGroup k)

/-- R116: the write of HG_ENABLE that changes the bit of group k. -/
def State.putHg (s : State) (env : WriteEnv) (r : Req) (k : Nat) (on : Bool) : Out :=
  s.whenB (inService (k < 24)) (fun m d =>
    d.writeNum m env r Reg.HG_ENABLE ((if on then setBit (d.regN Reg.HG_ENABLE) k else clrBit (d.regN Reg.HG_ENABLE) k : Nat) : Int))

/-- HG_DISABLE (R116). -/
def execHgDisable (r : Req) (k : Nat) (s : State) : Out := s.putHg {} r k false

/-- HG_ENABLE (R116). -/
def execHgEnable (r : Req) (k : Nat) (s : State) : Out := s.putHg {} r k true

/-- HG_SHUTDOWN_DONE (R116). -/
def execHgShutdownDone (k : Nat) (s : State) : Out := s.when (inDom (27 + k) (k < 24)) (fun d => d.hgOff k)

/-- POLL_CYCLE (R118). -/
def execPollCycle (k : Nat) (reads : List PollRead) (s : State) : Out :=
  s.when (inDom (27 + k) (k < 24)) (fun d => d.pollCycleDone k reads)

/-- HEAD_RECORD_READ (R120 … R122): `data` is the memory of the head, read from its first byte on; `err` says that the
transaction ended in an error (R117). -/
def execHeadRecordRead (c : Nat) (data : List Nat) (err : Bool) (s : State) : Out :=
  s.whenB (inDom (27 + c / 8) (c < 192)) (fun m d => d.recordRead m c data err)

/-- HEAD_ALERT (R190): ALERT_N of group k has been low for `held` ENC cycles. -/
def execHeadAlert (k held : Nat) (s : State) : Out := s.when (inDom (27 + k) (k < 24)) (fun d => d.headAlert k held)

/-- ALERT_IDENTIFIED (R190): an Alert Response Address read brings `addr`, or ends in an error. -/
def execAlertIdentified (k addr : Nat) (err : Bool) (s : State) : Out :=
  s.when (inDom (27 + k) (k < 24)) (fun d => d.alertIdentified k addr err)

/-- ALERT_WINDOW_END (R119). -/
def execAlertWindowEnd (k : Nat) (nack : Bool) (s : State) : Out :=
  s.when (inDom (27 + k) (k < 24)) (fun d => d.alertUnresolved k nack)

/-- ALERT_N_DEASSERTED (R190): ALERT_N of group k has been high for `held` ENC cycles. -/
def execAlertNDeasserted (k held : Nat) (s : State) : Out := s.when (inDom (27 + k) (k < 24)) (fun d => d.alertGone k held)

/-- HEAD_MEM_WRITE_DONE (R120): `back` is what the head's memory holds after the write, as the read-back finds it;
`err` says that a transaction ended in an error (R117). -/
def execHeadMemWriteDone (c : Nat) (back : List Nat) (err : Bool) (s : State) : Out :=
  s.whenB (inDom (27 + c / 8) (c < 192)) (fun m d => d.memDone m c back err)

/-- HEAD_ACCEPT (R124). -/
def execHeadAccept (r : Req) (c : Nat) (s : State) : Out := s.put (c < 192) {} r (Reg.HEAD_ACCEPT + c) 1

end Sys2Proof.Machine
end

