-- ==== Sys2Proof/Machine/PagesCmds.lean ====
section
/-! DEFINITION. The commands of QPT, the page store and the page scheduler (R128 … R150). -/
namespace Sys2Proof.Machine

/-- R285, R289: a datagram of QPT other than DATA and RAW is E1's. -/
def inQpt (h : QptHdr) (d : Device) : Bool := inEng 1 True d && d.rxOpen h.rx

/-- R285, R289, R351: DATA and RAW reach the page store without passing through an engine. -/
def inIngest (h : QptHdr) (d : Device) : Bool := d.firmware && d.rxOpen h.rx

/-- A datagram of QPT that acts on the page store. -/
def State.onStore (s : State) (g : Device → Bool) (f : List Host.Cell → Device → List Host.Cell × Device) : Out :=
  s.whenB g (fun m d => ({ m with store := (f m.store d).1 }, (f m.store d).2))

/-- QPT_OPEN (R137). -/
def execQptOpen (h : QptHdr) (s : State) : Out := s.onStore (inQpt h) (fun m d => d.qptOpen m h)

/-- QPT_DATA (R138). -/
def execQptData (h : QptHdr) (data : List Nat) (s : State) : Out := s.onStore (inIngest h) (fun m d => d.qptData m h data)

/-- QPT_RAW (R140). -/
def execQptRaw (h : QptHdr) (data : List Nat) (s : State) : Out := s.onStore (inIngest h) (fun m d => d.qptRaw m h data)

/-- QPT_DESC (R131). -/
def execQptDesc (h : QptHdr) (b : List Nat) (s : State) : Out := s.when (inQpt h) (fun d => d.qptDesc h b)

/-- QPT_CLOSE (R137). -/
def execQptClose (h : QptHdr) (s : State) : Out := s.when (inQpt h) (fun d => d.qptClose h)

/-- CREDIT_IDLE (R138). -/
def execCreditIdle (k : Nat) (s : State) : Out := s.when (inEng 1 (k < 16)) (fun d => d.creditIdle k)

/-- PAGE_NOT_READY (R133), by E2. -/
def execPageNotReady (s : State) : Out := s.when (inDomEng 56 2 True) Device.pageNotReady

/-- SCHED_STOP (R134). -/
def execSchedStop (r : Req) (s : State) : Out := s.put True {} r Reg.SCHED_CMD 1

/-- SCHED_RESUME (R134). -/
def execSchedResume (r : Req) (s : State) : Out := s.put True {} r Reg.SCHED_CMD 2

/-- SCHED_FLUSH (R134). -/
def execSchedFlush (r : Req) (s : State) : Out := s.put True {} r Reg.SCHED_CMD 3

/-- HIST_CAPTURE_CMD (R150). -/
def execHistCaptureCmd (r : Req) (s : State) : Out := s.put True {} r Reg.HIST_CAPTURE_CMD 1

end Sys2Proof.Machine
end

