-- ==== Sys2Proof/Machine/PosCmds.lean ====
section
/-! DEFINITION. The commands of the position unit (R52 … R76) and of the keep-alive counter. -/
namespace Sys2Proof.Machine

/-- R55, R87, R92, R320: the levels of a channel's inputs; a counted edge of POS0 drives the predictions, the overspeed
comparison of every copy (R97), and the ring's EDGE. -/
def Device.posEdge (d : Device) (ch : Nat) (a b : Bool) (held : Nat) (v : Vote) : Device :=
  let d1 := { d with pos := { d.pos with edgeNow := false } }.posLevels ch a b held
  if ch = 0 ∧ d1.pos.edgeNow = true then ((d1.edgeNote).predictEdge).overspeedVote v
  else { d1 with pos := { d1.pos with edgeNow := d.pos.edgeNow } }

/-- ENC_EDGE (R55). -/
def execEncEdge (ch : Nat) (a b : Bool) (held : Nat) (v : Vote) (s : State) : Out :=
  s.when (inDom 56 (ch < 2)) (fun d => d.posEdge ch a b held v)

/-- SPEED_STALL (R59). -/
def execSpeedStall (ch : Nat) (v : Vote) (s : State) : Out :=
  s.when (inDom 56 (ch < 2)) (fun d => (d.speedStall ch).overspeedVote v)

/-- SSI_FRAME_START (R60). -/
def execSsiFrameStart (ch : Nat) (sda : Bool) (s : State) : Out := s.when (inDom 56 (ch < 2)) (fun d => d.ssiStart ch sda)

/-- SSI_FRAME_DONE (R61). -/
def execSsiFrameDone (ch word : Nat) (s : State) : Out := s.when (inDom 56 (ch < 2)) (fun d => d.ssiDone ch word)

/-- INDEX (R63): POSn_Z has risen and stood for `held` samples (R52). -/
def execIndex (ch held : Nat) (s : State) : Out := s.when (inDom 56 (ch < 2)) (fun d => d.indexIn ch held)

/-- SUSPECT_CLEAR (R65). -/
def execSuspectClear (r : Req) (ch : Nat) (s : State) : Out := s.put (ch < 2) {} r (Reg.un Reg.SUSPECT_CLEAR ch) 1

/-- REF_SOURCE_WRITE (R66). -/
def execRefSourceWrite (r : Req) (v : Nat) (s : State) : Out := s.put (v < 256) {} r Reg.REF_SOURCE v

/-- REF_ANCHOR_CMD (R66). -/
def execRefAnchorCmd (r : Req) (s : State) : Out := s.put True {} r Reg.REF_ANCHOR_CMD 1

/-- R67, R68: an accepted probe edge; a kept latch of ROLE 1 goes to the page scheduler (on a member the master's does,
R79), one of ROLE 2 to the calibration manager. -/
def Device.probeIn (d : Device) (n : Nat) (rising : Bool) (held : Nat) : Device :=
  match d.probeEdge n rising held with
  | (d1, none) => d1
  | (d1, some l) =>
    let role := d1.reg (Reg.un Reg.ROLE n)
    if role = 1 then (if d1.isMember then d1 else (d1.cueLatch l.stamp.pt).cueSend l.stamp.pt)
    else if role = 2 then d1.regLatch n l.stamp.pt
    else d1

/-- PROBE_EDGE (R67). -/
def execProbeEdge (n : Nat) (rising : Bool) (held : Nat) (s : State) : Out :=
  s.when (inDom 56 (n < 8)) (fun d => d.probeIn n rising held)

/-- ACK_SEQ (R68). -/
def execAckSeq (r : Req) (n seq : Nat) (s : State) : Out := s.put (n < 8 ∧ seq < 2 ^ 32) {} r (Reg.un Reg.ACK_SEQ n) seq

/-- CMP_ARM (R70). -/
def execCmpArm (r : Req) (n : Nat) (s : State) : Out := s.put (n < 4) {} r (Reg.un Reg.CMP_ARM n) 1

/-- CMP_DISARM (R71). -/
def execCmpDisarm (r : Req) (n : Nat) (s : State) : Out := s.put (n < 4) {} r (Reg.un Reg.CMP_ARM n) 2

/-- CMP_FIRE (R70). -/
def execCmpFire (n : Nat) (s : State) : Out := s.when (inDom 56 (n < 4)) (fun d => d.cmpFire n)

/-- CMP_PULSE_END (R70). -/
def execCmpPulseEnd (n : Nat) (s : State) : Out := s.when (inDom 56 (n < 4)) (fun d => d.cmpPulseEnd n)

/-- QOUT_STEP (R72). -/
def execQoutStep (q : Nat) (s : State) : Out := s.when (inDom 56 (q < 2)) (fun d => d.qoutStep q)

/-- QOUT_CONFIG_WRITE (R72): `field` is 1 QOUT_SOURCE, 2 QOUT_NUM, 3 QOUT_DEN. -/
def execQoutConfigWrite (r : Req) (q field v : Nat) (s : State) : Out :=
  s.put (q < 2 ∧ 1 ≤ field ∧ field ≤ 3 ∧ v < 2 ^ (if field = 1 then 8 else 32)) {} r (0x239000 + 256 * q + field) v

/-- KA_COUNT (R73). -/
def execKaCount (a b : Bool) (held : Nat) (s : State) : Out := s.onBoth (fun m d => Device.kaTake m d a b held)

end Sys2Proof.Machine
end

