-- ==== Sys2Proof/Machine/PowerCmds.lean ====
section
/-! DEFINITION. The commands of power (R366 … R390), reset and boot (R391 … R409), clocks (R410 … R425) and the test
access port (R445 … R450). -/
namespace Sys2Proof.Machine

/-- A command that no guard holds back: it looks at the phase itself. -/
def always (_ : Device) : Bool := true

/-- PWR_REQUEST_RUN (R377). -/
def execPwrRequestRun (r : Req) (s : State) : Out := s.put True {} r Reg.PWR_REQUEST 0

/-- PWR_REQUEST_READY (R377). -/
def execPwrRequestReady (r : Req) (s : State) : Out := s.put True {} r Reg.PWR_REQUEST 1

/-- PWR_REQUEST_STANDBY (R382). -/
def execPwrRequestStandby (r : Req) (s : State) : Out := s.put True {} r Reg.PWR_REQUEST 2

/-- PWR_REQUEST_NIGHT (R383). -/
def execPwrRequestNight (r : Req) (s : State) : Out := s.put True {} r Reg.PWR_REQUEST 3

/-- SLEEP_N_FALL (R378). -/
def execSleepNFall (s : State) : Out := s.when always Device.sleepFall

/-- SLEEP_REQUEST_SAMPLE (R378). -/
def execSleepRequestSample (s : State) : Out := s.when always Device.sleepSample

/-- PWR_STEP_DONE (R382): `dqs` are the oscillator readings where the step leaves self-refresh. -/
def execPwrStepDone (dqs : List Int) (s : State) : Out := s.whenM always (fun m d => Device.pwrStepDone m d dqs)

/-- R380, R384 … R386: an enabled latch acts; `rise` says that it is SLEEP_N's rising edge that sets its latch now. -/
def Device.wake (m : Memories) (d : Device) (rise : Bool) : Memories × Device :=
  let d1 := if rise then d.sleepRise else d
  if d1.wakesNight then Device.wakeBoot m d1 else (m, d1.wakeNow 1)

/-- WAKE (R380). -/
def execWake (rise : Bool) (s : State) : Out := s.whenB always (fun m d => Device.wake m d rise)

/-- WAKE_TB0_ALARM (R380). -/
def execWakeTb0Alarm (s : State) : Out := s.when Device.tb0Alarm (fun d => d.latchWake 1)

/-- WAKE_POS0_MOVEMENT (R380). -/
def execWakePos0Movement (s : State) : Out := s.when Device.moved (fun d => d.latchWake 2)

/-- POWER_REQUEST (R387). -/
def execPowerRequest (h : HallHdr) (target number status : Nat) (s : State) : Out :=
  s.when (inDom 53 (h.port < 2)) (fun d => d.powerReqIn h target number status)

/-- POWER_PREPARED (R387). -/
def execPowerPrepared (h : HallHdr) (target number origin status : Nat) (s : State) : Out :=
  s.when (inDom 53 (h.port < 2)) (fun d => d.powerPreparedIn h target number origin status)

/-- POWER_GO (R387). -/
def execPowerGo (h : HallHdr) (target number status : Nat) (s : State) : Out :=
  s.when (inDom 53 (h.port < 2)) (fun d => d.powerGoIn h target number status)

/-- POWER_CANCEL (R387). -/
def execPowerCancel (h : HallHdr) (target number status : Nat) (s : State) : Out :=
  s.when (inDom 53 (h.port < 2)) (fun d => d.powerCancelIn h target number status)

/-- POWER_ABORTED (R387). -/
def execPowerAborted (h : HallHdr) (target number origin status : Nat) (s : State) : Out :=
  s.when (inDom 53 (h.port < 2)) (fun d => d.powerAbortedIn h target number origin status)

/-- POWER_EXIT (R387). -/
def execPowerExit (h : HallHdr) (target number status : Nat) (s : State) : Out :=
  s.when (inDom 53 (h.port < 2)) (fun d => d.powerExitIn h target number status)

/-- RING_POWER_TIMEOUT (R387). -/
def execRingPowerTimeout (s : State) : Out := s.when (inDom 53 True) Device.ringTimeout

/-- PWR_RAIL_FAULT (R370). -/
def execPwrRailFault (slot cause : Nat) (s : State) : Out := s.when always (fun d => d.railFault slot cause d.now)

/-- RAIL_RETRY (R370). -/
def execRailRetry (s : State) : Out := s.whenB always Device.railRetry

/-- PWR_VBAR_LOW (R366): a reading of VBAR. -/
def execPwrVbarLow (mv : Nat) (s : State) : Out := s.when (inService True) (fun d => d.vbar mv)

/-- PWR_AON_BROWNOUT (R367). -/
def execPwrAonBrownout (s : State) : Out := s.whenB always Device.brownOut

/-- PMBUS_POLL (R371). -/
def execPmbusPoll (slot : Nat) (all : Bool) (r : PmRead) (s : State) : Out :=
  s.when (inService (slot < 6)) (fun d => d.pmbusPoll slot all r)

/-- PWR_TJ_HIGH (R372): the highest reading and its sensor, one of 8 (R443). -/
def execPwrTjHigh (tj : Int) (sensor : Nat) (s : State) : Out := s.when (inService (sensor < 8)) (fun d => d.tjRead tj sensor)

/-- PWR_TJ_SHUTDOWN (R372). -/
def execPwrTjShutdown (tj : Int) (sensor : Nat) (s : State) : Out := s.when always (fun d => d.tjShutdown tj sensor)

/-- POWER_ON (R396). -/
def execPowerOn (s : State) : Out := s.whenB always Device.powerUp

/-- RESET_N_ASSERT (R392): how long the pin is low so far, in ns. -/
def execResetNAssert (ns : Nat) (s : State) : Out := s.when always (fun d => d.resetAssert ns)

/-- RESET_N_RELEASE (R392). -/
def execResetNRelease (s : State) : Out := s.whenB always Device.resetRelease

/-- DEVICE_RESET_CMD (R393). -/
def execDeviceResetCmd (r : Req) (s : State) : Out := s.put True {} r Reg.DEVICE_RESET_CMD 1

/-- SUBSYS_RESET_CMD (R394). -/
def execSubsysResetCmd (r : Req) (code : Nat) (env : WriteEnv) (s : State) : Out :=
  s.put (code < 256) env r Reg.SUBSYS_RESET_CMD code

/-- BOOT_STEP (R396). -/
def execBootStep (x : BootArgs) (s : State) : Out := s.whenM always (fun m d => Device.bootStep m d x)

/-- BOOT_RETRY (R398). -/
def execBootRetry (s : State) : Out := s.whenB always Device.bootRetry

/-- BOOT_ROM_RELEASE (R398). -/
def execBootRomRelease (s : State) : Out := s.when always Device.romRelease

/-- HOUSE_IMAGE_WRITE (R399). -/
def execHouseImageWrite (r : Req) (bytes : List Nat) (s : State) : Out := s.putBlob True {} r Reg.HOUSE_IMAGE bytes

/-- FOUNDATION_PROGRAM (R402). -/
def execFoundationProgram (r : Req) (bytes : List Nat) (env : WriteEnv) (s : State) : Out :=
  s.putBlob True env r Reg.FOUNDATION_PROGRAM bytes

/-- CLK_REF_LOST (R417). -/
def execClkRefLost (s : State) : Out := s.when always Device.refLost

/-- CLK_PLL_UNLOCK (R417): the PLL and its phase error in ps. -/
def execClkPllUnlock (pll ps : Nat) (s : State) : Out := s.when always (fun d => d.pllUnlock pll ps)

/-- CLK_LANE_REF_LOST (R418): the time lost in µs. -/
def execClkLaneRefLost (us : Nat) (s : State) : Out := s.when always (fun d => d.laneRefLost us)

/-- LANE_REF_RESTORED (R418). -/
def execLaneRefRestored (s : State) : Out := s.when always Device.laneRefBack

/-- TEST_LOGIC_RESET (R445). -/
def execTestLogicReset (s : State) : Out := s.whenB always (fun m d => Device.tapFree m d 0x01 [])

/-- A code is loaded into the instruction register. -/
def State.tap (s : State) (code : Nat) (pins data : List Bool) (edges : List (Nat × Bool)) : Out :=
  s.whenB always (fun m d => Device.tapLoad m d code pins data edges)

/-- IDCODE (R446). -/
def execIdcode (s : State) : Out := s.tap 0x01 [] [] []

/-- SAMPLE (R446): the balls as they stand. -/
def execSample (pins : List Bool) (s : State) : Out := s.tap 0x02 pins [] []

/-- PRELOAD (R446): the balls as they stand, and what is shifted in. -/
def execPreload (pins data : List Bool) (s : State) : Out := s.tap 0x03 pins data []

/-- EXTEST (R448). -/
def execExtest (pins data : List Bool) (s : State) : Out := s.tap 0x04 pins data []

/-- EXTEST_PULSE (R450): `edges` are the edges that the test receivers of the CML pairs detected, by cell. -/
def execExtestPulse (pins data : List Bool) (edges : List (Nat × Bool)) (s : State) : Out := s.tap 0x05 pins data edges

/-- EXTEST_TRAIN (R450). -/
def execExtestTrain (pins data : List Bool) (edges : List (Nat × Bool)) (s : State) : Out := s.tap 0x06 pins data edges

/-- CLAMP (R448): the balls keep what was preloaded. -/
def execClamp (s : State) : Out := s.tap 0x07 [] [] []

/-- HIGHZ (R448). -/
def execHighz (s : State) : Out := s.tap 0x08 [] [] []

/-- BYPASS (R446): FFh, and any code not listed; a code of another instruction is that instruction's. -/
def execBypass (code : Nat) (s : State) : Out :=
  s.whenB always (fun m d => if tapOp (code % 256) = .bypass then Device.tapLoad m d (code % 256) [] [] [] else (m, d))

end Sys2Proof.Machine
end

