-- ==== Sys2Proof/Machine/ProtCmds.lean ====
section
/-! DEFINITION. The commands of protection (R178 … R198): interlocks, thermal supervision, head trips, drop tests. -/
namespace Sys2Proof.Machine

/-- INTLK_ASSERTED (R183): the ball of input n has had the level `high` for `held` ENC cycles. -/
def execIntlkAsserted (n : Nat) (high : Bool) (held : Nat) (s : State) : Out :=
  s.when (inDom 56 (n < 12)) (fun d => d.intlkAssertAll n high held)

/-- INTLK_CLEARED (R184): the ball of input n has had the level `high` for `held` ENC cycles. -/
def execIntlkCleared (n : Nat) (high : Bool) (held : Nat) (s : State) : Out :=
  s.when (inDom 56 (n < 12)) (fun d => d.intlkClearAll n high held)

/-- INTLK_ACK (R184). -/
def execIntlkAck (r : Req) (mask : Nat) (s : State) : Out := s.put (mask < 2 ^ 16) {} r Reg.INTLK_ACK mask

/-- INTLK_RING_RECEIVED (R186). -/
def execIntlkRingReceived (h : HallHdr) (pos input role : Nat) (rel : Bool) (glc : Nat) (s : State) : Out :=
  s.when (inDom 53 (h.port < 2)) (fun d => d.intlkRingAll h pos input role rel glc)

/-- THERM_ACT_TIMEOUT (R188). -/
def execThermActTimeout (c : Nat) (s : State) : Out := s.when (inDom 56 (c < 192)) (fun d => d.thermTimeout c)

/-- ROTATE (R189). -/
def execRotate (c : Nat) (s : State) : Out := s.when (inDom 56 (c < 192)) (fun d => d.rotate c)

/-- TRIP_ACK (R190). -/
def execTripAck (r : Req) (mask : Nat) (s : State) : Out := s.put (mask < 2 ^ 32) {} r Reg.TRIP_ACK mask

/-- DT_START (R191). -/
def execDtStart (r : Req) (s : State) : Out := s.put True {} r Reg.DT_CMD 1

/-- DT_ABORT (R192). -/
def execDtAbort (r : Req) (s : State) : Out := s.put True {} r Reg.DT_CMD 2

/-- TEST_DROP (R191): no test drop starts while E10 is stopped (R2). -/
def execTestDrop (u : Nat) (s : State) : Out := s.when (inDomEng 56 10 (u < 4)) (fun d => d.testDrop u)

/-- GATE_PULSE (R193): leading edge in ps, width in ns, and the level of the pulse. -/
def execGatePulse (gate edge width : Nat) (high : Bool) (s : State) : Out :=
  s.when (inDom 56 (gate < 4)) (fun d => d.gatePulse gate edge width high)

/-- R194, R196: a drop's window ends; a test that has run to its end runs the automatic calibrations of its results (the
note after R224). -/
def Device.dtDropEnd (d : Device) (u : Nat) : Device :=
  let d1 := d.dtWindowEnd u
  if d.reg Reg.DT_STATE ≠ 3 ∧ d1.reg Reg.DT_STATE = 3 then d1.autoDropTest else d1

/-- DT_DROP_WINDOW_END (R194). -/
def execDtDropWindowEnd (u : Nat) (s : State) : Out := s.when (inDom 56 (u < 4)) (fun d => d.dtDropEnd u)

/-- DT_GATED_TIMEOUT (R192). -/
def execDtGatedTimeout (s : State) : Out := s.when (inDom 56 True) Device.dtTimeout

end Sys2Proof.Machine
end

