-- ==== Sys2Proof/Machine/RoomsCmds.lean ====
section
/-! DEFINITION. The commands of the Rooms (R151 … R177) and of redundancy control (R245 … R256, R451 … R455). -/
namespace Sys2Proof.Machine

/-- The domain of the unit that renders group k: its Room's, or the Spare's (R249). -/
def Device.renderOn (d : Device) (k : Nat) : Bool := d.domainOn (if d.spareServes k then 26 else 2 + k)

/-- ROOM_RENDER_SLOT (R153). -/
def execRoomRenderSlot (k : Nat) (s : State) : Out :=
  s.whenM (fun d => decide (k < 24) && d.renderOn k) (fun m d => Device.renderGroup m d k)

/-- CHECKPOINT_DONE (R175). -/
def execCheckpointDone (k : Nat) (s : State) : Out :=
  s.whenB (fun d => decide (k < 24) && d.renderOn k) (fun m d => Device.checkpointDone m d k)

/-- NOZZLE_MAP_WRITE (R167). -/
def execNozzleMapWrite (r : Req) (c : Nat) (bytes : List Nat) (s : State) : Out :=
  s.putBlob (c < 192) {} r (Reg.NOZZLE_MAP + c) bytes

/-- NOZZLE_WORD_WRITE (R166). -/
def execNozzleWordWrite (r : Req) (w : Nat) (s : State) : Out := s.put (w < 2 ^ 32) {} r Reg.NOZZLE_WORD w

/-- SHADOW_CHECK (R246): `room` and `spare` are the signatures of units that computed another line than the sound one. -/
def execShadowCheck (room spare : Option Nat) (s : State) : Out :=
  s.whenM (inDom 26 True) (fun m d => Device.shadowCheck m d room spare)

/-- SHADOW_RECOMPUTE (R247). -/
def execShadowRecompute (room spare : Option Nat) (s : State) : Out :=
  s.whenM (inDom 26 True) (fun m d => Device.shadowRecompute m d room spare)

/-- SHADOW_REFEREE (R247). -/
def execShadowReferee (ref : Option Nat) (s : State) : Out :=
  s.whenM (inDom 26 True) (fun m d => Device.shadowReferee m d ref)

/-- The domain of Room u, or of the Spare (24), is on. -/
def unitOn (u : Nat) : Device → Bool := inDom (if u = 24 then 26 else 2 + u) (u ≤ 24)

/-- ROOM_STALL (R248). -/
def execRoomStall (u : Nat) (s : State) : Out := s.whenM (unitOn u) (fun m d => Device.roomStall m d u)

/-- ROOM_MEMORY_ERROR (R248). -/
def execRoomMemoryError (u : Nat) (s : State) : Out := s.whenM (unitOn u) (fun m d => Device.unitFaulty m d u 3)

/-- PROOF_START (R255). -/
def execProofStart (r : Req) (s : State) : Out := s.put True {} r Reg.PROOF_CMD 1

/-- PROOF_ABORT (R255). -/
def execProofAbort (r : Req) (s : State) : Out := s.put True {} r Reg.PROOF_CMD 2

/-- PROOF_DONE (R255, R256). -/
def execProofDone (x : ProofRes) (s : State) : Out := s.when (inService True) (fun d => d.proofDone x)

/-- SELFTEST_START (R451). -/
def execSelftestStart (r : Req) (s : State) : Out := s.put True {} r Reg.SELFTEST_CMD 1

/-- SELFTEST_ABORT (R451). -/
def execSelftestAbort (r : Req) (s : State) : Out := s.put True {} r Reg.SELFTEST_CMD 2

/-- SELFTEST_DONE (R453). -/
def execSelftestDone (x : SelfRes) (s : State) : Out := s.when (inService True) (fun d => d.selftestDone x)

/-- LOOPBACK_START (R454). -/
def execLoopbackStart (r : Req) (s : State) : Out := s.put True {} r Reg.LB_LOOP_CMD 1

/-- LOOPBACK_DONE (R455). -/
def execLoopbackDone (x : LoopRes) (s : State) : Out := s.when (inService True) (fun d => d.loopbackDone x)

end Sys2Proof.Machine
end

