-- ==== Sys2Proof/Machine/WindowCmds.lean ====
section
/-! DEFINITION. The commands of the Window (R199 … R220), of calibration and of the Cellar (R221 … R244). -/
namespace Sys2Proof.Machine

/-- WIN_PORT_DISABLE (R202). -/
def execWinPortDisable (r : Req) (p : Nat) (s : State) : Out := s.put (p < 4) {} r (Reg.WIN_PORT_ENABLE + p) 0

/-- WIN_PORT_ENABLE (R202). -/
def execWinPortEnable (r : Req) (p : Nat) (s : State) : Out := s.put (p < 4) {} r (Reg.WIN_PORT_ENABLE + p) 1

/-- CSI_FRAME_START (R206). -/
def execCsiFrameStart (h : CsiHdr) (fails : List (Nat × Nat)) (s : State) : Out :=
  s.when (inDom 54 (h.port < 4)) (fun d => d.csiFrameStart h fails)

/-- CSI_LINE (R203). -/
def execCsiLine (h : CsiHdr) (dt : Nat) (crcOk : Bool) (pix : List Nat) (s : State) : Out :=
  s.whenB (inDom 54 (h.port < 4)) (fun m d =>
    ({ m with store := (Device.csiLine m.store d h dt crcOk pix).1 }, (Device.csiLine m.store d h dt crcOk pix).2))

/-- CSI_FRAME_END (R208). -/
def execCsiFrameEnd (h : CsiHdr) (s : State) : Out := s.when (inDom 54 (h.port < 4)) (fun d => d.csiFrameEnd h)

/-- FRAME_TIMEOUT (R208). -/
def execFrameTimeout (c : Nat) (s : State) : Out := s.when (inDom 54 (c < 8)) (fun d => d.frameTimeout c)

/-- TRIG_ARM (R205). -/
def execTrigArm (r : Req) (p : Nat) (s : State) : Out := s.put (p < 4) {} r (Reg.TRIG_ARM + p) 1

/-- TRIG_DISARM (R205). -/
def execTrigDisarm (r : Req) (p : Nat) (s : State) : Out := s.put (p < 4) {} r (Reg.TRIG_ARM + p) 2

/-- TRIG_PULSE (R205): `fails` numbers the CCI writes of this pulse that the camera does not acknowledge, each with the bytes
that it had put on the bus. -/
def execTrigPulse (p : Nat) (fails : List (Nat × Nat)) (s : State) : Out := s.when (inDom 54 (p < 4)) (fun d => d.trigPulse p fails)

/-- TRIG_PULSE_END (R205). -/
def execTrigPulseEnd (p : Nat) (s : State) : Out := s.when (inDom 54 (p < 4)) (fun d => d.trigPulseEnd p)

/-- PSET_WRITE (R216). -/
def execPsetWrite (r : Req) (c : Nat) (bytes : List Nat) (s : State) : Out := s.putBlob (c < 8) {} r (Reg.PSET + c) bytes

/-- R219, R316: a record goes to the calibration manager and, as STATS messages, to the ring. -/
def Device.recordOut (d : Device) (f : Frame) (r : List Nat) : Device :=
  (d.calRecord r f.conf.measB).statsSend f.ctx f.num r

/-- R218, R219: the pipeline's step; the records of dropped frames go out first, then one that the step publishes. -/
def Device.pipeRun (m : List Host.Cell) (d0 : Device) : Device :=
  let d := d0.win.drops.foldl (fun (d : Device) (f : Frame) => d.recordOut f (droppedRecord f))
    { d0 with win := { d0.win with drops := [] } }
  match Device.pipeStep m d with
  | (d1, none) => d1
  | (d1, some f) => d1.recordOut f (d1.winCtx f.ctx).record

/-- PIPE_STEP (R218). -/
def execPipeStep (s : State) : Out := s.whenM (inDom 54 True) (fun m d => Device.pipeRun m.store d)

/-- CAL_RUN (R234). -/
def execCalRun (r : Req) (s : State) : Out := s.put True {} r Reg.CAL_CMD 1

/-- CAL_ABORT (R234). -/
def execCalAbort (r : Req) (s : State) : Out := s.put True {} r Reg.CAL_CMD 2

/-- CAL_REVERT (R234). -/
def execCalRevert (r : Req) (s : State) : Out := s.put True {} r Reg.CAL_CMD 3

/-- DENS_APPLY (R229). -/
def execDensApply (s : State) : Out := s.when (inEng 5 True) Device.densApply

/-- REG_APPLY (R232). -/
def execRegApply (s : State) : Out := s.when (inEng 5 True) Device.regApply

/-- AIN_TRIM_WRITE (R224): the gain or the offset of analog input i. -/
def execAinTrimWrite (r : Req) (i : Nat) (offset : Bool) (v : Int) (s : State) : Out :=
  s.put (i < 16 ∧ -(2 ^ 15) ≤ v ∧ v < 2 ^ 15) {} r ((if offset then Reg.AIN_TRIM_OFFSET else Reg.AIN_TRIM_GAIN) + i) v

/-- CELLAR_FLUSH_CMD (R240). -/
def execCellarFlushCmd (r : Req) (s : State) : Out := s.put True {} r Reg.CELLAR_FLUSH_CMD 1

/-- CELLAR_WRITE (R240). -/
def execCellarWrite (s : State) : Out := s.when Device.cellarRuns Device.cellarWrite

/-- CELLAR_WRITE_DONE (R240): `back` is what the read-back finds in the slot. -/
def execCellarWriteDone (back : List Nat) (s : State) : Out :=
  s.whenB (inService True) (fun m d =>
    ({ m with flash := (Device.cellarWriteDone m.flash d back).1 }, (Device.cellarWriteDone m.flash d back).2))

/-- PROFILE_SAVE_CMD (R241). -/
def execProfileSaveCmd (r : Req) (s : State) : Out := s.put True {} r Reg.PROFILE_SAVE_CMD 1

end Sys2Proof.Machine
end

