-- ==== Sys2Proof/Machine/Dispatch.lean ====
section
/-! DEFINITION. The dispatch: one arm per command, each arm one direct call of its meaning. -/
namespace Sys2Proof.Machine

def exec (i : Instr) (s : State) : Host.Outcome State Fault Refusal :=
  match i with
  | .entryWrite r index sub ty bytes env => Sys2Proof.Machine.execEntryWrite r index sub ty bytes env s
  | .read v items vpp => Sys2Proof.Machine.execRead v items vpp s
  | .write v items env => Sys2Proof.Machine.execWrite v items env s
  | .domainReadStart v index sub rsv => Sys2Proof.Machine.execDomainReadStart v index sub rsv s
  | .domainReadSeg v off max rsv => Sys2Proof.Machine.execDomainReadSeg v off max rsv s
  | .domainWriteStart v index sub rsv total crc env => Sys2Proof.Machine.execDomainWriteStart v index sub rsv total crc env s
  | .domainWriteSeg v off len rsv data env => Sys2Proof.Machine.execDomainWriteSeg v off len rsv data env s
  | .domainAbort v => Sys2Proof.Machine.execDomainAbort v s
  | .domainIdleTimeout r => Sys2Proof.Machine.execDomainIdleTimeout r s
  | .sessionOpen h level rsv => Sys2Proof.Machine.execSessionOpen h level rsv s
  | .sessionClose h => Sys2Proof.Machine.execSessionClose h s
  | .sessionTimeout n => Sys2Proof.Machine.execSessionTimeout n s
  | .auth h mac => Sys2Proof.Machine.execAuth h mac s
  | .challenge h => Sys2Proof.Machine.execChallenge h s
  | .response h sig pub => Sys2Proof.Machine.execResponse h sig pub s
  | .lockoutEnd => Sys2Proof.Machine.execLockoutEnd s
  | .eventSubscribe h sev rsv => Sys2Proof.Machine.execEventSubscribe h sev rsv s
  | .eventAck h seq => Sys2Proof.Machine.execEventAck h seq s
  | .eventResend n seq => Sys2Proof.Machine.execEventResend n seq s
  | .keepalive h => Sys2Proof.Machine.execKeepalive h s
  | .commitRequest r => Sys2Proof.Machine.execCommitRequest r s
  | .commitCancel r => Sys2Proof.Machine.execCommitCancel r s
  | .commitDiscard r => Sys2Proof.Machine.execCommitDiscard r s
  | .commitRingAckCheck => Sys2Proof.Machine.execCommitRingAckCheck s
  | .inForceSelWrite r v => Sys2Proof.Machine.execInForceSelWrite r v s
  | .inForceValueRead r => Sys2Proof.Machine.execInForceValueRead r s
  | .profileRequest r n => Sys2Proof.Machine.execProfileRequest r n s
  | .nmtCommand p cs node => Sys2Proof.Machine.execNmtCommand p cs node s
  | .heartbeat p => Sys2Proof.Machine.execHeartbeat p s
  | .usdoTransfer p u env => Sys2Proof.Machine.execUsdoTransfer p u env s
  | .rpdoReceived p n data env => Sys2Proof.Machine.execRpdoReceived p n data env s
  | .tpdoTransmit p n vpp => Sys2Proof.Machine.execTpdoTransmit p n vpp s
  | .encEdge ch a b held v => Sys2Proof.Machine.execEncEdge ch a b held v s
  | .speedStall ch v => Sys2Proof.Machine.execSpeedStall ch v s
  | .ssiFrameStart ch sda => Sys2Proof.Machine.execSsiFrameStart ch sda s
  | .ssiFrameDone ch word => Sys2Proof.Machine.execSsiFrameDone ch word s
  | .index ch held => Sys2Proof.Machine.execIndex ch held s
  | .suspectClear r ch => Sys2Proof.Machine.execSuspectClear r ch s
  | .refSourceWrite r v => Sys2Proof.Machine.execRefSourceWrite r v s
  | .refAnchorCmd r => Sys2Proof.Machine.execRefAnchorCmd r s
  | .probeEdge n rising held => Sys2Proof.Machine.execProbeEdge n rising held s
  | .ackSeq r n seq => Sys2Proof.Machine.execAckSeq r n seq s
  | .cmpArm r n => Sys2Proof.Machine.execCmpArm r n s
  | .cmpDisarm r n => Sys2Proof.Machine.execCmpDisarm r n s
  | .cmpFire n => Sys2Proof.Machine.execCmpFire n s
  | .cmpPulseEnd n => Sys2Proof.Machine.execCmpPulseEnd n s
  | .qoutStep q => Sys2Proof.Machine.execQoutStep q s
  | .qoutConfigWrite r q field v => Sys2Proof.Machine.execQoutConfigWrite r q field v s
  | .kaCount a b held => Sys2Proof.Machine.execKaCount a b held s
  | .lineEvent v => Sys2Proof.Machine.execLineEvent v s
  | .pageBind => Sys2Proof.Machine.execPageBind s
  | .strobeFire c h sub v => Sys2Proof.Machine.execStrobeFire c h sub v s
  | .firePulseEnd c => Sys2Proof.Machine.execFirePulseEnd c s
  | .latch k v => Sys2Proof.Machine.execLatch k v s
  | .latPulseEnd k => Sys2Proof.Machine.execLatPulseEnd k s
  | .shiftStart k => Sys2Proof.Machine.execShiftStart k s
  | .shiftDone k => Sys2Proof.Machine.execShiftDone k s
  | .spreadRecompute k => Sys2Proof.Machine.execSpreadRecompute k s
  | .hgDisable r k => Sys2Proof.Machine.execHgDisable r k s
  | .hgEnable r k => Sys2Proof.Machine.execHgEnable r k s
  | .hgShutdownDone k => Sys2Proof.Machine.execHgShutdownDone k s
  | .pollCycle k reads => Sys2Proof.Machine.execPollCycle k reads s
  | .headRecordRead c data err => Sys2Proof.Machine.execHeadRecordRead c data err s
  | .headAlert k held => Sys2Proof.Machine.execHeadAlert k held s
  | .alertIdentified k addr err => Sys2Proof.Machine.execAlertIdentified k addr err s
  | .alertWindowEnd k nack => Sys2Proof.Machine.execAlertWindowEnd k nack s
  | .headMemWriteDone c back err => Sys2Proof.Machine.execHeadMemWriteDone c back err s
  | .headAccept r c => Sys2Proof.Machine.execHeadAccept r c s
  | .qptOpen h => Sys2Proof.Machine.execQptOpen h s
  | .qptData h data => Sys2Proof.Machine.execQptData h data s
  | .qptRaw h data => Sys2Proof.Machine.execQptRaw h data s
  | .qptDesc h b => Sys2Proof.Machine.execQptDesc h b s
  | .qptClose h => Sys2Proof.Machine.execQptClose h s
  | .creditIdle k => Sys2Proof.Machine.execCreditIdle k s
  | .pageNotReady => Sys2Proof.Machine.execPageNotReady s
  | .schedStop r => Sys2Proof.Machine.execSchedStop r s
  | .schedResume r => Sys2Proof.Machine.execSchedResume r s
  | .schedFlush r => Sys2Proof.Machine.execSchedFlush r s
  | .histCaptureCmd r => Sys2Proof.Machine.execHistCaptureCmd r s
  | .roomRenderSlot k => Sys2Proof.Machine.execRoomRenderSlot k s
  | .checkpointDone k => Sys2Proof.Machine.execCheckpointDone k s
  | .nozzleMapWrite r c bytes => Sys2Proof.Machine.execNozzleMapWrite r c bytes s
  | .nozzleWordWrite r w => Sys2Proof.Machine.execNozzleWordWrite r w s
  | .intlkAsserted n high held => Sys2Proof.Machine.execIntlkAsserted n high held s
  | .intlkCleared n high held => Sys2Proof.Machine.execIntlkCleared n high held s
  | .intlkAck r mask => Sys2Proof.Machine.execIntlkAck r mask s
  | .intlkRingReceived h pos input role rel glc => Sys2Proof.Machine.execIntlkRingReceived h pos input role rel glc s
  | .thermActTimeout c => Sys2Proof.Machine.execThermActTimeout c s
  | .rotate c => Sys2Proof.Machine.execRotate c s
  | .tripAck r mask => Sys2Proof.Machine.execTripAck r mask s
  | .dtStart r => Sys2Proof.Machine.execDtStart r s
  | .dtAbort r => Sys2Proof.Machine.execDtAbort r s
  | .testDrop u => Sys2Proof.Machine.execTestDrop u s
  | .gatePulse gate edge width high => Sys2Proof.Machine.execGatePulse gate edge width high s
  | .dtDropWindowEnd u => Sys2Proof.Machine.execDtDropWindowEnd u s
  | .dtGatedTimeout => Sys2Proof.Machine.execDtGatedTimeout s
  | .winPortDisable r p => Sys2Proof.Machine.execWinPortDisable r p s
  | .winPortEnable r p => Sys2Proof.Machine.execWinPortEnable r p s
  | .csiFrameStart h fails => Sys2Proof.Machine.execCsiFrameStart h fails s
  | .csiLine h dt crcOk pix => Sys2Proof.Machine.execCsiLine h dt crcOk pix s
  | .csiFrameEnd h => Sys2Proof.Machine.execCsiFrameEnd h s
  | .frameTimeout c => Sys2Proof.Machine.execFrameTimeout c s
  | .trigArm r p => Sys2Proof.Machine.execTrigArm r p s
  | .trigDisarm r p => Sys2Proof.Machine.execTrigDisarm r p s
  | .trigPulse p fails => Sys2Proof.Machine.execTrigPulse p fails s
  | .psetWrite r c bytes => Sys2Proof.Machine.execPsetWrite r c bytes s
  | .pipeStep => Sys2Proof.Machine.execPipeStep s
  | .calRun r => Sys2Proof.Machine.execCalRun r s
  | .calAbort r => Sys2Proof.Machine.execCalAbort r s
  | .calRevert r => Sys2Proof.Machine.execCalRevert r s
  | .densApply => Sys2Proof.Machine.execDensApply s
  | .regApply => Sys2Proof.Machine.execRegApply s
  | .ainTrimWrite r n offset v => Sys2Proof.Machine.execAinTrimWrite r n offset v s
  | .cellarFlushCmd r => Sys2Proof.Machine.execCellarFlushCmd r s
  | .cellarWrite => Sys2Proof.Machine.execCellarWrite s
  | .cellarWriteDone back => Sys2Proof.Machine.execCellarWriteDone back s
  | .profileSaveCmd r => Sys2Proof.Machine.execProfileSaveCmd r s
  | .shadowCheck room spare => Sys2Proof.Machine.execShadowCheck room spare s
  | .shadowRecompute room spare => Sys2Proof.Machine.execShadowRecompute room spare s
  | .shadowReferee ref => Sys2Proof.Machine.execShadowReferee ref s
  | .roomStall u => Sys2Proof.Machine.execRoomStall u s
  | .roomMemoryError u => Sys2Proof.Machine.execRoomMemoryError u s
  | .proofStart r => Sys2Proof.Machine.execProofStart r s
  | .proofAbort r => Sys2Proof.Machine.execProofAbort r s
  | .proofDone x => Sys2Proof.Machine.execProofDone x s
  | .faultAck r seq => Sys2Proof.Machine.execFaultAck r seq s
  | .mirrorClearCmd r => Sys2Proof.Machine.execMirrorClearCmd r s
  | .loopSample k inp => Sys2Proof.Machine.execLoopSample k inp s
  | .loopForceSafe r k => Sys2Proof.Machine.execLoopForceSafe r k s
  | .loopRestore r k => Sys2Proof.Machine.execLoopRestore r k s
  | .loopDisable r k => Sys2Proof.Machine.execLoopDisable r k s
  | .loopEnable r k => Sys2Proof.Machine.execLoopEnable r k s
  | .loopOff k => Sys2Proof.Machine.execLoopOff k s
  | .pwmPeriod b => Sys2Proof.Machine.execPwmPeriod b s
  | .rxFrame p sub rx f => Sys2Proof.Machine.execRxFrame p sub rx f s
  | .porchPortDisable r p => Sys2Proof.Machine.execPorchPortDisable r p s
  | .porchPortEnable r p => Sys2Proof.Machine.execPorchPortEnable r p s
  | .porchPortOff p => Sys2Proof.Machine.execPorchPortOff p s
  | .porchLinkUp p sub => Sys2Proof.Machine.execPorchLinkUp p sub s
  | .porchLinkDown p sub => Sys2Proof.Machine.execPorchLinkDown p sub s
  | .porchHoldTimeout p => Sys2Proof.Machine.execPorchHoldTimeout p s
  | .porchHoldRetry p => Sys2Proof.Machine.execPorchHoldRetry p s
  | .fdbAge mac => Sys2Proof.Machine.execFdbAge mac s
  | .ptpSync t port sender t1 stamp ms => Sys2Proof.Machine.execPtpSync t port sender t1 stamp ms s
  | .ptpMessage t port m => Sys2Proof.Machine.execPtpMessage t port m s
  | .syncLoss t => Sys2Proof.Machine.execSyncLoss t s
  | .tb3Update => Sys2Proof.Machine.execTb3Update s
  | .tb3StepCmd r => Sys2Proof.Machine.execTb3StepCmd r s
  | .launchSubmit r bytes => Sys2Proof.Machine.execLaunchSubmit r bytes s
  | .launchCancel r tag => Sys2Proof.Machine.execLaunchCancel r tag s
  | .launch p => Sys2Proof.Machine.execLaunch p s
  | .hallPortDisable r p => Sys2Proof.Machine.execHallPortDisable r p s
  | .hallPortEnable r p => Sys2Proof.Machine.execHallPortEnable r p s
  | .hallPortOff p => Sys2Proof.Machine.execHallPortOff p s
  | .hallTrainingStep p t => Sys2Proof.Machine.execHallTrainingStep p t s
  | .hallTrainingRestart p => Sys2Proof.Machine.execHallTrainingRestart p s
  | .hallHoldTimeout p => Sys2Proof.Machine.execHallHoldTimeout p s
  | .hallHoldRetry p => Sys2Proof.Machine.execHallHoldRetry p s
  | .edge h pt ns frac v flags vote => Sys2Proof.Machine.execEdge h pt ns frac v flags vote s
  | .edgeSend => Sys2Proof.Machine.execEdgeSend s
  | .sync h ns frac acc arrPs resid => Sys2Proof.Machine.execSync h ns frac acc arrPs resid s
  | .syncSend => Sys2Proof.Machine.execSyncSend s
  | .grid h go po num den mode => Sys2Proof.Machine.execGrid h go po num den mode s
  | .gridSend => Sys2Proof.Machine.execGridSend s
  | .cue h pt seq => Sys2Proof.Machine.execCue h pt seq s
  | .commit h number pt kind => Sys2Proof.Machine.execCommit h number pt kind s
  | .commitAck h number count crc => Sys2Proof.Machine.execCommitAck h number count crc s
  | .latProbe h num turn ps => Sys2Proof.Machine.execLatProbe h num turn ps s
  | .latProbeSend p => Sys2Proof.Machine.execLatProbeSend p s
  | .enum h dir count size serial => Sys2Proof.Machine.execEnum h dir count size serial s
  | .enumTimeout reached => Sys2Proof.Machine.execEnumTimeout reached s
  | .status h w => Sys2Proof.Machine.execStatus h w s
  | .statusSend => Sys2Proof.Machine.execStatusSend s
  | .stats h mine c frame off total bs => Sys2Proof.Machine.execStats h mine c frame off total bs s
  | .bulk h pos eng srcW data => Sys2Proof.Machine.execBulk h pos eng srcW data s
  | .hallAck p cls seq => Sys2Proof.Machine.execHallAck p cls seq s
  | .hallNak p cls => Sys2Proof.Machine.execHallNak p cls s
  | .replayTimeout p cls => Sys2Proof.Machine.execReplayTimeout p cls s
  | .h1Enter p => Sys2Proof.Machine.execH1Enter p s
  | .laneFail p lane gap errs lost => Sys2Proof.Machine.execLaneFail p lane gap errs lost s
  | .laneSwitch p lane gap => Sys2Proof.Machine.execLaneSwitch p lane gap s
  | .hallReset p down => Sys2Proof.Machine.execHallReset p down s
  | .linkResetCmd r p => Sys2Proof.Machine.execLinkResetCmd r p s
  | .coastTimeout => Sys2Proof.Machine.execCoastTimeout s
  | .prbsStart r => Sys2Proof.Machine.execPrbsStart r s
  | .prbsStop r rx => Sys2Proof.Machine.execPrbsStop r rx s
  | .pantryTransaction t => Sys2Proof.Machine.execPantryTransaction t s
  | .panicStart fill => Sys2Proof.Machine.execPanicStart fill s
  | .panicEnd fill low => Sys2Proof.Machine.execPanicEnd fill low s
  | .refresh c => Sys2Proof.Machine.execRefresh c s
  | .mr4Read c mult => Sys2Proof.Machine.execMr4Read c mult s
  | .rhWindowEnd c => Sys2Proof.Machine.execRhWindowEnd c s
  | .scrub ecc => Sys2Proof.Machine.execScrub ecc s
  | .dqsCheck c x => Sys2Proof.Machine.execDqsCheck c x s
  | .engWatchdog e => Sys2Proof.Machine.execEngWatchdog e s
  | .engWorkshopTrap w addr byte => Sys2Proof.Machine.execEngWorkshopTrap w addr byte s
  | .engSramEcc e addr fixable => Sys2Proof.Machine.execEngSramEcc e addr fixable s
  | .bulkSend b op pos eng len data => Sys2Proof.Machine.execBulkSend b op pos eng len data s
  | .mbAck w mask regs => Sys2Proof.Machine.execMbAck w mask regs s
  | .wdtKick w => Sys2Proof.Machine.execWdtKick w s
  | .workshopRestart r => Sys2Proof.Machine.execWorkshopRestart r s
  | .workshopHalt r => Sys2Proof.Machine.execWorkshopHalt r s
  | .workshopImageWrite r bytes => Sys2Proof.Machine.execWorkshopImageWrite r bytes s
  | .pwrRequestRun r => Sys2Proof.Machine.execPwrRequestRun r s
  | .pwrRequestReady r => Sys2Proof.Machine.execPwrRequestReady r s
  | .pwrRequestStandby r => Sys2Proof.Machine.execPwrRequestStandby r s
  | .pwrRequestNight r => Sys2Proof.Machine.execPwrRequestNight r s
  | .sleepNFall => Sys2Proof.Machine.execSleepNFall s
  | .sleepRequestSample => Sys2Proof.Machine.execSleepRequestSample s
  | .pwrStepDone dqs => Sys2Proof.Machine.execPwrStepDone dqs s
  | .wake rise => Sys2Proof.Machine.execWake rise s
  | .wakeTb0Alarm => Sys2Proof.Machine.execWakeTb0Alarm s
  | .wakePos0Movement => Sys2Proof.Machine.execWakePos0Movement s
  | .powerRequest h target number status => Sys2Proof.Machine.execPowerRequest h target number status s
  | .powerPrepared h target number origin status => Sys2Proof.Machine.execPowerPrepared h target number origin status s
  | .powerGo h target number status => Sys2Proof.Machine.execPowerGo h target number status s
  | .powerCancel h target number status => Sys2Proof.Machine.execPowerCancel h target number status s
  | .powerAborted h target number origin status => Sys2Proof.Machine.execPowerAborted h target number origin status s
  | .powerExit h target number status => Sys2Proof.Machine.execPowerExit h target number status s
  | .ringPowerTimeout => Sys2Proof.Machine.execRingPowerTimeout s
  | .pwrRailFault slot cause => Sys2Proof.Machine.execPwrRailFault slot cause s
  | .railRetry => Sys2Proof.Machine.execRailRetry s
  | .pwrVbarLow mv => Sys2Proof.Machine.execPwrVbarLow mv s
  | .pwrAonBrownout => Sys2Proof.Machine.execPwrAonBrownout s
  | .pmbusPoll slot all r => Sys2Proof.Machine.execPmbusPoll slot all r s
  | .pwrTjHigh tj sensor => Sys2Proof.Machine.execPwrTjHigh tj sensor s
  | .pwrTjShutdown tj sensor => Sys2Proof.Machine.execPwrTjShutdown tj sensor s
  | .powerOn => Sys2Proof.Machine.execPowerOn s
  | .resetNAssert ns => Sys2Proof.Machine.execResetNAssert ns s
  | .resetNRelease => Sys2Proof.Machine.execResetNRelease s
  | .deviceResetCmd r => Sys2Proof.Machine.execDeviceResetCmd r s
  | .subsysResetCmd r code env => Sys2Proof.Machine.execSubsysResetCmd r code env s
  | .bootStep x => Sys2Proof.Machine.execBootStep x s
  | .bootRetry => Sys2Proof.Machine.execBootRetry s
  | .bootRomRelease => Sys2Proof.Machine.execBootRomRelease s
  | .houseImageWrite r bytes => Sys2Proof.Machine.execHouseImageWrite r bytes s
  | .foundationProgram r bytes env => Sys2Proof.Machine.execFoundationProgram r bytes env s
  | .clkRefLost => Sys2Proof.Machine.execClkRefLost s
  | .clkPllUnlock pll ps => Sys2Proof.Machine.execClkPllUnlock pll ps s
  | .clkLaneRefLost us => Sys2Proof.Machine.execClkLaneRefLost us s
  | .laneRefRestored => Sys2Proof.Machine.execLaneRefRestored s
  | .testLogicReset => Sys2Proof.Machine.execTestLogicReset s
  | .idcode => Sys2Proof.Machine.execIdcode s
  | .sample pins => Sys2Proof.Machine.execSample pins s
  | .preload pins data => Sys2Proof.Machine.execPreload pins data s
  | .extest pins data => Sys2Proof.Machine.execExtest pins data s
  | .extestPulse pins data edges => Sys2Proof.Machine.execExtestPulse pins data edges s
  | .extestTrain pins data edges => Sys2Proof.Machine.execExtestTrain pins data edges s
  | .clamp => Sys2Proof.Machine.execClamp s
  | .highz => Sys2Proof.Machine.execHighz s
  | .bypass code => Sys2Proof.Machine.execBypass code s
  | .selftestStart r => Sys2Proof.Machine.execSelftestStart r s
  | .selftestAbort r => Sys2Proof.Machine.execSelftestAbort r s
  | .selftestDone x => Sys2Proof.Machine.execSelftestDone x s
  | .loopbackStart r => Sys2Proof.Machine.execLoopbackStart r s
  | .loopbackDone x => Sys2Proof.Machine.execLoopbackDone x s
  | .alertNDeasserted k held => Sys2Proof.Machine.execAlertNDeasserted k held s
  | .trigPulseEnd p => Sys2Proof.Machine.execTrigPulseEnd p s
  | .ainMonConversion n raw => Sys2Proof.Machine.execAinMonConversion n raw s
  | .ptpDelayReqSend t => Sys2Proof.Machine.execPtpDelayReqSend t s
  | .porchLanesTrained p => Sys2Proof.Machine.execPorchLanesTrained p s

end Sys2Proof.Machine
end

