-- ==== Sys2Proof/Machine/Tick.lean ====
section
/-! DEFINITION. What one ENC cycle brings when no command waits (log entry 6): the branch of R55 without an edge, the
strobe positions reached, OVERSPEED_N (R92), the slots that the Rooms can begin (R248), the Window ports whose shutdown has ended, the Porch ports, which send (R288) and stop (R289), the beats of the Hallway (R315), the Pantry's channels (R336), the measured clocks, the time bases,
and a device reset that is due. -/
namespace Sys2Proof.Machine

/-- The cycle of the domains outside AON. -/
def Device.tickCore (m : Memories) (d : Device) : Memories × Device :=
  let d1 := if d.domainOn 56 then ((d.noteReached.ptTrack).posTick).overspeedCheck else d
  let d2 := [0, 1, 2, 3].foldl (fun (d : Device) p => d.winPortTick p)
    ((List.range 24).foldl (fun (d : Device) k => d.markBegun k) d1)
  let r := if d.domainOn 51 then Device.pantryTick m.store d2 else (m.store, d2)
  ({ m with store := r.1 },
   [0, 1].foldl (fun (d : Device) p => (((d.portTx p).porchStopTick p).pauseTick p).hallTick p) r.2)

/-- The time bases advance; in NIGHT and OFF TB0's advance is settled at the wake (R294). -/
def Device.tickTime (d : Device) : Device :=
  if d.time.nightAt.isNone then { d with time := d.time.tick (d.domainOn 52) } else d

/-- R408, R416, R421: the lane reference is measured against the crystal, and the byte clock of each camera port that is ON;
what is not running keeps its value. The measurements come every 10 ms, and what they find is open (log entry 205). -/
def Device.measure (d : Device) : Device :=
  if d.now % cycMs 10 ≠ 0 then d
  else
    let d1 := if d.domainOn 52 && d.reg Reg.LANE_REF_STATE == 0 && d.reg Reg.XTAL_STATE == 0 then
        let (v, z) := d.takeFree
        let ppb : Int := ((v.toNat % 260001 : Nat) : Int) - 130000
        ({ z with time := z.time.setLane ppb } : Device).setRegN Reg.LANE_TO_XTAL_PPM (f32OfRat ppb 1000)
      else d
    [0, 1, 2, 3].foldl (fun (d : Device) p =>
      if d.domainOn 54 && d.reg (Reg.WIN_PORT_STATE + p) == 4 then
        let (v, z) := d.takeFree
        z.setRegN (Reg.CAM_BYTE_KHZ + p) (10000 + v.toNat % 302501)
      else d) d1

/-- One ENC cycle. -/
def Device.tick (m : Memories) (d : Device) : Memories × Device :=
  let r := Device.tickCore m d
  let d1 := r.2.measure.tickTime
  Device.resetDue r.1 { d1 with now := d1.now + 1 }

/-- One ENC cycle of the machine. The commands taken since the last one fall into this cycle, and the records that they
and the cycle itself raised enter the log at its end (R259), once firmware runs (R391, R396). -/
def State.tick (s : State) : State :=
  let r := Device.tick s.mem s.dev
  { s with mem := r.1, dev := if r.2.firmware then r.2.flush else r.2 }

end Sys2Proof.Machine
end

