-- ==== Sys2Proof/WellFormed.lean ====
section
/-! DEFINITION. Well-formed commands: every operand lies in the range of what it stands for (a unit's number, a field's
width, a list of bytes). A command whose unit is out of range names nothing the device has, and changes nothing (log
entry 42). -/
namespace Sys2Proof

/-- Bytes are below 256. -/
def bytesOk (l : List Nat) : Bool := l.all (fun b => decide (b < 256))

/-- R31: a session number is a U16, a Workshop engine one of 4, a CAN port one of 2. -/
def Req.wf : Req → Bool
  | .session n => decide (n < 65536)
  | .mailbox w => decide (w < 4)
  | .can p => decide (p < 2)
  | .device => true

/-- R42: the fields of a QDP header fit their widths. -/
def QdpHdr.wf (h : QdpHdr) : Bool :=
  decide (h.srcPort < 65536 ∧ h.magic < 65536 ∧ h.version < 256 ∧ h.flags < 256 ∧ h.status < 256 ∧ h.session < 65536 ∧
    h.seq < 2 ^ 32 ∧ h.count < 65536 ∧ h.payloadLen < 65536 ∧ h.rx < 8)

/-- R355: the fields of a mailbox request fit their widths. -/
def MbHdr.wf (b : MbHdr) : Bool := decide (b.w < 4 ∧ b.slot < 8 ∧ b.flags < 256 ∧ b.count < 65536 ∧ b.status < 256)

/-- R42, R354: how a request arrives. -/
def Via.wf : Via → Bool
  | .qdp h => h.wf
  | .mailbox b => b.wf

/-- R42: a READ item. -/
def ReadItem.wf (x : ReadItem) : Bool := decide (x.index < 65536 ∧ x.sub < 256 ∧ x.flags < 256)

/-- R42: a WRITE item. -/
def WriteItem.wf (x : WriteItem) : Bool := decide (x.index < 65536 ∧ x.sub < 256 ∧ x.ty < 256) && bytesOk x.value

/-- R47: a USDO transfer. -/
def UsdoReq.wf (x : UsdoReq) : Bool := decide (x.index < 65536 ∧ x.sub < 256) && bytesOk x.data

/-- R136: the fields of a QPT header fit their widths. -/
def QptHdr.wf (h : QptHdr) : Bool :=
  decide (h.srcPort < 65536 ∧ h.magic < 65536 ∧ h.version < 256 ∧ h.stream < 256 ∧ h.flags < 256 ∧ h.offset < 2 ^ 64 ∧
    h.tag < 2 ^ 32 ∧ h.aux < 2 ^ 32 ∧ h.session < 65536 ∧ h.payloadLen < 65536 ∧ h.rx < 8)

/-- R200: one of 4 camera ports and of 4 virtual channels; the ECC finds nothing, a corrected or an uncorrectable error. -/
def CsiHdr.wf (h : CsiHdr) : Bool := decide (h.port < 4 ∧ h.vc < 4 ∧ h.ecc < 3)

/-- R313: one of 2 Hallway ports; SEQ is a U16 and HOPS a byte. -/
def HallHdr.wf (h : HallHdr) : Bool := decide (h.port < 2 ∧ h.seq < 65536 ∧ h.hops < 256)

/-- R283, R285: MAC addresses of 48 bits, a VLAN tag of 12 bits with its code point. -/
def EthFrame.wf (f : EthFrame) : Bool := decide (f.dst < 2 ^ 48 ∧ f.src < 2 ^ 48) &&
  (match f.vlan with
   | some (pcp, id) => decide (id < 4096 ∧ pcp < 8)
   | none => true) && bytesOk f.dstIp && bytesOk f.data

/-- R343: the bits of a sector and of its check field. -/
def SectorErr.wf (e : SectorErr) : Bool := e.bits.all (fun b => decide (b < 272))

/-- R335: a transaction of one of the five kinds of requester. -/
def PantryReq.wf (t : PantryReq) : Bool := decide (t.who < 5 ∧ t.unit < 16) && t.ecc.all SectorErr.wf && bytesOk t.data

/-- R396: three samples of the two straps. -/
def BootArgs.wf (x : BootArgs) : Bool := decide (x.straps.length = 3)

/-- R371: a regulator's readings are words. -/
def PmRead.wf (r : PmRead) : Bool := decide (r.word < 65536)

/-- R309 … R311: what a training step finds names lanes and taps that a port has, and an identity that IDENT can carry (0…4, or FFh
for no excluded lane). -/
def HallTrain.wf (t : HallTrain) : Bool :=
  t.reqs.all (fun l => l.all (fun r => decide (r.1 < 3))) && t.peaking.all (fun c => decide (c < 16)) &&
  decide (t.serial < 2 ^ 32 ∧ t.role < 4 ∧ (t.exOut < 5 ∨ t.exOut = 255) ∧ (t.exIn < 5 ∨ t.exIn = 255))

/-- The operands of a command are in range. -/
def Instr.wf : Instr → Bool
  | .entryWrite r index0 sub ty bytes _ => decide (index0 < 65536 ∧ sub < 256 ∧ ty < 256) && r.wf && bytesOk bytes
  | .read v items _ => v.wf && items.all ReadItem.wf
  | .write v items _ => v.wf && items.all WriteItem.wf
  | .domainReadStart v index0 sub _ => decide (index0 < 65536 ∧ sub < 256) && v.wf
  | .domainReadSeg v off max _ => decide (off < 2 ^ 32 ∧ max < 2 ^ 32) && v.wf
  | .domainWriteStart v index0 sub _ total crc _ => decide (index0 < 65536 ∧ sub < 256 ∧ total < 2 ^ 32 ∧ crc < 2 ^ 32) && v.wf
  | .domainWriteSeg v off _ _ data _ => decide (off < 2 ^ 32) && v.wf && bytesOk data
  | .domainAbort v => v.wf
  | .domainIdleTimeout r => r.wf
  | .sessionOpen h level _ => decide (level < 256) && h.wf
  | .sessionClose h => h.wf
  | .sessionTimeout n => decide (n < 2 ^ 16)
  | .auth h mac => h.wf && bytesOk mac
  | .challenge h => h.wf
  | .response h sig pub => h.wf && bytesOk sig && bytesOk pub
  | .lockoutEnd => true
  | .eventSubscribe h sev _ => decide (sev < 256) && h.wf
  | .eventAck h seq => decide (seq < 2 ^ 32) && h.wf
  | .eventResend n seq => decide (n < 2 ^ 16 ∧ seq < 2 ^ 32)
  | .keepalive h => h.wf
  | .commitRequest r => r.wf
  | .commitCancel r => r.wf
  | .commitDiscard r => r.wf
  | .commitRingAckCheck => true
  | .inForceSelWrite r v => decide (v < 2 ^ 32) && r.wf
  | .inForceValueRead r => r.wf
  | .profileRequest r n => decide (n < 256) && r.wf
  | .nmtCommand p cs node => decide (p < 2 ∧ cs < 256 ∧ node < 256)
  | .heartbeat p => decide (p < 2)
  | .usdoTransfer p u _ => decide (p < 2) && u.wf
  | .rpdoReceived p n data _ => decide (p < 2 ∧ n < 8) && bytesOk data
  | .tpdoTransmit p n _ => decide (p < 2 ∧ n < 8)
  | .encEdge ch _ _ _ _ => decide (ch < 2)
  | .speedStall ch _ => decide (ch < 2)
  | .ssiFrameStart ch _ => decide (ch < 2)
  | .ssiFrameDone ch word => decide (ch < 2 ∧ word < 2 ^ 71)
  | .index ch _ => decide (ch < 2)
  | .suspectClear r ch => decide (ch < 2) && r.wf
  | .refSourceWrite r v => decide (v < 256) && r.wf
  | .refAnchorCmd r => r.wf
  | .probeEdge n _ _ => decide (n < 8)
  | .ackSeq r n seq => decide (n < 8 ∧ seq < 2 ^ 32) && r.wf
  | .cmpArm r n => decide (n < 4) && r.wf
  | .cmpDisarm r n => decide (n < 4) && r.wf
  | .cmpFire n => decide (n < 4)
  | .cmpPulseEnd n => decide (n < 4)
  | .qoutStep q => decide (q < 2)
  | .qoutConfigWrite r q field v => decide (q < 2 ∧ v < 2 ^ 32 ∧ 1 ≤ field ∧ field ≤ 3) && r.wf
  | .kaCount _ _ _ => true
  | .lineEvent _ => true
  | .pageBind => true
  | .strobeFire c h sub _ => decide (c < 192 ∧ h < 2 ^ 48 ∧ sub < 4)
  | .firePulseEnd c => decide (c < 192)
  | .latch k _ => decide (k < 24)
  | .latPulseEnd k => decide (k < 24)
  | .shiftStart k => decide (k < 24)
  | .shiftDone k => decide (k < 24)
  | .spreadRecompute k => decide (k < 24)
  | .hgDisable r k => decide (k < 24) && r.wf
  | .hgEnable r k => decide (k < 24) && r.wf
  | .hgShutdownDone k => decide (k < 24)
  | .pollCycle k reads => decide (k < 24) && decide (reads.length ≤ 8)
  | .headRecordRead c data _ => decide (c < 192) && bytesOk data
  | .headAlert k _ => decide (k < 24)
  | .alertIdentified k addr _ => decide (k < 24 ∧ addr < 128)
  | .alertWindowEnd k _ => decide (k < 24)
  | .headMemWriteDone c back _ => decide (c < 192) && bytesOk back
  | .headAccept r c => decide (c < 192) && r.wf
  | .qptOpen h => h.wf
  | .qptData h data => h.wf && bytesOk data
  | .qptRaw h data => h.wf && bytesOk data
  | .qptDesc h _ => h.wf
  | .qptClose h => h.wf
  | .creditIdle k => decide (k < 16)
  | .pageNotReady => true
  | .schedStop r => r.wf
  | .schedResume r => r.wf
  | .schedFlush r => r.wf
  | .histCaptureCmd r => r.wf
  | .roomRenderSlot k => decide (k < 24)
  | .checkpointDone k => decide (k < 24)
  | .nozzleMapWrite r c bytes => decide (c < 192) && r.wf && bytesOk bytes
  | .nozzleWordWrite r w => decide (w < 2 ^ 32) && r.wf
  | .intlkAsserted n _ _ => decide (n < 12)
  | .intlkCleared n _ _ => decide (n < 12)
  | .intlkAck r mask => decide (mask < 2 ^ 16) && r.wf
  | .intlkRingReceived h pos input role _ glc => decide (pos < 256 ∧ input < 256 ∧ role < 256 ∧ glc < 2 ^ 64) && h.wf
  | .thermActTimeout c => decide (c < 192)
  | .rotate c => decide (c < 192)
  | .tripAck r mask => decide (mask < 2 ^ 32) && r.wf
  | .dtStart r => r.wf
  | .dtAbort r => r.wf
  | .testDrop u => decide (u < 4)
  | .gatePulse gate _ _ _ => decide (gate < 4)
  | .dtDropWindowEnd u => decide (u < 4)
  | .dtGatedTimeout => true
  | .winPortDisable r p => decide (p < 4) && r.wf
  | .winPortEnable r p => decide (p < 4) && r.wf
  | .csiFrameStart h _ => h.wf
  | .csiLine h dt _ pix => decide (dt < 64) && h.wf && pix.all (fun x => decide (x < 65536))
  | .csiFrameEnd h => h.wf
  | .frameTimeout c => decide (c < 8)
  | .trigArm r p => decide (p < 4) && r.wf
  | .trigDisarm r p => decide (p < 4) && r.wf
  | .trigPulse p _ => decide (p < 4)
  | .psetWrite r c bytes => decide (c < 8) && r.wf && bytesOk bytes
  | .pipeStep => true
  | .calRun r => r.wf
  | .calAbort r => r.wf
  | .calRevert r => r.wf
  | .densApply => true
  | .regApply => true
  | .ainTrimWrite r n _ v => decide (n < 16 ∧ -(2 ^ 15) ≤ v ∧ v < 2 ^ 15) && r.wf
  | .cellarFlushCmd r => r.wf
  | .cellarWrite => true
  | .cellarWriteDone back => bytesOk back
  | .profileSaveCmd r => r.wf
  | .shadowCheck _ _ => true
  | .shadowRecompute _ _ => true
  | .shadowReferee _ => true
  | .roomStall u => decide (u < 25)
  | .roomMemoryError u => decide (u < 25)
  | .proofStart r => r.wf
  | .proofAbort r => r.wf
  | .proofDone _ => true
  | .faultAck r seq => decide (seq < 2 ^ 32) && r.wf
  | .mirrorClearCmd r => r.wf
  | .loopSample k inp => decide (k < 64 ∧ inp < 2 ^ 16)
  | .loopForceSafe r k => decide (k < 64) && r.wf
  | .loopRestore r k => decide (k < 64) && r.wf
  | .loopDisable r k => decide (k < 64) && r.wf
  | .loopEnable r k => decide (k < 64) && r.wf
  | .loopOff k => decide (k < 64)
  | .pwmPeriod b => decide (b < 8)
  | .rxFrame p sub _ f => decide (p < 2 ∧ sub < 4) && f.wf
  | .porchPortDisable r p => decide (p < 2) && r.wf
  | .porchPortEnable r p => decide (p < 2) && r.wf
  | .porchPortOff p => decide (p < 2)
  | .porchLinkUp p sub => decide (p < 2 ∧ sub < 4)
  | .porchLinkDown p sub => decide (p < 2 ∧ sub < 4)
  | .porchHoldTimeout p => decide (p < 2)
  | .porchHoldRetry p => decide (p < 2)
  | .fdbAge mac => decide (mac < 2 ^ 48)
  | .ptpSync t port _ _ _ _ => decide (t < 3 ∧ port < 2)
  | .ptpMessage t port _ => decide (t < 3 ∧ port < 2)
  | .syncLoss t => decide (t < 3)
  | .tb3Update => true
  | .tb3StepCmd r => r.wf
  | .launchSubmit r bytes => r.wf && bytesOk bytes
  | .launchCancel r tag => decide (tag < 2 ^ 32) && r.wf
  | .launch p => decide (p < 2)
  | .hallPortDisable r p => decide (p < 2) && r.wf
  | .hallPortEnable r p => decide (p < 2) && r.wf
  | .hallPortOff p => decide (p < 2)
  | .hallTrainingStep p t => decide (p < 2) && t.wf
  | .hallTrainingRestart p => decide (p < 2)
  | .hallHoldTimeout p => decide (p < 2)
  | .hallHoldRetry p => decide (p < 2)
  | .edge h _ ns frac v flags _ => decide (ns < 2 ^ 64 ∧ frac < 2 ^ 16 ∧ v < 2 ^ 32 ∧ flags < 256) && h.wf
  | .edgeSend => true
  | .sync h ns frac acc _ _ => decide (ns < 2 ^ 64 ∧ frac < 2 ^ 16 ∧ acc < 2 ^ 32) && h.wf
  | .syncSend => true
  | .grid h go _ num den mode => decide (go < 2 ^ 64 ∧ num < 2 ^ 32 ∧ den < 2 ^ 32 ∧ mode < 256 ∧ num ≠ 0 ∧ den ≠ 0) && h.wf
  | .gridSend => true
  | .cue h _ seq => decide (seq < 2 ^ 32) && h.wf
  | .commit h number _ kind => decide (number < 2 ^ 32 ∧ kind < 256) && h.wf
  | .commitAck h number count crc => decide (number < 2 ^ 32 ∧ count < 2 ^ 32 ∧ crc < 2 ^ 32) && h.wf
  | .latProbe h num turn _ => decide (num < 2 ^ 16 ∧ turn < 2 ^ 32) && h.wf
  | .latProbeSend p => decide (p < 2)
  | .enum h dir count size serial => decide (dir < 2 ∧ count < 256 ∧ size < 256 ∧ serial < 2 ^ 32) && h.wf
  | .enumTimeout _ => true
  | .status h w => decide (w < 2 ^ 32) && h.wf
  | .statusSend => true
  | .stats h _ c frame off total bs => decide (c < 8 ∧ frame < 2 ^ 32 ∧ off < 2 ^ 32 ∧ total < 2 ^ 32) && h.wf && bytesOk bs
  | .bulk h pos eng srcW data => decide (pos < 256 ∧ eng < 256 ∧ srcW < 256) && h.wf && bytesOk data
  | .hallAck p cls seq => decide (p < 2 ∧ cls < 4 ∧ seq < 2 ^ 16)
  | .hallNak p cls => decide (p < 2 ∧ cls < 4)
  | .replayTimeout p cls => decide (p < 2 ∧ cls < 4)
  | .h1Enter p => decide (p < 2)
  | .laneFail p lane _ _ _ => decide (p < 2 ∧ lane < 6)
  | .laneSwitch p lane _ => decide (p < 2 ∧ lane < 5)
  | .hallReset p _ => decide (p < 2)
  | .linkResetCmd r p => decide (p < 2) && r.wf
  | .coastTimeout => true
  | .prbsStart r => r.wf
  | .prbsStop r _ => r.wf
  | .pantryTransaction t => t.wf
  | .panicStart _ => true
  | .panicEnd _ _ => true
  | .refresh c => decide (c < 4)
  | .mr4Read c _ => decide (c < 4)
  | .rhWindowEnd c => decide (c < 4)
  | .scrub ecc => ecc.all SectorErr.wf
  | .dqsCheck c _ => decide (c < 4)
  | .engWatchdog e => decide (e < 16)
  | .engWorkshopTrap w _ byte => decide (w < 4) && (byte.toList).all (fun b => decide (b < 256))
  | .engSramEcc e _ _ => decide (e < 16)
  | .bulkSend b op pos eng _ data =>
    b.wf && decide (op < 256 ∧ pos < 256 ∧ eng < 256) && !List.contains [1, 2, 4, 5, 6, 7, 8] op && bytesOk data
  | .mbAck w mask _ => decide (w < 4 ∧ mask < 256)
  | .wdtKick w => decide (w < 4)
  | .workshopRestart r => r.wf
  | .workshopHalt r => r.wf
  | .workshopImageWrite r bytes => r.wf && bytesOk bytes
  | .pwrRequestRun r => r.wf
  | .pwrRequestReady r => r.wf
  | .pwrRequestStandby r => r.wf
  | .pwrRequestNight r => r.wf
  | .sleepNFall => true
  | .sleepRequestSample => true
  | .pwrStepDone _ => true
  | .wake _ => true
  | .wakeTb0Alarm => true
  | .wakePos0Movement => true
  | .powerRequest h target number code => decide (target < 256 ∧ number < 2 ^ 32 ∧ code < 256) && h.wf
  | .powerPrepared h target number origin code =>
    decide (target < 256 ∧ number < 2 ^ 32 ∧ origin < 256 ∧ code < 256) && h.wf
  | .powerGo h target number code => decide (target < 256 ∧ number < 2 ^ 32 ∧ code < 256) && h.wf
  | .powerCancel h target number code => decide (target < 256 ∧ number < 2 ^ 32 ∧ code < 256) && h.wf
  | .powerAborted h target number origin code =>
    decide (target < 256 ∧ number < 2 ^ 32 ∧ origin < 256 ∧ code < 256) && h.wf
  | .powerExit h target number code => decide (target < 256 ∧ number < 2 ^ 32 ∧ code < 256) && h.wf
  | .ringPowerTimeout => true
  | .pwrRailFault slot _ => decide (slot < 6)
  | .railRetry => true
  | .pwrVbarLow _ => true
  | .pwrAonBrownout => true
  | .pmbusPoll slot _ r => decide (slot < 6) && r.wf
  | .pwrTjHigh _ sensor => decide (sensor < 8)
  | .pwrTjShutdown _ sensor => decide (sensor < 8)
  | .powerOn => true
  | .resetNAssert _ => true
  | .resetNRelease => true
  | .deviceResetCmd r => r.wf
  | .subsysResetCmd r code _ => decide (code < 256) && r.wf
  | .bootStep x => x.wf
  | .bootRetry => true
  | .bootRomRelease => true
  | .houseImageWrite r bytes => r.wf && bytesOk bytes
  | .foundationProgram r bytes _ => r.wf && bytesOk bytes
  | .clkRefLost => true
  | .clkPllUnlock pll _ => decide (pll < 5)
  | .clkLaneRefLost _ => true
  | .laneRefRestored => true
  | .testLogicReset => true
  | .idcode => true
  | .sample _ => true
  | .preload _ _ => true
  | .extest _ _ => true
  | .extestPulse _ _ _ => true
  | .extestTrain _ _ _ => true
  | .clamp => true
  | .highz => true
  | .bypass code => decide (code < 256)
  | .selftestStart r => r.wf
  | .selftestAbort r => r.wf
  | .selftestDone _ => true
  | .loopbackStart r => r.wf
  | .loopbackDone _ => true
  | .alertNDeasserted k _ => decide (k < 24)
  | .trigPulseEnd p => decide (p < 4)
  | .ainMonConversion n raw => decide (n < 16 ∧ raw < 2 ^ 16)
  | .ptpDelayReqSend t => decide (t < 3)
  | .porchLanesTrained p => decide (p < 2)

end Sys2Proof
end

