-- ==== Sys2Proof/Safety.lean ====
section
/-! DEFINITION. What counts as a sound state and as a kept promise, in the terms the statements use. -/
namespace Sys2Proof.Machine

/-- R402: every fuse bit that is set in the first copy is set in the second: a blown fuse stays blown. -/
def FuseKept (a b : List Host.Cell) : Prop :=
  ∀ addr i, (mget a addr).getLsbD i = true → (mget b addr).getLsbD i = true

/-- R402: neither copy of the Foundation loses a blown fuse. -/
def Memories.FusesKept (m m' : Memories) : Prop := FuseKept m.fuseA m'.fuseA ∧ FuseKept m.fuseB m'.fuseB

/-- R259: no record waits for the end of the cycle: every record raised is in the log. -/
def Device.settled (d : Device) : Bool := d.log.raised.isEmpty

/-- A sound state: the memories are canonical. -/
def State.Sound (s : State) : Prop := s.mem.wf = true

/-- The next state of a command whose effect on the device is d: queue and memories stand. -/
def State.nextWith (s : State) (d : Device) : Host.Outcome State Fault Refusal := .next { s with dev := d }

/-- The next state of a command that leaves these memories and this device. -/
def State.nextBoth (s : State) (x : Memories × Device) : Host.Outcome State Fault Refusal :=
  .next { s with mem := x.1, dev := x.2 }

/-- A requester's write of a number to an entry is accepted: the dictionary is served and the write passes every check
(R8, R9, R12, R25, R26). -/
def State.accepts (s : State) (env : WriteEnv) (r : Req) (k : Nat) (v : Int) : Bool :=
  s.dev.served && match findEntry k with
    | some e => (s.dev.seeVpp env).writeCheck s.mem r k e.ty.code (leBytesI e.ty.size v) == .ok
    | none => false

/-- The same for a write of bytes. -/
def State.acceptsBytes (s : State) (env : WriteEnv) (r : Req) (k : Nat) (l : List Nat) : Bool :=
  s.dev.served && match findEntry k with
    | some e => (s.dev.seeVpp env).writeCheck s.mem r k e.ty.code l == .ok
    | none => false

/-- The next state of an accepted write whose effect on the device is d: the requester is told OK. -/
def State.wrote (s : State) (r : Req) (k : Nat) (d : Device) : Host.Outcome State Fault Refusal :=
  s.nextWith (d.send (.result r k .ok))

/-- R42: a QDP datagram whose header breaks no rule of the format: it is not discarded and not answered with FORMAT. -/
def qdpSound (h : QdpHdr) : Bool :=
  h.magic == 0x4451 && h.version == 1 && h.crcOk && h.status == 0 && h.arrivedLen == h.payloadLen && decide (h.flags ≤ 1) &&
    decide (h.count ≤ 64)

/-- R27: the number after a session number, wrapping from FFFEh to 0001h. -/
def sessionSucc (n : Nat) : Nat := if n = 0xFFFE then 1 else n + 1

/-- R52: the levels of A and B that follow in the forward sequence, which is 00, 10, 11, 01 as in R72 (log entry 8). -/
def quadNext (a b : Bool) : Bool × Bool := (!b, a)

/-- R143: the lines of a CODED block of width w that a decoder finds in `bits`, from the history on: the lines, the
history and the bits left; none where a line fails. -/
def decodeLines (w : Nat) : Nat → Hist → List Bool → Option (List (List Nat) × Hist × List Bool)
  | 0, h, bits => some ([], h, bits)
  | n + 1, h, bits =>
    match decodeLine w h bits with
    | .bad _ => none
    | .ok (l, h') rest => (decodeLines w n h' rest).map (fun x => (l :: x.1, x.2))

/-- The FIRE pulses among the messages put out. -/
def firePulses (o : List Tx) : List Tx :=
  o.filter (fun m => match m with
    | .pulse 0 .. => true
    | _ => false)

/-- The commands that may change a byte memory: those that write entries, head memory (read or written), the flash, the fuses
or the page store (page data, camera lines, checkpoints, requests), and those that reset the device. -/
def changesMemory : Instr → Bool
  | .entryWrite .. | .write .. | .domainWriteStart .. | .domainWriteSeg .. | .usdoTransfer .. | .rpdoReceived ..
  | .headRecordRead .. | .headMemWriteDone .. | .qptOpen .. | .qptData .. | .qptRaw .. | .checkpointDone .. | .csiLine ..
  | .cellarWriteDone .. | .pantryTransaction .. | .workshopImageWrite .. | .houseImageWrite .. | .foundationProgram ..
  | .subsysResetCmd .. | .kaCount .. | .railRetry | .pwrAonBrownout | .powerOn | .resetNRelease | .bootRetry | .wake ..
  | .testLogicReset | .idcode | .sample .. | .preload .. | .bypass .. => true
  | _ => false

end Sys2Proof.Machine
end

