-- ==== Sys2Proof/Certificates/Slice0/Obligations.lean ====
section
/-! DEFINITION. The statements for the provers, in the order of OBLIGATIONS.json. -/
open Sys2Proof Sys2Proof.Machine

/-- For every state whose queue of waiting commands is c followed by rest, step answers exactly what exec answers for c in
the same state with the queue rest. Commands are executed first in, first out, one whole command a step (R31: no
request is interleaved with another). -/
def Obligations.StepExecutesTheFrontCommand : Prop :=
  ∀ (s : State) (c : Instr) (rest : List Instr), s.pending = c :: rest → step s = exec c (s.withPending rest)

/-- With no command waiting, step answers a next state in which one ENC cycle of 2.5 ns has passed, and the queue stays
empty: that a cycle passes on an empty queue, instead of the block idling, is the model's DESIGN CHOICE (log entry 6).
Where firmware runs after it, every record raised since the last cycle has entered the log at the end of this one
(R259), so none waits; before firmware runs they wait for it (R391, R396). Where no device reset is due in that cycle,
the model's clock has advanced by exactly one. -/
def Obligations.EmptyQueuePassesOneCycle : Prop :=
  ∀ s : State, s.pending = [] →
    step s = .next s.tick ∧ s.tick.pending = [] ∧ (s.tick.dev.firmware = true → s.tick.dev.settled = true) ∧
    (s.dev.boot.resetAt = none → s.tick.dev.now = s.dev.now + 1)

/-- For each of the 261 commands, with every operand and in every state, exec answers a next state (no fault, no refusal),
and the queue of waiting commands is the same in it. -/
def Obligations.EveryCommandAnswersAndKeepsTheQueue : Prop :=
  ∀ (c : Instr) (s : State), ∃ t, exec c s = .next t ∧ t.pending = s.pending

/-- For every state s that is sound (each of the five byte memories lists strictly rising addresses and no byte equal to
what an unlisted address reads as) and every next state t that step answers, whatever command stands in front or on an
empty queue, t is sound. -/
def Obligations.StepKeepsSound : Prop := ∀ s t : State, s.Sound → step s = .next t → t.Sound

/-- State.reset is sound (canonical memories), no command waits in it, no event record waits to enter its log, and its
event log is empty with the next sequence number 0 (R259: the log starts empty, at sequence 0). -/
def Obligations.ResetIsSound : Prop :=
  State.reset.Sound ∧ State.reset.pending = [] ∧ State.reset.dev.settled = true ∧
  State.reset.dev.log.recs = [] ∧ State.reset.dev.log.nextSeq = 0

/-- For every state s, every next state t that step answers, each of the two fuse copies of the Foundation, every address
and every bit: a bit set before the step is set after it (R402, R403: a blown fuse cannot be cleared), whichever
command ran, and also on an empty queue. -/
def Obligations.StepKeepsBlownFuses : Prop := ∀ s t : State, step s = .next t → s.mem.FusesKept t.mem

/-- Every command that changesMemory does not name (all but the generic entry and DOMAIN writes, the reads of a head's
record and the ends of head memory and Cellar writes, QPT ingest, a checkpoint, a camera line, the Pantry transaction,
the image and Foundation writes, and the commands that reset the device, a keep-alive count that browns AON out among
them) leaves the page store, both fuse copies, the flash and the head memories as they were, for every operand, in
every state, including the writes of entries that have a row of their own. -/
def Obligations.OtherCommandsKeepTheMemories : Prop :=
  ∀ (c : Instr) (s t : State), changesMemory c = false → exec c s = .next t → t.mem = s.mem

/-- For every 16-bit index and 8-bit subindex, requester, type code and content: a write to an index that no entry table
lists answers NO_INDEX and a read gives NO_INDEX; at a listed index a subindex above the highest subindex in use
answers and gives NO_SUB; and where a listed index has no entry of its own at subindex 00, a read of subindex 00 gives
the highest subindex in use as U8. The refused write changes nothing but what the requester is told (and, where the
command says so, the level seen at the fuse supply ball). -/
def Obligations.AbsentAddressesAreRefused : Prop :=
  ∀ (s : State) (r : Req) (index sub ty : Nat) (bytes : List Nat) (env : WriteEnv) (inForce : Bool),
    s.dev.served = true → index < 65536 → sub < 256 →
    (indexListed index = false →
      exec (.entryWrite r index sub ty bytes env) s =
        s.nextWith ((s.dev.seeVpp env).send (.result r (index * 256 + sub) .noIndex)) ∧
      s.dev.readKey s.mem r (index * 256 + sub) inForce = (.noIndex, 0, [])) ∧
    (indexListed index = true → highestSub index < sub →
      exec (.entryWrite r index sub ty bytes env) s =
        s.nextWith ((s.dev.seeVpp env).send (.result r (index * 256 + sub) .noSub)) ∧
      s.dev.readKey s.mem r (index * 256 + sub) inForce = (.noSub, 0, [])) ∧
    (indexListed index = true → findEntry (index * 256) = none →
      s.dev.readKey s.mem r (index * 256) inForce = (.ok, Ty.u8.code, [highestSub index]))

/-- For every ENTRY_WRITE that the check refuses, whatever the ground, the next state has every memory and every part of
the device unchanged but for the answer, which carries the status (R8: a refused write leaves the entry unchanged).
And for an address that names an entry: an entry that is read-only or fuse-locked gives READ_ONLY; else a requester
below the entry's level gives LEVEL; else, for an entry of a fixed-size type and a requester that is not a Workshop
engine, another type code or another length gives LENGTH. That READ_ONLY comes before LEVEL is the model's choice (log
entry 33). -/
def Obligations.RefusedEntryWriteLeavesEverything : Prop :=
  ∀ (s : State) (r : Req) (index sub ty : Nat) (bytes : List Nat) (env : WriteEnv),
    s.dev.served = true → sub < 256 →
    let k := index * 256 + sub
    let d := s.dev.seeVpp env
    let st := d.writeCheck s.mem r k ty bytes
    (st ≠ .ok → exec (.entryWrite r index sub ty bytes env) s = s.nextWith (d.send (.result r k st))) ∧
    (∀ e, placeOf k = .entry e →
      (e.acc = .ro ∨ e.fuse = true → st = .readOnly) ∧
      (e.acc ≠ .ro → e.fuse = false → (d.reqLevel r).holds (writeLevel k e) = false → st = .level) ∧
      (e.acc ≠ .ro → e.fuse = false → (d.reqLevel r).holds (writeLevel k e) = true → isMailbox r = false →
        e.ty ≠ .domain → e.ty ≠ .str → (ty ≠ e.ty.code ∨ bytes.length ≠ e.ty.size) → st = .length))

/-- For every accepted ENTRY_WRITE to an entry whose Takes effect value is "at reset" or "at commit" (the entries that act
for the pages judged after the write, the images, FOUNDATION_PROGRAM and RAIL_USED of slots 0 to 4, which reads 1,
have rules of their own): exec answers a next state whose memories are unchanged, in which a read without IN_FORCE
returns the value written (for an at-reset value entry of a fixed-point Boiler slot, that value as R270 quantises it),
the number and the bytes in force under that key are what they were, and the requester has been told OK. -/
def Obligations.WaitingWriteReadsBackAndLeavesTheValueInForce : Prop :=
  ∀ (s : State) (r : Req) (index sub : Nat) (bytes : List Nat) (env : WriteEnv) (e : EntryDef),
    s.dev.served = true → index < 65536 → sub < 256 →
    placeOf (index * 256 + sub) = .entry e →
    (s.dev.seeVpp env).writeCheck s.mem r (index * 256 + sub) e.ty.code bytes = .ok →
    e.takes = .atReset ∨ e.takes = .atCommit →
    actsNow (index * 256 + sub) = false →
    index * 256 + sub ∉ [Reg.WORKSHOP_IMAGE, Reg.HOUSE_IMAGE, Reg.FOUNDATION_PROGRAM] →
    ¬ (0x2010 ≤ index ∧ index < 0x2015 ∧ sub = 1) →
    ∃ t, exec (.entryWrite r index sub e.ty.code bytes env) s = .next t ∧ t.mem = s.mem ∧
      t.dev.readVal t.mem (index * 256 + sub) e false =
        (if e.takes = .atReset then (s.dev.seeVpp env).storedVal (index * 256 + sub) (valOf e bytes) else valOf e bytes) ∧
      t.dev.reg (index * 256 + sub) = (s.dev.seeVpp env).reg (index * 256 + sub) ∧
      t.dev.blob? (index * 256 + sub) = (s.dev.seeVpp env).blob? (index * 256 + sub) ∧
      t.dev.out = .result r (index * 256 + sub) .ok :: s.dev.out

/-- For every WRITE request that is admitted for execution (by QDP or the mailbox) and in which some item fails its check:
the memories are unchanged, and the device is that of the admission plus the one response, whose header STATUS is the
code of the first failing item, whose count is the number of items, and whose items carry each failing item's own code
and NOT_APPLIED for every other item. -/
def Obligations.WriteDatagramIsAllOrNothing : Prop :=
  ∀ (s : State) (v : Via) (items : List WriteItem) (env : WriteEnv) (d : Device),
    s.dev.viaIn v 0x02 (some items.length) ((items.map (fun it => 8 + padLen it.value.length)).foldl (· + ·) 0) =
      (d, some .ok) →
    let codes := (Device.writeItems env (viaReq v) s.mem d items).2.2.map Prod.fst
    (∃ c ∈ codes, c ≠ .ok) →
    exec (.write v items env) s = s.nextWith ((d.seeVpp env).viaOut v 0x02 (firstCode codes) items.length
      (writeReply items (codes.map (fun c => if c = .ok then .notApplied else c))))

/-- For every well-formed SESSION_OPEN under session 0000h requesting SERVICE that comes by a port that is ON, over IPv6
or with IPV4_ENABLE set: with fewer than 8 sessions open, exec answers a next state with exactly one more session, at
PUBLIC level, without a nonce, bound to the sender's address, whose number is the first one after the last assigned
(wrapping from FFFEh to 0001h) that no open session has; the response carries that number, and waits at its place
(level 3, R288) in the queue of the port at which the request came. With 8 sessions open or more, the answer is BUSY
and no session is opened. -/
def Obligations.SessionOpenTakesTheNextFreeNumber : Prop :=
  ∀ (s : State) (h : QdpHdr), s.dev.served = true → s.dev.rxOpen h.rx = true → s.dev.quietV4 h.srcIp = false →
    qdpSound h = true → h.session = 0 →
    h.payloadLen = 4 → 4 ≤ s.dev.regN Reg.QDP_MAX_PAYLOAD_BYTES →
    let used := s.dev.dict.sessions.map Session.num
    (s.dev.dict.sessions.length < 8 →
      ∃ j t, exec (.sessionOpen h 2 false) s = .next t ∧ t.mem = s.mem ∧
        (∀ i < j, Nat.repeat sessionSucc (i + 1) s.dev.dict.lastNum ∈ used) ∧
        Nat.repeat sessionSucc (j + 1) s.dev.dict.lastNum ∉ used ∧
        t.dev.dict.lastNum = Nat.repeat sessionSucc (j + 1) s.dev.dict.lastNum ∧
        t.dev.dict.sessions = s.dev.dict.sessions ++
          [{ num := Nat.repeat sessionSucc (j + 1) s.dev.dict.lastNum, ip := h.srcIp, port := h.srcPort,
             rx := h.rx, lastSeen := s.dev.now }] ∧
        t.dev.out = s.dev.out ∧
        (h.rx < 8 →
          ∃ f : TxFrame, (t.dev.pport (h.rx / 4)).txq = (s.dev.pport (h.rx / 4)).txq ++ [f] ∧ f.level = 3 ∧
            f.body = .qdp h.srcIp h.srcPort
              { opcode := 0x90, status := 0, session := Nat.repeat sessionSucc (j + 1) s.dev.dict.lastNum, seq := h.seq,
                count := 0, payload := [] })) ∧
    (8 ≤ s.dev.dict.sessions.length →
      exec (.sessionOpen h 2 false) s = s.nextWith (s.dev.post h.rx 3 (.qdp h.srcIp h.srcPort
        { opcode := 0x90, status := Status.busy.code, session := 0, seq := h.seq, count := 0, payload := [] })))

/-- For every AUTH of 16 bytes that is admitted for execution while no lockout holds, on a session whose OPERATOR nonce is
outstanding: where the bytes are the value that R28 asks for, the session holds OPERATOR (SERVICE where it already
held that), its nonce is spent, the run of consecutive failures is 0 and the answer is OK; where they are not, the
session is closed after the answer AUTH, and the failure is counted under R30. -/
def Obligations.AuthenticationDecidesTheLevel : Prop :=
  ∀ (s : State) (h : QdpHdr) (mac : List Nat) (d : Device) (x : Session) (non : List Nat),
    s.dev.qdpIn h 0x12 none 16 = (d, some .ok) → mac.length = 16 → d.lockedOut = false →
    d.session? h.session = some x → x.opNonce = some non →
    (mac = (hmac256 (d.blob Reg.OPERATOR_KEY) (non ++ leBytes 2 x.num)).take 16 →
      let d1 := d.setSession { x with opNonce := none, level := if x.level = .serv then .serv else .oper }
      exec (.auth h mac) s = s.nextWith
        (Device.qdpDone { d1 with dict := { d1.dict with authRun := 0 } } h 0x12 0 0 [])) ∧
    (mac ≠ (hmac256 (d.blob Reg.OPERATOR_KEY) (non ++ leBytes 2 x.num)).take 16 →
      exec (.auth h mac) s = s.nextWith
        (((d.qdpDone h 0x12 Status.auth.code 0 []).closeSession h.session).authFailed))

/-- For every admitted request while a lockout holds: a SESSION_OPEN requesting OPERATOR opens no session and answers
LOCKED_OUT, also with its reserved bytes set; CHALLENGE changes nothing but the answer LOCKED_OUT; AUTH spends the
nonce of its session's SESSION_OPEN, being the session's first AUTH (R28), and answers LOCKED_OUT; a RESPONSE of the
right lengths spends its session's nonce and answers LOCKED_OUT. None of them counts as a failure. -/
def Obligations.LockoutRefusesEveryAuthentication : Prop :=
  ∀ (s : State) (h : QdpHdr) (rsv : Bool) (mac sig pub : List Nat) (d : Device), d.lockedOut = true →
    (s.dev.qdpIn h 0x10 none 4 = (d, some .ok) →
      exec (.sessionOpen h 1 rsv) s = s.nextWith (d.qdpPlain h 0x10 0 .lockedOut [])) ∧
    (s.dev.qdpIn h 0x12 none 16 = (d, some .ok) → mac.length = 16 →
      exec (.auth h mac) s = s.nextWith ((d.nonceSpent h.session).qdpDone h 0x12 Status.lockedOut.code 0 [])) ∧
    (s.dev.qdpIn h 0x13 none 0 = (d, some .ok) →
      exec (.challenge h) s = s.nextWith (d.qdpDone h 0x13 Status.lockedOut.code 0 [])) ∧
    (∀ x, s.dev.qdpIn h 0x14 none 193 = (d, some .ok) → sig.length = 96 → pub.length = 97 →
      d.session? h.session = some x →
      exec (.response h sig pub) s = s.nextWith
        ((d.setSession { x with svNonce := none }).qdpDone h 0x14 Status.lockedOut.code 0 []))

/-- For every session number: where an open session has it and no datagram has come for SESSION_TIMEOUT_MS, the session is
gone in the next state; where one has come since, or no session has the number, nothing changes. No other session
closes: every session of another number that was open is open still. -/
def Obligations.SessionsCloseWhenIdle : Prop :=
  ∀ (s : State) (n : Nat), s.dev.served = true →
    (∀ x, s.dev.session? n = some x → x.lastSeen + s.dev.regN Reg.SESSION_TIMEOUT_MS * 400000 ≤ s.dev.now →
      ∃ t, exec (.sessionTimeout n) s = .next t ∧ t.dev.session? n = none ∧
        ∀ k, k ≠ n → ∀ y, s.dev.session? k = some y → (t.dev.session? k).isSome = true) ∧
    (∀ x, s.dev.session? n = some x → s.dev.now < x.lastSeen + s.dev.regN Reg.SESSION_TIMEOUT_MS * 400000 →
      exec (.sessionTimeout n) s = s.nextWith s.dev) ∧
    (s.dev.session? n = none → exec (.sessionTimeout n) s = s.nextWith s.dev)

/-- On a device with no ring to commit for (not a master with members), for an accepted write of COMMIT_CMD: 01h leaves
the open set empty and a sealed set that holds exactly the open set's values with COMMIT_MODE and COMMIT_TARGET as
they stood, and COMMIT_STATUS is 1 SEALED; 02h with a sealed set leaves none, COMMIT_STATUS 4 CANCELLED, and the open
set as it was; 02h with none changes nothing but the answer; 03h leaves the open set empty and the sealed set as it
was. -/
def Obligations.CommitSealsCancelsAndDiscards : Prop :=
  ∀ (s : State) (r : Req), s.dev.ringCommits = false →
    (s.accepts {} r Reg.COMMIT_CMD 1 = true →
      ∃ t x, exec (.commitRequest r) s = .next t ∧ t.mem = s.mem ∧ t.dev.dict.openSet = [] ∧
        t.dev.dict.sealed = some x ∧ x.items = s.dev.dict.openSet ∧ x.mode = s.dev.regN Reg.COMMIT_MODE ∧
        x.target = s.dev.reg Reg.COMMIT_TARGET ∧ t.dev.reg Reg.COMMIT_STATUS = 1) ∧
    (s.accepts {} r Reg.COMMIT_CMD 2 = true → s.dev.dict.sealed.isSome = true →
      ∃ t, exec (.commitCancel r) s = .next t ∧ t.mem = s.mem ∧ t.dev.dict.sealed = none ∧
        t.dev.reg Reg.COMMIT_STATUS = 4 ∧ t.dev.dict.openSet = s.dev.dict.openSet) ∧
    (s.accepts {} r Reg.COMMIT_CMD 2 = true → s.dev.dict.sealed = none →
      exec (.commitCancel r) s = s.wrote r Reg.COMMIT_CMD s.dev) ∧
    (s.accepts {} r Reg.COMMIT_CMD 3 = true →
      ∃ t, exec (.commitDiscard r) s = .next t ∧ t.mem = s.mem ∧ t.dev.dict.openSet = [] ∧
        t.dev.dict.sealed = s.dev.dict.sealed)

/-- For either position channel in INC_MODE 1 and every new pair of A and B levels that has stood for the FILTER_CYCLES +
1 samples the filter asks for, each input's last accepted change lying at least that far back: a step along 00, 10,
11, 01 adds one to the count and a step the other way takes one off (which of the two is forward is the model's
reading, log entry 8), DIR_INVERT exchanges them, the count stays within -2^53 and 2^53 - 1, no change of levels and a
change of both at once leave it, the channel takes the new levels, and the other channel's record and the memories are
unchanged. Levels that have stood for fewer samples are not accepted: the count and the levels stay (R52). All of this
holds whatever the Mantel's copies vote at the edge (R97). -/
def Obligations.EncoderEdgeMovesOnlyItsCount : Prop :=
  ∀ (s : State) (ch : Nat) (a b : Bool) (held : Nat) (v : Vote), s.dev.domainOn 56 = true → ch < 2 →
    s.dev.regN (Reg.un Reg.INC_MODE ch) = 1 →
    let x := s.dev.posCh ch
    let need := s.dev.regN (Reg.un Reg.POS_FILTER_CYCLES ch) + 1
    let dir : Int := if (a, b) = quadNext x.a x.b then 1 else if (x.a, x.b) = quadNext a b then -1 else 0
    let way : Int := if s.dev.regB (Reg.un Reg.DIR_INVERT ch) then -dir else dir
    (need ≤ held → (∀ n, x.aAt = some n ∨ x.bAt = some n → n + need ≤ s.dev.now) →
      ∃ t, exec (.encEdge ch a b held v) s = .next t ∧ t.mem = s.mem ∧
        (t.dev.posCh ch).c = (if dir = 0 then x.c else max (-(2 ^ 53)) (min (2 ^ 53 - 1) (x.c + way))) ∧
        (t.dev.posCh ch).a = a ∧ (t.dev.posCh ch).b = b ∧
        t.dev.posCh (1 - ch) = s.dev.posCh (1 - ch)) ∧
    (held < need →
      ∃ t, exec (.encEdge ch a b held v) s = .next t ∧ t.mem = s.mem ∧ (t.dev.posCh ch).c = x.c ∧
        (t.dev.posCh ch).a = x.a ∧ (t.dev.posCh ch).b = x.b ∧ t.dev.posCh (1 - ch) = s.dev.posCh (1 - ch))

/-- For every latch whose PT fits I64, GLC 48 bits, TB3 nanoseconds U64, fraction U16, input number 3 bits and sequence
number U32: its record is 32 bytes; bytes 0-7 read as an I64 give PT, 8-15 the GLC (so bits 63:48 are zero), 16-23
TB3_NS, 24-25 TB3_FRAC, byte 26 has bits 2:0 the input, bit 3 the edge, bit 4 SUSPECT, bit 5 STALLED and bits 7:6
zero, byte 27 is zero, and 28-31 give SEQ. -/
def Obligations.LatchRecordLayout : Prop :=
  ∀ l : Latch, -(2 ^ 63) ≤ l.stamp.pt → l.stamp.pt < 2 ^ 63 → l.stamp.glc < 2 ^ 48 → l.stamp.tb3 < 2 ^ 64 →
    l.stamp.frac < 2 ^ 16 → l.input < 8 → l.seq < 2 ^ 32 →
    let b := latchBytes l
    b.length = 32 ∧
    toSigned 64 (fieldAt b 0 8) = l.stamp.pt ∧ fieldAt b 8 8 = l.stamp.glc ∧ fieldAt b 16 8 = l.stamp.tb3 ∧
    fieldAt b 24 2 = l.stamp.frac ∧ fieldAt b 28 4 = l.seq ∧ fieldAt b 27 1 = 0 ∧
    fieldAt b 26 1 % 8 = l.input ∧ bit (fieldAt b 26 1) 3 = l.rising ∧ bit (fieldAt b 26 1) 4 = l.suspect ∧
    bit (fieldAt b 26 1) 5 = l.stalled ∧ fieldAt b 26 1 < 64

/-- For each compare output in single mode and an accepted write of its CMP_ARM: where CMP_PT lies above PT, the output's
state is 1 ARMED with that target; where it does not, the state is 3 MISSED and exactly one event record is raised,
POS_CMP_MISSED of that output, which enters the log at the end of the cycle. Writing 02h makes the state 0. In every
case the only thing put out is the answer, no pulse, and the memories are unchanged. -/
def Obligations.CompareArmsAheadOrMisses : Prop :=
  ∀ (s : State) (r : Req) (n : Nat), n < 4 →
    (s.accepts {} r (Reg.un Reg.CMP_ARM n) 1 = true → s.dev.regN (Reg.un Reg.CMP_MODE n) = 1 →
      (s.dev.pt < s.dev.reg (Reg.un Reg.CMP_PT n) →
        ∃ t, exec (.cmpArm r n) s = .next t ∧ t.mem = s.mem ∧ t.dev.reg (Reg.un Reg.CMP_STATE n) = 1 ∧
          (tget cmp0 t.dev.pos.cmps n).target = s.dev.reg (Reg.un Reg.CMP_PT n) ∧
          t.dev.out = .result r (Reg.un Reg.CMP_ARM n) .ok :: s.dev.out) ∧
      (s.dev.reg (Reg.un Reg.CMP_PT n) ≤ s.dev.pt →
        ∃ t, exec (.cmpArm r n) s = .next t ∧ t.mem = s.mem ∧ t.dev.reg (Reg.un Reg.CMP_STATE n) = 3 ∧
          t.dev.out = .result r (Reg.un Reg.CMP_ARM n) .ok :: s.dev.out ∧
          ∃ e, t.dev.log.raised = s.dev.log.raised ++ [e] ∧ e.code = Ev.POS_CMP_MISSED ∧ e.unit = n)) ∧
    (s.accepts {} r (Reg.un Reg.CMP_ARM n) 2 = true →
      ∃ t, exec (.cmpDisarm r n) s = .next t ∧ t.mem = s.mem ∧ t.dev.reg (Reg.un Reg.CMP_STATE n) = 0 ∧
        t.dev.pos = s.dev.pos ∧ t.dev.out = .result r (Reg.un Reg.CMP_ARM n) .ok :: s.dev.out)

/-- For every grid with LINE_DEN at least 1 and LINE_NUM at least 4 x LINE_DEN, and every line k: the origin's line has
the origin's boundary, the boundary of line k + 1 lies q = floor(N x 1,024 / D) or q + 1 pu above that of line k,
which is at least 4,096 pu, and the boundary of line k + D lies exactly N x 1,024 pu above that of line k. -/
def Obligations.GridBoundariesFollowThePitch : Prop :=
  ∀ g : GridSeg, 1 ≤ g.den → 4 * g.den ≤ g.num → ∀ k : Int,
    let q : Int := ((g.num * 1024 / g.den : Nat) : Int)
    g.boundary g.go = g.po ∧
    (g.boundary (k + 1) - g.boundary k = q ∨ g.boundary (k + 1) - g.boundary k = q + 1) ∧
    4096 ≤ g.boundary (k + 1) - g.boundary k ∧
    g.boundary (k + (g.den : Int)) - g.boundary k = (g.num : Int) * 1024

/-- For every state, channel, slot, sub-strobe and vote: STROBE_FIRE answers a next state with the memories and the queue
unchanged; where an isolation clamp, a clock fault, a voter halt, an interlock or a thermal trip gates the channel,
the FIRE pulses put out are those of before; in every case they are those of before, or those and one more on that
channel. -/
def Obligations.GatedChannelFiresNothing : Prop :=
  ∀ (s : State) (c h sub : Nat) (v : Vote), ∃ t, exec (.strobeFire c h sub v) s = .next t ∧ t.mem = s.mem ∧
    t.pending = s.pending ∧
    (s.dev.outputGate c ≠ 0 → firePulses t.dev.out = firePulses s.dev.out) ∧
    (firePulses t.dev.out = firePulses s.dev.out ∨
      ∃ at_ width, firePulses t.dev.out = .pulse 0 c at_ width false :: firePulses s.dev.out)

/-- For every device, channel below 192 and slot h that was not lost at its LAT already: arming appends exactly one
record, of that channel and slot. Its trim differs from the trim before by at most floor(q / TRIM_SLEW_DIV) pu,
reaches HEAD_TRIM_PU + PLANE_TRIM_PU where that lies within one step, and becomes TRIM_IN_FORCE_PU. Its position S is
B(h) plus the head's and the plane's static delay in force for slot h plus the new trim less the flight term; in a
reverse pass it is B(h) less the two reverse delays, the trim and the flight term (R89). The flight term is 0 while
the Mantel does not predict (R88), and the slot is late exactly where S lies at most 1,024 pu ahead of PT along the
pass. A slot lost at its LAT gets no record, and its trim moves all the same. The pages, the page queue and every
other channel's trim are unchanged. -/
def Obligations.ArmingStepsTheTrimAndFixesTheStrobe : Prop :=
  ∀ (d : Device) (c h : Nat), c < 192 → 1 ≤ d.regN Reg.TRIM_SLEW_DIV →
    let step : Int := ((d.mantel.q / d.regN Reg.TRIM_SLEW_DIV : Nat) : Int)
    let pl := (d.regAt (Reg.HEAD_PLANE + c) h).toNat
    let goal := d.regAt (Reg.HEAD_TRIM_PU + c) h + d.regAt (Reg.PLANE_TRIM_PU + pl) h
    let before := d.reg (Reg.TRIM_IN_FORCE_PU + c)
    let fl := d.flightPu (d.regAt (Reg.FLIGHT_NS + c) h)
    let d' := d.armSlot c h
    let after := d'.reg (Reg.TRIM_IN_FORCE_PU + c)
    (after - before ≤ step ∧ before - after ≤ step) ∧
    (goal - before ≤ step → before - goal ≤ step → after = goal) ∧
    ((d.chan c).lostEarly ≠ some h →
      ∃ a, d'.mantel.armed = d.mantel.armed ++ [a] ∧ a.ch = c ∧ a.h = h ∧
        a.s = (if (d.gridFor h).rev then
            (d.gridFor h).slotB h - d.regAt (Reg.HEAD_DELAY_REV_PU + c) h - d.regAt (Reg.PLANE_DELAY_REV_PU + pl) h - after - fl
          else
            (d.gridFor h).slotB h + d.regAt (Reg.HEAD_DELAY_PU + c) h + d.regAt (Reg.PLANE_DELAY_PU + pl) h + after - fl) ∧
        (a.late = true ↔ (if d.mantel.rev then d.pt - a.s ≤ 1024 else a.s - d.pt ≤ 1024))) ∧
    ((d.chan c).lostEarly = some h → d'.mantel.armed = d.mantel.armed) ∧
    (d.predicts = false → fl = 0) ∧
    d'.pages = d.pages ∧
    ∀ c', c' ≠ c → d'.reg (Reg.TRIM_IN_FORCE_PU + c') = d.reg (Reg.TRIM_IN_FORCE_PU + c')

/-- For every group whose HG_STATE is ON or STARTING and every accepted HG_DISABLE of it: the next state has HG_ENABLE
with that bit clear, the group in STOPPING, no armed slot of any of its channels, each of its eight channels DISABLED
with an empty line FIFO and no slot shifted or latched, the memories unchanged, and the requester told OK. -/
def Obligations.DisablingAGroupStopsIt : Prop :=
  ∀ (s : State) (r : Req) (k : Nat), k < 24 → s.dev.domainOn 27 = true →
    s.accepts {} r Reg.HG_ENABLE (clrBit (s.dev.regN Reg.HG_ENABLE) k : Nat) = true →
    clrBit (s.dev.regN Reg.HG_ENABLE) k < 2 ^ 32 →
    (s.dev.hgState k = 3 ∨ s.dev.hgState k = 4) →
    ∃ t, exec (.hgDisable r k) s = .next t ∧ t.mem = s.mem ∧
      t.dev.regN Reg.HG_ENABLE = clrBit (s.dev.regN Reg.HG_ENABLE) k ∧ t.dev.hgState k = 1 ∧
      (∀ a ∈ t.dev.mantel.armed, a.ch / 8 ≠ k) ∧
      (∀ c, c / 8 = k → t.dev.presence c = 0 ∧ (t.dev.chan c).fifo = [] ∧ (t.dev.chan c).shifted = none ∧
        (t.dev.chan c).latched = none) ∧
      .result r Reg.HG_ENABLE .ok ∈ t.dev.out

/-- For every channel and accepted HEAD_ACCEPT: where the channel is NEW with a valid record, the next state holds the
record's SERIAL as KNOWN_SERIAL, the channel is PRESENT, the last event record raised is HEAD_ACCEPTED of that
channel, and the memories are unchanged; a channel in NO_RECORD becomes PRESENT in the same way, with the SERIAL of
the record last read as KNOWN_SERIAL; where it is neither NEW nor NO_RECORD, nothing but the answer changes (the
model's reading, log entry 35). -/
def Obligations.HeadAcceptMakesANewHeadKnown : Prop :=
  ∀ (s : State) (r : Req) (c : Nat), c < 192 → s.accepts {} r (Reg.HEAD_ACCEPT + c) 1 = true →
    (∀ rec, s.dev.presence c = 5 → s.dev.validRecord c = some rec →
      ∃ t, exec (.headAccept r c) s = .next t ∧ t.mem = s.mem ∧ t.dev.blob (Reg.KNOWN_SERIAL + c) = recSerial rec ∧
        t.dev.presence c = 6 ∧
        (t.dev.log.raised.getLast?).map (fun x => (x.code, x.unit)) = some (Ev.HEAD_ACCEPTED, c)) ∧
    (s.dev.presence c = 3 →
      ∃ t, exec (.headAccept r c) s = .next t ∧ t.mem = s.mem ∧
        t.dev.blob (Reg.KNOWN_SERIAL + c) = recSerial (s.dev.blob (Reg.HEAD_RECORD + c)) ∧ t.dev.presence c = 6 ∧
        (t.dev.log.raised.getLast?).map (fun x => (x.code, x.unit)) = some (Ev.HEAD_ACCEPTED, c)) ∧
    (s.dev.presence c ≠ 5 → s.dev.presence c ≠ 3 →
      exec (.headAccept r c) s = s.wrote r (Reg.HEAD_ACCEPT + c) s.dev)

/-- For every width, every history and every list of lines of that width whose pixels are bytes: the bits that the encoder
puts, packed into bytes with the final byte completed with zero bits, are those bits followed by fewer than 8 zero
bits; the decoder reads from them exactly the lines coded, ends in the history in which the encoder ended, and leaves
only that padding, so that the block check finds no SHORT, TRAILING or SYNTAX outcome. -/
def Obligations.QscCodecIsLossless : Prop :=
  ∀ (w : Nat) (h : Hist) (ls : List (List Nat)), (∀ l ∈ ls, l.length = w ∧ ∀ x ∈ l, x < 256) →
    let bits := (encodeLines h ls).1
    let h' := (encodeLines h ls).2
    let coded := packBits (bits.length + 1) bits
    (∀ x ∈ coded, x < 256) ∧
    ∃ pad, bytesBits coded = bits ++ List.replicate pad false ∧ pad < 8 ∧
      decodeLines w ls.length h (bytesBits coded) = some (ls, h', List.replicate pad false) ∧
      decodeAll w ls.length h (bytesBits coded) = (0, h')

/-- For every accepted SCHED_CMD 01h: the next state has the page store, its queue, the Mantel and the memories unchanged.
A scheduler in RUNNING becomes STOPPED, with PAGE_STOPPED the last event record raised, where no page is bound, and
STOPPING where one is; a scheduler in STOPPING or STOPPED stays so. And in every state whose scheduler is not RUNNING,
PAGE_BIND leaves the state as it is. -/
def Obligations.StoppingTheSchedulerKeepsTheQueue : Prop :=
  ∀ (s : State) (r : Req),
    (s.accepts {} r Reg.SCHED_CMD 1 = true →
      ∃ t, exec (.schedStop r) s = .next t ∧ t.mem = s.mem ∧ t.dev.pages = s.dev.pages ∧ t.dev.mantel = s.dev.mantel ∧
        (s.dev.reg Reg.SCHED_STATE ≠ 0 → t.dev.reg Reg.SCHED_STATE = s.dev.reg Reg.SCHED_STATE) ∧
        (s.dev.reg Reg.SCHED_STATE = 0 → s.dev.mantel.bound = [] →
          t.dev.reg Reg.SCHED_STATE = 2 ∧ (t.dev.log.raised.getLast?).map EventRec.code = some Ev.PAGE_STOPPED) ∧
        (s.dev.reg Reg.SCHED_STATE = 0 → s.dev.mantel.bound ≠ [] → t.dev.reg Reg.SCHED_STATE = 1)) ∧
    (s.dev.reg Reg.SCHED_STATE ≠ 0 → exec .pageBind s = .next s)

/-- For every device whose Room renders the group of channel c, and every nozzle not at rest whose previous change has
retired: writing a word that differs in more than HEALTH and does not name STATE 5 leaves the value in force at every
grid line below L_eff = h_n - s_min, puts the written word in force at every grid line from L_eff on, makes it the
newest value written, and leaves every other nozzle of the channel and the map of every other channel. From any
value's own L_eff on, the gain in force at line g + 1 differs from that at g by at most one code, and only where g + 1
is a multiple of the GAIN_SLEW_LINES in force for line g + 1, also where that value changes at some line. -/
def Obligations.NozzleChangesLandAtOneLine : Prop :=
  (∀ (d : Device) (c n w : Nat), d.rendering (c / 8) = true → nozState w ≠ 5 →
    healthOnly w ((d.nozMap c).newest n) = false → (d.nozMap c).rested.contains n = false →
    tget nozChg0 (d.nozMap c).chg n = none →
    let l := d.leff c
    let m := d.nozMap c
    let m' := (d.writeNoz c n w).nozMap c
    (∀ g, g < l → m'.valAt n g = m.valAt n g) ∧
    (∀ g, l ≤ g → (m'.valAt n g).word = w) ∧
    m'.newest n = w ∧
    (∀ n', n' ≠ n → m'.newest n' = m.newest n' ∧ ∀ g, m'.valAt n' g = m.valAt n' g) ∧
    ∀ c', c' ≠ c → (d.writeNoz c n w).nozMap c' = d.nozMap c') ∧
  ∀ (v : NozVal) (s1 s2 at_ g : Nat), 1 ≤ s1 → 1 ≤ s2 → v.leff ≤ g →
    let plan : SlewPlan := [(0, s1), (at_, s2)]
    (nozGainAt v plan (g + 1) ≤ nozGainAt v plan g + 1 ∧ nozGainAt v plan g ≤ nozGainAt v plan (g + 1) + 1) ∧
    ((g + 1) % (if g + 1 < at_ then s1 else s2) ≠ 0 → nozGainAt v plan (g + 1) = nozGainAt v plan g)

/-- In every state, for every requester and all injected conditions: a write of FIRE_ENABLE with a bit outside FIRE_SCOPE
is not accepted, a start of a drop test while DT_GROUPS names a group outside FIRE_SCOPE is not accepted, and while
WORKSHOP_FIRE is 0 no Workshop engine's write of FIRE_ENABLE, HG_ENABLE, INTLK_ACK, TRIP_ACK or DT_CMD is accepted.
What an unaccepted write leaves is stated by RefusedEntryWriteLeavesEverything. -/
def Obligations.NoWriteReachesOutsideTheFuses : Prop :=
  ∀ (s : State) (env : WriteEnv) (r : Req) (v : Nat),
    (v < 2 ^ 32 → (∃ k, k < 24 ∧ bit v k = true ∧ bit (s.dev.regN Reg.FIRE_SCOPE) k = false) →
      s.accepts env r Reg.FIRE_ENABLE v = false) ∧
    ((∃ k, k < 24 ∧ bit (s.dev.regN Reg.DT_GROUPS) k = true ∧ bit (s.dev.regN Reg.FIRE_SCOPE) k = false) →
      s.accepts env r Reg.DT_CMD 1 = false) ∧
    (∀ w, s.dev.regB Reg.WORKSHOP_FIRE = false →
      ∀ k ∈ [Reg.FIRE_ENABLE, Reg.HG_ENABLE, Reg.INTLK_ACK, Reg.TRIP_ACK, Reg.DT_CMD],
        s.accepts env (.mailbox w) k v = false)

/-- For every input whose fuse word is locked and has a role, and which is not ASSERTED: INTLK_ASSERTED, the ball having
had the level that POLARITY names for at least 16 ENC cycles, answers a next state in which the input is ASSERTED, its
INTLK_COUNT is one higher modulo 2^32, the memories are unchanged, and every channel of a group in its SCOPE, or of
any group for EMERGENCY_STOP, is under a gate. An input whose word is not locked, or whose role is unused, leaves the
whole device as it is, and so does the other level and one that has stood for fewer than 16 cycles. -/
def Obligations.AnInterlockGatesItsGroupsAtOnce : Prop :=
  ∀ (s : State) (n : Nat) (high : Bool) (held : Nat), n < 12 → s.dev.domainOn 56 = true →
    (high = bit (s.dev.intlkWord n) 29 → 16 ≤ held → intlkRole (s.dev.intlkWord n) ≠ 0 → (s.dev.intlkIn n).st ≠ .asserted →
      ∃ t, exec (.intlkAsserted n high held) s = .next t ∧ t.mem = s.mem ∧ (t.dev.intlkIn n).st = .asserted ∧
        t.dev.regN (Reg.INTLK_COUNT + n) = (s.dev.regN (Reg.INTLK_COUNT + n) + 1) % 2 ^ 32 ∧
        ∀ c, c < 192 →
          (bit (s.dev.intlkWord n) (c / 8) = true ∨ 5 ≤ field (s.dev.intlkWord n) 28 26) → t.dev.outputGate c ≠ 0) ∧
    ((bit (s.dev.intlkWord n) 31 = false ∨ field (s.dev.intlkWord n) 28 26 = 0 ∨
      high ≠ bit (s.dev.intlkWord n) 29 ∨ held < 16) → exec (.intlkAsserted n high held) s = .next s)

/-- For every accepted INTLK_ACK: in the next state each of the twelve inputs that was AWAITING_ACK and whose bit is set
is CLEAR, and every other input is what it was; the groups gated, the memories and the log are unchanged. -/
def Obligations.AcknowledgingMovesOnlyWhatAwaits : Prop :=
  ∀ (s : State) (r : Req) (mask : Nat), mask < 2 ^ 16 → s.accepts {} r Reg.INTLK_ACK mask = true →
    ∃ t, exec (.intlkAck r mask) s = .next t ∧ t.mem = s.mem ∧ t.dev.log = s.dev.log ∧
      t.dev.intlkMask = s.dev.intlkMask ∧
      ∀ n, t.dev.intlkIn n =
        (if n < 12 ∧ bit mask n = true ∧ (s.dev.intlkIn n).st = .awaitingAck
          then { s.dev.intlkIn n with st := .clear } else s.dev.intlkIn n)

/-- For every device and group: after the release step of a line event, a group that was gated and that an input not
CLEAR, or a ring gate whose release GLC has not come, still holds is gated; a group held by neither is not; a group
that was not gated is not; and each channel of a group released has the line as its first open slot, so that every
slot below it stays gated. -/
def Obligations.ALineEventReleasesOnlyWhatIsClear : Prop :=
  ∀ (d : Device) (k : Nat), k < 24 →
    (bit (d.intlkLine).intlkMask k = true ↔ bit d.intlkMask k = true ∧ d.groupHeld k = true) ∧
    (bit d.intlkMask k = true → d.groupHeld k = false →
      ∀ c, c / 8 = k → ((d.intlkLine).chan c).openIntlk = d.mantel.line ∧
        ∀ h, h < d.mantel.line → (d.intlkLine).gateCause c h ≠ 0)

/-- For every Frame Start packet on a port that is ON, with a header that is right or corrected and no VCX bits, whose
port and virtual channel an enabled context has: the next state's FRAME_NUMBER of that context is one higher modulo
2^32, the frame numbers of the other contexts are unchanged, the context has an open frame of that number with no line
received, which is stored exactly where fewer of its FRAME_BUFFERS hold an unprocessed frame; the memories are
unchanged. On a port that is not ON the packet changes nothing. -/
def Obligations.FrameStartTakesTheNextFrameNumber : Prop :=
  ∀ (s : State) (h : CsiHdr) (fails : List (Nat × Nat)), h.port < 4 → s.dev.domainOn 54 = true →
    (∀ c, s.dev.reg (Reg.WIN_PORT_STATE + h.port) = 4 → h.ecc < 2 → h.vcx = false →
      s.dev.ctxAt h.port h.vc = some c →
      ∃ t, exec (.csiFrameStart h fails) s = .next t ∧ t.mem = s.mem ∧
        t.dev.regN (Reg.FRAME_NUMBER + c) = (s.dev.regN (Reg.FRAME_NUMBER + c) + 1) % 2 ^ 32 ∧
        (∀ c', c' < 8 → c' ≠ c → t.dev.regN (Reg.FRAME_NUMBER + c') = s.dev.regN (Reg.FRAME_NUMBER + c')) ∧
        ∃ f, (t.dev.winCtx c).open_ = some f ∧ f.ctx = c ∧ f.num = t.dev.regN (Reg.FRAME_NUMBER + c) ∧ f.count = 0 ∧
          (f.stored = true ↔ t.dev.buffersUsed c < (t.dev.winCtx c).buffers)) ∧
    (s.dev.reg (Reg.WIN_PORT_STATE + h.port) ≠ 4 → exec (.csiFrameStart h fails) s = .next s)

/-- In every state with the dictionary service running and a flash in canonical form, and a write in progress to slot A or
B of a record of a type of R236 whose bytes are header, payload and check of R237, of the LENGTH that its type has
(R238), and fit the slot: CELLAR_WRITE_DONE with those bytes read back answers a next state in which the slot holds a
valid record of exactly those bytes, its payload is the one written, the copy in use is that slot with the job's
GENERATION, CELLAR_WRITES is one higher modulo 2^32, every byte of the flash outside the slot reads as before, and the
other memories are unchanged. -/
def Obligations.AWrittenRecordReadsBack : Prop :=
  ∀ (s : State) (j : CellarJob) (tb3 frac serial : Nat) (hs payload : List Nat),
    s.dev.served = true → Memory.wf s.mem.flash = true →
    s.dev.cellar.job = some j → j.slot < 2 → 68 + payload.length ≤ recSlot j.key →
    (∀ b ∈ payload, b < 256) → (∀ b ∈ hs, b < 256) →
    j.data = recBytes j.key j.gen tb3 frac serial hs payload → recLengthOk (j.key / 256) j.data = true →
    ∃ t, exec (.cellarWriteDone j.data) s = .next t ∧
      slotRecord t.mem.flash j.key j.slot = some j.data ∧ recPayload j.data = payload ∧
      assoc t.dev.cellar.inUse j.key = some (j.slot, j.gen) ∧
      t.dev.regN Reg.CELLAR_WRITES = (s.dev.regN Reg.CELLAR_WRITES + 1) % 2 ^ 32 ∧
      (∀ a, a < recAddr j.key j.slot ∨ recAddr j.key j.slot + recSlot j.key ≤ a →
        flashByte t.mem.flash a = flashByte s.mem.flash a) ∧
      t.mem = { s.mem with flash := t.mem.flash }

/-- For every gain curve, code in force G, column mean and reference, both as fractions: the code computed is below 64, no
code's curve value lies nearer v_t = curve_G / δ (compared as exact fractions), and every code below 64 whose curve
value lies as near is at least as far from G. -/
def Obligations.TheDensityCodeIsNearest : Prop :=
  ∀ (val : Nat → Nat) (g : Nat) (m r : Nat × Nat),
    let far (k : Nat) : Nat := ((val k : Int) * (r.2 * m.1 : Nat) - (val g * r.1 * m.2 : Nat)).natAbs
    let off (k : Nat) : Nat := ((k : Int) - (g : Int)).natAbs
    densCode val g m r < 64 ∧ ∀ k, k < 64 →
      far (densCode val g m r) ≤ far k ∧ (far k = far (densCode val g m r) → off (densCode val g m r) ≤ off k)

/-- For every device whose ring holds at most 1,024 records, whose mirror holds at most 64 and whose next sequence number
is below 2^32: the records taken in are a permutation of those raised, ascending by CODE and then UNIT; afterwards
none waits; the ring is the old ring followed by them under consecutive sequence numbers modulo 2^32, without as many
of the oldest as exceed 1,024; LOG_OVERWRITTEN rises by that many modulo 2^32; the mirror holds at most 64; and the
sequences left unacknowledged are those from before followed by the numbers of the FAULT and STOP records among them. -/
def Obligations.RaisedRecordsEnterTheLogInOrder : Prop :=
  ∀ (d : Device), d.log.recs.length ≤ 1024 → d.log.mirror.length ≤ 64 → d.log.nextSeq < 2 ^ 32 →
    d.log.overwritten < 2 ^ 32 →
    let l := (evSort d.log.raised).mapIdx (fun i e => { e with seq := (d.log.nextSeq + i) % 2 ^ 32 })
    let excess := d.log.recs.length + l.length - 1024
    (evSort d.log.raised).Perm d.log.raised ∧ (evSort d.log.raised).Pairwise (fun a b => evLe a b = true) ∧
    d.flush.log.raised = [] ∧ d.flush.log.recs = (d.log.recs ++ l).drop excess ∧
    d.flush.log.nextSeq = (d.log.nextSeq + l.length) % 2 ^ 32 ∧
    d.flush.log.overwritten = (d.log.overwritten + excess) % 2 ^ 32 ∧ d.flush.log.mirror.length ≤ 64 ∧
    d.flush.log.unacked = d.log.unacked ++ (l.filter (fun e => decide (2 ≤ e.sev))).map (fun e => e.seq)

/-- For every Room k with its unit's domain on that has not completed a slot which it had begun more than ROOM_STALL_US
ago: when ROOM_STATE of k is ACTIVE or IDLE, SPARE_STATE is SHADOWING and TAKEOVER_PURGE is 0, ROOM_STALL of k answers
a next state in which ROOM_STATE of k is RETIRED and that of every other Room as it was, SPARE_STATE is ENGAGED,
SPARE_SERVING is k, TAKEOVERS is one higher modulo 2^32, every channel's FIFO is as it was, no context belongs to k
any more, and the memories are unchanged; and the retirement is recorded unless another Room's already is. When the
Spare is not SHADOWING, SPARE_STATE and SPARE_SERVING stay, k is RETIRED, and every FIFO is as it was. ROOM_STALL of a
Room with no such slot leaves the state as it is (R248). -/
def Obligations.TheSpareTakesOverAFaultyRoom : Prop :=
  ∀ (s : State) (k : Nat), k < 24 → unitOn k s.dev = true →
    (s.dev.stalled k = false → exec (.roomStall k) s = .next s) ∧
    (s.dev.stalled k = true → s.dev.regN (Reg.ROOM_STATE + k) < 2 → ∃ t, exec (.roomStall k) s = .next t ∧ t.mem = s.mem ∧ t.dev.reg (Reg.ROOM_STATE + k) = 2 ∧
      (∀ c, (t.dev.chan c).fifo = (s.dev.chan c).fifo ∨ s.dev.regB Reg.TAKEOVER_PURGE = true) ∧
      (∀ k', k' < 24 → k' ≠ k → t.dev.reg (Reg.ROOM_STATE + k') = s.dev.reg (Reg.ROOM_STATE + k')) ∧
      (s.dev.reg Reg.ROOMS_SPARE_STATE = 0 →
        (∀ x ∈ t.dev.rooms.ctxs, x.owner ≠ k) ∧ t.dev.reg Reg.ROOMS_SPARE_STATE = 1 ∧ t.dev.regN Reg.SPARE_SERVING = k ∧
        t.dev.regN Reg.TAKEOVERS = (s.dev.regN Reg.TAKEOVERS + 1) % 2 ^ 32) ∧
      (s.dev.reg Reg.ROOMS_SPARE_STATE ≠ 0 →
        t.dev.reg Reg.ROOMS_SPARE_STATE = s.dev.reg Reg.ROOMS_SPARE_STATE ∧
        t.dev.reg Reg.SPARE_SERVING = s.dev.reg Reg.SPARE_SERVING ∧
        (∀ c, (t.dev.chan c).fifo = (s.dev.chan c).fifo)) ∧
      ((bitsOf 24 s.dev.cal.retired = [] ∨ bitsOf 24 s.dev.cal.retired = [k]) → bit t.dev.cal.retired k = true))

/-- For every slot, measurement, setpoint, slew, clamp with OUT_MIN at most OUT_MAX and both in 16 bits, and all
coefficients: u and uc lie in -32,768 ... 32,767, uc lies between OUT_MIN and OUT_MAX and equals u where u does, each
state lies in the signed 40-bit range, r_sp moves by at most SP_SLEW towards the setpoint (and is the setpoint for a
slew of 0), and the duty is at most 65,535, is 0 for uc at most 0, and never falls as uc rises. -/
def Obligations.AFixedPointSampleStaysInItsWidths : Prop :=
  ∀ (x : Slot) (y sp slew lo hi b0 b1 b2 b3 a1 a2 a3 : Int) (aw : Bool),
    lo ≤ hi → -32768 ≤ lo → hi ≤ 32767 → 0 ≤ slew →
    let o := compensate0 x y sp slew lo hi aw b0 b1 b2 b3 a1 a2 a3
    (-32768 ≤ o.u ∧ o.u ≤ 32767) ∧ (lo ≤ o.uc ∧ o.uc ≤ hi) ∧ (lo ≤ o.u → o.u ≤ hi → o.uc = o.u) ∧
    (-(2 ^ 39 : Nat) ≤ o.s1 ∧ o.s1 < (2 ^ 39 : Nat)) ∧ (-(2 ^ 39 : Nat) ≤ o.s2 ∧ o.s2 < (2 ^ 39 : Nat)) ∧
    (-(2 ^ 39 : Nat) ≤ o.s3 ∧ o.s3 < (2 ^ 39 : Nat)) ∧
    (slew = 0 → o.rsp = sp) ∧ (0 < slew → (o.rsp - x.rsp).natAbs ≤ slew.natAbs ∧
      (sp - o.rsp).natAbs ≤ (sp - x.rsp).natAbs) ∧
    o.duty = dutyQ o.uc ∧ o.duty ≤ 65535 ∧ (o.uc ≤ 0 → o.duty = 0) ∧
    (∀ v w : Int, v ≤ w → w ≤ 32767 → dutyQ v ≤ dutyQ w)

/-- For every accepted LOOP_CMD 01h to a slot in RUN: in the next state the slot is SAFE with SAFE_CAUSE 1 (COMMAND),
every other slot's LOOP_STATE is as it was, the output bound to the slot takes SAFE_DUTY at its next period, and the
memories are unchanged. For every accepted LOOP_CMD 02h to a slot not in SAFE the next state is the one in which only
the requester is told OK. -/
def Obligations.LoopCommandForcesTheSafeState : Prop :=
  ∀ (s : State) (r : Req) (k : Nat), k < 64 →
    (s.accepts {} r (Reg.un Reg.LOOP_LOOP_CMD k) 1 = true → s.dev.loopState k = 3 →
      ∃ t, exec (.loopForceSafe r k) s = .next t ∧ t.mem = s.mem ∧ t.dev.loopState k = 4 ∧
        t.dev.lp k Reg.SAFE_CAUSE = 1 ∧ (∀ k', k' < 64 → k' ≠ k → t.dev.loopState k' = s.dev.loopState k') ∧
        ∀ n, s.dev.boundTo n = some k → t.dev.pwmWant n = s.dev.lpN k Reg.SAFE_DUTY) ∧
    (s.accepts {} r (Reg.un Reg.LOOP_LOOP_CMD k) 2 = true → s.dev.loopState k ≠ 4 →
      exec (.loopRestore r k) s = s.wrote r (Reg.un Reg.LOOP_LOOP_CMD k) s.dev)

/-- For every accepted PORT_ENABLE 0 of a Porch port that is ON: in the next state PORT_STATE is STOPPING and PORT_ENABLE
0, the other port's PORT_STATE is as it was, the memories are unchanged, the frames still queued on the port are gone
and counted in TX_DISCARDS modulo 2^32, and HOLD_STATE reads 0 when no frame of the port was in transmission, while it
is as it was, and the links stay up, as long as one is; after it a LAUNCH of the port leaves LAUNCH_SENT as it is, and
a received frame changes nothing. With a launch pending under LAUNCH_LATE_POLICY 1 every pending launch is gone. -/
def Obligations.DisablingAPorchPortRunsItsShutdown : Prop :=
  ∀ (s : State) (r : Req) (p : Nat), p < 2 → s.dev.pportState p = 4 →
    s.accepts {} r (Reg.un Reg.PORCH_PORT_ENABLE p) 0 = true →
    ∃ t, exec (.porchPortDisable r p) s = .next t ∧ t.mem = s.mem ∧ t.dev.pportState p = 1 ∧
      t.dev.reg (Reg.un Reg.PORCH_PORT_ENABLE p) = 0 ∧ t.dev.pportState (1 - p) = s.dev.pportState (1 - p) ∧
      ((∀ e ∈ (s.dev.pport p).busyTo, e.2 ≤ s.dev.now) → t.dev.reg (Reg.un Reg.PORCH_HOLD_STATE p) = 0) ∧
      ((∃ e ∈ (s.dev.pport p).busyTo, s.dev.now < e.2) →
        t.dev.reg (Reg.un Reg.PORCH_HOLD_STATE p) = s.dev.reg (Reg.un Reg.PORCH_HOLD_STATE p) ∧
        t.dev.reg (Reg.un Reg.LINK_UP p) = s.dev.reg (Reg.un Reg.LINK_UP p)) ∧
      (t.dev.pport p).txq = [] ∧
      t.dev.regN (Reg.un Reg.TX_DISCARDS p) =
        (s.dev.regN (Reg.un Reg.TX_DISCARDS p) + (s.dev.pport p).txq.length) % 2 ^ 32 ∧
      (s.dev.reg Reg.LAUNCH_LATE_POLICY = 1 → (t.dev.pport p).launches = []) ∧
      (∃ u, exec (.launch p) t = .next u ∧ u.dev.regN Reg.LAUNCH_SENT = t.dev.regN Reg.LAUNCH_SENT) ∧
      (∀ sub rx f, exec (.rxFrame p sub rx f) t = .next t)

/-- For every device that is no ring member and whose update is due: after the update TB3's value is as it was, or
TB3_STATE was FREE, the source chosen is a time base in LOCKED, and TB3 equals that time base's counter; TB3_SOURCE is
the source chosen; a change of source raises TB3_SWITCHES by one modulo 2^32, and none leaves it. With TB1 or TB2 as
the source the rate is that of f_s + c, f_s the source's frequency and c the offset over TB3_TC_S limited to
TB3_MAX_SLEW_PPB: c lies neither below -TB3_MAX_SLEW_PPB nor above TB3_MAX_SLEW_PPB (R299). Without a source and out
of FREE the rate stays that of the last source's frequency. The position, the grid and the heads are not touched. That
a change to no source counts in TB3_SWITCHES and that mode 4 out of FREE shows HOLDOVER are the model's reading (log
entry 64). -/
def Obligations.PressTimeStepsOnlyFromFree : Prop :=
  ∀ (d : Device), d.isMember = false → d.time.updAt ≤ d.now →
    let t := d.tb3Update
    let src := d.tb3Choose
    (t.time.tb3 = d.time.tb3 ∨
      (d.reg Reg.TB3_STATE = 0 ∧ (src = 1 ∨ src = 2) ∧ d.tbState src = 3 ∧ t.time.tb3 = (d.tb src).cnt)) ∧
    t.regN Reg.TB3_SOURCE = src ∧
    t.regN Reg.TB3_SWITCHES =
      (if src = d.regN Reg.TB3_SOURCE then d.regN Reg.TB3_SWITCHES else (d.regN Reg.TB3_SWITCHES + 1) % 2 ^ 32) ∧
    (src = 1 ∨ src = 2 → 0 ≤ d.reg Reg.TB3_MAX_SLEW_PPB →
      let mx := f32OfInt (d.reg Reg.TB3_MAX_SLEW_PPB)
      let c := f32Clamp (f32NegOf mx) mx (f32Div (f32OfInt (t.reg Reg.TB3_OFFSET_NS)) (d.regN Reg.TB3_TC_S))
      t.time.fs = d.regN (tbKey Reg.FREQ_PPB src) ∧ t.time.inc3 = incOf (f32Add t.time.fs c) ∧
      f32Lt c (f32NegOf mx) = false ∧ f32Lt mx c = false) ∧
    (src = 0 → d.reg Reg.TB3_STATE ≠ 0 → t.time.inc3 = incOf d.time.fs ∧ t.reg Reg.TB3_STATE = 3) ∧
    d.time.updAt < t.time.updAt ∧ t.time.b1 = d.time.b1 ∧ t.time.b2 = d.time.b2 ∧ t.time.tb0 = d.time.tb0 ∧
    t.pos = d.pos ∧ t.mantel = d.mantel ∧ t.heads = d.heads

/-- For every device, message header and replayed type: a message whose CRC fails is not accepted; one that is accepted is
refused when it comes again, without a change to the Hallway's state, one refused changes that state by no more than
the wake of its link (R312), and the message with the next sequence number is accepted; the receipt touches no
timeline, page, head or Room. And in every state with the Hallway's domain on: HALL_ACK of a class and a sequence
leaves exactly the held messages of other classes and those after that sequence, in order, and sends nothing; HALL_NAK
of the class then queues each message still held of it once more, from the first on and with its own sequence number,
in place of what of them still waited to leave, keeps all of them, and counts each in REPLAYS modulo 2^32. -/
def Obligations.AReplayedHallMessageIsTakenOnceAndHeldUntilAcked : Prop :=
  (∀ (d : Device) (h : HallHdr) (ty : Nat), hallReplayed ty = true →
    let t := (d.hallRecv h ty).1
    (h.crcOk = false → (d.hallRecv h ty).2 = false) ∧
    ((d.hallRecv h ty).2 = true →
      (t.hallRecv h ty).2 = false ∧ (t.hallRecv h ty).1.hall = t.hall ∧
      (t.hallRecv { h with seq := nextSeq h.seq } ty).2 = true) ∧
    ((d.hallRecv h ty).2 = false → t.hall = d.hall ∨ t.hall = (d.linkWake h.port).hall) ∧
    t.pos = d.pos ∧ t.mantel = d.mantel ∧ t.heads = d.heads ∧ t.pages = d.pages ∧ t.rooms = d.rooms) ∧
  (∀ (s : State) (p cls seq : Nat), p < 2 → s.dev.domainOn 53 = true →
    ∃ t u, exec (.hallAck p cls seq) s = .next t ∧ exec (.hallNak p cls) t = .next u ∧
      (t.dev.hport p).unacked.Sublist (s.dev.hport p).unacked ∧ t.dev.out = s.dev.out ∧ t.mem = s.mem ∧ u.mem = s.mem ∧
      (∀ m, m ∈ (t.dev.hport p).unacked ↔
        m ∈ (s.dev.hport p).unacked ∧ (m.cls = cls → serialAtOrBefore 16 m.seq seq = false)) ∧
      (t.dev.hport (1 - p)).unacked = (s.dev.hport (1 - p)).unacked ∧
      (let l := (t.dev.hport p).unacked.filter (fun m => m.cls == cls)
       u.dev.out = s.dev.out ∧
       (u.dev.hport p).txq = ((s.dev.hport p).txq.filter (fun m => m.cls != cls || m.seq == 0)) ++
         l.map (fun m => ({ cls := m.cls, seq := m.seq, data := m.data } : HallTx)) ∧
       (u.dev.hport p).unacked.map (fun m => (m.cls, m.seq, m.data)) =
         (t.dev.hport p).unacked.map (fun m => (m.cls, m.seq, m.data)) ∧
       (l ≠ [] → u.dev.regN (hallKey Reg.REPLAYS p) = (s.dev.regN (hallKey Reg.REPLAYS p) + l.length) % 2 ^ 32) ∧
       (∀ k, k ≠ hallKey Reg.REPLAYS p → u.dev.reg k = s.dev.reg k)))

/-- For every transaction the Pantry takes (READY, 1 to 256 bytes within one span of the fitted memory, of a Workshop
engine within its window) with its domain on: PANTRY_TRANSACTION answers a next state in which it waits behind the
others at the channel of its address, a read with the bytes last written there, unless it is a read that a queued
write answers: that one is answered at once with the bytes last written (R338); and in which, for a write, every byte
from its address on reads as its data, and for a read no byte differs; every other address of the page store and every
other memory reads as before; the timeline, the pages and the heads are not touched. A transaction it does not take
leaves the state as it was. -/
def Obligations.APantryWriteIsWhatIsReadAfterIt : Prop :=
  ∀ (s : State) (x : PantryReq), s.dev.domainOn 51 = true →
    ∃ t, exec (.pantryTransaction x) s = .next t ∧
      (s.dev.pantryTakes x = false → t = s) ∧
      (s.dev.pantryTakes x = true →
        let c := (s.dev.txnPlace x).1
        (t.dev.pch c).wq = (s.dev.pch c).wq ∧
        (((t.dev.pch c).txns = (s.dev.pch c).txns ++ [if x.write then x else { x with data := mread s.mem.store x.addr x.len }] ∧
            t.dev.out = s.dev.out) ∨
          (x.write = false ∧ (t.dev.pch c).txns = (s.dev.pch c).txns ∧
            t.dev.out = .pantry x.who x.unit x.addr (mread s.mem.store x.addr x.len) false :: s.dev.out ∧
            ∃ u ∈ (s.dev.pch c).wq, u.addr ≤ x.addr ∧ x.addr + txnLen x ≤ u.addr + txnLen u))) ∧
      (s.dev.pantryTakes x = true → x.write = true →
        (∀ i, (h : i < x.data.length) → mget t.mem.store (x.addr + i) = BitVec.ofNat 8 x.data[i]) ∧
        (∀ a, (a < x.addr ∨ x.addr + x.data.length ≤ a) → mget t.mem.store a = mget s.mem.store a)) ∧
      (x.write = false → t.mem.store = s.mem.store) ∧
      { t.mem with store := s.mem.store } = s.mem ∧ t.dev.pos = s.dev.pos ∧ t.dev.pages = s.dev.pages ∧ t.dev.heads = s.dev.heads

/-- For every sequence of activates counted from an empty table, before any count is taken back to 0: the table holds at
most 16 rows, each once; its counts add up to the activates; every row held has a count of at least its own activates;
and a row not held had at most a sixteenth of all. And for every device, bank and row: an activate whose count stays
below RH_THRESH stores the counted table and makes no neighbour refresh due; one whose count reaches it counts the row
as 0 and adds a refresh of each of its neighbours to those due in the bank's channel, 2 × RH_RADIUS of them where all
exist, each another row of the bank at most RH_RADIUS away; and no other bank's table changes. Where anything is due
in a channel it goes before every transaction and every refresh (R336 level 1), and a neighbour refresh that issues is
taken off what is due and raises RH_REFRESHES by one modulo 2^64. (The bound that R341 derives for counts taken back
to 0 is not stated: the pseudocode does not give it, NOTES.md.) -/
def Obligations.ActivateCountersNeverUnderstate : Prop :=
  (∀ l : List Nat,
    let t := l.foldl (fun t r => (rhCount t r).1) []
    t.length ≤ 16 ∧ (t.map Prod.fst).Nodup ∧ (t.map Prod.snd).sum = l.length ∧
    (∀ e ∈ t, l.count e.1 ≤ e.2) ∧ (∀ r, assoc t r = none → 16 * l.count r ≤ l.length)) ∧
  (∀ (d : Device) (b r : Nat),
    let c := rhCount (d.bank b).rows r
    let t := d.activate b r
    let refreshes (x : PCh) : List (Nat × Option Nat) := x.due.filter (fun e => e.2.isSome)
    (c.2 < d.regN Reg.RH_THRESH →
      (t.bank b).rows = c.1 ∧ refreshes (t.pch (b / 64)) = refreshes (d.pch (b / 64))) ∧
    (d.regN Reg.RH_THRESH ≤ c.2 →
      assoc (t.bank b).rows r = some 0 ∧
      refreshes (t.pch (b / 64)) = refreshes (d.pch (b / 64)) ++ (d.rhRows r).map (fun q => (b, some q))) ∧
    (∀ q ∈ d.rhRows r, q ≠ r ∧ q < 2 ^ d.rowBits ∧ q ≤ r + d.regN Reg.RH_RADIUS ∧ r ≤ q + d.regN Reg.RH_RADIUS) ∧
    (d.regN Reg.RH_RADIUS ≤ r → r + d.regN Reg.RH_RADIUS < 2 ^ d.rowBits →
      (d.rhRows r).length = 2 * d.regN Reg.RH_RADIUS) ∧
    (∀ b', b' ≠ b → t.bank b' = d.bank b')) ∧
  (∀ (d : Device) (c : Nat),
    (∀ x : PCh, x.due ≠ [] → d.chNext x = .due) ∧
    (∀ b q rest, (d.pch c).due = (b, some q) :: rest →
      ((d.dueIssued c).pch c).due = rest ∧
      (d.dueIssued c).regN Reg.RH_REFRESHES = (d.regN Reg.RH_REFRESHES + 1) % 2 ^ 64))

/-- For every running Workshop engine w, slot below 8, request header, OPCODE and BULK_SEND operands, with the engines'
domain on: where the slot is neither submitted nor holds an unread response, BULK_SEND answers a next state in which
the slot holds a response and is not submitted, and MB_OVERFLOWS is as it was. The same BULK_SEND in that state is
ignored: the engine's slots, its receive ring and the Hallway are as they were, and MB_OVERFLOWS is one higher modulo
2^32. MB_ACK of mask m then leaves exactly the unread responses whose bit in m is 0, in order, and takes none as
submitted. A stopped engine's BULK_SEND changes nothing. -/
def Obligations.AMailboxSlotHoldsOneRequestUntilItsResponseIsFreed : Prop :=
  ∀ (s : State) (b : MbHdr) (op pos eng len : Nat) (data : List Nat) (mask : Nat),
    b.w < 4 → b.slot < 8 → s.dev.domainOn 1 = true →
    ((s.dev.shop b.w).on = false → exec (.bulkSend b op pos eng len data) s = .next s) ∧
    ((s.dev.shop b.w).on = true → (∀ q ∈ (s.dev.shop b.w).busy, q.slot ≠ b.slot) → b.slot ∉ (s.dev.shop b.w).done →
      ∃ t u v, exec (.bulkSend b op pos eng len data) s = .next t ∧
        exec (.bulkSend b op pos eng len data) t = .next u ∧ exec (.mbAck b.w mask []) u = .next v ∧
        (t.dev.shop b.w).done = (s.dev.shop b.w).done ++ [b.slot] ∧ (t.dev.shop b.w).busy = (s.dev.shop b.w).busy ∧
        t.dev.reg (Reg.MB_OVERFLOWS + b.w) = s.dev.reg (Reg.MB_OVERFLOWS + b.w) ∧ t.mem = s.mem ∧
        u.dev.regN (Reg.MB_OVERFLOWS + b.w) = (t.dev.regN (Reg.MB_OVERFLOWS + b.w) + 1) % 2 ^ 32 ∧
        (u.dev.shop b.w).done = (t.dev.shop b.w).done ∧ (u.dev.shop b.w).busy = (t.dev.shop b.w).busy ∧
        (u.dev.shop b.w).bulk = (t.dev.shop b.w).bulk ∧ u.dev.hall = t.dev.hall ∧ u.mem = s.mem ∧
        (v.dev.shop b.w).done = (u.dev.shop b.w).done.filter (fun n => !bit mask n) ∧ (v.dev.shop b.w).busy = (u.dev.shop b.w).busy)

/-- For every accepted PWR_REQUEST STANDBY of a device that stands in READY or RUN with no request to the ring under way.
With an enabled Doorbell latch set: PWR_STATUS is REFUSED_WAKE, WAKE_CAUSE holds the enabled latches, every latch is
cleared, and PWR_STATE, DOMAIN_ON, the phase, the memories, the heads, the pages and the Mantel are as they were. With
none set, on a device that is no ring's master: PWR_STATUS is IN_PROGRESS, PWR_STATE is READY, PWR_LAST_AP is 0, and
step 2 of the STANDBY entry is in progress. The request is answered OK in both cases. -/
def Obligations.APowerRequestIsRefusedByALatchedWake : Prop :=
  ∀ (s : State) (r : Req), s.dev.pwr.phase = .steady → s.dev.pwr.ring = none →
    s.dev.regN Reg.PWR_STATE < 2 → s.accepts {} r Reg.PWR_REQUEST 2 = true →
    ∃ t, exec (.pwrRequestStandby r) s = .next t ∧ Tx.result r Reg.PWR_REQUEST .ok ∈ t.dev.out ∧ t.mem = s.mem ∧
      (s.dev.wakes ≠ 0 →
        t.dev.reg Reg.PWR_STATUS = 3 ∧ t.dev.regN Reg.WAKE_CAUSE = s.dev.wakes ∧ t.dev.pwr.latches = 0 ∧
        t.dev.reg Reg.PWR_STATE = s.dev.reg Reg.PWR_STATE ∧ t.dev.reg Reg.DOMAIN_ON = s.dev.reg Reg.DOMAIN_ON ∧
        t.dev.pwr.phase = .steady ∧ t.dev.heads = s.dev.heads ∧ t.dev.pages = s.dev.pages ∧ t.dev.mantel = s.dev.mantel) ∧
      (s.dev.wakes = 0 → (s.dev.isMaster && s.dev.hasRing) = false →
        t.dev.reg Reg.PWR_STATUS = 1 ∧ t.dev.reg Reg.PWR_STATE = 1 ∧ t.dev.reg Reg.PWR_LAST_AP = 0 ∧
        t.dev.pwr.phase = .entry 2 false 2)

/-- For every accepted FOUNDATION_PROGRAM whose data are bytes and in which no fuse fails to blow: the write is answered
OK; in both copies every byte of the range is its old value with the data's 1 bits added, every other byte is as it
was, and the page store, the flash and the head memories are unchanged; the shadow that the entries read stays as it
was until the next reset. Every byte of the range lies in one of R401's fields that the OEM blows (OEM_KEY_HASH and
SECURITY, the two version thermometers, the INTLK and device words, OEM_DATA), so none in a field of Afiervo's and
none in a reserved one; and where its writer holds less than SERVICE it lies within OEM_KEY_HASH and the SECURITY
word. -/
def Obligations.ProgrammingBlowsExactlyTheBitsAskedFor : Prop :=
  ∀ (s : State) (r : Req) (l : List Nat) (env : WriteEnv), (∀ b ∈ l, b < 256) →
    env.stuckA = [] → env.stuckB = [] → s.acceptsBytes env r Reg.FOUNDATION_PROGRAM l = true →
    let off := (progFields l).1
    let data := (progFields l).2.2
    data.length = (progFields l).2.1 ∧ 0 < data.length ∧ off + data.length ≤ 2048 ∧
    (∀ a, off ≤ a → a < off + data.length → (112 ≤ a ∧ a < 180) ∨ (192 ≤ a ∧ a < 248) ∨ 1024 ≤ a) ∧
    ((s.dev.reqLevel r).holds .serv = false → off + data.length ≤ 164) ∧
    ∃ t, exec (.foundationProgram r l env) s = .next t ∧
      Tx.result r Reg.FOUNDATION_PROGRAM .ok ∈ t.dev.out ∧
      (∀ i, (h : i < data.length) →
        mget t.mem.fuseA (off + i) = mget s.mem.fuseA (off + i) ||| BitVec.ofNat 8 data[i] ∧
        mget t.mem.fuseB (off + i) = mget s.mem.fuseB (off + i) ||| BitVec.ofNat 8 data[i]) ∧
      (∀ a, (a < off ∨ off + data.length ≤ a) →
        mget t.mem.fuseA a = mget s.mem.fuseA a ∧ mget t.mem.fuseB a = mget s.mem.fuseB a) ∧
      t.mem.store = s.mem.store ∧ t.mem.flash = s.mem.flash ∧ t.mem.head = s.mem.head ∧ t.dev.shadow = s.dev.shadow

/-- For every state that stands outside NIGHT and OFF and that no test instruction holds: RESET_N low for less than 200 ns
leaves the state as it was. Low for 1 µs or more, every domain but AON is off and the four HOLD outputs are low, with
the memories unchanged. The release then answers a state at step 4 of the boot with cause RESET_PIN kept in AON: TB0
is as it was, POS0 counts from 0, the shadow is the OR of the two fuse copies, the event log, the page queue and the
sessions are empty, the page store holds nothing, and the fuses, the flash and the head memories are unchanged. -/
def Obligations.TheResetPinHoldsAndRestartsTheDevice : Prop :=
  ∀ (s : State), s.dev.inNight = false → s.dev.tap.driven = false →
    (∀ ns, ns < 200 → exec (.resetNAssert ns) s = .next s) ∧
    (∀ ns, 1000 ≤ ns → ∃ t u, exec (.resetNAssert ns) s = .next t ∧ exec .resetNRelease t = .next u ∧
      t.mem = s.mem ∧ t.dev.pwr.phase = .held ∧ t.dev.regN Reg.DOMAIN_ON = 1 ∧
      (∀ p, p < 2 → t.dev.reg (Reg.un Reg.PORCH_HOLD_STATE p) = 0 ∧ t.dev.reg (hallKey Reg.HALL_HOLD_STATE p) = 0) ∧
      u.dev.pwr.phase = .boot 4 ∧ u.dev.pwr.aon.cause = 2 ∧ u.dev.time.tb0 = s.dev.time.tb0 ∧ u.dev.pos.p0.c = 0 ∧
      u.dev.shadow = shadowOf s.mem ∧ u.dev.log = {} ∧ u.dev.pages = {} ∧ u.dev.dict.sessions = [] ∧
      u.mem = { s.mem with store := [] })

/-- For every state with running clocks and XTAL_STATE OK: CLK_REF_LOST answers a next state in which XTAL_STATE is LOST,
PLL A to D are on the backup oscillator, CLK_FAULTS is one higher modulo 2^32, every channel is gated, FIRE_EN_OUT is
low, a scheduler that ran is STOPPING or STOPPED, no FIRE pulse was put out and the memories are unchanged; in it
every STROBE_FIRE answers a next state that puts out no FIRE pulse, and CLK_REF_LOST again changes nothing. -/
def Obligations.ALostCrystalGatesEveryFireOutput : Prop :=
  ∀ (s : State), s.dev.clocked = true → s.dev.reg Reg.XTAL_STATE = 0 →
    ∃ t, exec .clkRefLost s = .next t ∧ t.mem = s.mem ∧ t.dev.reg Reg.XTAL_STATE = 1 ∧
      t.dev.regN Reg.BACKUP_ACTIVE % 16 = 15 ∧
      t.dev.regN Reg.CLK_FAULTS = (s.dev.regN Reg.CLK_FAULTS + 1) % 2 ^ 32 ∧
      (∀ c, t.dev.outputGate c ≠ 0) ∧ t.dev.fireEnOut = false ∧
      (s.dev.reg Reg.SCHED_STATE = 0 → t.dev.reg Reg.SCHED_STATE = 1 ∨ t.dev.reg Reg.SCHED_STATE = 2) ∧
      firePulses t.dev.out = firePulses s.dev.out ∧
      (∀ c h sub v, ∃ u, exec (.strobeFire c h sub v) t = .next u ∧ firePulses u.dev.out = firePulses t.dev.out) ∧
      exec .clkRefLost t = .next t

/-- Where the test port's supply VIO is down, in NIGHT and in OFF among others (R375, R426), IDCODE, BYPASS and EXTEST
leave the state as it is. For every state with VIO up, RESET_N released and no test instruction holding it: IDCODE
captures 32 bits, bit 0 first, that read 1719_273Dh (VERSION 1, PART 7192h, MANUFACTURER 39Eh, bit 0 set), and BYPASS
under every code that R446 does not list a single 0; both leave every other part of the state as it was. EXTEST of any
balls and data holds the device as RESET_N does: every domain but AON is off, no FIRE pulse is put out, the boundary
register has one cell for each ball or pair that R449 gives one and holds the data, missing bits 0, and the memories
are unchanged. BYPASS after it releases the device to step 4 of the boot with cause RESET_PIN. -/
def Obligations.TestInstructionsHoldTheDeviceOrLeaveItAlone : Prop :=
  (∀ s : State, s.dev.tapOn = false →
    exec .idcode s = .next s ∧ (∀ code, exec (.bypass code) s = .next s) ∧ ∀ pins data, exec (.extest pins data) s = .next s) ∧
  ∀ (s : State), s.dev.tapOn = true → s.dev.pwr.resetLow = false → s.dev.tap.driven = false →
    s.dev.pwr.phase ≠ .held →
    (∃ t, exec .idcode s = .next t ∧ t = { s with dev := { s.dev with tap := t.dev.tap } } ∧
      t.dev.tap.ir = 1 ∧ t.dev.tap.shift.length = 32 ∧
      (∀ i, i < 32 → t.dev.tap.shift.getD i false = bit (1 * 2 ^ 28 + 0x7192 * 2 ^ 12 + 0x39E * 2 + 1) i)) ∧
    (∀ code, code < 256 → code = 0 ∨ 8 < code →
      ∃ t, exec (.bypass code) s = .next t ∧ t = { s with dev := { s.dev with tap := t.dev.tap } } ∧
      t.dev.tap.ir = code ∧ t.dev.tap.shift = [false]) ∧
    (∀ pins data, ∃ t u, exec (.extest pins data) s = .next t ∧ exec (.bypass 0xFF) t = .next u ∧
      t.mem = s.mem ∧ t.dev.pwr.phase = .held ∧ t.dev.regN Reg.DOMAIN_ON = 1 ∧ t.dev.tap.boundary.length = boundaryCells.length ∧
      (∀ i, i < boundaryCells.length → t.dev.tap.boundary.getD i false = data.getD i false) ∧
      firePulses t.dev.out = firePulses s.dev.out ∧
      u.dev.pwr.phase = .boot 4 ∧ u.dev.pwr.aon.cause = 2 ∧ u.dev.tap.driven = false)

/-- Each of these commands answers a next state for every state and all operands that meet the premises of its clause (its
unit exists and the domain, engine or port it needs is on, or the dictionary is served and the write passes its
checks): the state in which its operation has acted on the memories and the device, an accepted write is answered OK,
and the queue is as it was (the records raised enter the log at the end of the cycle, R259): ENTRY_WRITE, READ, WRITE,
DOMAIN_READ_START, DOMAIN_READ_SEG, DOMAIN_WRITE_START, DOMAIN_WRITE_SEG, DOMAIN_ABORT, DOMAIN_IDLE_TIMEOUT,
SESSION_OPEN, SESSION_CLOSE, SESSION_TIMEOUT, AUTH, CHALLENGE, RESPONSE, LOCKOUT_END, EVENT_SUBSCRIBE, EVENT_ACK,
EVENT_RESEND, KEEPALIVE, COMMIT_REQUEST, COMMIT_CANCEL, COMMIT_DISCARD, COMMIT_RING_ACK_CHECK, IN_FORCE_SEL_WRITE,
IN_FORCE_VALUE_READ, PROFILE_REQUEST, NMT_COMMAND, HEARTBEAT, USDO_TRANSFER, RPDO_RECEIVED, TPDO_TRANSMIT, COMMIT,
COMMIT_ACK. -/
def Obligations.DictionaryCommandsComplete : Prop :=
  (∀ (s : State) (r : Req) (index : Nat) (sub : Nat) (ty : Nat) (bytes : List Nat) (env : WriteEnv),
      exec (.entryWrite r index sub ty bytes env) s = s.nextBoth (s.dev.entryWrite s.mem env r (index * 256 + sub % 256) ty bytes)) ∧
  (∀ (s : State) (v : Via) (items : List ReadItem) (vpp : Option Bool),
      exec (.read v items vpp) s = s.nextWith ((s.dev.senseVpp vpp).qdpRead s.mem v items)) ∧
  (∀ (s : State) (v : Via) (items : List WriteItem) (env : WriteEnv),
      exec (.write v items env) s = s.nextBoth (s.dev.qdpWrite s.mem v env items)) ∧
  (∀ (s : State) (v : Via) (index : Nat) (sub : Nat) (rsv : Nat),
      exec (.domainReadStart v index sub rsv) s = s.nextWith (s.dev.qdpReadStart s.mem v index sub rsv)) ∧
  (∀ (s : State) (v : Via) (off : Nat) (max : Nat) (rsv : Nat),
      exec (.domainReadSeg v off max rsv) s = s.nextWith (s.dev.qdpReadSeg v off max rsv)) ∧
  (∀ (s : State) (v : Via) (index : Nat) (sub : Nat) (rsv : Nat) (total : Nat) (crc : Nat) (env : WriteEnv),
      exec (.domainWriteStart v index sub rsv total crc env) s = s.nextBoth (s.dev.qdpWriteStart s.mem v env index sub rsv total crc)) ∧
  (∀ (s : State) (v : Via) (off : Nat) (len : Nat) (rsv : Nat) (data : List Nat) (env : WriteEnv),
      exec (.domainWriteSeg v off len rsv data env) s = s.nextBoth (s.dev.qdpWriteSeg s.mem v env off len rsv data)) ∧
  (∀ (s : State) (v : Via),
      exec (.domainAbort v) s = s.nextWith (s.dev.qdpAbort v)) ∧
  (∀ (s : State) (r : Req),
      s.dev.served = true → 
      exec (.domainIdleTimeout r) s = s.nextWith (s.dev.xferIdle r)) ∧
  (∀ (s : State) (h : QdpHdr) (level : Nat) (rsv : Bool),
      exec (.sessionOpen h level rsv) s = s.nextWith (s.dev.qdpOpen h level rsv)) ∧
  (∀ (s : State) (h : QdpHdr),
      exec (.sessionClose h) s = s.nextWith (s.dev.qdpClose h)) ∧
  (∀ (s : State) (n : Nat),
      exec (.sessionTimeout n) s = s.nextWith (s.dev.sessionTimeout n)) ∧
  (∀ (s : State) (h : QdpHdr) (mac : List Nat),
      exec (.auth h mac) s = s.nextWith (s.dev.qdpAuth h mac)) ∧
  (∀ (s : State) (h : QdpHdr),
      exec (.challenge h) s = s.nextWith (s.dev.qdpChallenge h)) ∧
  (∀ (s : State) (h : QdpHdr) (sig : List Nat) (pub : List Nat),
      exec (.response h sig pub) s = s.nextWith (s.dev.qdpResponse h sig pub)) ∧
  (∀ (s : State),
      s.dev.served = true → 
      exec .lockoutEnd s = s.nextWith (Device.lockoutEnd s.dev)) ∧
  (∀ (s : State) (h : QdpHdr) (sev : Nat) (rsv : Bool),
      exec (.eventSubscribe h sev rsv) s = s.nextWith (s.dev.qdpSubscribe h sev rsv)) ∧
  (∀ (s : State) (h : QdpHdr) (seq : Nat),
      exec (.eventAck h seq) s = s.nextWith (s.dev.eventAck h seq)) ∧
  (∀ (s : State) (n : Nat) (seq : Nat),
      exec (.eventResend n seq) s = s.nextWith (s.dev.eventResend n seq)) ∧
  (∀ (s : State) (h : QdpHdr),
      exec (.keepalive h) s = s.nextWith (s.dev.qdpKeep h)) ∧
  (∀ (s : State) (r : Req),
      s.accepts {} r Reg.COMMIT_CMD 1 = true → 
      exec (.commitRequest r) s =
        s.wrote r Reg.COMMIT_CMD (s.dev.commitRequest)) ∧
  (∀ (s : State) (r : Req),
      s.accepts {} r Reg.COMMIT_CMD 2 = true → 
      exec (.commitCancel r) s =
        s.wrote r Reg.COMMIT_CMD (s.dev.commitCancel)) ∧
  (∀ (s : State) (r : Req),
      s.accepts {} r Reg.COMMIT_CMD 3 = true → 
      exec (.commitDiscard r) s =
        s.wrote r Reg.COMMIT_CMD (s.dev.commitDiscard)) ∧
  (∀ (s : State),
      s.dev.served = true → 
      exec .commitRingAckCheck s = s.nextWith (Device.ringAckCheck s.dev)) ∧
  (∀ (s : State) (r : Req) (v : Nat),
      v < 2 ^ 32 → s.accepts {} r Reg.IN_FORCE_SEL v = true → 
      exec (.inForceSelWrite r v) s =
        s.wrote r Reg.IN_FORCE_SEL (s.dev.setSel r v)) ∧
  (∀ (s : State) (r : Req),
      exec (.inForceValueRead r) s = s.nextWith (s.dev.selectedRead s.mem r)) ∧
  (∀ (s : State) (r : Req) (n : Nat),
      n < 256 → s.accepts {} r Reg.PROFILE_REQUEST n = true → 
      exec (.profileRequest r n) s =
        s.wrote r Reg.PROFILE_REQUEST (s.dev.profileRequest s.mem n)) ∧
  (∀ (s : State) (p : Nat) (cs : Nat) (node : Nat),
      exec (.nmtCommand p cs node) s = s.nextWith (s.dev.nmtCommand p cs node)) ∧
  (∀ (s : State) (p : Nat),
      exec (.heartbeat p) s = s.nextWith (s.dev.heartbeat p)) ∧
  (∀ (s : State) (p : Nat) (u : UsdoReq) (env : WriteEnv),
      exec (.usdoTransfer p u env) s = s.nextBoth (s.dev.usdo s.mem env p u)) ∧
  (∀ (s : State) (p : Nat) (n : Nat) (data : List Nat) (env : WriteEnv),
      exec (.rpdoReceived p n data env) s = s.nextBoth (s.dev.rpdo s.mem env p n data)) ∧
  (∀ (s : State) (p : Nat) (n : Nat) (vpp : Option Bool),
      exec (.tpdoTransmit p n vpp) s = s.nextWith ((s.dev.senseVpp vpp).tpdo s.mem p n)) ∧
  (∀ (s : State) (h : HallHdr) (number : Nat) (pt : Int) (kind : Nat),
      s.dev.domainOn 53 = true → h.port < 2 → 
      exec (.commit h number pt kind) s = s.nextWith (s.dev.commitIn h number pt kind)) ∧
  (∀ (s : State) (h : HallHdr) (number : Nat) (count : Nat) (crc : Nat),
      s.dev.domainOn 53 = true → h.port < 2 → 
      exec (.commitAck h number count crc) s = s.nextWith (s.dev.commitAckIn h number count crc))

/-- Each of these commands answers a next state for every state and all operands that meet the premises of its clause (its
unit exists and the domain, engine or port it needs is on, or the dictionary is served and the write passes its
checks): the state in which its operation has acted on the memories and the device, an accepted write is answered OK,
and the queue is as it was (the records raised enter the log at the end of the cycle, R259): ENC_EDGE, SPEED_STALL,
SSI_FRAME_START, SSI_FRAME_DONE, INDEX, SUSPECT_CLEAR, REF_SOURCE_WRITE, REF_ANCHOR_CMD, PROBE_EDGE, ACK_SEQ, CMP_ARM,
CMP_DISARM, CMP_FIRE, CMP_PULSE_END, QOUT_STEP, QOUT_CONFIG_WRITE, KA_COUNT. -/
def Obligations.PositionCommandsComplete : Prop :=
  (∀ (s : State) (ch : Nat) (a : Bool) (b : Bool) (held : Nat) (v : Vote),
      s.dev.domainOn 56 = true → ch < 2 → 
      exec (.encEdge ch a b held v) s = s.nextWith (s.dev.posEdge ch a b held v)) ∧
  (∀ (s : State) (ch : Nat) (v : Vote),
      s.dev.domainOn 56 = true → ch < 2 → 
      exec (.speedStall ch v) s = s.nextWith ((s.dev.speedStall ch).overspeedVote v)) ∧
  (∀ (s : State) (ch : Nat) (sda : Bool),
      s.dev.domainOn 56 = true → ch < 2 → 
      exec (.ssiFrameStart ch sda) s = s.nextWith (s.dev.ssiStart ch sda)) ∧
  (∀ (s : State) (ch : Nat) (word : Nat),
      s.dev.domainOn 56 = true → ch < 2 → 
      exec (.ssiFrameDone ch word) s = s.nextWith (s.dev.ssiDone ch word)) ∧
  (∀ (s : State) (ch : Nat) (held : Nat),
      s.dev.domainOn 56 = true → ch < 2 → 
      exec (.index ch held) s = s.nextWith (s.dev.indexIn ch held)) ∧
  (∀ (s : State) (r : Req) (ch : Nat),
      ch < 2 → s.accepts {} r (Reg.un Reg.SUSPECT_CLEAR ch) 1 = true → 
      exec (.suspectClear r ch) s =
        s.wrote r (Reg.un Reg.SUSPECT_CLEAR ch) ((s.dev.setPosCh ch { s.dev.posCh ch with learn := true }).setReg (Reg.un Reg.INDEX_STATE ch) 0)) ∧
  (∀ (s : State) (r : Req) (v : Nat),
      v < 256 → s.accepts {} r Reg.REF_SOURCE v = true → 
      exec (.refSourceWrite r v) s =
        s.wrote r Reg.REF_SOURCE ((s.dev.setReg Reg.REF_SOURCE v).anchorNext)) ∧
  (∀ (s : State) (r : Req),
      s.accepts {} r Reg.REF_ANCHOR_CMD 1 = true → 
      exec (.refAnchorCmd r) s =
        s.wrote r Reg.REF_ANCHOR_CMD ({ s.dev with pos := { s.dev.pos with anchor := none, anchorDue := true, refAt := s.dev.now } })) ∧
  (∀ (s : State) (n : Nat) (rising : Bool) (held : Nat),
      s.dev.domainOn 56 = true → n < 8 → 
      exec (.probeEdge n rising held) s = s.nextWith (s.dev.probeIn n rising held)) ∧
  (∀ (s : State) (r : Req) (n : Nat) (seq : Nat),
      n < 8 → seq < 2 ^ 32 → s.accepts {} r (Reg.un Reg.ACK_SEQ n) seq = true → 
      exec (.ackSeq r n seq) s =
        s.wrote r (Reg.un Reg.ACK_SEQ n) (s.dev.probeAck n seq)) ∧
  (∀ (s : State) (r : Req) (n : Nat),
      n < 4 → s.accepts {} r (Reg.un Reg.CMP_ARM n) 1 = true → 
      exec (.cmpArm r n) s =
        s.wrote r (Reg.un Reg.CMP_ARM n) (s.dev.cmpArm n)) ∧
  (∀ (s : State) (r : Req) (n : Nat),
      n < 4 → s.accepts {} r (Reg.un Reg.CMP_ARM n) 2 = true → 
      exec (.cmpDisarm r n) s =
        s.wrote r (Reg.un Reg.CMP_ARM n) (s.dev.setReg (Reg.un Reg.CMP_STATE n) 0)) ∧
  (∀ (s : State) (n : Nat),
      s.dev.domainOn 56 = true → n < 4 → 
      exec (.cmpFire n) s = s.nextWith (s.dev.cmpFire n)) ∧
  (∀ (s : State) (n : Nat),
      s.dev.domainOn 56 = true → n < 4 → 
      exec (.cmpPulseEnd n) s = s.nextWith (s.dev.cmpPulseEnd n)) ∧
  (∀ (s : State) (q : Nat),
      s.dev.domainOn 56 = true → q < 2 → 
      exec (.qoutStep q) s = s.nextWith (s.dev.qoutStep q)) ∧
  (∀ (s : State) (r : Req) (q : Nat) (field : Nat) (v : Nat),
      q < 2 → 1 ≤ field → field ≤ 3 → v < 2 ^ (if field = 1 then 8 else 32) → s.accepts {} r (0x239000 + 256 * q + field) v = true → 
      exec (.qoutConfigWrite r q field v) s =
        s.wrote r (0x239000 + 256 * q + field) ((s.dev.setReg (0x239000 + 256 * q + field) v).qoutClear q)) ∧
  (∀ (s : State) (a : Bool) (b : Bool) (held : Nat),
      exec (.kaCount a b held) s = s.nextBoth (Device.kaTake s.mem s.dev a b held))

/-- Each of these commands answers a next state for every state and all operands that meet the premises of its clause (its
unit exists and the domain, engine or port it needs is on, or the dictionary is served and the write passes its
checks): the state in which its operation has acted on the memories and the device, an accepted write is answered OK,
and the queue is as it was (the records raised enter the log at the end of the cycle, R259): LINE_EVENT, PAGE_BIND,
STROBE_FIRE, FIRE_PULSE_END, LATCH, LAT_PULSE_END, SHIFT_START, SHIFT_DONE, SPREAD_RECOMPUTE, HG_DISABLE, HG_ENABLE,
HG_SHUTDOWN_DONE, POLL_CYCLE, HEAD_RECORD_READ, ALERT_WINDOW_END, HEAD_MEM_WRITE_DONE, HEAD_ACCEPT. -/
def Obligations.MantelAndHeadCommandsComplete : Prop :=
  (∀ (s : State) (v : Vote),
      s.dev.domainOn 56 = true → 
      exec (.lineEvent v) s = s.nextWith (s.dev.lineEvent v)) ∧
  (∀ (s : State),
      s.dev.domainOn 56 = true → s.dev.engUp 2 = true → 
      exec .pageBind s = s.nextWith (Device.pageBindNext s.dev)) ∧
  (∀ (s : State) (c : Nat) (h : Nat) (sub : Nat) (v : Vote),
      s.dev.domainOn 56 = true → c < 192 → 
      exec (.strobeFire c h sub v) s = s.nextWith (s.dev.strobeFire c h sub v)) ∧
  (∀ (s : State) (c : Nat),
      s.dev.domainOn 56 = true → c < 192 → 
      exec (.firePulseEnd c) s = s.nextWith (s.dev.firePulseEnd c)) ∧
  (∀ (s : State) (k : Nat) (v : Vote),
      s.dev.domainOn 56 = true → k < 24 → 
      exec (.latch k v) s = s.nextWith (s.dev.latch k v)) ∧
  (∀ (s : State) (k : Nat),
      s.dev.domainOn 56 = true → k < 24 → 
      exec (.latPulseEnd k) s = s.nextWith (s.dev.latPulseEnd k)) ∧
  (∀ (s : State) (k : Nat),
      s.dev.domainOn (27 + k) = true → k < 24 → 
      exec (.shiftStart k) s = s.nextWith (s.dev.shiftStart k)) ∧
  (∀ (s : State) (k : Nat),
      s.dev.domainOn (27 + k) = true → k < 24 → 
      exec (.shiftDone k) s = s.nextWith (s.dev.shiftDone k)) ∧
  (∀ (s : State) (k : Nat),
      s.dev.domainOn 56 = true → k < 24 → 
      exec (.spreadRecompute k) s = s.nextWith (s.dev.spreadGroup k)) ∧
  (∀ (s : State) (r : Req) (k : Nat),
      k < 24 → s.dev.domainOn 27 = true → s.accepts {} r Reg.HG_ENABLE (clrBit (s.dev.regN Reg.HG_ENABLE) k : Nat) = true → clrBit (s.dev.regN Reg.HG_ENABLE) k < 2 ^ 32 → 
      exec (.hgDisable r k) s =
        s.wrote r Reg.HG_ENABLE (s.dev.hgWrite (clrBit (s.dev.regN Reg.HG_ENABLE) k)).passIdle) ∧
  (∀ (s : State) (r : Req) (k : Nat),
      k < 24 → s.dev.domainOn 27 = true → s.accepts {} r Reg.HG_ENABLE (setBit (s.dev.regN Reg.HG_ENABLE) k : Nat) = true → setBit (s.dev.regN Reg.HG_ENABLE) k < 2 ^ 32 → 
      exec (.hgEnable r k) s =
        s.wrote r Reg.HG_ENABLE (s.dev.hgWrite (setBit (s.dev.regN Reg.HG_ENABLE) k)).passIdle) ∧
  (∀ (s : State) (k : Nat),
      s.dev.domainOn (27 + k) = true → k < 24 → 
      exec (.hgShutdownDone k) s = s.nextWith (s.dev.hgOff k)) ∧
  (∀ (s : State) (k : Nat) (reads : List PollRead),
      s.dev.domainOn (27 + k) = true → k < 24 → 
      exec (.pollCycle k reads) s = s.nextWith (s.dev.pollCycleDone k reads)) ∧
  (∀ (s : State) (c : Nat) (data : List Nat) (err : Bool),
      s.dev.domainOn (27 + c / 8) = true → c < 192 → 
      exec (.headRecordRead c data err) s = s.nextBoth (s.dev.recordRead s.mem c data err)) ∧
  (∀ (s : State) (k : Nat) (nack : Bool),
      s.dev.domainOn (27 + k) = true → k < 24 → 
      exec (.alertWindowEnd k nack) s = s.nextWith (s.dev.alertUnresolved k nack)) ∧
  (∀ (s : State) (c : Nat) (back : List Nat) (err : Bool),
      s.dev.domainOn (27 + c / 8) = true → c < 192 → 
      exec (.headMemWriteDone c back err) s = s.nextBoth (s.dev.memDone s.mem c back err)) ∧
  (∀ (s : State) (r : Req) (c : Nat),
      c < 192 → s.accepts {} r (Reg.HEAD_ACCEPT + c) 1 = true → 
      exec (.headAccept r c) s =
        s.wrote r (Reg.HEAD_ACCEPT + c) (s.dev.headAccept c))

/-- Each of these commands answers a next state for every state and all operands that meet the premises of its clause (its
unit exists and the domain, engine or port it needs is on, or the dictionary is served and the write passes its
checks): the state in which its operation has acted on the memories and the device, an accepted write is answered OK,
and the queue is as it was (the records raised enter the log at the end of the cycle, R259): QPT_OPEN, QPT_DATA,
QPT_RAW, QPT_DESC, QPT_CLOSE, CREDIT_IDLE, PAGE_NOT_READY, SCHED_STOP, SCHED_RESUME, SCHED_FLUSH, HIST_CAPTURE_CMD,
ROOM_RENDER_SLOT, CHECKPOINT_DONE, NOZZLE_MAP_WRITE, NOZZLE_WORD_WRITE, SHADOW_CHECK, SHADOW_RECOMPUTE,
SHADOW_REFEREE, ROOM_STALL, ROOM_MEMORY_ERROR, PROOF_START, PROOF_ABORT, PROOF_DONE, FAULT_ACK, MIRROR_CLEAR_CMD. -/
def Obligations.PageAndRoomCommandsComplete : Prop :=
  (∀ (s : State) (h : QptHdr),
      s.dev.firmware = true → s.dev.engUp 1 = true → s.dev.rxOpen h.rx = true → 
      exec (.qptOpen h) s = s.nextBoth
        ({ s.mem with store := (s.dev.qptOpen s.mem.store h).1 }, (s.dev.qptOpen s.mem.store h).2)) ∧
  (∀ (s : State) (h : QptHdr) (data : List Nat),
      s.dev.firmware = true → s.dev.rxOpen h.rx = true → 
      exec (.qptData h data) s = s.nextBoth
        ({ s.mem with store := (s.dev.qptData s.mem.store h data).1 }, (s.dev.qptData s.mem.store h data).2)) ∧
  (∀ (s : State) (h : QptHdr) (data : List Nat),
      s.dev.firmware = true → s.dev.rxOpen h.rx = true → 
      exec (.qptRaw h data) s = s.nextBoth
        ({ s.mem with store := (s.dev.qptRaw s.mem.store h data).1 }, (s.dev.qptRaw s.mem.store h data).2)) ∧
  (∀ (s : State) (h : QptHdr) (b : List Nat),
      s.dev.firmware = true → s.dev.engUp 1 = true → s.dev.rxOpen h.rx = true → 
      exec (.qptDesc h b) s = s.nextWith (s.dev.qptDesc h b)) ∧
  (∀ (s : State) (h : QptHdr),
      s.dev.firmware = true → s.dev.engUp 1 = true → s.dev.rxOpen h.rx = true → 
      exec (.qptClose h) s = s.nextWith (s.dev.qptClose h)) ∧
  (∀ (s : State) (k : Nat),
      s.dev.firmware = true → s.dev.engUp 1 = true → k < 16 → 
      exec (.creditIdle k) s = s.nextWith (s.dev.creditIdle k)) ∧
  (∀ (s : State),
      s.dev.domainOn 56 = true → s.dev.engUp 2 = true → 
      exec .pageNotReady s = s.nextWith (Device.pageNotReady s.dev)) ∧
  (∀ (s : State) (r : Req),
      s.accepts {} r Reg.SCHED_CMD 1 = true → 
      exec (.schedStop r) s =
        s.wrote r Reg.SCHED_CMD (s.dev.schedStop)) ∧
  (∀ (s : State) (r : Req),
      s.accepts {} r Reg.SCHED_CMD 2 = true → 
      exec (.schedResume r) s =
        s.wrote r Reg.SCHED_CMD (s.dev.schedResume)) ∧
  (∀ (s : State) (r : Req),
      s.accepts {} r Reg.SCHED_CMD 3 = true → 
      exec (.schedFlush r) s =
        s.wrote r Reg.SCHED_CMD (s.dev.schedFlush)) ∧
  (∀ (s : State) (r : Req),
      s.accepts {} r Reg.HIST_CAPTURE_CMD 1 = true → 
      exec (.histCaptureCmd r) s =
        s.wrote r Reg.HIST_CAPTURE_CMD (s.dev.captureArm)) ∧
  (∀ (s : State) (k : Nat),
      k < 24 → s.dev.renderOn k = true → 
      exec (.roomRenderSlot k) s = s.nextWith (Device.renderGroup s.mem s.dev k)) ∧
  (∀ (s : State) (k : Nat),
      k < 24 → s.dev.renderOn k = true → 
      exec (.checkpointDone k) s = s.nextBoth (Device.checkpointDone s.mem s.dev k)) ∧
  (∀ (s : State) (r : Req) (c : Nat) (bytes : List Nat),
      c < 192 → s.acceptsBytes {} r (Reg.NOZZLE_MAP + c) bytes = true → 
      exec (.nozzleMapWrite r c bytes) s =
        s.wrote r (Reg.NOZZLE_MAP + c) (s.dev.mapWrite c bytes)) ∧
  (∀ (s : State) (r : Req) (w : Nat),
      w < 2 ^ 32 → s.accepts {} r Reg.NOZZLE_WORD w = true → 
      exec (.nozzleWordWrite r w) s =
        s.wrote r Reg.NOZZLE_WORD (s.dev.writeNoz s.dev.selNoz.1 s.dev.selNoz.2 w)) ∧
  (∀ (s : State) (room : Option Nat) (spare : Option Nat),
      s.dev.domainOn 26 = true → 
      exec (.shadowCheck room spare) s = s.nextWith (Device.shadowCheck s.mem s.dev room spare)) ∧
  (∀ (s : State) (room : Option Nat) (spare : Option Nat),
      s.dev.domainOn 26 = true → 
      exec (.shadowRecompute room spare) s = s.nextWith (Device.shadowRecompute s.mem s.dev room spare)) ∧
  (∀ (s : State) (ref : Option Nat),
      s.dev.domainOn 26 = true → 
      exec (.shadowReferee ref) s = s.nextWith (Device.shadowReferee s.mem s.dev ref)) ∧
  (∀ (s : State) (u : Nat),
      u ≤ 24 → unitOn u s.dev = true → 
      exec (.roomStall u) s = s.nextWith (Device.roomStall s.mem s.dev u)) ∧
  (∀ (s : State) (u : Nat),
      u ≤ 24 → unitOn u s.dev = true → 
      exec (.roomMemoryError u) s = s.nextWith (Device.unitFaulty s.mem s.dev u 3)) ∧
  (∀ (s : State) (r : Req),
      s.accepts {} r Reg.PROOF_CMD 1 = true → 
      exec (.proofStart r) s =
        s.wrote r Reg.PROOF_CMD (s.dev.proofCmd 1)) ∧
  (∀ (s : State) (r : Req),
      s.accepts {} r Reg.PROOF_CMD 2 = true → 
      exec (.proofAbort r) s =
        s.wrote r Reg.PROOF_CMD (s.dev.proofCmd 2)) ∧
  (∀ (s : State) (x : ProofRes),
      s.dev.served = true → 
      exec (.proofDone x) s = s.nextWith (s.dev.proofDone x)) ∧
  (∀ (s : State) (r : Req) (seq : Nat),
      seq < 2 ^ 32 → s.accepts {} r Reg.FAULT_ACK seq = true → 
      exec (.faultAck r seq) s =
        s.wrote r Reg.FAULT_ACK ({ s.dev with log := { s.dev.log with unacked := s.dev.log.unacked.filter (fun x => !serialAtOrBefore 32 x seq) } })) ∧
  (∀ (s : State) (r : Req),
      s.accepts {} r Reg.MIRROR_CLEAR_CMD 1 = true → 
      exec (.mirrorClearCmd r) s =
        s.wrote r Reg.MIRROR_CLEAR_CMD (({ s.dev with log := { s.dev.log with mirror := [] } } : Device).markDirty 3 0))

/-- Each of these commands answers a next state for every state and all operands that meet the premises of its clause (its
unit exists and the domain, engine or port it needs is on, or the dictionary is served and the write passes its
checks): the state in which its operation has acted on the memories and the device, an accepted write is answered OK,
and the queue is as it was (the records raised enter the log at the end of the cycle, R259): HEAD_ALERT,
ALERT_IDENTIFIED, INTLK_ASSERTED, INTLK_CLEARED, INTLK_ACK, INTLK_RING_RECEIVED, THERM_ACT_TIMEOUT, ROTATE, TRIP_ACK,
DT_START, DT_ABORT, TEST_DROP, GATE_PULSE, DT_DROP_WINDOW_END, DT_GATED_TIMEOUT, LOOP_SAMPLE, LOOP_FORCE_SAFE,
LOOP_RESTORE, LOOP_DISABLE, LOOP_ENABLE, LOOP_OFF, PWM_PERIOD, ALERT_N_DEASSERTED, AIN_MON_CONVERSION. -/
def Obligations.ProtectionAndLoopCommandsComplete : Prop :=
  (∀ (s : State) (k : Nat) (held : Nat),
      s.dev.domainOn (27 + k) = true → k < 24 → 
      exec (.headAlert k held) s = s.nextWith (s.dev.headAlert k held)) ∧
  (∀ (s : State) (k : Nat) (addr : Nat) (err : Bool),
      s.dev.domainOn (27 + k) = true → k < 24 → 
      exec (.alertIdentified k addr err) s = s.nextWith (s.dev.alertIdentified k addr err)) ∧
  (∀ (s : State) (n : Nat) (high : Bool) (held : Nat),
      s.dev.domainOn 56 = true → n < 12 → 
      exec (.intlkAsserted n high held) s = s.nextWith (s.dev.intlkAssertAll n high held)) ∧
  (∀ (s : State) (n : Nat) (high : Bool) (held : Nat),
      s.dev.domainOn 56 = true → n < 12 → 
      exec (.intlkCleared n high held) s = s.nextWith (s.dev.intlkClearAll n high held)) ∧
  (∀ (s : State) (r : Req) (mask : Nat),
      mask < 2 ^ 16 → s.accepts {} r Reg.INTLK_ACK mask = true → 
      exec (.intlkAck r mask) s =
        s.wrote r Reg.INTLK_ACK (s.dev.intlkAck mask)) ∧
  (∀ (s : State) (h : HallHdr) (pos : Nat) (input : Nat) (role : Nat) (rel : Bool) (glc : Nat),
      s.dev.domainOn 53 = true → h.port < 2 → 
      exec (.intlkRingReceived h pos input role rel glc) s = s.nextWith (s.dev.intlkRingAll h pos input role rel glc)) ∧
  (∀ (s : State) (c : Nat),
      s.dev.domainOn 56 = true → c < 192 → 
      exec (.thermActTimeout c) s = s.nextWith (s.dev.thermTimeout c)) ∧
  (∀ (s : State) (c : Nat),
      s.dev.domainOn 56 = true → c < 192 → 
      exec (.rotate c) s = s.nextWith (s.dev.rotate c)) ∧
  (∀ (s : State) (r : Req) (mask : Nat),
      mask < 2 ^ 32 → s.accepts {} r Reg.TRIP_ACK mask = true → 
      exec (.tripAck r mask) s =
        s.wrote r Reg.TRIP_ACK (s.dev.tripAck mask)) ∧
  (∀ (s : State) (r : Req),
      s.accepts {} r Reg.DT_CMD 1 = true → 
      exec (.dtStart r) s =
        s.wrote r Reg.DT_CMD (s.dev.dtStart)) ∧
  (∀ (s : State) (r : Req),
      s.accepts {} r Reg.DT_CMD 2 = true → 
      exec (.dtAbort r) s =
        s.wrote r Reg.DT_CMD (s.dev.dtAbort 0)) ∧
  (∀ (s : State) (u : Nat),
      s.dev.domainOn 56 = true → s.dev.engUp 10 = true → u < 4 → 
      exec (.testDrop u) s = s.nextWith (s.dev.testDrop u)) ∧
  (∀ (s : State) (gate : Nat) (edge : Nat) (width : Nat) (high : Bool),
      s.dev.domainOn 56 = true → gate < 4 → 
      exec (.gatePulse gate edge width high) s = s.nextWith (s.dev.gatePulse gate edge width high)) ∧
  (∀ (s : State) (u : Nat),
      s.dev.domainOn 56 = true → u < 4 → 
      exec (.dtDropWindowEnd u) s = s.nextWith (s.dev.dtDropEnd u)) ∧
  (∀ (s : State),
      s.dev.domainOn 56 = true → 
      exec .dtGatedTimeout s = s.nextWith (Device.dtTimeout s.dev)) ∧
  (∀ (s : State) (k : Nat) (inp : Nat),
      s.dev.domainOn 55 = true → k < 64 → 
      exec (.loopSample k inp) s = s.nextWith (s.dev.loopSample k inp)) ∧
  (∀ (s : State) (r : Req) (k : Nat),
      k < 64 → s.accepts {} r (Reg.un Reg.LOOP_LOOP_CMD k) 1 = true → 
      exec (.loopForceSafe r k) s =
        s.wrote r (Reg.un Reg.LOOP_LOOP_CMD k) (s.dev.loopForceSafe k)) ∧
  (∀ (s : State) (r : Req) (k : Nat),
      k < 64 → s.accepts {} r (Reg.un Reg.LOOP_LOOP_CMD k) 2 = true → 
      exec (.loopRestore r k) s =
        s.wrote r (Reg.un Reg.LOOP_LOOP_CMD k) (s.dev.loopRestore k)) ∧
  (∀ (s : State) (r : Req) (k : Nat),
      k < 64 → s.accepts {} r (Reg.un Reg.LOOP_ENABLE k) 0 = true → 
      exec (.loopDisable r k) s =
        s.wrote r (Reg.un Reg.LOOP_ENABLE k) (s.dev.loopDisable k)) ∧
  (∀ (s : State) (r : Req) (k : Nat),
      k < 64 → s.accepts {} r (Reg.un Reg.LOOP_ENABLE k) 1 = true → 
      exec (.loopEnable r k) s =
        s.wrote r (Reg.un Reg.LOOP_ENABLE k) (s.dev.loopEnable k)) ∧
  (∀ (s : State) (k : Nat),
      s.dev.domainOn 55 = true → k < 64 → 
      exec (.loopOff k) s = s.nextWith (s.dev.loopOff k)) ∧
  (∀ (s : State) (b : Nat),
      s.dev.domainOn 55 = true → b < 8 → 
      exec (.pwmPeriod b) s = s.nextWith (s.dev.pwmPeriod b)) ∧
  (∀ (s : State) (k : Nat) (held : Nat),
      s.dev.domainOn (27 + k) = true → k < 24 → 
      exec (.alertNDeasserted k held) s = s.nextWith (s.dev.alertGone k held)) ∧
  (∀ (s : State) (i : Nat) (raw : Nat),
      s.dev.domainOn 55 = true → i < 16 → 
      exec (.ainMonConversion i raw) s = s.nextWith (s.dev.ainMon i raw))

/-- Each of these commands answers a next state for every state and all operands that meet the premises of its clause (its
unit exists and the domain, engine or port it needs is on, or the dictionary is served and the write passes its
checks): the state in which its operation has acted on the memories and the device, an accepted write is answered OK,
and the queue is as it was (the records raised enter the log at the end of the cycle, R259): WIN_PORT_DISABLE,
WIN_PORT_ENABLE, CSI_FRAME_START, CSI_LINE, CSI_FRAME_END, FRAME_TIMEOUT, TRIG_ARM, TRIG_DISARM, TRIG_PULSE,
PSET_WRITE, PIPE_STEP, CAL_RUN, CAL_ABORT, CAL_REVERT, DENS_APPLY, REG_APPLY, AIN_TRIM_WRITE, CELLAR_FLUSH_CMD,
CELLAR_WRITE, CELLAR_WRITE_DONE, PROFILE_SAVE_CMD, TRIG_PULSE_END. -/
def Obligations.WindowAndCalibrationCommandsComplete : Prop :=
  (∀ (s : State) (r : Req) (p : Nat),
      s.dev.domainOn 54 = true → p < 4 → s.accepts {} r (Reg.WIN_PORT_ENABLE + p) 0 = true → 
      exec (.winPortDisable r p) s =
        s.wrote r (Reg.WIN_PORT_ENABLE + p) (s.dev.winPortDisable p)) ∧
  (∀ (s : State) (r : Req) (p : Nat),
      s.dev.domainOn 54 = true → p < 4 → s.accepts {} r (Reg.WIN_PORT_ENABLE + p) 1 = true → 
      exec (.winPortEnable r p) s =
        s.wrote r (Reg.WIN_PORT_ENABLE + p) (s.dev.winPortEnable p)) ∧
  (∀ (s : State) (h : CsiHdr) (fails : List (Nat × Nat)),
      s.dev.domainOn 54 = true → h.port < 4 → 
      exec (.csiFrameStart h fails) s = s.nextWith (s.dev.csiFrameStart h fails)) ∧
  (∀ (s : State) (h : CsiHdr) (dt : Nat) (crcOk : Bool) (pix : List Nat),
      s.dev.domainOn 54 = true → h.port < 4 → 
      exec (.csiLine h dt crcOk pix) s = s.nextBoth (({ s.mem with store := (Device.csiLine s.mem.store s.dev h dt crcOk pix).1 }, (Device.csiLine s.mem.store s.dev h dt crcOk pix).2))) ∧
  (∀ (s : State) (h : CsiHdr),
      s.dev.domainOn 54 = true → h.port < 4 → 
      exec (.csiFrameEnd h) s = s.nextWith (s.dev.csiFrameEnd h)) ∧
  (∀ (s : State) (c : Nat),
      s.dev.domainOn 54 = true → c < 8 → 
      exec (.frameTimeout c) s = s.nextWith (s.dev.frameTimeout c)) ∧
  (∀ (s : State) (r : Req) (p : Nat),
      p < 4 → s.accepts {} r (Reg.TRIG_ARM + p) 1 = true → 
      exec (.trigArm r p) s =
        s.wrote r (Reg.TRIG_ARM + p) (s.dev.trigArm p)) ∧
  (∀ (s : State) (r : Req) (p : Nat),
      p < 4 → s.accepts {} r (Reg.TRIG_ARM + p) 2 = true → 
      exec (.trigDisarm r p) s =
        s.wrote r (Reg.TRIG_ARM + p) ((s.dev.setTrig p { s.dev.trig p with armed := false }).setReg (Reg.TRIG_STATE + p) 0)) ∧
  (∀ (s : State) (p : Nat) (fails : List (Nat × Nat)),
      s.dev.domainOn 54 = true → p < 4 → 
      exec (.trigPulse p fails) s = s.nextWith (s.dev.trigPulse p fails)) ∧
  (∀ (s : State) (r : Req) (c : Nat) (bytes : List Nat),
      c < 8 → s.acceptsBytes {} r (Reg.PSET + c) bytes = true → 
      exec (.psetWrite r c bytes) s =
        s.wrote r (Reg.PSET + c) (s.dev.psetAccept c bytes)) ∧
  (∀ (s : State),
      s.dev.domainOn 54 = true → 
      exec .pipeStep s = s.nextWith (Device.pipeRun s.mem.store s.dev)) ∧
  (∀ (s : State) (r : Req),
      s.accepts {} r Reg.CAL_CMD 1 = true → 
      exec (.calRun r) s =
        s.wrote r Reg.CAL_CMD (s.dev.calRun)) ∧
  (∀ (s : State) (r : Req),
      s.accepts {} r Reg.CAL_CMD 2 = true → 
      exec (.calAbort r) s =
        s.wrote r Reg.CAL_CMD (s.dev.calAbort)) ∧
  (∀ (s : State) (r : Req),
      s.accepts {} r Reg.CAL_CMD 3 = true → 
      exec (.calRevert r) s =
        s.wrote r Reg.CAL_CMD (s.dev.calRevert)) ∧
  (∀ (s : State),
      s.dev.firmware = true → s.dev.engUp 5 = true → 
      exec .densApply s = s.nextWith (Device.densApply s.dev)) ∧
  (∀ (s : State),
      s.dev.firmware = true → s.dev.engUp 5 = true → 
      exec .regApply s = s.nextWith (Device.regApply s.dev)) ∧
  (∀ (s : State) (r : Req) (i : Nat) (offset : Bool) (v : Int),
      i < 16 → -(2 ^ 15) ≤ v → v < 2 ^ 15 → s.accepts {} r ((if offset then Reg.AIN_TRIM_OFFSET else Reg.AIN_TRIM_GAIN) + i) v = true → 
      exec (.ainTrimWrite r i offset v) s =
        s.wrote r ((if offset then Reg.AIN_TRIM_OFFSET else Reg.AIN_TRIM_GAIN) + i) ((s.dev.setReg ((if offset then Reg.AIN_TRIM_OFFSET else Reg.AIN_TRIM_GAIN) + i) v).ainTrimmed)) ∧
  (∀ (s : State) (r : Req),
      s.accepts {} r Reg.CELLAR_FLUSH_CMD 1 = true → 
      exec (.cellarFlushCmd r) s =
        s.wrote r Reg.CELLAR_FLUSH_CMD (({ s.dev with cellar := { s.dev.cellar with urgent := s.dev.cellar.dirty } } : Device).cellarWrite)) ∧
  (∀ (s : State),
      s.dev.cellarRuns = true → 
      exec .cellarWrite s = s.nextWith (Device.cellarWrite s.dev)) ∧
  (∀ (s : State) (back : List Nat),
      s.dev.served = true → 
      exec (.cellarWriteDone back) s = s.nextBoth (({ s.mem with flash := (Device.cellarWriteDone s.mem.flash s.dev back).1 }, (Device.cellarWriteDone s.mem.flash s.dev back).2))) ∧
  (∀ (s : State) (r : Req),
      s.accepts {} r Reg.PROFILE_SAVE_CMD 1 = true → 
      exec (.profileSaveCmd r) s =
        s.wrote r Reg.PROFILE_SAVE_CMD (s.dev.profileSave)) ∧
  (∀ (s : State) (p : Nat),
      s.dev.domainOn 54 = true → p < 4 → 
      exec (.trigPulseEnd p) s = s.nextWith (s.dev.trigPulseEnd p))

/-- Each of these commands answers a next state for every state and all operands that meet the premises of its clause (its
unit exists and the domain, engine or port it needs is on, or the dictionary is served and the write passes its
checks): the state in which its operation has acted on the memories and the device, an accepted write is answered OK,
and the queue is as it was (the records raised enter the log at the end of the cycle, R259): RX_FRAME,
PORCH_PORT_DISABLE, PORCH_PORT_ENABLE, PORCH_PORT_OFF, PORCH_LINK_UP, PORCH_LINK_DOWN, PORCH_HOLD_TIMEOUT,
PORCH_HOLD_RETRY, FDB_AGE, PTP_SYNC, PTP_MESSAGE, SYNC_LOSS, TB3_UPDATE, TB3_STEP_CMD, LAUNCH_SUBMIT, LAUNCH_CANCEL,
LAUNCH, PTP_DELAY_REQ_SEND, PORCH_LANES_TRAINED. -/
def Obligations.PorchAndTimeCommandsComplete : Prop :=
  (∀ (s : State) (p : Nat) (sub : Nat) (rx : Nat) (f : EthFrame),
      s.dev.domainOn 52 = true → p < 2 → sub < 4 → 
      exec (.rxFrame p sub rx f) s = s.nextWith (s.dev.rxFrame p sub rx f)) ∧
  (∀ (s : State) (r : Req) (p : Nat),
      p < 2 → s.accepts {} r (Reg.un Reg.PORCH_PORT_ENABLE p) 0 = true → 
      exec (.porchPortDisable r p) s =
        s.wrote r (Reg.un Reg.PORCH_PORT_ENABLE p) (s.dev.porchDisable p)) ∧
  (∀ (s : State) (r : Req) (p : Nat),
      p < 2 → s.accepts {} r (Reg.un Reg.PORCH_PORT_ENABLE p) 1 = true → 
      exec (.porchPortEnable r p) s =
        s.wrote r (Reg.un Reg.PORCH_PORT_ENABLE p) (s.dev.porchEnable p)) ∧
  (∀ (s : State) (p : Nat),
      s.dev.domainOn 52 = true → p < 2 → 
      exec (.porchPortOff p) s = s.nextWith (s.dev.porchOff p)) ∧
  (∀ (s : State) (p : Nat) (sub : Nat),
      s.dev.domainOn 52 = true → p < 2 → 
      exec (.porchLinkUp p sub) s = s.nextWith (s.dev.porchLinkUp p sub)) ∧
  (∀ (s : State) (p : Nat) (sub : Nat),
      s.dev.domainOn 52 = true → p < 2 → 
      exec (.porchLinkDown p sub) s = s.nextWith (s.dev.porchLinkDown p sub)) ∧
  (∀ (s : State) (p : Nat),
      s.dev.domainOn 52 = true → p < 2 → 
      exec (.porchHoldTimeout p) s = s.nextWith (s.dev.porchHoldTimeout p)) ∧
  (∀ (s : State) (p : Nat),
      s.dev.domainOn 52 = true → p < 2 → 
      exec (.porchHoldRetry p) s = s.nextWith (s.dev.porchHoldRetry p)) ∧
  (∀ (s : State) (mac : Nat),
      s.dev.domainOn 52 = true → 
      exec (.fdbAge mac) s = s.nextWith (s.dev.fdbAge mac)) ∧
  (∀ (s : State) (t : Nat) (port : Nat) (sender : Nat) (t1 : Int) (stamp : Int) (ms : Nat),
      s.dev.domainOn 52 = true → 
      exec (.ptpSync t port sender t1 stamp ms) s = s.nextWith (s.dev.ptpSync t port sender t1 stamp ms)) ∧
  (∀ (s : State) (t : Nat) (port : Nat) (m : PtpMsg),
      s.dev.domainOn 52 = true → s.dev.engUp 11 = true → 
      exec (.ptpMessage t port m) s = s.nextWith (s.dev.ptpMessage t port m)) ∧
  (∀ (s : State) (t : Nat),
      s.dev.domainOn 52 = true → s.dev.engUp 11 = true → 
      exec (.syncLoss t) s = s.nextWith (s.dev.syncLoss t)) ∧
  (∀ (s : State),
      s.dev.domainOn 52 = true → 
      exec .tb3Update s = s.nextWith (Device.tb3Update s.dev)) ∧
  (∀ (s : State) (r : Req),
      s.accepts {} r Reg.TB3_STEP_CMD 1 = true → 
      exec (.tb3StepCmd r) s =
        s.wrote r Reg.TB3_STEP_CMD (s.dev.tb3Step)) ∧
  (∀ (s : State) (r : Req) (bytes : List Nat),
      s.acceptsBytes {} r Reg.LAUNCH_SUBMIT bytes = true → 
      exec (.launchSubmit r bytes) s =
        s.wrote r Reg.LAUNCH_SUBMIT (s.dev.launchAccept bytes)) ∧
  (∀ (s : State) (r : Req) (tag : Nat),
      tag < 2 ^ 32 → s.accepts {} r Reg.LAUNCH_CANCEL tag = true → 
      exec (.launchCancel r tag) s =
        s.wrote r Reg.LAUNCH_CANCEL (s.dev.launchCancel tag)) ∧
  (∀ (s : State) (p : Nat),
      s.dev.domainOn 52 = true → p < 2 → 
      exec (.launch p) s = s.nextWith (s.dev.launchDue p)) ∧
  (∀ (s : State) (t : Nat),
      s.dev.domainOn 52 = true → s.dev.engUp 11 = true → 
      exec (.ptpDelayReqSend t) s = s.nextWith (s.dev.ptpDelayReq t)) ∧
  (∀ (s : State) (p : Nat),
      s.dev.domainOn 52 = true → p < 2 → 
      exec (.porchLanesTrained p) s = s.nextWith (s.dev.porchTrained p))

/-- Each of these commands answers a next state for every state and all operands that meet the premises of its clause (its
unit exists and the domain, engine or port it needs is on, or the dictionary is served and the write passes its
checks): the state in which its operation has acted on the memories and the device, an accepted write is answered OK,
and the queue is as it was (the records raised enter the log at the end of the cycle, R259): HALL_PORT_DISABLE,
HALL_PORT_ENABLE, HALL_PORT_OFF, HALL_TRAINING_STEP, HALL_TRAINING_RESTART, HALL_HOLD_TIMEOUT, HALL_HOLD_RETRY, EDGE,
EDGE_SEND, SYNC, SYNC_SEND, GRID, GRID_SEND, CUE, LAT_PROBE, LAT_PROBE_SEND, ENUM, ENUM_TIMEOUT, STATUS, STATUS_SEND,
STATS, HALL_ACK, HALL_NAK, REPLAY_TIMEOUT, H1_ENTER, LANE_FAIL, LANE_SWITCH, HALL_RESET, LINK_RESET_CMD,
COAST_TIMEOUT, PRBS_START, PRBS_STOP. -/
def Obligations.HallwayCommandsComplete : Prop :=
  (∀ (s : State) (r : Req) (p : Nat),
      p < 2 → s.accepts {} r (hallKey Reg.HALL_PORT_ENABLE p) 0 = true → 
      exec (.hallPortDisable r p) s =
        s.wrote r (hallKey Reg.HALL_PORT_ENABLE p) (s.dev.hallDisable p)) ∧
  (∀ (s : State) (r : Req) (p : Nat),
      p < 2 → s.accepts {} r (hallKey Reg.HALL_PORT_ENABLE p) 1 = true → 
      exec (.hallPortEnable r p) s =
        s.wrote r (hallKey Reg.HALL_PORT_ENABLE p) (s.dev.hallEnable p)) ∧
  (∀ (s : State) (p : Nat),
      s.dev.domainOn 53 = true → p < 2 → 
      exec (.hallPortOff p) s = s.nextWith (s.dev.hallOff p)) ∧
  (∀ (s : State) (p : Nat) (t : HallTrain),
      s.dev.domainOn 53 = true → p < 2 → 
      exec (.hallTrainingStep p t) s = s.nextWith (s.dev.trainDone p t)) ∧
  (∀ (s : State) (p : Nat),
      s.dev.domainOn 53 = true → p < 2 → 
      exec (.hallTrainingRestart p) s = s.nextWith (s.dev.trainRestart p)) ∧
  (∀ (s : State) (p : Nat),
      s.dev.domainOn 53 = true → p < 2 → 
      exec (.hallHoldTimeout p) s = s.nextWith (s.dev.hallHoldTimeout p)) ∧
  (∀ (s : State) (p : Nat),
      s.dev.domainOn 53 = true → p < 2 → 
      exec (.hallHoldRetry p) s = s.nextWith (s.dev.hallHoldRetry p)) ∧
  (∀ (s : State) (h : HallHdr) (pt : Int) (ns : Nat) (frac : Nat) (v : Nat) (flags : Nat) (vote : Vote),
      s.dev.domainOn 53 = true → h.port < 2 → 
      exec (.edge h pt ns frac v flags vote) s = s.nextWith (s.dev.ringEdge h pt ns frac v flags vote)) ∧
  (∀ (s : State),
      s.dev.domainOn 53 = true → 
      exec .edgeSend s = s.nextWith (Device.edgeSend s.dev)) ∧
  (∀ (s : State) (h : HallHdr) (ns : Nat) (frac : Nat) (acc : Nat) (arrPs : Int) (resid : Nat),
      s.dev.domainOn 53 = true → h.port < 2 → 
      exec (.sync h ns frac acc arrPs resid) s = s.nextWith (s.dev.syncIn h ns frac acc arrPs resid)) ∧
  (∀ (s : State),
      s.dev.domainOn 53 = true → 
      exec .syncSend s = s.nextWith (Device.syncSend s.dev)) ∧
  (∀ (s : State) (h : HallHdr) (go : Nat) (po : Int) (num : Nat) (den : Nat) (mode : Nat),
      s.dev.domainOn 53 = true → h.port < 2 → num ≠ 0 → den ≠ 0 → 
      exec (.grid h go po num den mode) s = s.nextWith (s.dev.gridIn h { go := go, po := po, num := num, den := den, mode := mode })) ∧
  (∀ (s : State),
      s.dev.domainOn 53 = true → 
      exec .gridSend s = s.nextWith (Device.gridSend s.dev)) ∧
  (∀ (s : State) (h : HallHdr) (pt : Int) (seq : Nat),
      s.dev.domainOn 53 = true → h.port < 2 → 
      exec (.cue h pt seq) s = s.nextWith (s.dev.cueIn h pt seq)) ∧
  (∀ (s : State) (h : HallHdr) (num : Nat) (turn : Nat) (ps : Nat),
      s.dev.domainOn 53 = true → h.port < 2 → 
      exec (.latProbe h num turn ps) s = s.nextWith (s.dev.latProbe h num turn ps)) ∧
  (∀ (s : State) (p : Nat),
      s.dev.domainOn 53 = true → p < 2 → 
      exec (.latProbeSend p) s = s.nextWith (s.dev.latProbeSend p)) ∧
  (∀ (s : State) (h : HallHdr) (dir : Nat) (count : Nat) (size : Nat) (serial : Nat),
      s.dev.domainOn 53 = true → h.port < 2 → 
      exec (.enum h dir count size serial) s = s.nextWith (s.dev.enumIn h dir count size serial)) ∧
  (∀ (s : State) (reached : Nat),
      s.dev.domainOn 53 = true → 
      exec (.enumTimeout reached) s = s.nextWith (s.dev.enumTimeout reached)) ∧
  (∀ (s : State) (h : HallHdr) (w : Nat),
      s.dev.domainOn 53 = true → h.port < 2 → 
      exec (.status h w) s = s.nextWith (s.dev.statusIn h w)) ∧
  (∀ (s : State),
      s.dev.domainOn 53 = true → 
      exec .statusSend s = s.nextWith (Device.statusSend s.dev)) ∧
  (∀ (s : State) (h : HallHdr) (mine : Bool) (c : Nat) (frame : Nat) (off : Nat) (total : Nat) (bs : List Nat),
      s.dev.domainOn 53 = true → h.port < 2 → c < 8 → 
      exec (.stats h mine c frame off total bs) s = s.nextWith (s.dev.statsTake h mine c frame off total bs)) ∧
  (∀ (s : State) (p : Nat) (cls : Nat) (seq : Nat),
      s.dev.domainOn 53 = true → p < 2 → 
      exec (.hallAck p cls seq) s = s.nextWith (s.dev.hallAck p cls seq)) ∧
  (∀ (s : State) (p : Nat) (cls : Nat),
      s.dev.domainOn 53 = true → p < 2 → 
      exec (.hallNak p cls) s = s.nextWith (s.dev.hallResend p cls)) ∧
  (∀ (s : State) (p : Nat) (cls : Nat),
      s.dev.domainOn 53 = true → p < 2 → 
      exec (.replayTimeout p cls) s = s.nextWith (s.dev.hallReplay p cls)) ∧
  (∀ (s : State) (p : Nat),
      s.dev.domainOn 53 = true → p < 2 → 
      exec (.h1Enter p) s = s.nextWith (s.dev.h1Enter p)) ∧
  (∀ (s : State) (p : Nat) (lane : Nat) (gap : Nat) (errs : Nat) (lost : Bool),
      s.dev.domainOn 53 = true → p < 2 → 
      exec (.laneFail p lane gap errs lost) s = s.nextWith (s.dev.laneFail p lane gap errs lost)) ∧
  (∀ (s : State) (p : Nat) (lane : Nat) (gap : Nat),
      s.dev.domainOn 53 = true → p < 2 → 
      exec (.laneSwitch p lane gap) s = s.nextWith (s.dev.laneSwitch p lane gap)) ∧
  (∀ (s : State) (p : Nat) (down : Bool),
      s.dev.domainOn 53 = true → p < 2 → 
      exec (.hallReset p down) s = s.nextWith (s.dev.hallResetIn p down)) ∧
  (∀ (s : State) (r : Req) (p : Nat),
      p < 2 → s.accepts {} r (hallKey Reg.LINK_RESET_CMD p) 1 = true → 
      exec (.linkResetCmd r p) s =
        s.wrote r (hallKey Reg.LINK_RESET_CMD p) (s.dev.linkReset p)) ∧
  (∀ (s : State),
      s.dev.domainOn 53 = true → 
      exec .coastTimeout s = s.nextWith (Device.coastTimeout s.dev)) ∧
  (∀ (s : State) (r : Req),
      s.accepts {} r Reg.PRBS_CMD 1 = true → 
      exec (.prbsStart r) s =
        s.wrote r Reg.PRBS_CMD (s.dev.prbsStart)) ∧
  (∀ (s : State) (r : Req) (rx : List (List Bool)),
      s.accepts { rx := rx } r Reg.PRBS_CMD 2 = true → 
      exec (.prbsStop r rx) s =
        s.wrote r Reg.PRBS_CMD (s.dev.prbsStop rx))

/-- Each of these commands answers a next state for every state and all operands that meet the premises of its clause (its
unit exists and the domain, engine or port it needs is on, or the dictionary is served and the write passes its
checks): the state in which its operation has acted on the memories and the device, an accepted write is answered OK,
and the queue is as it was (the records raised enter the log at the end of the cycle, R259): BULK, PANTRY_TRANSACTION,
PANIC_START, PANIC_END, REFRESH, MR4_READ, RH_WINDOW_END, SCRUB, DQS_CHECK, ENG_WATCHDOG, ENG_WORKSHOP_TRAP,
ENG_SRAM_ECC, BULK_SEND, MB_ACK, WDT_KICK, WORKSHOP_RESTART, WORKSHOP_HALT, WORKSHOP_IMAGE_WRITE. -/
def Obligations.PantryAndEngineCommandsComplete : Prop :=
  (∀ (s : State) (h : HallHdr) (pos : Nat) (eng : Nat) (srcW : Nat) (data : List Nat),
      s.dev.domainOn 53 = true → h.port < 2 → 
      exec (.bulk h pos eng srcW data) s = s.nextWith (s.dev.bulkIn h pos eng srcW data)) ∧
  (∀ (s : State) (t : PantryReq),
      s.dev.domainOn 51 = true → 
      exec (.pantryTransaction t) s = s.nextBoth (s.dev.pantryTxn s.mem t)) ∧
  (∀ (s : State) (fill : Nat),
      s.dev.domainOn 51 = true → 
      exec (.panicStart fill) s = s.nextWith (s.dev.panicStart fill)) ∧
  (∀ (s : State) (fill : Nat) (low : Nat),
      s.dev.domainOn 51 = true → 
      exec (.panicEnd fill low) s = s.nextWith (s.dev.panicEnd fill low)) ∧
  (∀ (s : State) (c : Nat),
      s.dev.domainOn 51 = true → c < 4 → 
      exec (.refresh c) s = s.nextWith (s.dev.refresh c)) ∧
  (∀ (s : State) (c : Nat) (mult : Nat),
      s.dev.domainOn 51 = true → c < 4 → 
      exec (.mr4Read c mult) s = s.nextWith (s.dev.mr4Read c mult)) ∧
  (∀ (s : State) (c : Nat),
      s.dev.domainOn 51 = true → c < 4 → 
      exec (.rhWindowEnd c) s = s.nextWith (s.dev.rhWindow c)) ∧
  (∀ (s : State) (ecc : List SectorErr),
      s.dev.domainOn 51 = true → 
      exec (.scrub ecc) s = s.nextWith (s.dev.scrubStep ecc)) ∧
  (∀ (s : State) (c : Nat) (x : Int),
      s.dev.domainOn 51 = true → c < 4 → 
      exec (.dqsCheck c x) s = s.nextWith (s.dev.dqsCheck c x)) ∧
  (∀ (s : State) (e : Nat),
      s.dev.domainOn 1 = true → e < 16 → 
      exec (.engWatchdog e) s = s.nextWith (s.dev.engWatchdog e)) ∧
  (∀ (s : State) (w : Nat) (addr : Nat) (byte : Option Nat),
      s.dev.domainOn 1 = true → w < 4 → 
      exec (.engWorkshopTrap w addr byte) s = s.nextWith (s.dev.workshopTrap w addr byte)) ∧
  (∀ (s : State) (e : Nat) (addr : Nat) (fixable : Bool),
      s.dev.domainOn 1 = true → e < 16 → 
      exec (.engSramEcc e addr fixable) s = s.nextWith (Device.sramEcc s.mem.flash s.dev e addr fixable)) ∧
  (∀ (s : State) (b : MbHdr) (op : Nat) (pos : Nat) (eng : Nat) (len : Nat) (data : List Nat),
      s.dev.domainOn 1 = true → b.w < 4 → 
      exec (.bulkSend b op pos eng len data) s = s.nextWith (s.dev.bulkSend b op pos eng len data)) ∧
  (∀ (s : State) (w : Nat) (mask : Nat) (regs : List (Nat × Nat)),
      s.dev.domainOn 1 = true → w < 4 → 
      exec (.mbAck w mask regs) s = s.nextWith (s.dev.mbAck w mask regs)) ∧
  (∀ (s : State) (w : Nat),
      s.dev.domainOn 1 = true → w < 4 → 
      exec (.wdtKick w) s = s.nextWith (s.dev.wdtKick w)) ∧
  (∀ (s : State) (r : Req),
      s.accepts {} r Reg.WORKSHOP_CMD 1 = true → 
      exec (.workshopRestart r) s =
        s.wrote r Reg.WORKSHOP_CMD (s.dev.workshopRestart s.mem.flash)) ∧
  (∀ (s : State) (r : Req),
      s.accepts {} r Reg.WORKSHOP_CMD 2 = true → 
      exec (.workshopHalt r) s =
        s.wrote r Reg.WORKSHOP_CMD (s.dev.workshopHalt)) ∧
  (∀ (s : State) (r : Req) (bytes : List Nat),
      s.acceptsBytes {} r Reg.WORKSHOP_IMAGE bytes = true → 
      exec (.workshopImageWrite r bytes) s = s.nextBoth
        ({ s.mem with flash := flashProgram (flashErase s.mem.flash shopImageAt (2 * 2 ^ 20)) shopImageAt bytes },
          s.dev.send (.result r Reg.WORKSHOP_IMAGE .ok)))

/-- Each of these commands answers a next state for every state and all operands that meet the premises of its clause (its
unit exists and the domain, engine or port it needs is on, or the dictionary is served and the write passes its
checks): the state in which its operation has acted on the memories and the device, an accepted write is answered OK,
and the queue is as it was (the records raised enter the log at the end of the cycle, R259): PWR_REQUEST_RUN,
PWR_REQUEST_READY, PWR_REQUEST_STANDBY, PWR_REQUEST_NIGHT, SLEEP_N_FALL, SLEEP_REQUEST_SAMPLE, PWR_STEP_DONE, WAKE,
WAKE_TB0_ALARM, WAKE_POS0_MOVEMENT, POWER_REQUEST, POWER_PREPARED, POWER_GO, POWER_CANCEL, POWER_ABORTED, POWER_EXIT,
RING_POWER_TIMEOUT, PWR_RAIL_FAULT, RAIL_RETRY, PWR_VBAR_LOW, PWR_AON_BROWNOUT, PMBUS_POLL, PWR_TJ_HIGH,
PWR_TJ_SHUTDOWN. -/
def Obligations.PowerCommandsComplete : Prop :=
  (∀ (s : State) (r : Req),
      s.accepts {} r Reg.PWR_REQUEST 0 = true → 
      exec (.pwrRequestRun r) s =
        s.wrote r Reg.PWR_REQUEST (s.dev.pwrRequest 0)) ∧
  (∀ (s : State) (r : Req),
      s.accepts {} r Reg.PWR_REQUEST 1 = true → 
      exec (.pwrRequestReady r) s =
        s.wrote r Reg.PWR_REQUEST (s.dev.pwrRequest 1)) ∧
  (∀ (s : State) (r : Req),
      s.accepts {} r Reg.PWR_REQUEST 2 = true → 
      exec (.pwrRequestStandby r) s =
        s.wrote r Reg.PWR_REQUEST (s.dev.pwrRequest 2)) ∧
  (∀ (s : State) (r : Req),
      s.accepts {} r Reg.PWR_REQUEST 3 = true → 
      exec (.pwrRequestNight r) s =
        s.wrote r Reg.PWR_REQUEST (s.dev.pwrRequest 3)) ∧
  (∀ (s : State),
      exec .sleepNFall s = s.nextWith (Device.sleepFall s.dev)) ∧
  (∀ (s : State),
      exec .sleepRequestSample s = s.nextWith (Device.sleepSample s.dev)) ∧
  (∀ (s : State) (dqs : List Int),
      exec (.pwrStepDone dqs) s = s.nextWith (Device.pwrStepDone s.mem s.dev dqs)) ∧
  (∀ (s : State) (rise : Bool),
      exec (.wake rise) s = s.nextBoth (Device.wake s.mem s.dev rise)) ∧
  (∀ (s : State),
      s.dev.tb0Alarm = true → 
      exec .wakeTb0Alarm s = s.nextWith (s.dev.latchWake 1)) ∧
  (∀ (s : State),
      s.dev.moved = true → 
      exec .wakePos0Movement s = s.nextWith (s.dev.latchWake 2)) ∧
  (∀ (s : State) (h : HallHdr) (target : Nat) (number : Nat) (status : Nat),
      s.dev.domainOn 53 = true → h.port < 2 → 
      exec (.powerRequest h target number status) s = s.nextWith (s.dev.powerReqIn h target number status)) ∧
  (∀ (s : State) (h : HallHdr) (target : Nat) (number : Nat) (origin : Nat) (status : Nat),
      s.dev.domainOn 53 = true → h.port < 2 → 
      exec (.powerPrepared h target number origin status) s = s.nextWith (s.dev.powerPreparedIn h target number origin status)) ∧
  (∀ (s : State) (h : HallHdr) (target : Nat) (number : Nat) (status : Nat),
      s.dev.domainOn 53 = true → h.port < 2 → 
      exec (.powerGo h target number status) s = s.nextWith (s.dev.powerGoIn h target number status)) ∧
  (∀ (s : State) (h : HallHdr) (target : Nat) (number : Nat) (status : Nat),
      s.dev.domainOn 53 = true → h.port < 2 → 
      exec (.powerCancel h target number status) s = s.nextWith (s.dev.powerCancelIn h target number status)) ∧
  (∀ (s : State) (h : HallHdr) (target : Nat) (number : Nat) (origin : Nat) (status : Nat),
      s.dev.domainOn 53 = true → h.port < 2 → 
      exec (.powerAborted h target number origin status) s = s.nextWith (s.dev.powerAbortedIn h target number origin status)) ∧
  (∀ (s : State) (h : HallHdr) (target : Nat) (number : Nat) (status : Nat),
      s.dev.domainOn 53 = true → h.port < 2 → 
      exec (.powerExit h target number status) s = s.nextWith (s.dev.powerExitIn h target number status)) ∧
  (∀ (s : State),
      s.dev.domainOn 53 = true → 
      exec .ringPowerTimeout s = s.nextWith (Device.ringTimeout s.dev)) ∧
  (∀ (s : State) (slot : Nat) (cause : Nat),
      exec (.pwrRailFault slot cause) s = s.nextWith (s.dev.railFault slot cause s.dev.now)) ∧
  (∀ (s : State),
      exec .railRetry s = s.nextBoth (Device.railRetry s.mem s.dev)) ∧
  (∀ (s : State) (mv : Nat),
      s.dev.served = true → 
      exec (.pwrVbarLow mv) s = s.nextWith (s.dev.vbar mv)) ∧
  (∀ (s : State),
      exec .pwrAonBrownout s = s.nextBoth (Device.brownOut s.mem s.dev)) ∧
  (∀ (s : State) (slot : Nat) (all : Bool) (r : PmRead),
      s.dev.served = true → slot < 6 → 
      exec (.pmbusPoll slot all r) s = s.nextWith (s.dev.pmbusPoll slot all r)) ∧
  (∀ (s : State) (tj : Int) (sensor : Nat),
      s.dev.served = true → sensor < 8 → 
      exec (.pwrTjHigh tj sensor) s = s.nextWith (s.dev.tjRead tj sensor)) ∧
  (∀ (s : State) (tj : Int) (sensor : Nat),
      exec (.pwrTjShutdown tj sensor) s = s.nextWith (s.dev.tjShutdown tj sensor))

/-- Each of these commands answers a next state for every state and all operands that meet the premises of its clause (its
unit exists and the domain, engine or port it needs is on, or the dictionary is served and the write passes its
checks): the state in which its operation has acted on the memories and the device, an accepted write is answered OK,
and the queue is as it was (the records raised enter the log at the end of the cycle, R259): POWER_ON, RESET_N_ASSERT,
RESET_N_RELEASE, DEVICE_RESET_CMD, SUBSYS_RESET_CMD, BOOT_STEP, BOOT_RETRY, BOOT_ROM_RELEASE, HOUSE_IMAGE_WRITE,
FOUNDATION_PROGRAM, CLK_REF_LOST, CLK_PLL_UNLOCK, CLK_LANE_REF_LOST, LANE_REF_RESTORED, TEST_LOGIC_RESET, IDCODE,
SAMPLE, PRELOAD, EXTEST, EXTEST_PULSE, EXTEST_TRAIN, CLAMP, HIGHZ, BYPASS, SELFTEST_START, SELFTEST_ABORT,
SELFTEST_DONE, LOOPBACK_START, LOOPBACK_DONE. -/
def Obligations.ResetClockAndTestCommandsComplete : Prop :=
  (∀ (s : State),
      exec .powerOn s = s.nextBoth (Device.powerUp s.mem s.dev)) ∧
  (∀ (s : State) (ns : Nat),
      exec (.resetNAssert ns) s = s.nextWith (s.dev.resetAssert ns)) ∧
  (∀ (s : State),
      exec .resetNRelease s = s.nextBoth (Device.resetRelease s.mem s.dev)) ∧
  (∀ (s : State) (r : Req),
      s.accepts {} r Reg.DEVICE_RESET_CMD 1 = true → 
      exec (.deviceResetCmd r) s =
        s.wrote r Reg.DEVICE_RESET_CMD ({ s.dev with boot := { s.dev.boot with resetAt := some (s.dev.now + cycMs 1) } })) ∧
  (∀ (s : State) (r : Req) (code : Nat) (env : WriteEnv),
      code < 256 → s.accepts env r Reg.SUBSYS_RESET_CMD code = true → 
      exec (.subsysResetCmd r code env) s = s.nextBoth (let d := s.dev.seeVpp env;
        (d.subsysMem s.mem code, ((d.profAgain s.mem).subsysReset code env.segs env.tries).send (.result r Reg.SUBSYS_RESET_CMD .ok)))) ∧
  (∀ (s : State) (x : BootArgs),
      exec (.bootStep x) s = s.nextWith (Device.bootStep s.mem s.dev x)) ∧
  (∀ (s : State),
      exec .bootRetry s = s.nextBoth (Device.bootRetry s.mem s.dev)) ∧
  (∀ (s : State),
      exec .bootRomRelease s = s.nextWith (Device.romRelease s.dev)) ∧
  (∀ (s : State) (r : Req) (bytes : List Nat),
      s.acceptsBytes {} r Reg.HOUSE_IMAGE bytes = true → 
      exec (.houseImageWrite r bytes) s =
        s.nextBoth (s.dev.houseStore s.mem bytes, s.dev.send (.result r Reg.HOUSE_IMAGE .ok))) ∧
  (∀ (s : State) (r : Req) (bytes : List Nat) (env : WriteEnv),
      s.acceptsBytes env r Reg.FOUNDATION_PROGRAM bytes = true → 
      exec (.foundationProgram r bytes env) s = s.nextBoth
        (let y := (s.dev.seeVpp env).program s.mem bytes env.stuckA env.stuckB;
          (y.1, y.2.1.send (.result r Reg.FOUNDATION_PROGRAM y.2.2)))) ∧
  (∀ (s : State),
      exec .clkRefLost s = s.nextWith (Device.refLost s.dev)) ∧
  (∀ (s : State) (pll : Nat) (ps : Nat),
      exec (.clkPllUnlock pll ps) s = s.nextWith (s.dev.pllUnlock pll ps)) ∧
  (∀ (s : State) (us : Nat),
      exec (.clkLaneRefLost us) s = s.nextWith (s.dev.laneRefLost us)) ∧
  (∀ (s : State),
      exec .laneRefRestored s = s.nextWith (Device.laneRefBack s.dev)) ∧
  (∀ (s : State),
      exec .testLogicReset s = s.nextBoth (Device.tapFree s.mem s.dev 0x01 [])) ∧
  (∀ (s : State),
      exec .idcode s = s.nextBoth (Device.tapLoad s.mem s.dev 0x01 [] [] [])) ∧
  (∀ (s : State) (pins : List Bool),
      exec (.sample pins) s = s.nextBoth (Device.tapLoad s.mem s.dev 0x02 pins [] [])) ∧
  (∀ (s : State) (pins : List Bool) (data : List Bool),
      exec (.preload pins data) s = s.nextBoth (Device.tapLoad s.mem s.dev 0x03 pins data [])) ∧
  (∀ (s : State) (pins : List Bool) (data : List Bool),
      exec (.extest pins data) s = s.nextBoth (Device.tapLoad s.mem s.dev 0x04 pins data [])) ∧
  (∀ (s : State) (pins : List Bool) (data : List Bool) (edges : List (Nat × Bool)),
      exec (.extestPulse pins data edges) s = s.nextBoth (Device.tapLoad s.mem s.dev 0x05 pins data edges)) ∧
  (∀ (s : State) (pins : List Bool) (data : List Bool) (edges : List (Nat × Bool)),
      exec (.extestTrain pins data edges) s = s.nextBoth (Device.tapLoad s.mem s.dev 0x06 pins data edges)) ∧
  (∀ (s : State),
      exec .clamp s = s.nextBoth (Device.tapLoad s.mem s.dev 0x07 [] [] [])) ∧
  (∀ (s : State),
      exec .highz s = s.nextBoth (Device.tapLoad s.mem s.dev 0x08 [] [] [])) ∧
  (∀ (s : State) (code : Nat),
      tapOp (code % 256) = .bypass → 
      exec (.bypass code) s = s.nextBoth (Device.tapFree s.mem s.dev (code % 256) [false])) ∧
  (∀ (s : State) (r : Req),
      s.accepts {} r Reg.SELFTEST_CMD 1 = true → 
      exec (.selftestStart r) s =
        s.wrote r Reg.SELFTEST_CMD (s.dev.selftestStart)) ∧
  (∀ (s : State) (r : Req),
      s.accepts {} r Reg.SELFTEST_CMD 2 = true → 
      exec (.selftestAbort r) s =
        s.wrote r Reg.SELFTEST_CMD (s.dev.selftestAbort)) ∧
  (∀ (s : State) (x : SelfRes),
      s.dev.served = true → 
      exec (.selftestDone x) s = s.nextWith (s.dev.selftestDone x)) ∧
  (∀ (s : State) (r : Req),
      s.accepts {} r Reg.LB_LOOP_CMD 1 = true → 
      exec (.loopbackStart r) s =
        s.wrote r Reg.LB_LOOP_CMD (s.dev.loopbackStart)) ∧
  (∀ (s : State) (x : LoopRes),
      s.dev.served = true → 
      exec (.loopbackDone x) s = s.nextWith (s.dev.loopbackDone x))
end

