-- ==== Sys2Proof/Laws/Table.lean ====
section
/-! SUPPORT. Sparse tables and byte memories: a read after a write, the canonical form that every operation keeps, and
reads of equal memories. -/
namespace Sys2Proof.Machine

/-! ### Reads after writes -/

theorem tget_tins_same {α : Type} (d : Nat → α) (t : Tab α) (k : Nat) (v : α) : tget d (tins k v t) k = v := by
  induction t with
  | nil => simp [tins, tget]
  | cons p t ih =>
    obtain ⟨k', v'⟩ := p
    simp only [tins]
    split
    · simp [tget]
    · split
      · simp [tget]
      · rename_i h2
        simp only [tget]
        rw [if_neg (fun e => h2 e.symm)]
        exact ih

theorem tget_tins_other {α : Type} (d : Nat → α) (t : Tab α) {k a : Nat} (v : α) (h : a ≠ k) :
    tget d (tins k v t) a = tget d t a := by
  induction t with
  | nil => simp [tins, tget, Ne.symm h]
  | cons p t ih =>
    obtain ⟨k', v'⟩ := p
    simp only [tins]
    split
    · simp [tget, Ne.symm h]
    · split
      · rename_i e
        subst e
        simp [tget, Ne.symm h]
      · simp only [tget]
        rw [ih]

theorem tget_tdel_same {α : Type} (d : Nat → α) (t : Tab α) (k : Nat) : tget d (tdel k t) k = d k := by
  induction t with
  | nil => rfl
  | cons p t ih =>
    obtain ⟨k', v'⟩ := p
    simp only [tdel]
    split
    · exact ih
    · rename_i h
      simp only [tget]
      rw [if_neg h]
      exact ih

theorem tget_tdel_other {α : Type} (d : Nat → α) (t : Tab α) {k a : Nat} (h : a ≠ k) :
    tget d (tdel k t) a = tget d t a := by
  induction t with
  | nil => rfl
  | cons p t ih =>
    obtain ⟨k', v'⟩ := p
    simp only [tdel]
    split
    · rename_i e
      subst e
      simp only [tget]
      rw [if_neg (Ne.symm h)]
      exact ih
    · simp only [tget]
      rw [ih]

@[simp] theorem tget_tset_same {α : Type} [DecidableEq α] (d : Nat → α) (t : Tab α) (k : Nat) (v : α) :
    tget d (tset d t k v) k = v := by
  unfold tset
  split
  · rename_i e
    rw [tget_tdel_same, e]
  · exact tget_tins_same d t k v

theorem tget_tset_other {α : Type} [DecidableEq α] (d : Nat → α) (t : Tab α) {k a : Nat} (v : α) (h : a ≠ k) :
    tget d (tset d t k v) a = tget d t a := by
  unfold tset
  split
  · exact tget_tdel_other d t h
  · exact tget_tins_other d t v h

/-! ### The canonical form -/

theorem tabSorted_mono {α : Type} {t : Tab α} {b c : Nat} (h : c ≤ b) (s : tabSorted b t = true) :
    tabSorted c t = true := by
  cases t with
  | nil => rfl
  | cons p t =>
    obtain ⟨k, v⟩ := p
    simp only [tabSorted, Bool.and_eq_true, decide_eq_true_eq] at *
    exact ⟨by omega, s.2⟩

theorem tabSorted_tins {α : Type} {t : Tab α} {b k : Nat} (v : α) (hb : b ≤ k) (s : tabSorted b t = true) :
    tabSorted b (tins k v t) = true := by
  induction t generalizing b with
  | nil => simp [tins, tabSorted, hb]
  | cons p t ih =>
    obtain ⟨k', v'⟩ := p
    simp only [tabSorted, Bool.and_eq_true, decide_eq_true_eq] at s
    simp only [tins]
    split
    · simp only [tabSorted, Bool.and_eq_true, decide_eq_true_eq]
      exact ⟨hb, by omega, s.2⟩
    · split
      · rename_i e
        subst e
        simp only [tabSorted, Bool.and_eq_true, decide_eq_true_eq]
        exact ⟨hb, s.2⟩
      · simp only [tabSorted, Bool.and_eq_true, decide_eq_true_eq]
        exact ⟨s.1, ih (by omega) s.2⟩

theorem tabSorted_filter {α : Type} {t : Tab α} {b : Nat} (p : Nat × α → Bool) (s : tabSorted b t = true) :
    tabSorted b (t.filter p) = true := by
  induction t generalizing b with
  | nil => rfl
  | cons q t ih =>
    obtain ⟨k', v'⟩ := q
    simp only [tabSorted, Bool.and_eq_true, decide_eq_true_eq] at s
    simp only [List.filter]
    split
    · simp only [tabSorted, Bool.and_eq_true, decide_eq_true_eq]
      exact ⟨s.1, ih s.2⟩
    · exact ih (tabSorted_mono (by omega) s.2)

theorem tdel_eq_filter {α : Type} (k : Nat) (t : Tab α) : tdel k t = t.filter (fun p => !(decide (p.1 = k))) := by
  induction t with
  | nil => rfl
  | cons q t ih =>
    obtain ⟨k', v'⟩ := q
    simp only [tdel, List.filter]
    by_cases h : k' = k <;> simp [h, ih]

theorem mem_tins {α : Type} {t : Tab α} {k : Nat} {v : α} {p : Nat × α} (h : p ∈ tins k v t) : p = (k, v) ∨ p ∈ t := by
  induction t with
  | nil => simpa [tins] using h
  | cons q t ih =>
    obtain ⟨k', v'⟩ := q
    simp only [tins] at h
    split at h
    · simpa using h
    · split at h
      · simp only [List.mem_cons] at h ⊢
        rcases h with h | h
        · exact Or.inl h
        · exact Or.inr (Or.inr h)
      · simp only [List.mem_cons] at h ⊢
        rcases h with h | h
        · exact Or.inr (Or.inl h)
        · rcases ih h with e | e
          · exact Or.inl e
          · exact Or.inr (Or.inr e)

theorem tabWf_filter {α : Type} [DecidableEq α] (d : Nat → α) {t : Tab α} (p : Nat × α → Bool)
    (h : tabWf d t = true) : tabWf d (t.filter p) = true := by
  simp only [tabWf, Bool.and_eq_true, List.all_eq_true] at *
  exact ⟨tabSorted_filter p h.1, fun x hx => h.2 x (List.mem_filter.mp hx).1⟩

theorem tabWf_tset {α : Type} [DecidableEq α] (d : Nat → α) {t : Tab α} (k : Nat) (v : α) (h : tabWf d t = true) :
    tabWf d (tset d t k v) = true := by
  unfold tset
  split
  · rw [tdel_eq_filter]
    exact tabWf_filter d _ h
  · rename_i ne
    simp only [tabWf, Bool.and_eq_true, List.all_eq_true, decide_eq_true_eq] at *
    refine ⟨tabSorted_tins v (Nat.zero_le _) h.1, fun x hx => ?_⟩
    rcases mem_tins hx with e | e
    · subst e
      exact ne
    · exact h.2 x e

/-! ### Byte memories -/

@[simp] theorem mget_nil (a : Nat) : mget [] a = 0 := rfl

@[simp] theorem mget_mset_same (m : List Host.Cell) (a : Nat) (v : BitVec 8) : mget (mset m a v) a = v :=
  tget_tset_same _ _ _ _

theorem mget_mset_other (m : List Host.Cell) {a b : Nat} (v : BitVec 8) (h : b ≠ a) : mget (mset m a v) b = mget m b :=
  tget_tset_other _ _ _ h

theorem mget_mset (m : List Host.Cell) (a b : Nat) (v : BitVec 8) :
    mget (mset m a v) b = if b = a then v else mget m b := by
  split
  · rename_i h
    rw [h, mget_mset_same]
  · rename_i h
    exact mget_mset_other m v h

theorem wf_mset {m : List Host.Cell} (a : Nat) (v : BitVec 8) (h : Memory.wf m = true) : Memory.wf (mset m a v) = true :=
  tabWf_tset _ a v h

theorem wf_filter {m : List Host.Cell} (p : Host.Cell → Bool) (h : Memory.wf m = true) :
    Memory.wf (m.filter p) = true :=
  tabWf_filter _ p h

theorem wf_nil : Memory.wf [] = true := rfl

theorem wf_mwrite {m : List Host.Cell} (a : Nat) (l : List Nat) (h : Memory.wf m = true) :
    Memory.wf (mwrite m a l) = true := by
  induction l generalizing m a with
  | nil => exact h
  | cons b l ih => exact ih (a + 1) (wf_mset a _ h)

/-- Bytes outside the written ones read as before. -/
theorem mget_mwrite_outside {m : List Host.Cell} {a b : Nat} (l : List Nat) (h : b < a ∨ a + l.length ≤ b) :
    mget (mwrite m a l) b = mget m b := by
  induction l generalizing m a with
  | nil => rfl
  | cons x l ih =>
    simp only [List.length_cons] at h
    show mget (mwrite (mset m a (BitVec.ofNat 8 x)) (a + 1) l) b = _
    rw [ih (by omega), mget_mset_other _ _ (by omega)]

/-- The written bytes read back. -/
theorem mget_mwrite_inside {m : List Host.Cell} {a i : Nat} (l : List Nat) (h : i < l.length) :
    mget (mwrite m a l) (a + i) = BitVec.ofNat 8 (l.getD i 0) := by
  induction l generalizing m a i with
  | nil => simp at h
  | cons x l ih =>
    show mget (mwrite (mset m a (BitVec.ofNat 8 x)) (a + 1) l) (a + i) = _
    cases i with
    | zero => rw [mget_mwrite_outside l (by omega), Nat.add_zero, mget_mset_same]; rfl
    | succ i =>
      rw [show a + (i + 1) = (a + 1) + i by omega, ih (by simpa using h)]
      rfl

theorem Memories.wf_iff (m : Memories) : m.wf = true ↔ Memory.wf m.store = true ∧ Memory.wf m.fuseA = true ∧
    Memory.wf m.fuseB = true ∧ Memory.wf m.flash = true ∧ Memory.wf m.head = true := by
  simp only [Memories.wf, Bool.and_eq_true, and_assoc]

theorem reset_memories_wf : State.reset.mem.wf = true := rfl

end Sys2Proof.Machine
end

