-- ==== Sys2Proof/Laws/State.lean ====
section
/-! SUPPORT. What each named operation leaves as it was, one lemma per field, and what it sets. -/
namespace Sys2Proof.Machine

variable (s : State) (d : Device)

/-! ### The machine -/

@[simp] theorem State.withPending_pending (l : List Instr) : (s.withPending l).pending = l := rfl
@[simp] theorem State.withPending_mem (l : List Instr) : (s.withPending l).mem = s.mem := rfl
@[simp] theorem State.withPending_dev (l : List Instr) : (s.withPending l).dev = s.dev := rfl
@[simp] theorem State.withDev_pending (x : Device) : (s.withDev x).pending = s.pending := rfl
@[simp] theorem State.withDev_mem (x : Device) : (s.withDev x).mem = s.mem := rfl
@[simp] theorem State.withDev_dev (x : Device) : (s.withDev x).dev = x := rfl


/-! ### `setReg` -/

@[simp] theorem Device.setReg_now (k : Nat) (v : Int) : (d.setReg k v).now = d.now := rfl
@[simp] theorem Device.setReg_free (k : Nat) (v : Int) : (d.setReg k v).free = d.free := rfl
@[simp] theorem Device.setReg_role (k : Nat) (v : Int) : (d.setReg k v).role = d.role := rfl
@[simp] theorem Device.setReg_shadow (k : Nat) (v : Int) : (d.setReg k v).shadow = d.shadow := rfl
@[simp] theorem Device.setReg_pos (k : Nat) (v : Int) : (d.setReg k v).pos = d.pos := rfl
@[simp] theorem Device.setReg_mantel (k : Nat) (v : Int) : (d.setReg k v).mantel = d.mantel := rfl
@[simp] theorem Device.setReg_heads (k : Nat) (v : Int) : (d.setReg k v).heads = d.heads := rfl
@[simp] theorem Device.setReg_pages (k : Nat) (v : Int) : (d.setReg k v).pages = d.pages := rfl
@[simp] theorem Device.setReg_rooms (k : Nat) (v : Int) : (d.setReg k v).rooms = d.rooms := rfl
@[simp] theorem Device.setReg_prot (k : Nat) (v : Int) : (d.setReg k v).prot = d.prot := rfl
@[simp] theorem Device.setReg_win (k : Nat) (v : Int) : (d.setReg k v).win = d.win := rfl
@[simp] theorem Device.setReg_cal (k : Nat) (v : Int) : (d.setReg k v).cal = d.cal := rfl
@[simp] theorem Device.setReg_cellar (k : Nat) (v : Int) : (d.setReg k v).cellar = d.cellar := rfl
@[simp] theorem Device.setReg_red (k : Nat) (v : Int) : (d.setReg k v).red = d.red := rfl
@[simp] theorem Device.setReg_boiler (k : Nat) (v : Int) : (d.setReg k v).boiler = d.boiler := rfl
@[simp] theorem Device.setReg_log (k : Nat) (v : Int) : (d.setReg k v).log = d.log := rfl
@[simp] theorem Device.setReg_time (k : Nat) (v : Int) : (d.setReg k v).time = d.time := rfl
@[simp] theorem Device.setReg_porch (k : Nat) (v : Int) : (d.setReg k v).porch = d.porch := rfl
@[simp] theorem Device.setReg_hall (k : Nat) (v : Int) : (d.setReg k v).hall = d.hall := rfl
@[simp] theorem Device.setReg_pantry (k : Nat) (v : Int) : (d.setReg k v).pantry = d.pantry := rfl
@[simp] theorem Device.setReg_eng (k : Nat) (v : Int) : (d.setReg k v).eng = d.eng := rfl
@[simp] theorem Device.setReg_pwr (k : Nat) (v : Int) : (d.setReg k v).pwr = d.pwr := rfl
@[simp] theorem Device.setReg_boot (k : Nat) (v : Int) : (d.setReg k v).boot = d.boot := rfl
@[simp] theorem Device.setReg_tap (k : Nat) (v : Int) : (d.setReg k v).tap = d.tap := rfl
@[simp] theorem Device.setReg_out (k : Nat) (v : Int) : (d.setReg k v).out = d.out := rfl

/-! ### `setRegN` -/

@[simp] theorem Device.setRegN_now (k v : Nat) : (d.setRegN k v).now = d.now := rfl
@[simp] theorem Device.setRegN_free (k v : Nat) : (d.setRegN k v).free = d.free := rfl
@[simp] theorem Device.setRegN_role (k v : Nat) : (d.setRegN k v).role = d.role := rfl
@[simp] theorem Device.setRegN_shadow (k v : Nat) : (d.setRegN k v).shadow = d.shadow := rfl
@[simp] theorem Device.setRegN_pos (k v : Nat) : (d.setRegN k v).pos = d.pos := rfl
@[simp] theorem Device.setRegN_mantel (k v : Nat) : (d.setRegN k v).mantel = d.mantel := rfl
@[simp] theorem Device.setRegN_heads (k v : Nat) : (d.setRegN k v).heads = d.heads := rfl
@[simp] theorem Device.setRegN_pages (k v : Nat) : (d.setRegN k v).pages = d.pages := rfl
@[simp] theorem Device.setRegN_rooms (k v : Nat) : (d.setRegN k v).rooms = d.rooms := rfl
@[simp] theorem Device.setRegN_prot (k v : Nat) : (d.setRegN k v).prot = d.prot := rfl
@[simp] theorem Device.setRegN_win (k v : Nat) : (d.setRegN k v).win = d.win := rfl
@[simp] theorem Device.setRegN_cal (k v : Nat) : (d.setRegN k v).cal = d.cal := rfl
@[simp] theorem Device.setRegN_cellar (k v : Nat) : (d.setRegN k v).cellar = d.cellar := rfl
@[simp] theorem Device.setRegN_red (k v : Nat) : (d.setRegN k v).red = d.red := rfl
@[simp] theorem Device.setRegN_boiler (k v : Nat) : (d.setRegN k v).boiler = d.boiler := rfl
@[simp] theorem Device.setRegN_log (k v : Nat) : (d.setRegN k v).log = d.log := rfl
@[simp] theorem Device.setRegN_time (k v : Nat) : (d.setRegN k v).time = d.time := rfl
@[simp] theorem Device.setRegN_porch (k v : Nat) : (d.setRegN k v).porch = d.porch := rfl
@[simp] theorem Device.setRegN_hall (k v : Nat) : (d.setRegN k v).hall = d.hall := rfl
@[simp] theorem Device.setRegN_pantry (k v : Nat) : (d.setRegN k v).pantry = d.pantry := rfl
@[simp] theorem Device.setRegN_eng (k v : Nat) : (d.setRegN k v).eng = d.eng := rfl
@[simp] theorem Device.setRegN_pwr (k v : Nat) : (d.setRegN k v).pwr = d.pwr := rfl
@[simp] theorem Device.setRegN_boot (k v : Nat) : (d.setRegN k v).boot = d.boot := rfl
@[simp] theorem Device.setRegN_tap (k v : Nat) : (d.setRegN k v).tap = d.tap := rfl
@[simp] theorem Device.setRegN_out (k v : Nat) : (d.setRegN k v).out = d.out := rfl

/-! ### `addReg` -/

@[simp] theorem Device.addReg_now (k n : Nat) : (d.addReg k n).now = d.now := rfl
@[simp] theorem Device.addReg_free (k n : Nat) : (d.addReg k n).free = d.free := rfl
@[simp] theorem Device.addReg_role (k n : Nat) : (d.addReg k n).role = d.role := rfl
@[simp] theorem Device.addReg_shadow (k n : Nat) : (d.addReg k n).shadow = d.shadow := rfl
@[simp] theorem Device.addReg_pos (k n : Nat) : (d.addReg k n).pos = d.pos := rfl
@[simp] theorem Device.addReg_mantel (k n : Nat) : (d.addReg k n).mantel = d.mantel := rfl
@[simp] theorem Device.addReg_heads (k n : Nat) : (d.addReg k n).heads = d.heads := rfl
@[simp] theorem Device.addReg_pages (k n : Nat) : (d.addReg k n).pages = d.pages := rfl
@[simp] theorem Device.addReg_rooms (k n : Nat) : (d.addReg k n).rooms = d.rooms := rfl
@[simp] theorem Device.addReg_prot (k n : Nat) : (d.addReg k n).prot = d.prot := rfl
@[simp] theorem Device.addReg_win (k n : Nat) : (d.addReg k n).win = d.win := rfl
@[simp] theorem Device.addReg_cal (k n : Nat) : (d.addReg k n).cal = d.cal := rfl
@[simp] theorem Device.addReg_cellar (k n : Nat) : (d.addReg k n).cellar = d.cellar := rfl
@[simp] theorem Device.addReg_red (k n : Nat) : (d.addReg k n).red = d.red := rfl
@[simp] theorem Device.addReg_boiler (k n : Nat) : (d.addReg k n).boiler = d.boiler := rfl
@[simp] theorem Device.addReg_log (k n : Nat) : (d.addReg k n).log = d.log := rfl
@[simp] theorem Device.addReg_time (k n : Nat) : (d.addReg k n).time = d.time := rfl
@[simp] theorem Device.addReg_porch (k n : Nat) : (d.addReg k n).porch = d.porch := rfl
@[simp] theorem Device.addReg_hall (k n : Nat) : (d.addReg k n).hall = d.hall := rfl
@[simp] theorem Device.addReg_pantry (k n : Nat) : (d.addReg k n).pantry = d.pantry := rfl
@[simp] theorem Device.addReg_eng (k n : Nat) : (d.addReg k n).eng = d.eng := rfl
@[simp] theorem Device.addReg_pwr (k n : Nat) : (d.addReg k n).pwr = d.pwr := rfl
@[simp] theorem Device.addReg_boot (k n : Nat) : (d.addReg k n).boot = d.boot := rfl
@[simp] theorem Device.addReg_tap (k n : Nat) : (d.addReg k n).tap = d.tap := rfl
@[simp] theorem Device.addReg_out (k n : Nat) : (d.addReg k n).out = d.out := rfl

/-! ### `incReg` -/

@[simp] theorem Device.incReg_now (k : Nat) : (d.incReg k).now = d.now := rfl
@[simp] theorem Device.incReg_free (k : Nat) : (d.incReg k).free = d.free := rfl
@[simp] theorem Device.incReg_role (k : Nat) : (d.incReg k).role = d.role := rfl
@[simp] theorem Device.incReg_shadow (k : Nat) : (d.incReg k).shadow = d.shadow := rfl
@[simp] theorem Device.incReg_pos (k : Nat) : (d.incReg k).pos = d.pos := rfl
@[simp] theorem Device.incReg_mantel (k : Nat) : (d.incReg k).mantel = d.mantel := rfl
@[simp] theorem Device.incReg_heads (k : Nat) : (d.incReg k).heads = d.heads := rfl
@[simp] theorem Device.incReg_pages (k : Nat) : (d.incReg k).pages = d.pages := rfl
@[simp] theorem Device.incReg_rooms (k : Nat) : (d.incReg k).rooms = d.rooms := rfl
@[simp] theorem Device.incReg_prot (k : Nat) : (d.incReg k).prot = d.prot := rfl
@[simp] theorem Device.incReg_win (k : Nat) : (d.incReg k).win = d.win := rfl
@[simp] theorem Device.incReg_cal (k : Nat) : (d.incReg k).cal = d.cal := rfl
@[simp] theorem Device.incReg_cellar (k : Nat) : (d.incReg k).cellar = d.cellar := rfl
@[simp] theorem Device.incReg_red (k : Nat) : (d.incReg k).red = d.red := rfl
@[simp] theorem Device.incReg_boiler (k : Nat) : (d.incReg k).boiler = d.boiler := rfl
@[simp] theorem Device.incReg_log (k : Nat) : (d.incReg k).log = d.log := rfl
@[simp] theorem Device.incReg_time (k : Nat) : (d.incReg k).time = d.time := rfl
@[simp] theorem Device.incReg_porch (k : Nat) : (d.incReg k).porch = d.porch := rfl
@[simp] theorem Device.incReg_hall (k : Nat) : (d.incReg k).hall = d.hall := rfl
@[simp] theorem Device.incReg_pantry (k : Nat) : (d.incReg k).pantry = d.pantry := rfl
@[simp] theorem Device.incReg_eng (k : Nat) : (d.incReg k).eng = d.eng := rfl
@[simp] theorem Device.incReg_pwr (k : Nat) : (d.incReg k).pwr = d.pwr := rfl
@[simp] theorem Device.incReg_boot (k : Nat) : (d.incReg k).boot = d.boot := rfl
@[simp] theorem Device.incReg_tap (k : Nat) : (d.incReg k).tap = d.tap := rfl
@[simp] theorem Device.incReg_out (k : Nat) : (d.incReg k).out = d.out := rfl

/-! ### `addReg64` -/

@[simp] theorem Device.addReg64_now (k n : Nat) : (d.addReg64 k n).now = d.now := rfl
@[simp] theorem Device.addReg64_free (k n : Nat) : (d.addReg64 k n).free = d.free := rfl
@[simp] theorem Device.addReg64_role (k n : Nat) : (d.addReg64 k n).role = d.role := rfl
@[simp] theorem Device.addReg64_shadow (k n : Nat) : (d.addReg64 k n).shadow = d.shadow := rfl
@[simp] theorem Device.addReg64_pos (k n : Nat) : (d.addReg64 k n).pos = d.pos := rfl
@[simp] theorem Device.addReg64_mantel (k n : Nat) : (d.addReg64 k n).mantel = d.mantel := rfl
@[simp] theorem Device.addReg64_heads (k n : Nat) : (d.addReg64 k n).heads = d.heads := rfl
@[simp] theorem Device.addReg64_pages (k n : Nat) : (d.addReg64 k n).pages = d.pages := rfl
@[simp] theorem Device.addReg64_rooms (k n : Nat) : (d.addReg64 k n).rooms = d.rooms := rfl
@[simp] theorem Device.addReg64_prot (k n : Nat) : (d.addReg64 k n).prot = d.prot := rfl
@[simp] theorem Device.addReg64_win (k n : Nat) : (d.addReg64 k n).win = d.win := rfl
@[simp] theorem Device.addReg64_cal (k n : Nat) : (d.addReg64 k n).cal = d.cal := rfl
@[simp] theorem Device.addReg64_cellar (k n : Nat) : (d.addReg64 k n).cellar = d.cellar := rfl
@[simp] theorem Device.addReg64_red (k n : Nat) : (d.addReg64 k n).red = d.red := rfl
@[simp] theorem Device.addReg64_boiler (k n : Nat) : (d.addReg64 k n).boiler = d.boiler := rfl
@[simp] theorem Device.addReg64_log (k n : Nat) : (d.addReg64 k n).log = d.log := rfl
@[simp] theorem Device.addReg64_time (k n : Nat) : (d.addReg64 k n).time = d.time := rfl
@[simp] theorem Device.addReg64_porch (k n : Nat) : (d.addReg64 k n).porch = d.porch := rfl
@[simp] theorem Device.addReg64_hall (k n : Nat) : (d.addReg64 k n).hall = d.hall := rfl
@[simp] theorem Device.addReg64_pantry (k n : Nat) : (d.addReg64 k n).pantry = d.pantry := rfl
@[simp] theorem Device.addReg64_eng (k n : Nat) : (d.addReg64 k n).eng = d.eng := rfl
@[simp] theorem Device.addReg64_pwr (k n : Nat) : (d.addReg64 k n).pwr = d.pwr := rfl
@[simp] theorem Device.addReg64_boot (k n : Nat) : (d.addReg64 k n).boot = d.boot := rfl
@[simp] theorem Device.addReg64_tap (k n : Nat) : (d.addReg64 k n).tap = d.tap := rfl
@[simp] theorem Device.addReg64_out (k n : Nat) : (d.addReg64 k n).out = d.out := rfl

/-! ### `setBlob` -/

@[simp] theorem Device.setBlob_now (k : Nat) (l : List Nat) : (d.setBlob k l).now = d.now := rfl
@[simp] theorem Device.setBlob_free (k : Nat) (l : List Nat) : (d.setBlob k l).free = d.free := rfl
@[simp] theorem Device.setBlob_role (k : Nat) (l : List Nat) : (d.setBlob k l).role = d.role := rfl
@[simp] theorem Device.setBlob_shadow (k : Nat) (l : List Nat) : (d.setBlob k l).shadow = d.shadow := rfl
@[simp] theorem Device.setBlob_pos (k : Nat) (l : List Nat) : (d.setBlob k l).pos = d.pos := rfl
@[simp] theorem Device.setBlob_mantel (k : Nat) (l : List Nat) : (d.setBlob k l).mantel = d.mantel := rfl
@[simp] theorem Device.setBlob_heads (k : Nat) (l : List Nat) : (d.setBlob k l).heads = d.heads := rfl
@[simp] theorem Device.setBlob_pages (k : Nat) (l : List Nat) : (d.setBlob k l).pages = d.pages := rfl
@[simp] theorem Device.setBlob_rooms (k : Nat) (l : List Nat) : (d.setBlob k l).rooms = d.rooms := rfl
@[simp] theorem Device.setBlob_prot (k : Nat) (l : List Nat) : (d.setBlob k l).prot = d.prot := rfl
@[simp] theorem Device.setBlob_win (k : Nat) (l : List Nat) : (d.setBlob k l).win = d.win := rfl
@[simp] theorem Device.setBlob_cal (k : Nat) (l : List Nat) : (d.setBlob k l).cal = d.cal := rfl
@[simp] theorem Device.setBlob_cellar (k : Nat) (l : List Nat) : (d.setBlob k l).cellar = d.cellar := rfl
@[simp] theorem Device.setBlob_red (k : Nat) (l : List Nat) : (d.setBlob k l).red = d.red := rfl
@[simp] theorem Device.setBlob_boiler (k : Nat) (l : List Nat) : (d.setBlob k l).boiler = d.boiler := rfl
@[simp] theorem Device.setBlob_log (k : Nat) (l : List Nat) : (d.setBlob k l).log = d.log := rfl
@[simp] theorem Device.setBlob_time (k : Nat) (l : List Nat) : (d.setBlob k l).time = d.time := rfl
@[simp] theorem Device.setBlob_porch (k : Nat) (l : List Nat) : (d.setBlob k l).porch = d.porch := rfl
@[simp] theorem Device.setBlob_hall (k : Nat) (l : List Nat) : (d.setBlob k l).hall = d.hall := rfl
@[simp] theorem Device.setBlob_pantry (k : Nat) (l : List Nat) : (d.setBlob k l).pantry = d.pantry := rfl
@[simp] theorem Device.setBlob_eng (k : Nat) (l : List Nat) : (d.setBlob k l).eng = d.eng := rfl
@[simp] theorem Device.setBlob_pwr (k : Nat) (l : List Nat) : (d.setBlob k l).pwr = d.pwr := rfl
@[simp] theorem Device.setBlob_boot (k : Nat) (l : List Nat) : (d.setBlob k l).boot = d.boot := rfl
@[simp] theorem Device.setBlob_tap (k : Nat) (l : List Nat) : (d.setBlob k l).tap = d.tap := rfl
@[simp] theorem Device.setBlob_out (k : Nat) (l : List Nat) : (d.setBlob k l).out = d.out := rfl

/-! ### `setVal` -/

@[simp] theorem Device.setVal_now (k : Nat) (v : Val) : (d.setVal k v).now = d.now := by cases v <;> rfl
@[simp] theorem Device.setVal_free (k : Nat) (v : Val) : (d.setVal k v).free = d.free := by cases v <;> rfl
@[simp] theorem Device.setVal_role (k : Nat) (v : Val) : (d.setVal k v).role = d.role := by cases v <;> rfl
@[simp] theorem Device.setVal_shadow (k : Nat) (v : Val) : (d.setVal k v).shadow = d.shadow := by cases v <;> rfl
@[simp] theorem Device.setVal_pos (k : Nat) (v : Val) : (d.setVal k v).pos = d.pos := by cases v <;> rfl
@[simp] theorem Device.setVal_mantel (k : Nat) (v : Val) : (d.setVal k v).mantel = d.mantel := by cases v <;> rfl
@[simp] theorem Device.setVal_heads (k : Nat) (v : Val) : (d.setVal k v).heads = d.heads := by cases v <;> rfl
@[simp] theorem Device.setVal_pages (k : Nat) (v : Val) : (d.setVal k v).pages = d.pages := by cases v <;> rfl
@[simp] theorem Device.setVal_rooms (k : Nat) (v : Val) : (d.setVal k v).rooms = d.rooms := by cases v <;> rfl
@[simp] theorem Device.setVal_prot (k : Nat) (v : Val) : (d.setVal k v).prot = d.prot := by cases v <;> rfl
@[simp] theorem Device.setVal_win (k : Nat) (v : Val) : (d.setVal k v).win = d.win := by cases v <;> rfl
@[simp] theorem Device.setVal_cal (k : Nat) (v : Val) : (d.setVal k v).cal = d.cal := by cases v <;> rfl
@[simp] theorem Device.setVal_cellar (k : Nat) (v : Val) : (d.setVal k v).cellar = d.cellar := by cases v <;> rfl
@[simp] theorem Device.setVal_red (k : Nat) (v : Val) : (d.setVal k v).red = d.red := by cases v <;> rfl
@[simp] theorem Device.setVal_boiler (k : Nat) (v : Val) : (d.setVal k v).boiler = d.boiler := by cases v <;> rfl
@[simp] theorem Device.setVal_log (k : Nat) (v : Val) : (d.setVal k v).log = d.log := by cases v <;> rfl
@[simp] theorem Device.setVal_time (k : Nat) (v : Val) : (d.setVal k v).time = d.time := by cases v <;> rfl
@[simp] theorem Device.setVal_porch (k : Nat) (v : Val) : (d.setVal k v).porch = d.porch := by cases v <;> rfl
@[simp] theorem Device.setVal_hall (k : Nat) (v : Val) : (d.setVal k v).hall = d.hall := by cases v <;> rfl
@[simp] theorem Device.setVal_pantry (k : Nat) (v : Val) : (d.setVal k v).pantry = d.pantry := by cases v <;> rfl
@[simp] theorem Device.setVal_eng (k : Nat) (v : Val) : (d.setVal k v).eng = d.eng := by cases v <;> rfl
@[simp] theorem Device.setVal_pwr (k : Nat) (v : Val) : (d.setVal k v).pwr = d.pwr := by cases v <;> rfl
@[simp] theorem Device.setVal_boot (k : Nat) (v : Val) : (d.setVal k v).boot = d.boot := by cases v <;> rfl
@[simp] theorem Device.setVal_tap (k : Nat) (v : Val) : (d.setVal k v).tap = d.tap := by cases v <;> rfl
@[simp] theorem Device.setVal_out (k : Nat) (v : Val) : (d.setVal k v).out = d.out := by cases v <;> rfl

/-! ### `markDirty` -/

@[simp] theorem Device.markDirty_now (a b : Nat) : (d.markDirty a b).now = d.now := by simp only [Device.markDirty]; split <;> rfl
@[simp] theorem Device.markDirty_free (a b : Nat) : (d.markDirty a b).free = d.free := by simp only [Device.markDirty]; split <;> rfl
@[simp] theorem Device.markDirty_role (a b : Nat) : (d.markDirty a b).role = d.role := by simp only [Device.markDirty]; split <;> rfl
@[simp] theorem Device.markDirty_shadow (a b : Nat) : (d.markDirty a b).shadow = d.shadow := by simp only [Device.markDirty]; split <;> rfl
@[simp] theorem Device.markDirty_dict (a b : Nat) : (d.markDirty a b).dict = d.dict := by simp only [Device.markDirty]; split <;> rfl
@[simp] theorem Device.markDirty_pos (a b : Nat) : (d.markDirty a b).pos = d.pos := by simp only [Device.markDirty]; split <;> rfl
@[simp] theorem Device.markDirty_mantel (a b : Nat) : (d.markDirty a b).mantel = d.mantel := by simp only [Device.markDirty]; split <;> rfl
@[simp] theorem Device.markDirty_heads (a b : Nat) : (d.markDirty a b).heads = d.heads := by simp only [Device.markDirty]; split <;> rfl
@[simp] theorem Device.markDirty_pages (a b : Nat) : (d.markDirty a b).pages = d.pages := by simp only [Device.markDirty]; split <;> rfl
@[simp] theorem Device.markDirty_rooms (a b : Nat) : (d.markDirty a b).rooms = d.rooms := by simp only [Device.markDirty]; split <;> rfl
@[simp] theorem Device.markDirty_prot (a b : Nat) : (d.markDirty a b).prot = d.prot := by simp only [Device.markDirty]; split <;> rfl
@[simp] theorem Device.markDirty_win (a b : Nat) : (d.markDirty a b).win = d.win := by simp only [Device.markDirty]; split <;> rfl
@[simp] theorem Device.markDirty_cal (a b : Nat) : (d.markDirty a b).cal = d.cal := by simp only [Device.markDirty]; split <;> rfl
@[simp] theorem Device.markDirty_red (a b : Nat) : (d.markDirty a b).red = d.red := by simp only [Device.markDirty]; split <;> rfl
@[simp] theorem Device.markDirty_boiler (a b : Nat) : (d.markDirty a b).boiler = d.boiler := by simp only [Device.markDirty]; split <;> rfl
@[simp] theorem Device.markDirty_log (a b : Nat) : (d.markDirty a b).log = d.log := by simp only [Device.markDirty]; split <;> rfl
@[simp] theorem Device.markDirty_time (a b : Nat) : (d.markDirty a b).time = d.time := by simp only [Device.markDirty]; split <;> rfl
@[simp] theorem Device.markDirty_porch (a b : Nat) : (d.markDirty a b).porch = d.porch := by simp only [Device.markDirty]; split <;> rfl
@[simp] theorem Device.markDirty_hall (a b : Nat) : (d.markDirty a b).hall = d.hall := by simp only [Device.markDirty]; split <;> rfl
@[simp] theorem Device.markDirty_pantry (a b : Nat) : (d.markDirty a b).pantry = d.pantry := by simp only [Device.markDirty]; split <;> rfl
@[simp] theorem Device.markDirty_eng (a b : Nat) : (d.markDirty a b).eng = d.eng := by simp only [Device.markDirty]; split <;> rfl
@[simp] theorem Device.markDirty_pwr (a b : Nat) : (d.markDirty a b).pwr = d.pwr := by simp only [Device.markDirty]; split <;> rfl
@[simp] theorem Device.markDirty_boot (a b : Nat) : (d.markDirty a b).boot = d.boot := by simp only [Device.markDirty]; split <;> rfl
@[simp] theorem Device.markDirty_tap (a b : Nat) : (d.markDirty a b).tap = d.tap := by simp only [Device.markDirty]; split <;> rfl
@[simp] theorem Device.markDirty_out (a b : Nat) : (d.markDirty a b).out = d.out := by simp only [Device.markDirty]; split <;> rfl

/-! ### `send` -/

@[simp] theorem Device.send_now (t : Tx) : (d.send t).now = d.now := rfl
@[simp] theorem Device.send_free (t : Tx) : (d.send t).free = d.free := rfl
@[simp] theorem Device.send_role (t : Tx) : (d.send t).role = d.role := rfl
@[simp] theorem Device.send_shadow (t : Tx) : (d.send t).shadow = d.shadow := rfl
@[simp] theorem Device.send_dict (t : Tx) : (d.send t).dict = d.dict := rfl
@[simp] theorem Device.send_pos (t : Tx) : (d.send t).pos = d.pos := rfl
@[simp] theorem Device.send_mantel (t : Tx) : (d.send t).mantel = d.mantel := rfl
@[simp] theorem Device.send_heads (t : Tx) : (d.send t).heads = d.heads := rfl
@[simp] theorem Device.send_pages (t : Tx) : (d.send t).pages = d.pages := rfl
@[simp] theorem Device.send_rooms (t : Tx) : (d.send t).rooms = d.rooms := rfl
@[simp] theorem Device.send_prot (t : Tx) : (d.send t).prot = d.prot := rfl
@[simp] theorem Device.send_win (t : Tx) : (d.send t).win = d.win := rfl
@[simp] theorem Device.send_cal (t : Tx) : (d.send t).cal = d.cal := rfl
@[simp] theorem Device.send_cellar (t : Tx) : (d.send t).cellar = d.cellar := rfl
@[simp] theorem Device.send_red (t : Tx) : (d.send t).red = d.red := rfl
@[simp] theorem Device.send_boiler (t : Tx) : (d.send t).boiler = d.boiler := rfl
@[simp] theorem Device.send_log (t : Tx) : (d.send t).log = d.log := rfl
@[simp] theorem Device.send_time (t : Tx) : (d.send t).time = d.time := rfl
@[simp] theorem Device.send_porch (t : Tx) : (d.send t).porch = d.porch := rfl
@[simp] theorem Device.send_hall (t : Tx) : (d.send t).hall = d.hall := rfl
@[simp] theorem Device.send_pantry (t : Tx) : (d.send t).pantry = d.pantry := rfl
@[simp] theorem Device.send_eng (t : Tx) : (d.send t).eng = d.eng := rfl
@[simp] theorem Device.send_pwr (t : Tx) : (d.send t).pwr = d.pwr := rfl
@[simp] theorem Device.send_boot (t : Tx) : (d.send t).boot = d.boot := rfl
@[simp] theorem Device.send_tap (t : Tx) : (d.send t).tap = d.tap := rfl

/-! ### `setChan` -/

@[simp] theorem Device.setChan_now (c : Nat) (x : Chan) : (d.setChan c x).now = d.now := rfl
@[simp] theorem Device.setChan_free (c : Nat) (x : Chan) : (d.setChan c x).free = d.free := rfl
@[simp] theorem Device.setChan_role (c : Nat) (x : Chan) : (d.setChan c x).role = d.role := rfl
@[simp] theorem Device.setChan_shadow (c : Nat) (x : Chan) : (d.setChan c x).shadow = d.shadow := rfl
@[simp] theorem Device.setChan_dict (c : Nat) (x : Chan) : (d.setChan c x).dict = d.dict := rfl
@[simp] theorem Device.setChan_pos (c : Nat) (x : Chan) : (d.setChan c x).pos = d.pos := rfl
@[simp] theorem Device.setChan_mantel (c : Nat) (x : Chan) : (d.setChan c x).mantel = d.mantel := rfl
@[simp] theorem Device.setChan_pages (c : Nat) (x : Chan) : (d.setChan c x).pages = d.pages := rfl
@[simp] theorem Device.setChan_rooms (c : Nat) (x : Chan) : (d.setChan c x).rooms = d.rooms := rfl
@[simp] theorem Device.setChan_prot (c : Nat) (x : Chan) : (d.setChan c x).prot = d.prot := rfl
@[simp] theorem Device.setChan_win (c : Nat) (x : Chan) : (d.setChan c x).win = d.win := rfl
@[simp] theorem Device.setChan_cal (c : Nat) (x : Chan) : (d.setChan c x).cal = d.cal := rfl
@[simp] theorem Device.setChan_cellar (c : Nat) (x : Chan) : (d.setChan c x).cellar = d.cellar := rfl
@[simp] theorem Device.setChan_red (c : Nat) (x : Chan) : (d.setChan c x).red = d.red := rfl
@[simp] theorem Device.setChan_boiler (c : Nat) (x : Chan) : (d.setChan c x).boiler = d.boiler := rfl
@[simp] theorem Device.setChan_log (c : Nat) (x : Chan) : (d.setChan c x).log = d.log := rfl
@[simp] theorem Device.setChan_time (c : Nat) (x : Chan) : (d.setChan c x).time = d.time := rfl
@[simp] theorem Device.setChan_porch (c : Nat) (x : Chan) : (d.setChan c x).porch = d.porch := rfl
@[simp] theorem Device.setChan_hall (c : Nat) (x : Chan) : (d.setChan c x).hall = d.hall := rfl
@[simp] theorem Device.setChan_pantry (c : Nat) (x : Chan) : (d.setChan c x).pantry = d.pantry := rfl
@[simp] theorem Device.setChan_eng (c : Nat) (x : Chan) : (d.setChan c x).eng = d.eng := rfl
@[simp] theorem Device.setChan_pwr (c : Nat) (x : Chan) : (d.setChan c x).pwr = d.pwr := rfl
@[simp] theorem Device.setChan_boot (c : Nat) (x : Chan) : (d.setChan c x).boot = d.boot := rfl
@[simp] theorem Device.setChan_tap (c : Nat) (x : Chan) : (d.setChan c x).tap = d.tap := rfl
@[simp] theorem Device.setChan_out (c : Nat) (x : Chan) : (d.setChan c x).out = d.out := rfl

/-! ### `setGroup` -/

@[simp] theorem Device.setGroup_now (k : Nat) (x : Group) : (d.setGroup k x).now = d.now := rfl
@[simp] theorem Device.setGroup_free (k : Nat) (x : Group) : (d.setGroup k x).free = d.free := rfl
@[simp] theorem Device.setGroup_role (k : Nat) (x : Group) : (d.setGroup k x).role = d.role := rfl
@[simp] theorem Device.setGroup_shadow (k : Nat) (x : Group) : (d.setGroup k x).shadow = d.shadow := rfl
@[simp] theorem Device.setGroup_dict (k : Nat) (x : Group) : (d.setGroup k x).dict = d.dict := rfl
@[simp] theorem Device.setGroup_pos (k : Nat) (x : Group) : (d.setGroup k x).pos = d.pos := rfl
@[simp] theorem Device.setGroup_mantel (k : Nat) (x : Group) : (d.setGroup k x).mantel = d.mantel := rfl
@[simp] theorem Device.setGroup_pages (k : Nat) (x : Group) : (d.setGroup k x).pages = d.pages := rfl
@[simp] theorem Device.setGroup_rooms (k : Nat) (x : Group) : (d.setGroup k x).rooms = d.rooms := rfl
@[simp] theorem Device.setGroup_prot (k : Nat) (x : Group) : (d.setGroup k x).prot = d.prot := rfl
@[simp] theorem Device.setGroup_win (k : Nat) (x : Group) : (d.setGroup k x).win = d.win := rfl
@[simp] theorem Device.setGroup_cal (k : Nat) (x : Group) : (d.setGroup k x).cal = d.cal := rfl
@[simp] theorem Device.setGroup_cellar (k : Nat) (x : Group) : (d.setGroup k x).cellar = d.cellar := rfl
@[simp] theorem Device.setGroup_red (k : Nat) (x : Group) : (d.setGroup k x).red = d.red := rfl
@[simp] theorem Device.setGroup_boiler (k : Nat) (x : Group) : (d.setGroup k x).boiler = d.boiler := rfl
@[simp] theorem Device.setGroup_log (k : Nat) (x : Group) : (d.setGroup k x).log = d.log := rfl
@[simp] theorem Device.setGroup_time (k : Nat) (x : Group) : (d.setGroup k x).time = d.time := rfl
@[simp] theorem Device.setGroup_porch (k : Nat) (x : Group) : (d.setGroup k x).porch = d.porch := rfl
@[simp] theorem Device.setGroup_hall (k : Nat) (x : Group) : (d.setGroup k x).hall = d.hall := rfl
@[simp] theorem Device.setGroup_pantry (k : Nat) (x : Group) : (d.setGroup k x).pantry = d.pantry := rfl
@[simp] theorem Device.setGroup_eng (k : Nat) (x : Group) : (d.setGroup k x).eng = d.eng := rfl
@[simp] theorem Device.setGroup_pwr (k : Nat) (x : Group) : (d.setGroup k x).pwr = d.pwr := rfl
@[simp] theorem Device.setGroup_boot (k : Nat) (x : Group) : (d.setGroup k x).boot = d.boot := rfl
@[simp] theorem Device.setGroup_tap (k : Nat) (x : Group) : (d.setGroup k x).tap = d.tap := rfl
@[simp] theorem Device.setGroup_out (k : Nat) (x : Group) : (d.setGroup k x).out = d.out := rfl

/-! ### `setPosCh` -/

@[simp] theorem Device.setPosCh_now (n : Nat) (x : PosCh) : (d.setPosCh n x).now = d.now := by simp only [Device.setPosCh]; split <;> rfl
@[simp] theorem Device.setPosCh_free (n : Nat) (x : PosCh) : (d.setPosCh n x).free = d.free := by simp only [Device.setPosCh]; split <;> rfl
@[simp] theorem Device.setPosCh_role (n : Nat) (x : PosCh) : (d.setPosCh n x).role = d.role := by simp only [Device.setPosCh]; split <;> rfl
@[simp] theorem Device.setPosCh_shadow (n : Nat) (x : PosCh) : (d.setPosCh n x).shadow = d.shadow := by simp only [Device.setPosCh]; split <;> rfl
@[simp] theorem Device.setPosCh_dict (n : Nat) (x : PosCh) : (d.setPosCh n x).dict = d.dict := by simp only [Device.setPosCh]; split <;> rfl
@[simp] theorem Device.setPosCh_mantel (n : Nat) (x : PosCh) : (d.setPosCh n x).mantel = d.mantel := by simp only [Device.setPosCh]; split <;> rfl
@[simp] theorem Device.setPosCh_heads (n : Nat) (x : PosCh) : (d.setPosCh n x).heads = d.heads := by simp only [Device.setPosCh]; split <;> rfl
@[simp] theorem Device.setPosCh_pages (n : Nat) (x : PosCh) : (d.setPosCh n x).pages = d.pages := by simp only [Device.setPosCh]; split <;> rfl
@[simp] theorem Device.setPosCh_rooms (n : Nat) (x : PosCh) : (d.setPosCh n x).rooms = d.rooms := by simp only [Device.setPosCh]; split <;> rfl
@[simp] theorem Device.setPosCh_prot (n : Nat) (x : PosCh) : (d.setPosCh n x).prot = d.prot := by simp only [Device.setPosCh]; split <;> rfl
@[simp] theorem Device.setPosCh_win (n : Nat) (x : PosCh) : (d.setPosCh n x).win = d.win := by simp only [Device.setPosCh]; split <;> rfl
@[simp] theorem Device.setPosCh_cal (n : Nat) (x : PosCh) : (d.setPosCh n x).cal = d.cal := by simp only [Device.setPosCh]; split <;> rfl
@[simp] theorem Device.setPosCh_cellar (n : Nat) (x : PosCh) : (d.setPosCh n x).cellar = d.cellar := by simp only [Device.setPosCh]; split <;> rfl
@[simp] theorem Device.setPosCh_red (n : Nat) (x : PosCh) : (d.setPosCh n x).red = d.red := by simp only [Device.setPosCh]; split <;> rfl
@[simp] theorem Device.setPosCh_boiler (n : Nat) (x : PosCh) : (d.setPosCh n x).boiler = d.boiler := by simp only [Device.setPosCh]; split <;> rfl
@[simp] theorem Device.setPosCh_log (n : Nat) (x : PosCh) : (d.setPosCh n x).log = d.log := by simp only [Device.setPosCh]; split <;> rfl
@[simp] theorem Device.setPosCh_time (n : Nat) (x : PosCh) : (d.setPosCh n x).time = d.time := by simp only [Device.setPosCh]; split <;> rfl
@[simp] theorem Device.setPosCh_porch (n : Nat) (x : PosCh) : (d.setPosCh n x).porch = d.porch := by simp only [Device.setPosCh]; split <;> rfl
@[simp] theorem Device.setPosCh_hall (n : Nat) (x : PosCh) : (d.setPosCh n x).hall = d.hall := by simp only [Device.setPosCh]; split <;> rfl
@[simp] theorem Device.setPosCh_pantry (n : Nat) (x : PosCh) : (d.setPosCh n x).pantry = d.pantry := by simp only [Device.setPosCh]; split <;> rfl
@[simp] theorem Device.setPosCh_eng (n : Nat) (x : PosCh) : (d.setPosCh n x).eng = d.eng := by simp only [Device.setPosCh]; split <;> rfl
@[simp] theorem Device.setPosCh_pwr (n : Nat) (x : PosCh) : (d.setPosCh n x).pwr = d.pwr := by simp only [Device.setPosCh]; split <;> rfl
@[simp] theorem Device.setPosCh_boot (n : Nat) (x : PosCh) : (d.setPosCh n x).boot = d.boot := by simp only [Device.setPosCh]; split <;> rfl
@[simp] theorem Device.setPosCh_tap (n : Nat) (x : PosCh) : (d.setPosCh n x).tap = d.tap := by simp only [Device.setPosCh]; split <;> rfl
@[simp] theorem Device.setPosCh_out (n : Nat) (x : PosCh) : (d.setPosCh n x).out = d.out := by simp only [Device.setPosCh]; split <;> rfl

/-! ### `setShop` -/

@[simp] theorem Device.setShop_now (w : Nat) (x : Shop) : (d.setShop w x).now = d.now := rfl
@[simp] theorem Device.setShop_free (w : Nat) (x : Shop) : (d.setShop w x).free = d.free := rfl
@[simp] theorem Device.setShop_role (w : Nat) (x : Shop) : (d.setShop w x).role = d.role := rfl
@[simp] theorem Device.setShop_shadow (w : Nat) (x : Shop) : (d.setShop w x).shadow = d.shadow := rfl
@[simp] theorem Device.setShop_dict (w : Nat) (x : Shop) : (d.setShop w x).dict = d.dict := rfl
@[simp] theorem Device.setShop_pos (w : Nat) (x : Shop) : (d.setShop w x).pos = d.pos := rfl
@[simp] theorem Device.setShop_mantel (w : Nat) (x : Shop) : (d.setShop w x).mantel = d.mantel := rfl
@[simp] theorem Device.setShop_heads (w : Nat) (x : Shop) : (d.setShop w x).heads = d.heads := rfl
@[simp] theorem Device.setShop_pages (w : Nat) (x : Shop) : (d.setShop w x).pages = d.pages := rfl
@[simp] theorem Device.setShop_rooms (w : Nat) (x : Shop) : (d.setShop w x).rooms = d.rooms := rfl
@[simp] theorem Device.setShop_prot (w : Nat) (x : Shop) : (d.setShop w x).prot = d.prot := rfl
@[simp] theorem Device.setShop_win (w : Nat) (x : Shop) : (d.setShop w x).win = d.win := rfl
@[simp] theorem Device.setShop_cal (w : Nat) (x : Shop) : (d.setShop w x).cal = d.cal := rfl
@[simp] theorem Device.setShop_cellar (w : Nat) (x : Shop) : (d.setShop w x).cellar = d.cellar := rfl
@[simp] theorem Device.setShop_red (w : Nat) (x : Shop) : (d.setShop w x).red = d.red := rfl
@[simp] theorem Device.setShop_boiler (w : Nat) (x : Shop) : (d.setShop w x).boiler = d.boiler := rfl
@[simp] theorem Device.setShop_log (w : Nat) (x : Shop) : (d.setShop w x).log = d.log := rfl
@[simp] theorem Device.setShop_time (w : Nat) (x : Shop) : (d.setShop w x).time = d.time := rfl
@[simp] theorem Device.setShop_porch (w : Nat) (x : Shop) : (d.setShop w x).porch = d.porch := rfl
@[simp] theorem Device.setShop_hall (w : Nat) (x : Shop) : (d.setShop w x).hall = d.hall := rfl
@[simp] theorem Device.setShop_pantry (w : Nat) (x : Shop) : (d.setShop w x).pantry = d.pantry := rfl
@[simp] theorem Device.setShop_pwr (w : Nat) (x : Shop) : (d.setShop w x).pwr = d.pwr := rfl
@[simp] theorem Device.setShop_boot (w : Nat) (x : Shop) : (d.setShop w x).boot = d.boot := rfl
@[simp] theorem Device.setShop_tap (w : Nat) (x : Shop) : (d.setShop w x).tap = d.tap := rfl
@[simp] theorem Device.setShop_out (w : Nat) (x : Shop) : (d.setShop w x).out = d.out := rfl

/-! ### `raiseSev` -/

@[simp] theorem Device.raiseSev_now (c sev u : Nat) (l : List DF) : (d.raiseSev c sev u l).now = d.now := rfl
@[simp] theorem Device.raiseSev_free (c sev u : Nat) (l : List DF) : (d.raiseSev c sev u l).free = d.free := rfl
@[simp] theorem Device.raiseSev_role (c sev u : Nat) (l : List DF) : (d.raiseSev c sev u l).role = d.role := rfl
@[simp] theorem Device.raiseSev_shadow (c sev u : Nat) (l : List DF) : (d.raiseSev c sev u l).shadow = d.shadow := rfl
@[simp] theorem Device.raiseSev_dict (c sev u : Nat) (l : List DF) : (d.raiseSev c sev u l).dict = d.dict := rfl
@[simp] theorem Device.raiseSev_pos (c sev u : Nat) (l : List DF) : (d.raiseSev c sev u l).pos = d.pos := rfl
@[simp] theorem Device.raiseSev_mantel (c sev u : Nat) (l : List DF) : (d.raiseSev c sev u l).mantel = d.mantel := rfl
@[simp] theorem Device.raiseSev_heads (c sev u : Nat) (l : List DF) : (d.raiseSev c sev u l).heads = d.heads := rfl
@[simp] theorem Device.raiseSev_pages (c sev u : Nat) (l : List DF) : (d.raiseSev c sev u l).pages = d.pages := rfl
@[simp] theorem Device.raiseSev_rooms (c sev u : Nat) (l : List DF) : (d.raiseSev c sev u l).rooms = d.rooms := rfl
@[simp] theorem Device.raiseSev_prot (c sev u : Nat) (l : List DF) : (d.raiseSev c sev u l).prot = d.prot := rfl
@[simp] theorem Device.raiseSev_win (c sev u : Nat) (l : List DF) : (d.raiseSev c sev u l).win = d.win := rfl
@[simp] theorem Device.raiseSev_cal (c sev u : Nat) (l : List DF) : (d.raiseSev c sev u l).cal = d.cal := rfl
@[simp] theorem Device.raiseSev_cellar (c sev u : Nat) (l : List DF) : (d.raiseSev c sev u l).cellar = d.cellar := rfl
@[simp] theorem Device.raiseSev_red (c sev u : Nat) (l : List DF) : (d.raiseSev c sev u l).red = d.red := rfl
@[simp] theorem Device.raiseSev_boiler (c sev u : Nat) (l : List DF) : (d.raiseSev c sev u l).boiler = d.boiler := rfl
@[simp] theorem Device.raiseSev_time (c sev u : Nat) (l : List DF) : (d.raiseSev c sev u l).time = d.time := rfl
@[simp] theorem Device.raiseSev_porch (c sev u : Nat) (l : List DF) : (d.raiseSev c sev u l).porch = d.porch := rfl
@[simp] theorem Device.raiseSev_hall (c sev u : Nat) (l : List DF) : (d.raiseSev c sev u l).hall = d.hall := rfl
@[simp] theorem Device.raiseSev_pantry (c sev u : Nat) (l : List DF) : (d.raiseSev c sev u l).pantry = d.pantry := rfl
@[simp] theorem Device.raiseSev_eng (c sev u : Nat) (l : List DF) : (d.raiseSev c sev u l).eng = d.eng := rfl
@[simp] theorem Device.raiseSev_pwr (c sev u : Nat) (l : List DF) : (d.raiseSev c sev u l).pwr = d.pwr := rfl
@[simp] theorem Device.raiseSev_boot (c sev u : Nat) (l : List DF) : (d.raiseSev c sev u l).boot = d.boot := rfl
@[simp] theorem Device.raiseSev_tap (c sev u : Nat) (l : List DF) : (d.raiseSev c sev u l).tap = d.tap := rfl
@[simp] theorem Device.raiseSev_out (c sev u : Nat) (l : List DF) : (d.raiseSev c sev u l).out = d.out := rfl

/-! ### `raise` -/

@[simp] theorem Device.raise_now (c u : Nat) (l : List DF) : (d.raise c u l).now = d.now := rfl
@[simp] theorem Device.raise_free (c u : Nat) (l : List DF) : (d.raise c u l).free = d.free := rfl
@[simp] theorem Device.raise_role (c u : Nat) (l : List DF) : (d.raise c u l).role = d.role := rfl
@[simp] theorem Device.raise_shadow (c u : Nat) (l : List DF) : (d.raise c u l).shadow = d.shadow := rfl
@[simp] theorem Device.raise_dict (c u : Nat) (l : List DF) : (d.raise c u l).dict = d.dict := rfl
@[simp] theorem Device.raise_pos (c u : Nat) (l : List DF) : (d.raise c u l).pos = d.pos := rfl
@[simp] theorem Device.raise_mantel (c u : Nat) (l : List DF) : (d.raise c u l).mantel = d.mantel := rfl
@[simp] theorem Device.raise_heads (c u : Nat) (l : List DF) : (d.raise c u l).heads = d.heads := rfl
@[simp] theorem Device.raise_pages (c u : Nat) (l : List DF) : (d.raise c u l).pages = d.pages := rfl
@[simp] theorem Device.raise_rooms (c u : Nat) (l : List DF) : (d.raise c u l).rooms = d.rooms := rfl
@[simp] theorem Device.raise_prot (c u : Nat) (l : List DF) : (d.raise c u l).prot = d.prot := rfl
@[simp] theorem Device.raise_win (c u : Nat) (l : List DF) : (d.raise c u l).win = d.win := rfl
@[simp] theorem Device.raise_cal (c u : Nat) (l : List DF) : (d.raise c u l).cal = d.cal := rfl
@[simp] theorem Device.raise_cellar (c u : Nat) (l : List DF) : (d.raise c u l).cellar = d.cellar := rfl
@[simp] theorem Device.raise_red (c u : Nat) (l : List DF) : (d.raise c u l).red = d.red := rfl
@[simp] theorem Device.raise_boiler (c u : Nat) (l : List DF) : (d.raise c u l).boiler = d.boiler := rfl
@[simp] theorem Device.raise_time (c u : Nat) (l : List DF) : (d.raise c u l).time = d.time := rfl
@[simp] theorem Device.raise_porch (c u : Nat) (l : List DF) : (d.raise c u l).porch = d.porch := rfl
@[simp] theorem Device.raise_hall (c u : Nat) (l : List DF) : (d.raise c u l).hall = d.hall := rfl
@[simp] theorem Device.raise_pantry (c u : Nat) (l : List DF) : (d.raise c u l).pantry = d.pantry := rfl
@[simp] theorem Device.raise_eng (c u : Nat) (l : List DF) : (d.raise c u l).eng = d.eng := rfl
@[simp] theorem Device.raise_pwr (c u : Nat) (l : List DF) : (d.raise c u l).pwr = d.pwr := rfl
@[simp] theorem Device.raise_boot (c u : Nat) (l : List DF) : (d.raise c u l).boot = d.boot := rfl
@[simp] theorem Device.raise_tap (c u : Nat) (l : List DF) : (d.raise c u l).tap = d.tap := rfl
@[simp] theorem Device.raise_out (c u : Nat) (l : List DF) : (d.raise c u l).out = d.out := rfl

/-! ### `raiseAt` -/

@[simp] theorem Device.raiseAt_now (c u g : Nat) (p : Int) (l : List DF) : (d.raiseAt c u g p l).now = d.now := rfl
@[simp] theorem Device.raiseAt_free (c u g : Nat) (p : Int) (l : List DF) : (d.raiseAt c u g p l).free = d.free := rfl
@[simp] theorem Device.raiseAt_role (c u g : Nat) (p : Int) (l : List DF) : (d.raiseAt c u g p l).role = d.role := rfl
@[simp] theorem Device.raiseAt_shadow (c u g : Nat) (p : Int) (l : List DF) : (d.raiseAt c u g p l).shadow = d.shadow := rfl
@[simp] theorem Device.raiseAt_dict (c u g : Nat) (p : Int) (l : List DF) : (d.raiseAt c u g p l).dict = d.dict := rfl
@[simp] theorem Device.raiseAt_pos (c u g : Nat) (p : Int) (l : List DF) : (d.raiseAt c u g p l).pos = d.pos := rfl
@[simp] theorem Device.raiseAt_mantel (c u g : Nat) (p : Int) (l : List DF) : (d.raiseAt c u g p l).mantel = d.mantel := rfl
@[simp] theorem Device.raiseAt_heads (c u g : Nat) (p : Int) (l : List DF) : (d.raiseAt c u g p l).heads = d.heads := rfl
@[simp] theorem Device.raiseAt_pages (c u g : Nat) (p : Int) (l : List DF) : (d.raiseAt c u g p l).pages = d.pages := rfl
@[simp] theorem Device.raiseAt_rooms (c u g : Nat) (p : Int) (l : List DF) : (d.raiseAt c u g p l).rooms = d.rooms := rfl
@[simp] theorem Device.raiseAt_prot (c u g : Nat) (p : Int) (l : List DF) : (d.raiseAt c u g p l).prot = d.prot := rfl
@[simp] theorem Device.raiseAt_win (c u g : Nat) (p : Int) (l : List DF) : (d.raiseAt c u g p l).win = d.win := rfl
@[simp] theorem Device.raiseAt_cal (c u g : Nat) (p : Int) (l : List DF) : (d.raiseAt c u g p l).cal = d.cal := rfl
@[simp] theorem Device.raiseAt_cellar (c u g : Nat) (p : Int) (l : List DF) : (d.raiseAt c u g p l).cellar = d.cellar := rfl
@[simp] theorem Device.raiseAt_red (c u g : Nat) (p : Int) (l : List DF) : (d.raiseAt c u g p l).red = d.red := rfl
@[simp] theorem Device.raiseAt_boiler (c u g : Nat) (p : Int) (l : List DF) : (d.raiseAt c u g p l).boiler = d.boiler := rfl
@[simp] theorem Device.raiseAt_time (c u g : Nat) (p : Int) (l : List DF) : (d.raiseAt c u g p l).time = d.time := rfl
@[simp] theorem Device.raiseAt_porch (c u g : Nat) (p : Int) (l : List DF) : (d.raiseAt c u g p l).porch = d.porch := rfl
@[simp] theorem Device.raiseAt_hall (c u g : Nat) (p : Int) (l : List DF) : (d.raiseAt c u g p l).hall = d.hall := rfl
@[simp] theorem Device.raiseAt_pantry (c u g : Nat) (p : Int) (l : List DF) : (d.raiseAt c u g p l).pantry = d.pantry := rfl
@[simp] theorem Device.raiseAt_eng (c u g : Nat) (p : Int) (l : List DF) : (d.raiseAt c u g p l).eng = d.eng := rfl
@[simp] theorem Device.raiseAt_pwr (c u g : Nat) (p : Int) (l : List DF) : (d.raiseAt c u g p l).pwr = d.pwr := rfl
@[simp] theorem Device.raiseAt_boot (c u g : Nat) (p : Int) (l : List DF) : (d.raiseAt c u g p l).boot = d.boot := rfl
@[simp] theorem Device.raiseAt_tap (c u g : Nat) (p : Int) (l : List DF) : (d.raiseAt c u g p l).tap = d.tap := rfl
@[simp] theorem Device.raiseAt_out (c u g : Nat) (p : Int) (l : List DF) : (d.raiseAt c u g p l).out = d.out := rfl

/-! ### `setPport` -/

@[simp] theorem Device.setPport_now (p : Nat) (x : PorchPort) : (d.setPport p x).now = d.now := by simp only [Device.setPport]; split <;> rfl
@[simp] theorem Device.setPport_free (p : Nat) (x : PorchPort) : (d.setPport p x).free = d.free := by simp only [Device.setPport]; split <;> rfl
@[simp] theorem Device.setPport_role (p : Nat) (x : PorchPort) : (d.setPport p x).role = d.role := by simp only [Device.setPport]; split <;> rfl
@[simp] theorem Device.setPport_shadow (p : Nat) (x : PorchPort) : (d.setPport p x).shadow = d.shadow := by simp only [Device.setPport]; split <;> rfl
@[simp] theorem Device.setPport_dict (p : Nat) (x : PorchPort) : (d.setPport p x).dict = d.dict := by simp only [Device.setPport]; split <;> rfl
@[simp] theorem Device.setPport_pos (p : Nat) (x : PorchPort) : (d.setPport p x).pos = d.pos := by simp only [Device.setPport]; split <;> rfl
@[simp] theorem Device.setPport_mantel (p : Nat) (x : PorchPort) : (d.setPport p x).mantel = d.mantel := by simp only [Device.setPport]; split <;> rfl
@[simp] theorem Device.setPport_heads (p : Nat) (x : PorchPort) : (d.setPport p x).heads = d.heads := by simp only [Device.setPport]; split <;> rfl
@[simp] theorem Device.setPport_pages (p : Nat) (x : PorchPort) : (d.setPport p x).pages = d.pages := by simp only [Device.setPport]; split <;> rfl
@[simp] theorem Device.setPport_rooms (p : Nat) (x : PorchPort) : (d.setPport p x).rooms = d.rooms := by simp only [Device.setPport]; split <;> rfl
@[simp] theorem Device.setPport_prot (p : Nat) (x : PorchPort) : (d.setPport p x).prot = d.prot := by simp only [Device.setPport]; split <;> rfl
@[simp] theorem Device.setPport_win (p : Nat) (x : PorchPort) : (d.setPport p x).win = d.win := by simp only [Device.setPport]; split <;> rfl
@[simp] theorem Device.setPport_cal (p : Nat) (x : PorchPort) : (d.setPport p x).cal = d.cal := by simp only [Device.setPport]; split <;> rfl
@[simp] theorem Device.setPport_cellar (p : Nat) (x : PorchPort) : (d.setPport p x).cellar = d.cellar := by simp only [Device.setPport]; split <;> rfl
@[simp] theorem Device.setPport_red (p : Nat) (x : PorchPort) : (d.setPport p x).red = d.red := by simp only [Device.setPport]; split <;> rfl
@[simp] theorem Device.setPport_boiler (p : Nat) (x : PorchPort) : (d.setPport p x).boiler = d.boiler := by simp only [Device.setPport]; split <;> rfl
@[simp] theorem Device.setPport_log (p : Nat) (x : PorchPort) : (d.setPport p x).log = d.log := by simp only [Device.setPport]; split <;> rfl
@[simp] theorem Device.setPport_time (p : Nat) (x : PorchPort) : (d.setPport p x).time = d.time := by simp only [Device.setPport]; split <;> rfl
@[simp] theorem Device.setPport_hall (p : Nat) (x : PorchPort) : (d.setPport p x).hall = d.hall := by simp only [Device.setPport]; split <;> rfl
@[simp] theorem Device.setPport_pantry (p : Nat) (x : PorchPort) : (d.setPport p x).pantry = d.pantry := by simp only [Device.setPport]; split <;> rfl
@[simp] theorem Device.setPport_eng (p : Nat) (x : PorchPort) : (d.setPport p x).eng = d.eng := by simp only [Device.setPport]; split <;> rfl
@[simp] theorem Device.setPport_pwr (p : Nat) (x : PorchPort) : (d.setPport p x).pwr = d.pwr := by simp only [Device.setPport]; split <;> rfl
@[simp] theorem Device.setPport_boot (p : Nat) (x : PorchPort) : (d.setPport p x).boot = d.boot := by simp only [Device.setPport]; split <;> rfl
@[simp] theorem Device.setPport_tap (p : Nat) (x : PorchPort) : (d.setPport p x).tap = d.tap := by simp only [Device.setPport]; split <;> rfl
@[simp] theorem Device.setPport_out (p : Nat) (x : PorchPort) : (d.setPport p x).out = d.out := by simp only [Device.setPport]; split <;> rfl

/-! ### `postFrame` -/

@[simp] theorem Device.postFrame_now (u : Nat) (f : TxFrame) : (d.postFrame u f).now = d.now := by simp only [Device.postFrame]; split <;> simp
@[simp] theorem Device.postFrame_free (u : Nat) (f : TxFrame) : (d.postFrame u f).free = d.free := by simp only [Device.postFrame]; split <;> simp
@[simp] theorem Device.postFrame_role (u : Nat) (f : TxFrame) : (d.postFrame u f).role = d.role := by simp only [Device.postFrame]; split <;> simp
@[simp] theorem Device.postFrame_shadow (u : Nat) (f : TxFrame) : (d.postFrame u f).shadow = d.shadow := by simp only [Device.postFrame]; split <;> simp
@[simp] theorem Device.postFrame_dict (u : Nat) (f : TxFrame) : (d.postFrame u f).dict = d.dict := by simp only [Device.postFrame]; split <;> simp
@[simp] theorem Device.postFrame_pos (u : Nat) (f : TxFrame) : (d.postFrame u f).pos = d.pos := by simp only [Device.postFrame]; split <;> simp
@[simp] theorem Device.postFrame_mantel (u : Nat) (f : TxFrame) : (d.postFrame u f).mantel = d.mantel := by simp only [Device.postFrame]; split <;> simp
@[simp] theorem Device.postFrame_heads (u : Nat) (f : TxFrame) : (d.postFrame u f).heads = d.heads := by simp only [Device.postFrame]; split <;> simp
@[simp] theorem Device.postFrame_pages (u : Nat) (f : TxFrame) : (d.postFrame u f).pages = d.pages := by simp only [Device.postFrame]; split <;> simp
@[simp] theorem Device.postFrame_rooms (u : Nat) (f : TxFrame) : (d.postFrame u f).rooms = d.rooms := by simp only [Device.postFrame]; split <;> simp
@[simp] theorem Device.postFrame_prot (u : Nat) (f : TxFrame) : (d.postFrame u f).prot = d.prot := by simp only [Device.postFrame]; split <;> simp
@[simp] theorem Device.postFrame_win (u : Nat) (f : TxFrame) : (d.postFrame u f).win = d.win := by simp only [Device.postFrame]; split <;> simp
@[simp] theorem Device.postFrame_cal (u : Nat) (f : TxFrame) : (d.postFrame u f).cal = d.cal := by simp only [Device.postFrame]; split <;> simp
@[simp] theorem Device.postFrame_cellar (u : Nat) (f : TxFrame) : (d.postFrame u f).cellar = d.cellar := by simp only [Device.postFrame]; split <;> simp
@[simp] theorem Device.postFrame_red (u : Nat) (f : TxFrame) : (d.postFrame u f).red = d.red := by simp only [Device.postFrame]; split <;> simp
@[simp] theorem Device.postFrame_boiler (u : Nat) (f : TxFrame) : (d.postFrame u f).boiler = d.boiler := by simp only [Device.postFrame]; split <;> simp
@[simp] theorem Device.postFrame_log (u : Nat) (f : TxFrame) : (d.postFrame u f).log = d.log := by simp only [Device.postFrame]; split <;> simp
@[simp] theorem Device.postFrame_time (u : Nat) (f : TxFrame) : (d.postFrame u f).time = d.time := by simp only [Device.postFrame]; split <;> simp
@[simp] theorem Device.postFrame_hall (u : Nat) (f : TxFrame) : (d.postFrame u f).hall = d.hall := by simp only [Device.postFrame]; split <;> simp
@[simp] theorem Device.postFrame_pantry (u : Nat) (f : TxFrame) : (d.postFrame u f).pantry = d.pantry := by simp only [Device.postFrame]; split <;> simp
@[simp] theorem Device.postFrame_eng (u : Nat) (f : TxFrame) : (d.postFrame u f).eng = d.eng := by simp only [Device.postFrame]; split <;> simp
@[simp] theorem Device.postFrame_pwr (u : Nat) (f : TxFrame) : (d.postFrame u f).pwr = d.pwr := by simp only [Device.postFrame]; split <;> simp
@[simp] theorem Device.postFrame_boot (u : Nat) (f : TxFrame) : (d.postFrame u f).boot = d.boot := by simp only [Device.postFrame]; split <;> simp
@[simp] theorem Device.postFrame_tap (u : Nat) (f : TxFrame) : (d.postFrame u f).tap = d.tap := by simp only [Device.postFrame]; split <;> simp
@[simp] theorem Device.postFrame_out (u : Nat) (f : TxFrame) : (d.postFrame u f).out = d.out := by simp only [Device.postFrame]; split <;> simp

/-! ### `post` -/

@[simp] theorem Device.post_now (u l : Nat) (t : Tx) : (d.post u l t).now = d.now := by simp only [Device.post, Device.postFrame_now]
@[simp] theorem Device.post_free (u l : Nat) (t : Tx) : (d.post u l t).free = d.free := by simp only [Device.post, Device.postFrame_free]
@[simp] theorem Device.post_role (u l : Nat) (t : Tx) : (d.post u l t).role = d.role := by simp only [Device.post, Device.postFrame_role]
@[simp] theorem Device.post_shadow (u l : Nat) (t : Tx) : (d.post u l t).shadow = d.shadow := by simp only [Device.post, Device.postFrame_shadow]
@[simp] theorem Device.post_dict (u l : Nat) (t : Tx) : (d.post u l t).dict = d.dict := by simp only [Device.post, Device.postFrame_dict]
@[simp] theorem Device.post_pos (u l : Nat) (t : Tx) : (d.post u l t).pos = d.pos := by simp only [Device.post, Device.postFrame_pos]
@[simp] theorem Device.post_mantel (u l : Nat) (t : Tx) : (d.post u l t).mantel = d.mantel := by simp only [Device.post, Device.postFrame_mantel]
@[simp] theorem Device.post_heads (u l : Nat) (t : Tx) : (d.post u l t).heads = d.heads := by simp only [Device.post, Device.postFrame_heads]
@[simp] theorem Device.post_pages (u l : Nat) (t : Tx) : (d.post u l t).pages = d.pages := by simp only [Device.post, Device.postFrame_pages]
@[simp] theorem Device.post_rooms (u l : Nat) (t : Tx) : (d.post u l t).rooms = d.rooms := by simp only [Device.post, Device.postFrame_rooms]
@[simp] theorem Device.post_prot (u l : Nat) (t : Tx) : (d.post u l t).prot = d.prot := by simp only [Device.post, Device.postFrame_prot]
@[simp] theorem Device.post_win (u l : Nat) (t : Tx) : (d.post u l t).win = d.win := by simp only [Device.post, Device.postFrame_win]
@[simp] theorem Device.post_cal (u l : Nat) (t : Tx) : (d.post u l t).cal = d.cal := by simp only [Device.post, Device.postFrame_cal]
@[simp] theorem Device.post_cellar (u l : Nat) (t : Tx) : (d.post u l t).cellar = d.cellar := by simp only [Device.post, Device.postFrame_cellar]
@[simp] theorem Device.post_red (u l : Nat) (t : Tx) : (d.post u l t).red = d.red := by simp only [Device.post, Device.postFrame_red]
@[simp] theorem Device.post_boiler (u l : Nat) (t : Tx) : (d.post u l t).boiler = d.boiler := by simp only [Device.post, Device.postFrame_boiler]
@[simp] theorem Device.post_log (u l : Nat) (t : Tx) : (d.post u l t).log = d.log := by simp only [Device.post, Device.postFrame_log]
@[simp] theorem Device.post_time (u l : Nat) (t : Tx) : (d.post u l t).time = d.time := by simp only [Device.post, Device.postFrame_time]
@[simp] theorem Device.post_hall (u l : Nat) (t : Tx) : (d.post u l t).hall = d.hall := by simp only [Device.post, Device.postFrame_hall]
@[simp] theorem Device.post_pantry (u l : Nat) (t : Tx) : (d.post u l t).pantry = d.pantry := by simp only [Device.post, Device.postFrame_pantry]
@[simp] theorem Device.post_eng (u l : Nat) (t : Tx) : (d.post u l t).eng = d.eng := by simp only [Device.post, Device.postFrame_eng]
@[simp] theorem Device.post_pwr (u l : Nat) (t : Tx) : (d.post u l t).pwr = d.pwr := by simp only [Device.post, Device.postFrame_pwr]
@[simp] theorem Device.post_boot (u l : Nat) (t : Tx) : (d.post u l t).boot = d.boot := by simp only [Device.post, Device.postFrame_boot]
@[simp] theorem Device.post_tap (u l : Nat) (t : Tx) : (d.post u l t).tap = d.tap := by simp only [Device.post, Device.postFrame_tap]
@[simp] theorem Device.post_out (u l : Nat) (t : Tx) : (d.post u l t).out = d.out := by simp only [Device.post, Device.postFrame_out]

/-! ### `setHport` -/

@[simp] theorem Device.setHport_now (p : Nat) (x : HallPort) : (d.setHport p x).now = d.now := by simp only [Device.setHport]; split <;> rfl
@[simp] theorem Device.setHport_free (p : Nat) (x : HallPort) : (d.setHport p x).free = d.free := by simp only [Device.setHport]; split <;> rfl
@[simp] theorem Device.setHport_role (p : Nat) (x : HallPort) : (d.setHport p x).role = d.role := by simp only [Device.setHport]; split <;> rfl
@[simp] theorem Device.setHport_shadow (p : Nat) (x : HallPort) : (d.setHport p x).shadow = d.shadow := by simp only [Device.setHport]; split <;> rfl
@[simp] theorem Device.setHport_dict (p : Nat) (x : HallPort) : (d.setHport p x).dict = d.dict := by simp only [Device.setHport]; split <;> rfl
@[simp] theorem Device.setHport_pos (p : Nat) (x : HallPort) : (d.setHport p x).pos = d.pos := by simp only [Device.setHport]; split <;> rfl
@[simp] theorem Device.setHport_mantel (p : Nat) (x : HallPort) : (d.setHport p x).mantel = d.mantel := by simp only [Device.setHport]; split <;> rfl
@[simp] theorem Device.setHport_heads (p : Nat) (x : HallPort) : (d.setHport p x).heads = d.heads := by simp only [Device.setHport]; split <;> rfl
@[simp] theorem Device.setHport_pages (p : Nat) (x : HallPort) : (d.setHport p x).pages = d.pages := by simp only [Device.setHport]; split <;> rfl
@[simp] theorem Device.setHport_rooms (p : Nat) (x : HallPort) : (d.setHport p x).rooms = d.rooms := by simp only [Device.setHport]; split <;> rfl
@[simp] theorem Device.setHport_prot (p : Nat) (x : HallPort) : (d.setHport p x).prot = d.prot := by simp only [Device.setHport]; split <;> rfl
@[simp] theorem Device.setHport_win (p : Nat) (x : HallPort) : (d.setHport p x).win = d.win := by simp only [Device.setHport]; split <;> rfl
@[simp] theorem Device.setHport_cal (p : Nat) (x : HallPort) : (d.setHport p x).cal = d.cal := by simp only [Device.setHport]; split <;> rfl
@[simp] theorem Device.setHport_cellar (p : Nat) (x : HallPort) : (d.setHport p x).cellar = d.cellar := by simp only [Device.setHport]; split <;> rfl
@[simp] theorem Device.setHport_red (p : Nat) (x : HallPort) : (d.setHport p x).red = d.red := by simp only [Device.setHport]; split <;> rfl
@[simp] theorem Device.setHport_boiler (p : Nat) (x : HallPort) : (d.setHport p x).boiler = d.boiler := by simp only [Device.setHport]; split <;> rfl
@[simp] theorem Device.setHport_log (p : Nat) (x : HallPort) : (d.setHport p x).log = d.log := by simp only [Device.setHport]; split <;> rfl
@[simp] theorem Device.setHport_time (p : Nat) (x : HallPort) : (d.setHport p x).time = d.time := by simp only [Device.setHport]; split <;> rfl
@[simp] theorem Device.setHport_porch (p : Nat) (x : HallPort) : (d.setHport p x).porch = d.porch := by simp only [Device.setHport]; split <;> rfl
@[simp] theorem Device.setHport_pantry (p : Nat) (x : HallPort) : (d.setHport p x).pantry = d.pantry := by simp only [Device.setHport]; split <;> rfl
@[simp] theorem Device.setHport_eng (p : Nat) (x : HallPort) : (d.setHport p x).eng = d.eng := by simp only [Device.setHport]; split <;> rfl
@[simp] theorem Device.setHport_pwr (p : Nat) (x : HallPort) : (d.setHport p x).pwr = d.pwr := by simp only [Device.setHport]; split <;> rfl
@[simp] theorem Device.setHport_boot (p : Nat) (x : HallPort) : (d.setHport p x).boot = d.boot := by simp only [Device.setHport]; split <;> rfl
@[simp] theorem Device.setHport_tap (p : Nat) (x : HallPort) : (d.setHport p x).tap = d.tap := by simp only [Device.setHport]; split <;> rfl
@[simp] theorem Device.setHport_out (p : Nat) (x : HallPort) : (d.setHport p x).out = d.out := by simp only [Device.setHport]; split <;> rfl

/-! ### `setRoom` -/

@[simp] theorem Device.setRoom_now (k : Nat) (x : Room) : (d.setRoom k x).now = d.now := rfl
@[simp] theorem Device.setRoom_free (k : Nat) (x : Room) : (d.setRoom k x).free = d.free := rfl
@[simp] theorem Device.setRoom_role (k : Nat) (x : Room) : (d.setRoom k x).role = d.role := rfl
@[simp] theorem Device.setRoom_shadow (k : Nat) (x : Room) : (d.setRoom k x).shadow = d.shadow := rfl
@[simp] theorem Device.setRoom_dict (k : Nat) (x : Room) : (d.setRoom k x).dict = d.dict := rfl
@[simp] theorem Device.setRoom_pos (k : Nat) (x : Room) : (d.setRoom k x).pos = d.pos := rfl
@[simp] theorem Device.setRoom_mantel (k : Nat) (x : Room) : (d.setRoom k x).mantel = d.mantel := rfl
@[simp] theorem Device.setRoom_heads (k : Nat) (x : Room) : (d.setRoom k x).heads = d.heads := rfl
@[simp] theorem Device.setRoom_pages (k : Nat) (x : Room) : (d.setRoom k x).pages = d.pages := rfl
@[simp] theorem Device.setRoom_prot (k : Nat) (x : Room) : (d.setRoom k x).prot = d.prot := rfl
@[simp] theorem Device.setRoom_win (k : Nat) (x : Room) : (d.setRoom k x).win = d.win := rfl
@[simp] theorem Device.setRoom_cal (k : Nat) (x : Room) : (d.setRoom k x).cal = d.cal := rfl
@[simp] theorem Device.setRoom_cellar (k : Nat) (x : Room) : (d.setRoom k x).cellar = d.cellar := rfl
@[simp] theorem Device.setRoom_red (k : Nat) (x : Room) : (d.setRoom k x).red = d.red := rfl
@[simp] theorem Device.setRoom_boiler (k : Nat) (x : Room) : (d.setRoom k x).boiler = d.boiler := rfl
@[simp] theorem Device.setRoom_log (k : Nat) (x : Room) : (d.setRoom k x).log = d.log := rfl
@[simp] theorem Device.setRoom_time (k : Nat) (x : Room) : (d.setRoom k x).time = d.time := rfl
@[simp] theorem Device.setRoom_porch (k : Nat) (x : Room) : (d.setRoom k x).porch = d.porch := rfl
@[simp] theorem Device.setRoom_hall (k : Nat) (x : Room) : (d.setRoom k x).hall = d.hall := rfl
@[simp] theorem Device.setRoom_pantry (k : Nat) (x : Room) : (d.setRoom k x).pantry = d.pantry := rfl
@[simp] theorem Device.setRoom_eng (k : Nat) (x : Room) : (d.setRoom k x).eng = d.eng := rfl
@[simp] theorem Device.setRoom_pwr (k : Nat) (x : Room) : (d.setRoom k x).pwr = d.pwr := rfl
@[simp] theorem Device.setRoom_boot (k : Nat) (x : Room) : (d.setRoom k x).boot = d.boot := rfl
@[simp] theorem Device.setRoom_tap (k : Nat) (x : Room) : (d.setRoom k x).tap = d.tap := rfl
@[simp] theorem Device.setRoom_out (k : Nat) (x : Room) : (d.setRoom k x).out = d.out := rfl

/-! ### `setPch` -/

@[simp] theorem Device.setPch_now (c : Nat) (x : PCh) : (d.setPch c x).now = d.now := rfl
@[simp] theorem Device.setPch_free (c : Nat) (x : PCh) : (d.setPch c x).free = d.free := rfl
@[simp] theorem Device.setPch_role (c : Nat) (x : PCh) : (d.setPch c x).role = d.role := rfl
@[simp] theorem Device.setPch_shadow (c : Nat) (x : PCh) : (d.setPch c x).shadow = d.shadow := rfl
@[simp] theorem Device.setPch_dict (c : Nat) (x : PCh) : (d.setPch c x).dict = d.dict := rfl
@[simp] theorem Device.setPch_pos (c : Nat) (x : PCh) : (d.setPch c x).pos = d.pos := rfl
@[simp] theorem Device.setPch_mantel (c : Nat) (x : PCh) : (d.setPch c x).mantel = d.mantel := rfl
@[simp] theorem Device.setPch_heads (c : Nat) (x : PCh) : (d.setPch c x).heads = d.heads := rfl
@[simp] theorem Device.setPch_pages (c : Nat) (x : PCh) : (d.setPch c x).pages = d.pages := rfl
@[simp] theorem Device.setPch_rooms (c : Nat) (x : PCh) : (d.setPch c x).rooms = d.rooms := rfl
@[simp] theorem Device.setPch_prot (c : Nat) (x : PCh) : (d.setPch c x).prot = d.prot := rfl
@[simp] theorem Device.setPch_win (c : Nat) (x : PCh) : (d.setPch c x).win = d.win := rfl
@[simp] theorem Device.setPch_cal (c : Nat) (x : PCh) : (d.setPch c x).cal = d.cal := rfl
@[simp] theorem Device.setPch_cellar (c : Nat) (x : PCh) : (d.setPch c x).cellar = d.cellar := rfl
@[simp] theorem Device.setPch_red (c : Nat) (x : PCh) : (d.setPch c x).red = d.red := rfl
@[simp] theorem Device.setPch_boiler (c : Nat) (x : PCh) : (d.setPch c x).boiler = d.boiler := rfl
@[simp] theorem Device.setPch_log (c : Nat) (x : PCh) : (d.setPch c x).log = d.log := rfl
@[simp] theorem Device.setPch_time (c : Nat) (x : PCh) : (d.setPch c x).time = d.time := rfl
@[simp] theorem Device.setPch_porch (c : Nat) (x : PCh) : (d.setPch c x).porch = d.porch := rfl
@[simp] theorem Device.setPch_hall (c : Nat) (x : PCh) : (d.setPch c x).hall = d.hall := rfl
@[simp] theorem Device.setPch_eng (c : Nat) (x : PCh) : (d.setPch c x).eng = d.eng := rfl
@[simp] theorem Device.setPch_pwr (c : Nat) (x : PCh) : (d.setPch c x).pwr = d.pwr := rfl
@[simp] theorem Device.setPch_boot (c : Nat) (x : PCh) : (d.setPch c x).boot = d.boot := rfl
@[simp] theorem Device.setPch_tap (c : Nat) (x : PCh) : (d.setPch c x).tap = d.tap := rfl
@[simp] theorem Device.setPch_out (c : Nat) (x : PCh) : (d.setPch c x).out = d.out := rfl

/-! ### `setBank` -/

@[simp] theorem Device.setBank_now (b : Nat) (x : Bank) : (d.setBank b x).now = d.now := rfl
@[simp] theorem Device.setBank_free (b : Nat) (x : Bank) : (d.setBank b x).free = d.free := rfl
@[simp] theorem Device.setBank_role (b : Nat) (x : Bank) : (d.setBank b x).role = d.role := rfl
@[simp] theorem Device.setBank_shadow (b : Nat) (x : Bank) : (d.setBank b x).shadow = d.shadow := rfl
@[simp] theorem Device.setBank_dict (b : Nat) (x : Bank) : (d.setBank b x).dict = d.dict := rfl
@[simp] theorem Device.setBank_pos (b : Nat) (x : Bank) : (d.setBank b x).pos = d.pos := rfl
@[simp] theorem Device.setBank_mantel (b : Nat) (x : Bank) : (d.setBank b x).mantel = d.mantel := rfl
@[simp] theorem Device.setBank_heads (b : Nat) (x : Bank) : (d.setBank b x).heads = d.heads := rfl
@[simp] theorem Device.setBank_pages (b : Nat) (x : Bank) : (d.setBank b x).pages = d.pages := rfl
@[simp] theorem Device.setBank_rooms (b : Nat) (x : Bank) : (d.setBank b x).rooms = d.rooms := rfl
@[simp] theorem Device.setBank_prot (b : Nat) (x : Bank) : (d.setBank b x).prot = d.prot := rfl
@[simp] theorem Device.setBank_win (b : Nat) (x : Bank) : (d.setBank b x).win = d.win := rfl
@[simp] theorem Device.setBank_cal (b : Nat) (x : Bank) : (d.setBank b x).cal = d.cal := rfl
@[simp] theorem Device.setBank_cellar (b : Nat) (x : Bank) : (d.setBank b x).cellar = d.cellar := rfl
@[simp] theorem Device.setBank_red (b : Nat) (x : Bank) : (d.setBank b x).red = d.red := rfl
@[simp] theorem Device.setBank_boiler (b : Nat) (x : Bank) : (d.setBank b x).boiler = d.boiler := rfl
@[simp] theorem Device.setBank_log (b : Nat) (x : Bank) : (d.setBank b x).log = d.log := rfl
@[simp] theorem Device.setBank_time (b : Nat) (x : Bank) : (d.setBank b x).time = d.time := rfl
@[simp] theorem Device.setBank_porch (b : Nat) (x : Bank) : (d.setBank b x).porch = d.porch := rfl
@[simp] theorem Device.setBank_hall (b : Nat) (x : Bank) : (d.setBank b x).hall = d.hall := rfl
@[simp] theorem Device.setBank_eng (b : Nat) (x : Bank) : (d.setBank b x).eng = d.eng := rfl
@[simp] theorem Device.setBank_pwr (b : Nat) (x : Bank) : (d.setBank b x).pwr = d.pwr := rfl
@[simp] theorem Device.setBank_boot (b : Nat) (x : Bank) : (d.setBank b x).boot = d.boot := rfl
@[simp] theorem Device.setBank_tap (b : Nat) (x : Bank) : (d.setBank b x).tap = d.tap := rfl
@[simp] theorem Device.setBank_out (b : Nat) (x : Bank) : (d.setBank b x).out = d.out := rfl

/-! ### Registers through the other operations -/

@[simp] theorem Device.markDirty_reg (a b : Nat) (i : Nat) : (d.markDirty a b).reg i = d.reg i := by simp only [Device.markDirty]; split <;> rfl
@[simp] theorem Device.markDirty_regN (a b : Nat) (i : Nat) : (d.markDirty a b).regN i = d.regN i := by simp only [Device.markDirty]; split <;> rfl
@[simp] theorem Device.markDirty_regB (a b : Nat) (i : Nat) : (d.markDirty a b).regB i = d.regB i := by simp only [Device.markDirty]; split <;> rfl
@[simp] theorem Device.send_reg (t : Tx) (i : Nat) : (d.send t).reg i = d.reg i := rfl
@[simp] theorem Device.send_regN (t : Tx) (i : Nat) : (d.send t).regN i = d.regN i := rfl
@[simp] theorem Device.send_regB (t : Tx) (i : Nat) : (d.send t).regB i = d.regB i := rfl
@[simp] theorem Device.setChan_reg (c : Nat) (x : Chan) (i : Nat) : (d.setChan c x).reg i = d.reg i := rfl
@[simp] theorem Device.setChan_regN (c : Nat) (x : Chan) (i : Nat) : (d.setChan c x).regN i = d.regN i := rfl
@[simp] theorem Device.setChan_regB (c : Nat) (x : Chan) (i : Nat) : (d.setChan c x).regB i = d.regB i := rfl
@[simp] theorem Device.setGroup_reg (k : Nat) (x : Group) (i : Nat) : (d.setGroup k x).reg i = d.reg i := rfl
@[simp] theorem Device.setGroup_regN (k : Nat) (x : Group) (i : Nat) : (d.setGroup k x).regN i = d.regN i := rfl
@[simp] theorem Device.setGroup_regB (k : Nat) (x : Group) (i : Nat) : (d.setGroup k x).regB i = d.regB i := rfl
@[simp] theorem Device.setPosCh_reg (n : Nat) (x : PosCh) (i : Nat) : (d.setPosCh n x).reg i = d.reg i := by simp only [Device.setPosCh]; split <;> rfl
@[simp] theorem Device.setPosCh_regN (n : Nat) (x : PosCh) (i : Nat) : (d.setPosCh n x).regN i = d.regN i := by simp only [Device.setPosCh]; split <;> rfl
@[simp] theorem Device.setPosCh_regB (n : Nat) (x : PosCh) (i : Nat) : (d.setPosCh n x).regB i = d.regB i := by simp only [Device.setPosCh]; split <;> rfl
@[simp] theorem Device.setShop_reg (w : Nat) (x : Shop) (i : Nat) : (d.setShop w x).reg i = d.reg i := rfl
@[simp] theorem Device.setShop_regN (w : Nat) (x : Shop) (i : Nat) : (d.setShop w x).regN i = d.regN i := rfl
@[simp] theorem Device.setShop_regB (w : Nat) (x : Shop) (i : Nat) : (d.setShop w x).regB i = d.regB i := rfl
@[simp] theorem Device.raiseSev_reg (c sev u : Nat) (l : List DF) (i : Nat) : (d.raiseSev c sev u l).reg i = d.reg i := rfl
@[simp] theorem Device.raiseSev_regN (c sev u : Nat) (l : List DF) (i : Nat) : (d.raiseSev c sev u l).regN i = d.regN i := rfl
@[simp] theorem Device.raiseSev_regB (c sev u : Nat) (l : List DF) (i : Nat) : (d.raiseSev c sev u l).regB i = d.regB i := rfl
@[simp] theorem Device.raise_reg (c u : Nat) (l : List DF) (i : Nat) : (d.raise c u l).reg i = d.reg i := rfl
@[simp] theorem Device.raise_regN (c u : Nat) (l : List DF) (i : Nat) : (d.raise c u l).regN i = d.regN i := rfl
@[simp] theorem Device.raise_regB (c u : Nat) (l : List DF) (i : Nat) : (d.raise c u l).regB i = d.regB i := rfl
@[simp] theorem Device.raiseAt_reg (c u g : Nat) (p : Int) (l : List DF) (i : Nat) : (d.raiseAt c u g p l).reg i = d.reg i := rfl
@[simp] theorem Device.raiseAt_regN (c u g : Nat) (p : Int) (l : List DF) (i : Nat) : (d.raiseAt c u g p l).regN i = d.regN i := rfl
@[simp] theorem Device.raiseAt_regB (c u g : Nat) (p : Int) (l : List DF) (i : Nat) : (d.raiseAt c u g p l).regB i = d.regB i := rfl
@[simp] theorem Device.setPport_reg (p : Nat) (x : PorchPort) (i : Nat) : (d.setPport p x).reg i = d.reg i := by simp only [Device.setPport]; split <;> rfl
@[simp] theorem Device.setPport_regN (p : Nat) (x : PorchPort) (i : Nat) : (d.setPport p x).regN i = d.regN i := by simp only [Device.setPport]; split <;> rfl
@[simp] theorem Device.setPport_regB (p : Nat) (x : PorchPort) (i : Nat) : (d.setPport p x).regB i = d.regB i := by simp only [Device.setPport]; split <;> rfl
@[simp] theorem Device.postFrame_reg (u : Nat) (f : TxFrame) (i : Nat) : (d.postFrame u f).reg i = d.reg i := by simp only [Device.postFrame]; split <;> simp
@[simp] theorem Device.postFrame_regN (u : Nat) (f : TxFrame) (i : Nat) : (d.postFrame u f).regN i = d.regN i := by simp only [Device.postFrame]; split <;> simp
@[simp] theorem Device.postFrame_regB (u : Nat) (f : TxFrame) (i : Nat) : (d.postFrame u f).regB i = d.regB i := by simp only [Device.postFrame]; split <;> simp
@[simp] theorem Device.post_reg (u l : Nat) (t : Tx) (i : Nat) : (d.post u l t).reg i = d.reg i := by simp only [Device.post, Device.postFrame_reg]
@[simp] theorem Device.post_regN (u l : Nat) (t : Tx) (i : Nat) : (d.post u l t).regN i = d.regN i := by simp only [Device.post, Device.postFrame_regN]
@[simp] theorem Device.post_regB (u l : Nat) (t : Tx) (i : Nat) : (d.post u l t).regB i = d.regB i := by simp only [Device.post, Device.postFrame_regB]
@[simp] theorem Device.setHport_reg (p : Nat) (x : HallPort) (i : Nat) : (d.setHport p x).reg i = d.reg i := by simp only [Device.setHport]; split <;> rfl
@[simp] theorem Device.setHport_regN (p : Nat) (x : HallPort) (i : Nat) : (d.setHport p x).regN i = d.regN i := by simp only [Device.setHport]; split <;> rfl
@[simp] theorem Device.setHport_regB (p : Nat) (x : HallPort) (i : Nat) : (d.setHport p x).regB i = d.regB i := by simp only [Device.setHport]; split <;> rfl
@[simp] theorem Device.setRoom_reg (k : Nat) (x : Room) (i : Nat) : (d.setRoom k x).reg i = d.reg i := rfl
@[simp] theorem Device.setRoom_regN (k : Nat) (x : Room) (i : Nat) : (d.setRoom k x).regN i = d.regN i := rfl
@[simp] theorem Device.setRoom_regB (k : Nat) (x : Room) (i : Nat) : (d.setRoom k x).regB i = d.regB i := rfl
@[simp] theorem Device.setPch_reg (c : Nat) (x : PCh) (i : Nat) : (d.setPch c x).reg i = d.reg i := rfl
@[simp] theorem Device.setPch_regN (c : Nat) (x : PCh) (i : Nat) : (d.setPch c x).regN i = d.regN i := rfl
@[simp] theorem Device.setPch_regB (c : Nat) (x : PCh) (i : Nat) : (d.setPch c x).regB i = d.regB i := rfl
@[simp] theorem Device.setBank_reg (b : Nat) (x : Bank) (i : Nat) : (d.setBank b x).reg i = d.reg i := rfl
@[simp] theorem Device.setBank_regN (b : Nat) (x : Bank) (i : Nat) : (d.setBank b x).regN i = d.regN i := rfl
@[simp] theorem Device.setBank_regB (b : Nat) (x : Bank) (i : Nat) : (d.setBank b x).regB i = d.regB i := rfl

/-! ### What they set -/

@[simp] theorem Device.reg_setReg (k : Nat) (v : Int) : (d.setReg k v).reg k = v := tget_tset_same _ _ _ _

theorem Device.reg_setReg_other {k i : Nat} (v : Int) (h : i ≠ k) : (d.setReg k v).reg i = d.reg i :=
  tget_tset_other _ _ _ h

@[simp] theorem Device.regN_setRegN (k v : Nat) : (d.setRegN k v).regN k = v := by
  simp [Device.regN, Device.setRegN]

theorem Device.reg_setRegN_other {k i : Nat} (v : Nat) (h : i ≠ k) : (d.setRegN k v).reg i = d.reg i :=
  Device.reg_setReg_other d _ h

theorem Device.regN_addReg (k n : Nat) : (d.addReg k n).regN k = (d.regN k + n) % 2 ^ 32 := by
  simp only [Device.addReg, Device.regN_setRegN]

theorem Device.regN_incReg (k : Nat) : (d.incReg k).regN k = (d.regN k + 1) % 2 ^ 32 := Device.regN_addReg d k 1

theorem Device.reg_addReg_other {k i : Nat} (n : Nat) (h : i ≠ k) : (d.addReg k n).reg i = d.reg i :=
  Device.reg_setReg_other d _ h

@[simp] theorem Device.chan_setChan (c : Nat) (x : Chan) : (d.setChan c x).chan c = x := tget_tset_same _ _ _ _

theorem Device.chan_setChan_other {c i : Nat} (x : Chan) (h : i ≠ c) : (d.setChan c x).chan i = d.chan i :=
  tget_tset_other _ _ _ h

@[simp] theorem Device.group_setGroup (k : Nat) (x : Group) : (d.setGroup k x).group k = x := tget_tset_same _ _ _ _

theorem Device.group_setGroup_other {k i : Nat} (x : Group) (h : i ≠ k) : (d.setGroup k x).group i = d.group i :=
  tget_tset_other _ _ _ h

@[simp] theorem Device.shop_setShop (w : Nat) (x : Shop) : (d.setShop w x).shop w = x := tget_tset_same _ _ _ _

@[simp] theorem Device.pport_setPport (p : Nat) (x : PorchPort) : (d.setPport p x).pport p = x := by
  by_cases h : p = 0 <;> simp [Device.pport, Device.setPport, h]

/-- A frame queued on a port that is ON stands last in its queue; on another port it is lost (R288, R289). -/
theorem Device.post_txq (u l : Nat) (t : Tx) :
    ((d.post u l t).pport (u / 4)).txq = (d.pport (u / 4)).txq ++
      (if u / 4 < 2 ∧ d.pportState (u / 4) = 4 then
        [{ level := l, sub := if (d.pport (u / 4)).mode = 2 then u % 4 else 0, len := t.frameLen, body := t }] else []) := by
  simp only [Device.post, Device.postFrame]
  split <;> simp

@[simp] theorem Device.hport_setHport (p : Nat) (x : HallPort) : (d.setHport p x).hport p = x := by
  by_cases h : p = 0 <;> simp [Device.hport, Device.setHport, h]

@[simp] theorem Device.room_setRoom (k : Nat) (x : Room) : (d.setRoom k x).room k = x := tget_tset_same _ _ _ _

theorem Device.room_setRoom_other {k i : Nat} (x : Room) (h : i ≠ k) : (d.setRoom k x).room i = d.room i :=
  tget_tset_other _ _ _ h

@[simp] theorem Device.pch_setPch (c : Nat) (x : PCh) : (d.setPch c x).pch c = x := tget_tset_same _ _ _ _

theorem Device.pch_setPch_other {c i : Nat} (x : PCh) (h : i ≠ c) : (d.setPch c x).pch i = d.pch i :=
  tget_tset_other _ _ _ h

@[simp] theorem Device.bank_setBank (b : Nat) (x : Bank) : (d.setBank b x).bank b = x := tget_tset_same _ _ _ _

theorem Device.bank_setBank_other {b i : Nat} (x : Bank) (h : i ≠ b) : (d.setBank b x).bank i = d.bank i :=
  tget_tset_other _ _ _ h

@[simp] theorem Device.send_out (t : Tx) : (d.send t).out = t :: d.out := rfl

@[simp] theorem Device.setReg_blobs (k : Nat) (v : Int) : (d.setReg k v).dict.blobs = d.dict.blobs := rfl
@[simp] theorem Device.setReg_stored (k : Nat) (v : Int) : (d.setReg k v).dict.stored = d.dict.stored := rfl
@[simp] theorem Device.setReg_sessions (k : Nat) (v : Int) : (d.setReg k v).dict.sessions = d.dict.sessions := rfl

end Sys2Proof.Machine
end

