-- ==== Sys2Proof/Laws/Log.lean ====
section
/-! SUPPORT. The records that a command raises enter the log (R259): what that changes and what it leaves. -/
namespace Sys2Proof.Machine

/-- A property that every step of a fold keeps holds at its end. -/
theorem foldl_keeps {α β : Type} (P : β → Prop) (f : β → α → β) (h : ∀ b a, P b → P (f b a)) (l : List α) (b : β)
    (hb : P b) : P (l.foldl f b) := by
  induction l generalizing b with
  | nil => exact hb
  | cons a l ih => exact ih _ (h b a hb)

/-- A value that no step of a fold changes is unchanged at its end. -/
theorem foldl_same {α β γ : Type} (g : β → γ) (f : β → α → β) (h : ∀ b a, g (f b a) = g b) (l : List α) (b : β) :
    g (l.foldl f b) = g b :=
  foldl_keeps (fun x => g x = g b) f (fun x a e => (h x a).trans e) l b rfl

/-- Entering the log's records one by one: what one of them does. -/
def Device.enterOne (d : Device) (e : EventRec) : Device :=
  let r := { e with seq := d.log.nextSeq }
  let d0 := if 2 ≤ e.sev then d.markDirty 3 0 else d
  let d1 := { d0 with log := d0.log.enter e }
  ((d1.notifySessions r).notifyCan r).notifyShops r

theorem Device.flush_eq (d : Device) :
    d.flush = (evSort d.log.raised).foldl Device.enterOne { d with log := { d.log with raised := [] } } := rfl

/-- R259: with no record raised nothing enters the log. -/
theorem Device.flush_none {d : Device} (h : d.log.raised = []) : d.flush = d := by
  have e : ({ d with log := { d.log with raised := [] } } : Device) = d := by
    cases d with
    | mk => rename_i lg _ _ _ _ _ _ _ _ _ ; cases lg ; simp_all
  rw [Device.flush_eq, h, e]
  rfl

/-! ### What an entry into the log can change -/

/-- A device without what an entry into the log can change: the log, what is mirrored of it, and what is told of it. -/
def Device.bare (d : Device) : Device := { d with dict := {}, porch := {}, out := [], eng := {}, log := {}, cellar := {} }

/-- What a device shares with its bare form, two devices of one bare form share. -/
theorem Device.bare_field {γ : Type} (g : Device → γ) (hg : ∀ d : Device, g d.bare = g d) {d e : Device}
    (h : e.bare = d.bare) : g e = g d := by rw [← hg e, ← hg d, h]

/-- R288: a message that is queued changes the Porch alone. -/
theorem Device.post_eq (d : Device) (u l : Nat) (t : Tx) : d.post u l t = { d with porch := (d.post u l t).porch } := by
  unfold Device.post Device.postFrame Device.setPport
  dsimp only
  (repeat' split) <;> rfl

@[simp] theorem Device.post_bare (d : Device) (u l : Nat) (t : Tx) : (d.post u l t).bare = d.bare := by
  rw [Device.post_eq]; rfl

/-- R45: telling the sessions: what each step of it leaves, the whole leaves. -/
theorem Device.notifySessions_same {γ : Type} (g : Device → γ) (hp : ∀ d u l t, g (Device.post d u l t) = g d)
    (hs : ∀ (d : Device) l, g { d with dict := { d.dict with sessions := l } } = g d) (d : Device) (e : EventRec) :
    g (d.notifySessions e) = g d :=
  foldl_same g _ (fun b a => by
    (repeat' split) <;> first | rfl | exact (hp _ _ _ _).trans (hs _ _)) _ _

/-- R48: the EMCY messages. -/
theorem Device.notifyCan_same {γ : Type} (g : Device → γ) (h : ∀ d t, g (Device.send d t) = g d) (d : Device)
    (e : EventRec) : g (d.notifyCan e) = g d := by
  unfold Device.notifyCan
  dsimp only
  split
  · exact foldl_same g _ (fun b a => by (try dsimp only); (repeat' split) <;> first | rfl | exact h _ _) _ _
  · rfl

/-- R358: the Workshop's event rings. -/
theorem Device.notifyShops_same {γ : Type} (g : Device → γ) (hr : ∀ (d : Device) w, w < 4 → g (d.incReg (Reg.EV_LOST + w)) = g d)
    (hs : ∀ d w x, g (Device.setShop d w x) = g d) (d : Device) (e : EventRec) : g (d.notifyShops e) = g d := by
  have one (w : Nat) (hw : w < 4) (d : Device) :
      g (let x := d.shop w
         if x.on = false ∨ e.sev < x.evMin then d
         else if 256 ≤ (x.evWr + 2 ^ 32 - x.evRd) % 2 ^ 32 then d.incReg (Reg.EV_LOST + w)
         else d.setShop w { x with ring := assocSet x.ring (x.evWr % 256) e, evWr := (x.evWr + 1) % 2 ^ 32 }) = g d := by
    dsimp only
    split
    · rfl
    · split
      · exact hr _ _ hw
      · exact hs _ _ _
  unfold Device.notifyShops
  simp only [List.foldl_cons, List.foldl_nil]
  rw [one 3 (by omega), one 2 (by omega), one 1 (by omega), one 0 (by omega)]

theorem Device.markDirty_eq (d : Device) (t u : Nat) : d.markDirty t u = { d with cellar := (d.markDirty t u).cellar } := by
  unfold Device.markDirty
  dsimp only
  split <;> rfl

/-- The entry of one record leaves what each of its parts leaves. -/
theorem Device.enterOne_same {γ : Type} (g : Device → γ) (hp : ∀ d u l t, g (Device.post d u l t) = g d)
    (hd : ∀ (d : Device) l, g { d with dict := { d.dict with sessions := l } } = g d)
    (ho : ∀ d t, g (Device.send d t) = g d) (hr : ∀ (d : Device) w, w < 4 → g (d.incReg (Reg.EV_LOST + w)) = g d)
    (hs : ∀ d w x, g (Device.setShop d w x) = g d) (hl : ∀ (d : Device) l, g { d with log := l } = g d)
    (hc : ∀ (d : Device) c, g { d with cellar := c } = g d) (d : Device) (e : EventRec) : g (d.enterOne e) = g d := by
  simp only [Device.enterOne]
  rw [Device.notifyShops_same g hr hs, Device.notifyCan_same g ho, Device.notifySessions_same g hp hd, hl]
  split
  · rw [Device.markDirty_eq, hc]
  · rfl

/-- R259: the entry of the records raised changes the log, what of it is mirrored, and what is told of it. -/
theorem Device.flush_bare (d : Device) : d.flush.bare = d.bare := by
  rw [Device.flush_eq]
  exact foldl_same Device.bare _ (Device.enterOne_same Device.bare Device.post_bare (fun _ _ => rfl) (fun _ _ => rfl)
    (fun _ _ _ => rfl) (fun _ _ _ => rfl) (fun _ _ => rfl) (fun _ _ => rfl)) _ _

@[simp] theorem Device.flush_now (d : Device) : d.flush.now = d.now :=
  Device.bare_field (fun d => d.now) (fun _ => rfl) (Device.flush_bare d)
@[simp] theorem Device.flush_free (d : Device) : d.flush.free = d.free :=
  Device.bare_field (fun d => d.free) (fun _ => rfl) (Device.flush_bare d)
@[simp] theorem Device.flush_role (d : Device) : d.flush.role = d.role :=
  Device.bare_field (fun d => d.role) (fun _ => rfl) (Device.flush_bare d)
@[simp] theorem Device.flush_shadow (d : Device) : d.flush.shadow = d.shadow :=
  Device.bare_field (fun d => d.shadow) (fun _ => rfl) (Device.flush_bare d)
@[simp] theorem Device.flush_pos (d : Device) : d.flush.pos = d.pos :=
  Device.bare_field (fun d => d.pos) (fun _ => rfl) (Device.flush_bare d)
@[simp] theorem Device.flush_mantel (d : Device) : d.flush.mantel = d.mantel :=
  Device.bare_field (fun d => d.mantel) (fun _ => rfl) (Device.flush_bare d)
@[simp] theorem Device.flush_heads (d : Device) : d.flush.heads = d.heads :=
  Device.bare_field (fun d => d.heads) (fun _ => rfl) (Device.flush_bare d)
@[simp] theorem Device.flush_pages (d : Device) : d.flush.pages = d.pages :=
  Device.bare_field (fun d => d.pages) (fun _ => rfl) (Device.flush_bare d)
@[simp] theorem Device.flush_rooms (d : Device) : d.flush.rooms = d.rooms :=
  Device.bare_field (fun d => d.rooms) (fun _ => rfl) (Device.flush_bare d)
@[simp] theorem Device.flush_prot (d : Device) : d.flush.prot = d.prot :=
  Device.bare_field (fun d => d.prot) (fun _ => rfl) (Device.flush_bare d)
@[simp] theorem Device.flush_win (d : Device) : d.flush.win = d.win :=
  Device.bare_field (fun d => d.win) (fun _ => rfl) (Device.flush_bare d)
@[simp] theorem Device.flush_cal (d : Device) : d.flush.cal = d.cal :=
  Device.bare_field (fun d => d.cal) (fun _ => rfl) (Device.flush_bare d)
@[simp] theorem Device.flush_red (d : Device) : d.flush.red = d.red :=
  Device.bare_field (fun d => d.red) (fun _ => rfl) (Device.flush_bare d)
@[simp] theorem Device.flush_boiler (d : Device) : d.flush.boiler = d.boiler :=
  Device.bare_field (fun d => d.boiler) (fun _ => rfl) (Device.flush_bare d)
@[simp] theorem Device.flush_time (d : Device) : d.flush.time = d.time :=
  Device.bare_field (fun d => d.time) (fun _ => rfl) (Device.flush_bare d)
@[simp] theorem Device.flush_hall (d : Device) : d.flush.hall = d.hall :=
  Device.bare_field (fun d => d.hall) (fun _ => rfl) (Device.flush_bare d)
@[simp] theorem Device.flush_pantry (d : Device) : d.flush.pantry = d.pantry :=
  Device.bare_field (fun d => d.pantry) (fun _ => rfl) (Device.flush_bare d)
@[simp] theorem Device.flush_pwr (d : Device) : d.flush.pwr = d.pwr :=
  Device.bare_field (fun d => d.pwr) (fun _ => rfl) (Device.flush_bare d)
@[simp] theorem Device.flush_boot (d : Device) : d.flush.boot = d.boot :=
  Device.bare_field (fun d => d.boot) (fun _ => rfl) (Device.flush_bare d)
@[simp] theorem Device.flush_tap (d : Device) : d.flush.tap = d.tap :=
  Device.bare_field (fun d => d.tap) (fun _ => rfl) (Device.flush_bare d)

theorem Device.enterOne_raised (d : Device) (e : EventRec) : (d.enterOne e).log.raised = d.log.raised := by
  simp only [Device.enterOne]
  rw [Device.notifyShops_same (fun d : Device => d.log) (fun _ _ _ => rfl) (fun _ _ _ => rfl),
    Device.notifyCan_same (fun d : Device => d.log) (fun _ _ => rfl),
    Device.notifySessions_same (fun d : Device => d.log) Device.post_log (fun _ _ => rfl)]
  split
  · rw [Device.markDirty_eq]; rfl
  · rfl

/-- R259: after every cycle no record waits outside the log. -/
@[simp] theorem Device.flush_raised (d : Device) : d.flush.log.raised = [] := by
  rw [Device.flush_eq]
  exact foldl_same (fun d : Device => d.log.raised) _ Device.enterOne_raised _ _

/-- Only the counters of lost Workshop events are entries that the log's entry may change. -/
theorem Device.enterOne_reg (d : Device) (e : EventRec) {k : Nat} (h : k < Reg.EV_LOST ∨ Reg.EV_LOST + 4 ≤ k) :
    (d.enterOne e).reg k = d.reg k :=
  Device.enterOne_same (fun d : Device => d.reg k) (fun _ _ _ _ => Device.post_reg _ _ _ _ _) (fun _ _ => rfl)
    (fun _ _ => rfl) (fun _ _ _ => Device.reg_addReg_other _ 1 (by omega)) (fun _ _ _ => rfl) (fun _ _ => rfl)
    (fun _ _ => rfl) d e

theorem Device.flush_reg (d : Device) {k : Nat} (h : k < Reg.EV_LOST ∨ Reg.EV_LOST + 4 ≤ k) : d.flush.reg k = d.reg k := by
  rw [Device.flush_eq]
  exact foldl_same (fun d : Device => d.reg k) _ (fun d e => Device.enterOne_reg d e h) _ _

theorem Device.flush_regN (d : Device) {k : Nat} (h : k < Reg.EV_LOST ∨ Reg.EV_LOST + 4 ≤ k) :
    d.flush.regN k = d.regN k := by
  simp only [Device.regN, Device.flush_reg d h]

/-- A message that an entry into the log puts out at once: an EMCY message. The EVENTs wait in the Porch's queues. -/
def LogTx (t : Tx) : Prop := ∃ p i b, t = .can p i b

/-- The messages of one device are those of another with messages of the log in front. -/
def MoreLog (o o' : List Tx) : Prop := ∃ l, o' = l ++ o ∧ ∀ t ∈ l, LogTx t

theorem MoreLog.refl (o : List Tx) : MoreLog o o := ⟨[], rfl, by simp⟩

theorem MoreLog.cons {o o' : List Tx} (h : MoreLog o o') {t : Tx} (ht : LogTx t) : MoreLog o (t :: o') := by
  obtain ⟨l, rfl, hl⟩ := h
  refine ⟨t :: l, rfl, fun x hx => ?_⟩
  rcases List.mem_cons.1 hx with rfl | hx
  · exact ht
  · exact hl x hx

theorem MoreLog.trans {a b c : List Tx} (h : MoreLog a b) (h' : MoreLog b c) : MoreLog a c := by
  obtain ⟨l, rfl, hl⟩ := h
  obtain ⟨k, rfl, hk⟩ := h'
  refine ⟨k ++ l, by simp, fun t ht => ?_⟩
  rcases List.mem_append.1 ht with ht | ht
  · exact hk t ht
  · exact hl t ht

theorem Device.enterOne_out (d : Device) (e : EventRec) : MoreLog d.out (d.enterOne e).out := by
  have hs (d : Device) (r : EventRec) : (d.notifySessions r).out = d.out :=
    Device.notifySessions_same (fun d : Device => d.out) Device.post_out (fun _ _ => rfl) d r
  have hc (d : Device) (r : EventRec) : MoreLog d.out (d.notifyCan r).out := by
    unfold Device.notifyCan
    dsimp only
    split
    · refine foldl_keeps (fun x : Device => MoreLog d.out x.out) _ (fun b a hb => ?_) _ d (.refl _)
      generalize (if a = 0 then b.dict.can0.nmt else b.dict.can1.nmt) = st
      cases h : (bit (b.regN Reg.CAN_PORT_ENABLE) a && st != 4)
      · simpa [h] using hb
      · simpa [h] using hb.cons ⟨_, _, _, rfl⟩
    · exact .refl _
  have hw (d : Device) (r : EventRec) : (d.notifyShops r).out = d.out :=
    Device.notifyShops_same (fun d : Device => d.out) (fun _ _ _ => rfl) (fun _ _ _ => rfl) d r
  simp only [Device.enterOne, hw]
  refine MoreLog.trans ?_ (hc _ _)
  rw [hs]
  split
  · rw [Device.markDirty_eq]; exact .refl _
  · exact .refl _

/-- What has been put out stays: the entry of records into the log adds messages in front. -/
theorem Device.flush_out (d : Device) : MoreLog d.out d.flush.out := by
  rw [Device.flush_eq]
  exact foldl_keeps (fun x : Device => MoreLog d.out x.out) _
    (fun b a hb => hb.trans (Device.enterOne_out b a)) _ _ (.refl _)

end Sys2Proof.Machine
end

