-- ==== Sys2Proof/Laws/Memory.lean ====
section
/-! SUPPORT. What each operation on the byte memories may do: it keeps the canonical form and every blown fuse. -/
namespace Sys2Proof.Machine

/-! ### The relation -/

/-- The second memories are canonical where the first are, and keep every blown fuse. -/
structure Memories.Kept (m m' : Memories) : Prop where
  wf : m.wf = true → m'.wf = true
  fuses : m.FusesKept m'

theorem FuseKept.refl (a : List Host.Cell) : FuseKept a a := fun _ _ h => h

theorem FuseKept.trans {a b c : List Host.Cell} (h : FuseKept a b) (k : FuseKept b c) : FuseKept a c :=
  fun x i e => k x i (h x i e)

theorem Memories.Kept.refl (m : Memories) : m.Kept m := ⟨id, FuseKept.refl _, FuseKept.refl _⟩

theorem Memories.Kept.trans {a b c : Memories} (h : a.Kept b) (k : b.Kept c) : a.Kept c :=
  ⟨fun x => k.wf (h.wf x), h.fuses.1.trans k.fuses.1, h.fuses.2.trans k.fuses.2⟩

theorem Memories.kept_store (m : Memories) {l : List Host.Cell} (h : Memory.wf m.store = true → Memory.wf l = true) :
    m.Kept { m with store := l } := by
  refine ⟨fun w => ?_, FuseKept.refl _, FuseKept.refl _⟩
  rw [Memories.wf_iff] at *
  exact ⟨h w.1, w.2⟩

theorem Memories.kept_flash (m : Memories) {l : List Host.Cell} (h : Memory.wf m.flash = true → Memory.wf l = true) :
    m.Kept { m with flash := l } := by
  refine ⟨fun w => ?_, FuseKept.refl _, FuseKept.refl _⟩
  rw [Memories.wf_iff] at *
  exact ⟨w.1, w.2.1, w.2.2.1, h w.2.2.2.1, w.2.2.2.2⟩

theorem Memories.kept_head (m : Memories) {l : List Host.Cell} (h : Memory.wf m.head = true → Memory.wf l = true) :
    m.Kept { m with head := l } := by
  refine ⟨fun w => ?_, FuseKept.refl _, FuseKept.refl _⟩
  rw [Memories.wf_iff] at *
  exact ⟨w.1, w.2.1, w.2.2.1, w.2.2.2.1, h w.2.2.2.2⟩

/-! ### The flash and the fuses -/

theorem wf_flashProgram {m : List Host.Cell} (a : Nat) (l : List Nat) (h : Memory.wf m = true) :
    Memory.wf (flashProgram m a l) = true := wf_mwrite a _ h

theorem wf_flashErase {m : List Host.Cell} (a n : Nat) (h : Memory.wf m = true) : Memory.wf (flashErase m a n) = true :=
  wf_filter _ h

theorem wf_blow (stuck : List Nat) {m : List Host.Cell} (a : Nat) (l : List Nat) (h : Memory.wf m = true) :
    Memory.wf (blow stuck m a l) = true := by
  induction l generalizing m a with
  | nil => exact h
  | cons b l ih => exact ih (a + 1) (wf_mset a _ h)

theorem kept_blow (stuck : List Nat) (m : List Host.Cell) (a : Nat) (l : List Nat) : FuseKept m (blow stuck m a l) := by
  induction l generalizing m a with
  | nil => exact FuseKept.refl m
  | cons b l ih =>
    refine FuseKept.trans ?_ (ih _ (a + 1))
    intro x i hx
    rw [mget_mset]
    split
    · rename_i e
      subst e
      have hi : i < 8 := BitVec.lt_of_getLsbD hx
      simp only [BitVec.getLsbD_ofNat, hi, decide_true, Bool.true_and, Nat.testBit_or, Bool.or_eq_true]
      exact Or.inl (by simpa [BitVec.getLsbD] using hx)
    · exact hx

theorem Device.program_kept (m : Memories) (d : Device) (l : List Nat) (sa sb : List Nat) :
    m.Kept (Device.program m d l sa sb).1 := by
  have h : ∀ off data, m.Kept { m with fuseA := blow sa m.fuseA off data, fuseB := blow sb m.fuseB off data } := by
    intro off data
    refine ⟨fun w => ?_, kept_blow _ _ _ _, kept_blow _ _ _ _⟩
    rw [Memories.wf_iff] at *
    exact ⟨w.1, wf_blow _ _ _ w.2.1, wf_blow _ _ _ w.2.2.1, w.2.2.2⟩
  simp only [Device.program]
  split
  · exact h _ _
  · exact h _ _

theorem Device.houseStore_kept (m : Memories) (d : Device) (l : List Nat) : m.Kept (d.houseStore m l) :=
  m.kept_flash (fun w => wf_flashProgram _ _ (wf_flashErase _ _ w))

/-! ### Dictionary writes -/

theorem Device.subsysMem_kept (m : Memories) (d : Device) (code : Nat) : m.Kept (d.subsysMem m code) := by
  unfold Device.subsysMem
  split
  · exact m.kept_store (fun _ => wf_nil)
  · exact .refl m

theorem Device.nowA_kept (m : Memories) (d : Device) (env : WriteEnv) (r : Req) (k : Nat) (v : Int) :
    m.Kept (Device.nowA m d env r k v).1 := by
  unfold Device.nowA
  repeat' split
  all_goals first | exact .refl m | exact Device.subsysMem_kept m d _

theorem Device.applyNum_kept (m : Memories) (d : Device) (env : WriteEnv) (r : Req) (k : Nat) (v : Int) :
    m.Kept (Device.applyNum m d env r k v).1 := by
  unfold Device.applyNum
  dsimp only
  repeat' split
  all_goals first | exact .refl m | exact Device.nowA_kept m d env r k v

theorem Device.applyBlob_kept (m : Memories) (d : Device) (env : WriteEnv) (k : Nat) (l : List Nat) :
    m.Kept (Device.applyBlob m d env k l).1 := by
  unfold Device.applyBlob
  dsimp only
  repeat' split
  all_goals first
    | exact .refl m
    | exact Device.program_kept m d l _ _
    | exact Device.houseStore_kept m d l
    | exact m.kept_flash (fun w => wf_flashProgram _ _ (wf_flashErase _ _ w))

theorem Device.applyVal_kept (m : Memories) (d : Device) (env : WriteEnv) (r : Req) (k : Nat) (e : EntryDef) (v : Val) :
    m.Kept (Device.applyVal m d env r k e v).1 := by
  unfold Device.applyVal
  dsimp only
  split
  all_goals first
    | exact .refl m
    | exact Device.applyBlob_kept m d env k _
    | exact Device.applyNum_kept m d env r k _

theorem Device.writeKey_kept (m : Memories) (d : Device) (env : WriteEnv) (r : Req) (k ty : Nat) (bs : List Nat) :
    m.Kept (Device.writeKey m d env r k ty bs).1 := by
  unfold Device.writeKey
  dsimp only
  split
  · exact Device.applyVal_kept m _ env r k _ _
  · exact .refl m

theorem Device.writeNum_kept (m : Memories) (d : Device) (env : WriteEnv) (r : Req) (k : Nat) (v : Int) :
    m.Kept (Device.writeNum m d env r k v).1 := by
  unfold Device.writeNum
  split
  · exact .refl m
  · split
    · exact .refl m
    · exact Device.writeKey_kept m d env r k _ _

theorem Device.writeBlob_kept (m : Memories) (d : Device) (env : WriteEnv) (r : Req) (k : Nat) (l : List Nat) :
    m.Kept (Device.writeBlob m d env r k l).1 := by
  unfold Device.writeBlob
  split
  · exact .refl m
  · split
    · exact .refl m
    · exact Device.writeKey_kept m d env r k _ _

theorem Device.entryWrite_kept (m : Memories) (d : Device) (env : WriteEnv) (r : Req) (k ty : Nat) (bs : List Nat) :
    m.Kept (Device.entryWrite m d env r k ty bs).1 := by
  unfold Device.entryWrite
  split
  · exact .refl m
  · exact Device.writeKey_kept m d env r k ty bs

theorem Device.writeItem_kept (m : Memories) (d : Device) (env : WriteEnv) (r : Req) (it : WriteItem) :
    m.Kept (Device.writeItem m d env r it).1 := by
  unfold Device.writeItem
  dsimp only
  generalize (if it.rsv ≠ 0 then Status.reserved
    else (d.seeVpp env).writeCheck m r (itemKey it) it.ty it.value) = st
  split
  · exact Device.applyVal_kept m _ env r _ _ _
  · exact .refl m

theorem Device.writeItems_kept (env : WriteEnv) (r : Req) (its : List WriteItem) :
    ∀ (m : Memories) (d : Device), m.Kept (Device.writeItems env r m d its).1 := by
  induction its with
  | nil => exact fun m _ => .refl m
  | cons it rest ih =>
    intro m d
    exact (Device.writeItem_kept m d env r it).trans (ih _ _)

theorem Device.qdpWrite_kept (m : Memories) (d : Device) (v : Via) (env : WriteEnv) (items : List WriteItem) :
    m.Kept (Device.qdpWrite m d v env items).1 := by
  unfold Device.qdpWrite
  dsimp only
  split
  · exact .refl m
  · split
    · exact Device.writeItems_kept env _ items m _
    · exact .refl m
  · exact .refl m

theorem Device.writeWhole_kept (m : Memories) (d : Device) (env : WriteEnv) (r : Req) (x : Xfer) :
    m.Kept (Device.writeWhole m d env r x).1 := by
  unfold Device.writeWhole
  split
  · exact .refl m
  · exact Device.writeKey_kept m d env r _ _ _

theorem Device.qdpWriteStart_kept (m : Memories) (d : Device) (v : Via) (env : WriteEnv)
    (index sub rsv total crc : Nat) : m.Kept (Device.qdpWriteStart m d v env index sub rsv total crc).1 := by
  unfold Device.qdpWriteStart
  dsimp only
  split
  · exact .refl m
  · generalize (if rsv ≠ 0 then Status.reserved else Device.writeStartCheck _ _ _ _) = st
    split
    · split
      · exact Device.writeWhole_kept m _ env _ _
      · exact .refl m
    · exact .refl m
  · exact .refl m

theorem Device.writeSeg_kept (m : Memories) (d : Device) (v : Via) (env : WriteEnv) (off : Nat) (data : List Nat) :
    m.Kept (Device.writeSeg m d v env off data).1 := by
  unfold Device.writeSeg
  dsimp only
  repeat' split
  all_goals first | exact .refl m | exact Device.writeWhole_kept m _ env _ _

theorem Device.qdpWriteSeg_kept (m : Memories) (d : Device) (v : Via) (env : WriteEnv) (off len rsv : Nat)
    (data : List Nat) : m.Kept (Device.qdpWriteSeg m d v env off len rsv data).1 := by
  unfold Device.qdpWriteSeg
  repeat' split
  all_goals first | exact .refl m | exact Device.writeSeg_kept m _ v env off data

theorem Device.usdo_kept (m : Memories) (d : Device) (env : WriteEnv) (p : Nat) (u : UsdoReq) :
    m.Kept (Device.usdo m d env p u).1 := by
  unfold Device.usdo Device.usdoDownload
  dsimp only
  repeat' split
  all_goals first | exact .refl m | exact Device.writeKey_kept m d env _ _ _ _

theorem Device.rpdoWrites_kept (env : WriteEnv) (p : Nat) (l : List (Nat × Nat)) :
    ∀ (m : Memories) (d : Device) (bs : List Nat), m.Kept (Device.rpdoWrites env p m d l bs).1 := by
  induction l with
  | nil => exact fun m _ _ => .refl m
  | cons x rest ih =>
    obtain ⟨k, n⟩ := x
    intro m d bs
    exact (Device.writeKey_kept m d env _ _ _ _).trans (ih _ _ _)

theorem Device.rpdo_kept (m : Memories) (d : Device) (env : WriteEnv) (p n : Nat) (data : List Nat) :
    m.Kept (Device.rpdo m d env p n data).1 := by
  unfold Device.rpdo
  dsimp only
  repeat' split
  all_goals first | exact .refl m | exact Device.rpdoWrites_kept env p _ m d data

/-! ### Head memory, the page store and the Cellar -/

theorem Device.memDone_kept (m : Memories) (d : Device) (c : Nat) (back : List Nat) (err : Bool) :
    m.Kept (Device.memDone m d c back err).1 := by
  unfold Device.memDone
  dsimp only
  repeat' split
  all_goals first | exact .refl m | exact m.kept_head (fun w => wf_mwrite _ _ w)

theorem Device.recordRead_kept (m : Memories) (d : Device) (c : Nat) (l : List Nat) (err : Bool) :
    m.Kept (Device.recordRead m d c l err).1 := by
  unfold Device.recordRead
  dsimp only
  repeat' split
  all_goals first | exact .refl m | exact m.kept_head (fun w => wf_mwrite _ _ w)

theorem Device.pantryTxn_kept (m : Memories) (d : Device) (t : PantryReq) : m.Kept (Device.pantryTxn m d t).1 := by
  unfold Device.pantryTxn
  split
  · exact .refl m
  · dsimp only
    split
    · exact m.kept_store (fun w => wf_mwrite _ _ w)
    · exact .refl m

theorem Device.cellarWriteDone_wf {m : List Host.Cell} (d : Device) (back : List Nat) (h : Memory.wf m = true) :
    Memory.wf (Device.cellarWriteDone m d back).1 = true := by
  unfold Device.cellarWriteDone
  dsimp only
  repeat' split
  all_goals first | exact h | exact wf_flashProgram _ _ (wf_flashErase _ _ h)

theorem wf_streamWrite (x : Stream) {m : List Host.Cell} (o : Nat) (l : List Nat) (h : Memory.wf m = true) :
    Memory.wf (x.write m o l) = true := by
  induction l generalizing m o with
  | nil => exact h
  | cons b l ih => exact ih (o + 1) (wf_mset _ _ h)

/-! ### Resets -/

theorem Device.resetTo_kept (m : Memories) (d : Device) (cause n : Nat) : m.Kept (Device.resetTo m d cause n).1 :=
  m.kept_store (fun _ => wf_nil)

theorem Device.railRetry_kept (m : Memories) (d : Device) : m.Kept (Device.railRetry m d).1 := by
  unfold Device.railRetry
  split
  · exact Device.resetTo_kept m d 4 1
  · exact .refl m

theorem Device.wakeBoot_kept (m : Memories) (d : Device) : m.Kept (Device.wakeBoot m d).1 := by
  unfold Device.wakeBoot
  repeat' split
  all_goals first | exact .refl m | exact Device.resetTo_kept m d 3 4

theorem Device.kaTake_kept (m : Memories) (d : Device) (a b : Bool) (held : Nat) :
    m.Kept (Device.kaTake m d a b held).1 := by
  unfold Device.kaTake
  dsimp only
  split
  · exact Device.resetTo_kept m _ 1 1
  · exact .refl m

theorem Device.wake_kept (m : Memories) (d : Device) (rise : Bool) : m.Kept (Device.wake m d rise).1 := by
  unfold Device.wake
  dsimp only
  generalize (if rise = true then d.sleepRise else d) = x
  split
  · exact Device.wakeBoot_kept m x
  · exact .refl m

theorem Device.heldRelease_kept (m : Memories) (d : Device) : m.Kept (Device.heldRelease m d).1 := by
  unfold Device.heldRelease
  split
  · exact Device.resetTo_kept m d 2 _
  · exact .refl m

theorem Device.resetDue_kept (m : Memories) (d : Device) : m.Kept (Device.resetDue m d).1 := by
  unfold Device.resetDue
  repeat' split
  all_goals first | exact .refl m | exact Device.resetTo_kept m d.headsLow 5 4

theorem Device.bootRetry_kept (m : Memories) (d : Device) : m.Kept (Device.bootRetry m d).1 := by
  unfold Device.bootRetry
  split
  · exact Device.resetTo_kept m d 6 4
  · exact .refl m

theorem Device.tapFree_kept (m : Memories) (d : Device) (ir : Nat) (shift : List Bool) :
    m.Kept (Device.tapFree m d ir shift).1 := by
  unfold Device.tapFree
  dsimp only
  repeat' split
  all_goals first | exact .refl m | exact Device.heldRelease_kept m _

theorem Device.tapScan_kept (m : Memories) (d : Device) (ir : Nat) (pins : List Bool) (data : Option (List Bool)) :
    m.Kept (Device.tapScan m d ir pins data).1 := by
  unfold Device.tapScan
  dsimp only
  repeat' split
  all_goals exact Device.tapFree_kept m d ir (d.capture pins)

theorem Device.tapLoad_kept (m : Memories) (d : Device) (code : Nat) (pins data : List Bool) (edges : List (Nat × Bool)) :
    m.Kept (Device.tapLoad m d code pins data edges).1 := by
  unfold Device.tapLoad
  split
  all_goals first
    | exact .refl m
    | exact Device.tapFree_kept m d _ _
    | exact Device.tapScan_kept m d _ _ _

/-! ### Streams -/

theorem Device.ingestOne_wf {m m' : List Host.Cell} {d d' : Device} {s : Nat} (h : Memory.wf m = true)
    (e : Device.ingestOne d m s = some (m', d')) : Memory.wf m' = true := by
  unfold Device.ingestOne at e
  dsimp only at e
  repeat' split at e
  all_goals first
    | contradiction
    | (injection e with e
       injection e with e1 e2
       rw [← e1]
       first | exact h | exact wf_streamWrite _ _ _ h)

theorem Device.ingest_wf (s n : Nat) : ∀ {m : List Host.Cell} (d : Device), Memory.wf m = true →
    Memory.wf (Device.ingest m d s n).1 = true := by
  induction n with
  | zero => exact fun _ h => h
  | succ n ih =>
    intro m d h
    simp only [Device.ingest]
    split
    · exact h
    · rename_i e
      exact ih _ (Device.ingestOne_wf h e)

theorem Device.advance_wf {m : List Host.Cell} (d : Device) (s : Nat) (h : Memory.wf m = true) :
    Memory.wf (Device.advance m d s).1 = true := by
  unfold Device.advance
  dsimp only
  split
  · exact Device.ingest_wf s _ d h
  · exact h

theorem Device.qptOpen_wf {m : List Host.Cell} (d : Device) (x : QptHdr) (h : Memory.wf m = true) :
    Memory.wf (Device.qptOpen m d x).1 = true := by
  unfold Device.qptOpen
  dsimp only
  repeat' split
  all_goals first | exact h | exact Device.advance_wf _ _ h

theorem Device.qptData_wf {m : List Host.Cell} (d : Device) (x : QptHdr) (l : List Nat) (h : Memory.wf m = true) :
    Memory.wf (Device.qptData m d x l).1 = true := by
  unfold Device.qptData
  dsimp only
  repeat' split
  all_goals first | exact h | exact Device.advance_wf _ _ (wf_streamWrite _ _ _ h)

theorem Device.codeLines_wf {m : List Host.Cell} (d : Device) (s n : Nat) (h : Memory.wf m = true) :
    Memory.wf (Device.codeLines m d s n).1 = true := by
  unfold Device.codeLines
  dsimp only
  split
  · exact h
  · exact wf_streamWrite _ _ _ h

theorem Device.codeFull_wf (s k : Nat) : ∀ {m : List Host.Cell} (d : Device), Memory.wf m = true →
    Memory.wf (Device.codeFull m d s k).1 = true := by
  induction k with
  | zero => exact fun _ h => h
  | succ k ih =>
    intro m d h
    simp only [Device.codeFull]
    split
    · exact h
    · split
      · exact h
      · exact ih _ (Device.codeLines_wf d s _ h)

theorem Device.endChain_wf {m : List Host.Cell} (d : Device) (s : Nat) (cut : Bool) (h : Memory.wf m = true) :
    Memory.wf (Device.endChain m d s cut).1 = true := by
  unfold Device.endChain
  dsimp only
  split
  · exact h
  · rename_i c0 _ _
    generalize hn : (d.stream s).rawBuf.length / Nat.max 1 c0.width = n
    have hc : Memory.wf (if 0 < n then Device.codeLines m d s n else (m, d)).1 = true := by
      split
      · exact Device.codeLines_wf d s n h
      · exact h
    generalize (if 0 < n then Device.codeLines m d s n else (m, d)) = y at hc ⊢
    obtain ⟨m1, d1⟩ := y
    dsimp only at hc ⊢
    split
    · exact hc
    · dsimp only
      exact wf_streamWrite _ _ _ hc

theorem wf_ite {c : Prop} [Decidable c] {a b : List Host.Cell × Device} (ha : Memory.wf a.1 = true)
    (hb : Memory.wf b.1 = true) : Memory.wf (if c then a else b).1 = true := by
  split
  · exact ha
  · exact hb

theorem Device.qptRaw_wf {m : List Host.Cell} (d : Device) (x : QptHdr) (l : List Nat) (h : Memory.wf m = true) :
    Memory.wf (Device.qptRaw m d x l).1 = true := by
  have he : ∀ (b : Bool) (y : List Host.Cell × Device), Memory.wf y.1 = true →
      Memory.wf (if b = true then Device.endChain y.1 y.2 x.stream false else y).1 = true := by
    intro b y hy
    split
    · exact Device.endChain_wf _ _ _ hy
    · exact hy
  have hc : ∀ (b : Prop) [Decidable b],
      Memory.wf (if b then Device.endChain m d x.stream true else (m, d)).1 = true := by
    intro b _
    split
    · exact Device.endChain_wf d _ _ h
    · exact h
  unfold Device.qptRaw
  cases d.qptSession x with
  | none => exact h
  | some q =>
    refine wf_ite h (wf_ite h (wf_ite h (wf_ite h (wf_ite h (wf_ite h ?_)))))
    exact Device.advance_wf _ _ (he _ _ (Device.codeFull_wf _ _ _ (hc _)))

theorem Device.streamsMove_wf (l : List Nat) : ∀ {m : List Host.Cell} (d : Device), Memory.wf m = true →
    Memory.wf (Device.streamsMove m d l).1 = true := by
  induction l with
  | nil => exact fun _ h => h
  | cons s l ih => exact fun d h => ih _ (Device.advance_wf d s h)

theorem Device.pantryTick_wf {m : List Host.Cell} (d : Device) (h : Memory.wf m = true) :
    Memory.wf (Device.pantryTick m d).1 = true := by
  unfold Device.pantryTick
  split
  · exact Device.streamsMove_wf _ _ h
  · exact h

/-! ### Frames and checkpoints -/

theorem Device.putPixels_wf (d : Device) (f : Frame) (l : List Nat) : ∀ {m : List Host.Cell} (k : Nat),
    Memory.wf m = true → Memory.wf (Device.putPixels d f m k l) = true := by
  induction l with
  | nil => exact fun _ h => h
  | cons p l ih =>
    intro m k h
    refine ih _ ?_
    unfold Device.putPix
    dsimp only
    split
    · exact wf_mset _ _ h
    · exact wf_mset _ _ (wf_mset _ _ h)

theorem Device.csiLine_wf {m : List Host.Cell} (d : Device) (x : CsiHdr) (dt : Nat) (crcOk : Bool) (pix : List Nat)
    (h : Memory.wf m = true) : Memory.wf (Device.csiLine m d x dt crcOk pix).1 = true := by
  unfold Device.csiLine Device.ctxLineIn Device.storeLine
  dsimp only
  repeat' split
  all_goals first | exact h | exact Device.putPixels_wf _ _ _ _ h

theorem Device.ckptsWritten_kept (m : Memories) (d : Device) (u h : Nat) : m.Kept (Device.ckptsWritten m d u h).1 := by
  have hf : ∀ (l : List Ctx) (a : Memories × Device), m.Kept a.1 →
      m.Kept (l.foldl (fun (a : Memories × Device) x =>
        match x.ckptNow u h with
        | none => a
        | some (c, half) =>
          let p := d.ckptAddr x half
          ({ a.1 with store := mwrite a.1.store p (c.data ++ List.replicate (4608 - c.data.length) 0) },
           a.2.eccWrite p 4608 [])) a).1 := by
    intro l
    induction l with
    | nil => exact fun _ k => k
    | cons x l ih =>
      intro a k
      refine ih _ ?_
      dsimp only
      split
      · exact k
      · exact k.trans (a.1.kept_store (fun w => wf_mwrite _ _ w))
  exact hf _ _ (.refl m)

theorem Device.checkpointDone_kept (m : Memories) (d : Device) (k : Nat) :
    m.Kept (Device.checkpointDone m d k).1 := by
  unfold Device.checkpointDone
  dsimp only
  generalize hr : (d.room k).ckDue = l
  cases l with
  | nil => exact .refl m
  | cons h t => exact Device.ckptsWritten_kept m d (d.unitOf k) h

/-! ### The forms that the meanings take -/

theorem State.onDev_mem {s t : State} {f : Device → Device} (h : s.onDev f = .next t) : t.mem = s.mem := by
  cases h; rfl

theorem State.onDevM_mem {s t : State} {f : Memories → Device → Device} (h : s.onDevM f = .next t) :
    t.mem = s.mem := by
  cases h; rfl

theorem State.when_mem {s t : State} {g : Device → Bool} {f : Device → Device} (h : s.when g f = .next t) :
    t.mem = s.mem := State.onDev_mem h

theorem State.whenM_mem {s t : State} {g : Device → Bool} {f : Memories → Device → Device}
    (h : s.whenM g f = .next t) : t.mem = s.mem := State.onDevM_mem h

theorem State.onBoth_kept {s t : State} {f : Memories → Device → Memories × Device}
    (k : s.mem.Kept (f s.mem s.dev).1) (h : s.onBoth f = .next t) : s.mem.Kept t.mem := by
  cases h; exact k

theorem State.whenB_kept {s t : State} {g : Device → Bool} {f : Memories → Device → Memories × Device}
    (k : s.mem.Kept (f s.mem s.dev).1) (h : s.whenB g f = .next t) : s.mem.Kept t.mem := by
  refine State.onBoth_kept ?_ h
  by_cases e : g s.dev = true
  · simp only [e, if_true]
    exact k
  · simp only [e]
    exact .refl _

theorem State.put_kept {s t : State} {p : Prop} [Decidable p] {env : WriteEnv} {r : Req} {k : Nat} {v : Int}
    (h : s.put p env r k v = .next t) : s.mem.Kept t.mem := State.whenB_kept (Device.writeNum_kept _ _ _ _ _ _) h

theorem State.putBlob_kept {s t : State} {p : Prop} [Decidable p] {env : WriteEnv} {r : Req} {k : Nat} {l : List Nat}
    (h : s.putBlob p env r k l = .next t) : s.mem.Kept t.mem := State.whenB_kept (Device.writeBlob_kept _ _ _ _ _ _) h

theorem State.putHg_kept {s t : State} {env : WriteEnv} {r : Req} {k : Nat} {on : Bool}
    (h : s.putHg env r k on = .next t) : s.mem.Kept t.mem := State.whenB_kept (Device.writeNum_kept _ _ _ _ _ _) h

theorem State.onStore_kept {s t : State} {g : Device → Bool} {f : List Host.Cell → Device → List Host.Cell × Device}
    (k : Memory.wf s.mem.store = true → Memory.wf (f s.mem.store s.dev).1 = true)
    (h : s.onStore g f = .next t) : s.mem.Kept t.mem := State.whenB_kept (s.mem.kept_store k) h

theorem Memories.Kept.of_eq {m m' : Memories} (h : m' = m) : m.Kept m' := h ▸ .refl m

theorem Device.tickCore_kept (m : Memories) (d : Device) : m.Kept (Device.tickCore m d).1 := by
  unfold Device.tickCore
  dsimp only
  split
  · exact m.kept_store (Device.pantryTick_wf _)
  · exact m.kept_store id

theorem State.tick_kept (s : State) : s.mem.Kept s.tick.mem :=
  (Device.tickCore_kept _ _).trans (Device.resetDue_kept _ _)

/-! ### Entry writes that leave every memory alone -/

/-- The entries whose write may change a byte memory. -/
def memKeys : List Nat := [Reg.SUBSYS_RESET_CMD, Reg.FOUNDATION_PROGRAM, Reg.HOUSE_IMAGE, Reg.WORKSHOP_IMAGE]

theorem Device.applyNum_mem (m : Memories) (d : Device) (env : WriteEnv) (r : Req) {k : Nat} (v : Int)
    (h : k ∉ memKeys) : (d.applyNum m env r k v).1 = m := by
  have h1 : k ≠ Reg.SUBSYS_RESET_CMD := fun e => h (by simp [memKeys, e])
  unfold Device.applyNum Device.nowA
  dsimp only
  repeat' split
  all_goals first | rfl | exact absurd ‹_› h1

theorem Device.applyBlob_mem (m : Memories) (d : Device) (env : WriteEnv) {k : Nat} (l : List Nat) (h : k ∉ memKeys) :
    (d.applyBlob m env k l).1 = m := by
  have h2 : k ≠ Reg.FOUNDATION_PROGRAM := fun e => h (by simp [memKeys, e])
  have h3 : k ≠ Reg.HOUSE_IMAGE := fun e => h (by simp [memKeys, e])
  have h4 : k ≠ Reg.WORKSHOP_IMAGE := fun e => h (by simp [memKeys, e])
  unfold Device.applyBlob
  dsimp only
  repeat' split
  all_goals first | rfl | exact absurd ‹_› h2 | exact absurd ‹_› h3 | exact absurd ‹_› h4

theorem Device.applyVal_mem (m : Memories) (d : Device) (env : WriteEnv) (r : Req) {k : Nat} (e : EntryDef) (v : Val)
    (h : k ∉ memKeys) : (d.applyVal m env r k e v).1 = m := by
  unfold Device.applyVal
  dsimp only
  split
  · rfl
  · rfl
  · rfl
  · exact Device.applyBlob_mem m d env _ h
  · exact Device.applyNum_mem m d env r _ h

theorem Device.writeKey_mem (m : Memories) (d : Device) (env : WriteEnv) (r : Req) {k : Nat} (ty : Nat) (bs : List Nat)
    (h : k ∉ memKeys) : (d.writeKey m env r k ty bs).1 = m := by
  unfold Device.writeKey
  dsimp only
  split
  · exact Device.applyVal_mem _ _ _ _ _ _ h
  · rfl

theorem Device.writeNum_mem (m : Memories) (d : Device) (env : WriteEnv) (r : Req) {k : Nat} (v : Int)
    (h : k ∉ memKeys) : (d.writeNum m env r k v).1 = m := by
  unfold Device.writeNum
  split
  · rfl
  · split
    · rfl
    · exact Device.writeKey_mem _ _ _ _ _ _ h

theorem Device.writeBlob_mem (m : Memories) (d : Device) (env : WriteEnv) (r : Req) {k : Nat} (l : List Nat)
    (h : k ∉ memKeys) : (d.writeBlob m env r k l).1 = m := by
  unfold Device.writeBlob
  split
  · rfl
  · split
    · rfl
    · exact Device.writeKey_mem _ _ _ _ _ _ h

theorem State.whenB_mem {s t : State} {g : Device → Bool} {f : Memories → Device → Memories × Device}
    (k : g s.dev = true → (f s.mem s.dev).1 = s.mem) (h : s.whenB g f = .next t) : t.mem = s.mem := by
  cases e : g s.dev with
  | true =>
    rw [State.whenB, State.onBoth] at h
    simp only [e, if_true] at h
    cases h
    exact k e
  | false =>
    rw [State.whenB, State.onBoth] at h
    simp only [e] at h
    cases h
    rfl

/-- A write of a number to an entry whose unit exists and which is none of the four leaves every memory alone. -/
theorem State.put_mem {s t : State} {p : Prop} [Decidable p] {env : WriteEnv} {r : Req} {k : Nat} {v : Int}
    (k0 : p → k ∉ memKeys) (h : s.put p env r k v = .next t) : t.mem = s.mem := by
  refine State.whenB_mem (fun e => ?_) h
  simp only [inService, Bool.and_eq_true, decide_eq_true_eq] at e
  exact Device.writeNum_mem _ _ _ _ _ (k0 e.2)

theorem State.putBlob_mem {s t : State} {p : Prop} [Decidable p] {env : WriteEnv} {r : Req} {k : Nat} {l : List Nat}
    (k0 : p → k ∉ memKeys) (h : s.putBlob p env r k l = .next t) : t.mem = s.mem := by
  refine State.whenB_mem (fun e => ?_) h
  simp only [inService, Bool.and_eq_true, decide_eq_true_eq] at e
  exact Device.writeBlob_mem _ _ _ _ _ (k0 e.2)

theorem State.putHg_mem {s t : State} {env : WriteEnv} {r : Req} {k : Nat} {on : Bool}
    (h : s.putHg env r k on = .next t) : t.mem = s.mem :=
  State.whenB_mem (fun _ => Device.writeNum_mem _ _ _ _ _ (by decide)) h

end Sys2Proof.Machine
end

