-- ==== Sys2Proof/Laws/Cmds.lean ====
section
/-! SUPPORT. The forms that the meanings take: where the guard holds the operation acts, where it does not nothing
happens; an accepted entry write acts by its entry. -/
namespace Sys2Proof.Machine

/-! ### Guards -/

theorem inDom_true {n : Nat} {p : Prop} [Decidable p] {d : Device} (h : d.domainOn n = true) (hp : p) :
    inDom n p d = true := by
  simp [inDom, h, hp]

theorem inDom_off {n : Nat} {p : Prop} [Decidable p] {d : Device} (h : d.domainOn n = false) : inDom n p d = false := by
  simp [inDom, h]

theorem inDom_none {n : Nat} {p : Prop} [Decidable p] {d : Device} (h : ¬ p) : inDom n p d = false := by
  simp [inDom, h]

theorem inService_true {p : Prop} [Decidable p] {d : Device} (h : d.served = true) (hp : p) :
    inService p d = true := by
  simp [inService, h, hp]

theorem State.when_true {s : State} {g : Device → Bool} {f : Device → Device} (h : g s.dev = true) :
    s.when g f = s.nextWith (f s.dev) := by
  simp [State.when, State.onDev, State.nextWith, h]

theorem State.when_false {s : State} {g : Device → Bool} {f : Device → Device} (h : g s.dev = false) :
    s.when g f = s.nextWith s.dev := by
  simp [State.when, State.onDev, State.nextWith, h]

theorem State.whenM_true {s : State} {g : Device → Bool} {f : Memories → Device → Device} (h : g s.dev = true) :
    s.whenM g f = s.nextWith (f s.mem s.dev) := by
  simp [State.whenM, State.onDevM, State.nextWith, h]

theorem State.whenM_false {s : State} {g : Device → Bool} {f : Memories → Device → Device} (h : g s.dev = false) :
    s.whenM g f = s.nextWith s.dev := by
  simp [State.whenM, State.onDevM, State.nextWith, h]

theorem State.whenB_true {s : State} {g : Device → Bool} {f : Memories → Device → Memories × Device}
    (h : g s.dev = true) : s.whenB g f = s.nextBoth (f s.mem s.dev) := by
  simp [State.whenB, State.onBoth, State.nextBoth, h]

theorem State.whenB_false {s : State} {g : Device → Bool} {f : Memories → Device → Memories × Device}
    (h : g s.dev = false) : s.whenB g f = s.nextWith s.dev := by
  simp [State.whenB, State.onBoth, State.nextWith, h]

/-! ### Little-endian numbers -/

theorem leNat_leBytes (n v : Nat) (h : v < 256 ^ n) : leNat (leBytes n v) = v := by
  induction n generalizing v with
  | zero =>
    have : v = 0 := by simpa using h
    subst this
    rfl
  | succ n ih =>
    have h2 : v / 256 < 256 ^ n := by
      rw [Nat.pow_succ] at h
      omega
    simp only [leBytes, leNat]
    rw [ih _ h2]
    omega

/-- The bytes of a natural number read back as it. -/
theorem leNat_leBytesI (n v : Nat) (h : v < 256 ^ n) : leNat (leBytesI n (v : Int)) = v := by
  have e : leBytesI n (v : Int) = leBytes n v := by
    simp only [leBytesI, ofSigned]
    congr 1
    have p : ((2 : Nat) ^ (8 * n)) = 256 ^ n := by rw [Nat.pow_mul]
    rw [p, ← Int.natCast_emod, Int.toNat_natCast, Nat.mod_eq_of_lt h]
  rw [e, leNat_leBytes n v h]

/-! ### Entry writes -/

theorem State.accepts_served {s : State} {env : WriteEnv} {r : Req} {k : Nat} {v : Int}
    (h : s.accepts env r k v = true) : s.dev.served = true := by
  simp only [State.accepts, Bool.and_eq_true] at h
  exact h.1

theorem State.acceptsBytes_served {s : State} {env : WriteEnv} {r : Req} {k : Nat} {l : List Nat}
    (h : s.acceptsBytes env r k l = true) : s.dev.served = true := by
  simp only [State.acceptsBytes, Bool.and_eq_true] at h
  exact h.1

/-- An accepted write of a number acts by its entry's Takes effect value, and the requester is told its outcome. -/
theorem State.writeNum_accepted {s : State} {env : WriteEnv} {r : Req} {k : Nat} {v : Int} {e : EntryDef}
    (h : s.accepts env r k v = true) (he : findEntry k = some e) :
    Device.writeNum s.mem s.dev env r k v =
      ((Device.applyVal s.mem (s.dev.seeVpp env) env r k e (valOf e (leBytesI e.ty.size v))).1,
       (Device.applyVal s.mem (s.dev.seeVpp env) env r k e (valOf e (leBytesI e.ty.size v))).2.1.send
         (.result r k (Device.applyVal s.mem (s.dev.seeVpp env) env r k e (valOf e (leBytesI e.ty.size v))).2.2)) := by
  simp only [State.accepts, he, Bool.and_eq_true, beq_iff_eq] at h
  simp only [Device.writeNum, h.1, he, Device.writeKey, h.2]
  rfl

/-- The same for a write of bytes. -/
theorem State.writeBlob_accepted {s : State} {env : WriteEnv} {r : Req} {k : Nat} {l : List Nat} {e : EntryDef}
    (h : s.acceptsBytes env r k l = true) (he : findEntry k = some e) :
    Device.writeBlob s.mem s.dev env r k l =
      ((Device.applyVal s.mem (s.dev.seeVpp env) env r k e (valOf e l)).1,
       (Device.applyVal s.mem (s.dev.seeVpp env) env r k e (valOf e l)).2.1.send
         (.result r k (Device.applyVal s.mem (s.dev.seeVpp env) env r k e (valOf e l)).2.2)) := by
  simp only [State.acceptsBytes, he, Bool.and_eq_true, beq_iff_eq] at h
  simp only [Device.writeBlob, h.1, he, Device.writeKey, h.2]
  rfl

/-- A number of an entry that takes effect immediately is applied. -/
theorem Device.applyVal_num {m : Memories} {d : Device} {env : WriteEnv} {r : Req} {k : Nat} {e : EntryDef} {x : Int}
    (h : e.takes = .now ∨ actsNow k = true) :
    Device.applyVal m d env r k e (.n x) =
      ((Device.applyNum m d env r k x).1, (Device.applyNum m d env r k x).2, .ok) := by
  unfold Device.applyVal
  rcases h with h | h
  · simp only [h]
    split <;> first | rfl | simp_all
  · simp only [h, Bool.or_true]

/-- An accepted write of a number to an entry that takes effect immediately: its effect, and the answer OK. -/
theorem State.put_accepted {s : State} {p : Prop} [Decidable p] {env : WriteEnv} {r : Req} {k : Nat} {v : Int}
    {e : EntryDef} (hp : p) (h : s.accepts env r k v = true) (he : findEntry k = some e)
    (hv : valOf e (leBytesI e.ty.size v) = .n v) (ht : e.takes = .now ∨ actsNow k = true) :
    s.put p env r k v = s.nextBoth
      ((Device.applyNum s.mem (s.dev.seeVpp env) env r k v).1,
       (Device.applyNum s.mem (s.dev.seeVpp env) env r k v).2.send (.result r k .ok)) := by
  rw [State.put, State.whenB_true (inService_true (State.accepts_served h) hp), State.writeNum_accepted h he, hv,
    Device.applyVal_num ht]

/-- A refused write changes nothing but what the requester is told. -/
theorem Device.writeKey_refused {m : Memories} {d : Device} {env : WriteEnv} {r : Req} {k ty : Nat} {bs : List Nat}
    {st : Status} (h : (d.seeVpp env).writeCheck m r k ty bs = st) (n : st ≠ .ok) :
    Device.writeKey m d env r k ty bs = (m, d.seeVpp env, st) := by
  unfold Device.writeKey
  simp only [h]
  cases st <;> first | rfl | exact absurd rfl n

/-- A write that the environment adds nothing to. -/
@[simp] theorem Device.seeVpp_none (d : Device) : d.seeVpp {} = d := rfl

/-- What the table says of an entry: its type and when a written value acts. -/
theorem findEntry_has {k : Nat} {t : Ty} {tk : Takes}
    (hf : (findEntry k).map (fun e => (e.ty, e.takes)) = some (t, tk)) :
    ∃ e, findEntry k = some e ∧ e.ty = t ∧ e.takes = tk := by
  cases h : findEntry k with
  | none => simp [h] at hf
  | some e => simp [h] at hf; exact ⟨e, rfl, hf.1, hf.2⟩

/-- An unsigned number that its entry holds reads back from its bytes. -/
theorem valOf_nat {e : EntryDef} {t : Ty} {v : Nat} (h : e.ty = t) (hu : t.signed = false ∧ t ≠ .domain ∧ t ≠ .str)
    (hv : v < 256 ^ t.size) : valOf e (leBytesI e.ty.size (v : Int)) = .n v := by
  subst h
  simp [valOf, hu, leNat_leBytesI _ _ hv]

/-- An accepted write of a natural to an unsigned entry that takes effect immediately. -/
theorem State.put_nat {s : State} {p : Prop} [Decidable p] {env : WriteEnv} {r : Req} {k v : Nat} {t : Ty} {tk : Takes}
    (hf : (findEntry k).map (fun e => (e.ty, e.takes)) = some (t, tk)) (ht : tk = .now ∨ actsNow k = true)
    (hu : t.signed = false ∧ t ≠ .domain ∧ t ≠ .str) (hv : v < 256 ^ t.size) (hp : p)
    (h : s.accepts env r k v = true) :
    s.put p env r k v = s.nextBoth
      ((Device.applyNum s.mem (s.dev.seeVpp env) env r k v).1,
       (Device.applyNum s.mem (s.dev.seeVpp env) env r k v).2.send (.result r k .ok)) := by
  obtain ⟨e, he, h1, h2⟩ := findEntry_has hf
  subst h2
  exact State.put_accepted hp h he (valOf_nat h1 hu hv) ht

/-- The same next state, where the memories stand. -/
theorem State.nextBoth_wrote {s : State} {r : Req} {k : Nat} {x : Memories × Device} {d : Device} (h : x = (s.mem, d)) :
    s.nextBoth (x.1, x.2.send (.result r k .ok)) = s.wrote r k d := by
  subst h; rfl

end Sys2Proof.Machine
end

