-- ==== Sys2Proof/Tests/Slice0.lean ====
section
/-! SUPPORT. Tests on small states, and for every statement with premises a witness: a concrete state and operands that meet
them. Expected results come from the spec's tables and worked examples, or were reckoned by hand from its rules. -/
namespace Sys2Proof.Tests
open Sys2Proof.Machine

set_option Elab.async false

/-! ### Operands -/

def goodQdp : QdpHdr := { srcIp := 1, srcPort := 1, session := 0 }
def badQdp : QdpHdr := { srcIp := 1, srcPort := 1, session := 65536 }
def goodQpt : QptHdr := { srcIp := 1, srcPort := 1, session := 0 }
def badQpt : QptHdr := { srcIp := 1, srcPort := 1, session := 0, stream := 256 }
def goodCsi : CsiHdr := { port := 3, vc := 3 }
def badCsi : CsiHdr := { port := 3, vc := 4 }
def goodHall : HallHdr := { port := 1 }
def badHall : HallHdr := { port := 2 }
def badRead : ReadItem := { index := 65536, sub := 0 }
def badItem : WriteItem := { index := 0, sub := 0, ty := 1, value := [256] }
def goodUsdo : UsdoReq := { write := true, index := 0x2400, sub := 9 }
def badUsdo : UsdoReq := { write := true, index := 0x2400, sub := 256 }
def goodEth : EthFrame := { dst := 1, src := 2 }
def badEth : EthFrame := { dst := 2 ^ 48, src := 2 }
def goodPantry : PantryReq := { addr := 0 }
def badPantry : PantryReq := { addr := 0, who := 5 }
def badBoot : BootArgs := { straps := [(0, 0)] }
def goodPm : PmRead := { word := 0 }
def badPm : PmRead := { word := 65536 }
def goodBox : MbHdr := { w := 3, slot := 7 }
def badBox : MbHdr := { w := 4, slot := 7 }
def badTrain : HallTrain := { peaking := [16] }

/-! ### States -/

/-- The device after boot with every domain and Porch port 0 on. -/
def ready : State := { State.reset with
  dev := (({ pwr := { phase := .steady } } : Device).setRegN Reg.DOMAIN_ON (2 ^ 57 - 1)).setReg Reg.PORCH_PORT_STATE 4 }

/-- `s` with the number `v` in force under the key `k`. -/
def withReg (s : State) (k : Nat) (v : Int) : State := { s with dev := s.dev.setReg k v }

def running : State := withReg ready Reg.PWR_STATE 0
def stopped : State := withReg running Reg.SCHED_STATE 2

/-- With group 0 within FIRE_SCOPE and ON, and in a drop test's DT_GROUPS. -/
def dropReady : State := withReg (withReg (withReg stopped Reg.FIRE_SCOPE 1) Reg.HG_STATE 4) Reg.DT_GROUPS 1

/-- TB0 has counted 1 ns, and the alarm is set for it. -/
def alarmDue : State :=
  let s := withReg ready Reg.WAKE_TB0_NS 1
  { s with dev := { s.dev with time := { tb0 := 2 ^ 32 } } }

/-- The web has moved by just WAKE_COUNTS, backwards. -/
def movedState : State :=
  let s := withReg ready Reg.WAKE_COUNTS 16
  { s with dev := { s.dev with pos := { p0 := { c := -16 } } } }

/-- A fuse supply is present. -/
def vppState : State := withReg ready Reg.FUSE_VPP_PRESENT 1

/-- One byte, 81h, for OEM_KEY_HASH's first. -/
def progOne : List Nat := withCheck ([112, 0, 1, 0, 0, 0, 0, 0] ++ [0x81])

/-- Parameter set 1 for frame 10 without sensor writes. -/
def pset1 : List Nat := withCheck ([0x51, 0x57, 1, 0] ++ leBytes 2 1 ++ [0, 0] ++ leBytes 4 10 ++ [0, 0, 0, 0] ++
  List.replicate 8 0 ++ leBytes 2 4096 ++ leBytes 2 4096 ++ leBytes 2 4096 ++ [0, 0] ++ List.replicate 18 0 ++ [0, 0])

/-- A frame of 14 bytes for port 0 at 1 s. -/
def launch1 : List Nat := withCheck (leBytes 8 1000000000 ++ leBytes 4 7 ++ [0, 0] ++ leBytes 2 14 ++ List.replicate 14 0xFF)

/-- A P-384 public key of a test key pair. -/
def imageKey : List Nat := (leBytes 97 0x040E2A6DEC9D2B66068F44D66230316468F879062B0062F6E64C81263EEF27C80980C2B9DDD0434C02BD5A3759B069920F6B9F3967B78CD7E64532A1961333DF2B0C0BB4935D975524971656187DC2513BE780A0A11B855499043962C35F90B308).reverse

/-- Its signature over the first 161 bytes of `houseImg`. -/
def imageSig : List Nat := (leBytes 96 0xCA983BE4AFA6C90737A309879B95CF56FEF60C979B3E43076334BC4802932581C5A2D5DBCB2D6470DDB2236E9460929E2B13D28E3DBB27936C53EF6F40597946BC65CC0A12495DF9A91C97F288DBA6399F58563D4EB8336A4C68AA1A2C0861AE).reverse

/-- SHA-384 of no bytes (FIPS 180-4). -/
def emptyHash : List Nat := (leBytes 48 0x38B060A751AC96384CD9327EB1B1E36A21FDB71114BE07434C0CC7BF63F6E1DA274EDEBFE76F65FBD51AD2F14898B95B).reverse

/-- SHA-384 of imageKey, reckoned outside the model. -/
def keyHash : List Nat := (leBytes 48 0x76A6C29DBAB9334948E3095AD88859F0317BBC16949BD42B41C01DCCB661158B038DA0251A3CC6947665788306F14416).reverse


/-- A house image without a body, VERSION 1, signed with Afiervo's key slot 0. -/
def houseImg : List Nat := [0x51, 0x49, 1, 0, 1, 0, 0, 0] ++ List.replicate 8 0 ++ emptyHash ++ imageKey ++ imageSig ++
  List.replicate 7 0

/-- The Foundation shadow holds that key's hash. -/
def keyedState : State := { ready with dev := { ready.dev with shadow := List.replicate 16 0 ++ keyHash } }


/-! ### Well-formed commands: an ill-formed term for each check, and one term of every constructor -/

theorem test_wf_refused_1 : ([
    .entryWrite (.mailbox 4) 0 0 0 [] {}, .entryWrite .device 65536 0 0 [] {}, .entryWrite .device 0 256 0 [] {},
    .entryWrite .device 0 0 256 [] {}, .entryWrite .device 0 0 0 [256] {}, .read (.qdp badQdp) [] none,
    .read (.qdp goodQdp) [badRead] none, .write (.qdp badQdp) [] {}, .write (.qdp goodQdp) [badItem] {},
    .domainReadStart (.qdp badQdp) 0 0 0, .domainReadStart (.qdp goodQdp) 65536 0 0,
    .domainReadStart (.qdp goodQdp) 0 256 0, .domainReadSeg (.qdp badQdp) 0 0 0,
    .domainReadSeg (.qdp goodQdp) (2 ^ 32) 0 0, .domainReadSeg (.qdp goodQdp) 0 (2 ^ 32) 0,
    .domainWriteStart (.qdp badQdp) 0 0 0 0 0 {}, .domainWriteStart (.qdp goodQdp) 65536 0 0 0 0 {},
    .domainWriteStart (.qdp goodQdp) 0 256 0 0 0 {}, .domainWriteStart (.qdp goodQdp) 0 0 0 (2 ^ 32) 0 {},
    .domainWriteStart (.qdp goodQdp) 0 0 0 0 (2 ^ 32) {}, .domainWriteSeg (.qdp badQdp) 0 0 0 [] {},
    .domainWriteSeg (.qdp goodQdp) (2 ^ 32) 0 0 [] {}, .domainWriteSeg (.qdp goodQdp) 0 0 0 [256] {},
    .domainAbort (.qdp badQdp), .domainIdleTimeout (.mailbox 4), .sessionOpen badQdp 0 true,
    .sessionOpen goodQdp 256 true, .sessionClose badQdp, .sessionTimeout (2 ^ 16), .auth badQdp [],
    .auth goodQdp [256], .challenge badQdp, .response badQdp [] [], .response goodQdp [256] [],
    .response goodQdp [] [256], .eventSubscribe badQdp 0 true, .eventSubscribe goodQdp 256 true, .eventAck badQdp 0,
    .eventAck goodQdp (2 ^ 32), .eventResend (2 ^ 16) 0, .eventResend 0 (2 ^ 32), .keepalive badQdp,
    .commitRequest (.mailbox 4), .commitCancel (.mailbox 4), .commitDiscard (.mailbox 4)
    ] : List Instr).all (fun c => c.wf == false) = true := by decide +kernel

theorem test_wf_refused_2 : ([
    .inForceSelWrite (.mailbox 4) 0, .inForceSelWrite .device (2 ^ 32), .inForceValueRead (.mailbox 4),
    .profileRequest (.mailbox 4) 0, .profileRequest .device 256, .nmtCommand 2 0 0, .nmtCommand 0 256 0,
    .nmtCommand 0 0 256, .heartbeat 2, .usdoTransfer 2 goodUsdo {}, .usdoTransfer 0 badUsdo {},
    .rpdoReceived 2 0 [] {}, .rpdoReceived 0 8 [] {}, .rpdoReceived 0 0 [256] {}, .tpdoTransmit 2 0 none,
    .tpdoTransmit 0 8 none, .encEdge 2 true true 0 {}, .speedStall 2 {}, .ssiFrameStart 2 true, .ssiFrameDone 2 0,
    .ssiFrameDone 0 (2 ^ 71), .index 2 0, .suspectClear (.mailbox 4) 0, .suspectClear .device 2,
    .refSourceWrite (.mailbox 4) 0, .refSourceWrite .device 256, .refAnchorCmd (.mailbox 4), .probeEdge 8 true 0,
    .ackSeq (.mailbox 4) 0 0, .ackSeq .device 8 0, .ackSeq .device 0 (2 ^ 32), .cmpArm (.mailbox 4) 0,
    .cmpArm .device 4, .cmpDisarm (.mailbox 4) 0, .cmpDisarm .device 4, .cmpFire 4, .cmpPulseEnd 4, .qoutStep 2,
    .qoutConfigWrite (.mailbox 4) 0 1 0, .qoutConfigWrite .device 2 1 0, .qoutConfigWrite .device 0 1 (2 ^ 32),
    .qoutConfigWrite .device 0 0 0, .strobeFire 192 0 0 {}, .strobeFire 0 (2 ^ 48) 0 {}, .strobeFire 0 0 4 {}
    ] : List Instr).all (fun c => c.wf == false) = true := by decide +kernel

theorem test_wf_refused_3 : ([
    .firePulseEnd 192, .latch 24 {}, .latPulseEnd 24, .shiftStart 24, .shiftDone 24, .spreadRecompute 24,
    .hgDisable (.mailbox 4) 0, .hgDisable .device 24, .hgEnable (.mailbox 4) 0, .hgEnable .device 24,
    .hgShutdownDone 24, .pollCycle 24 [], .pollCycle 0 (List.replicate 9 .nack), .headRecordRead 192 [] true,
    .headRecordRead 0 [256] true, .headAlert 24 0, .alertIdentified 24 0 true, .alertIdentified 0 128 true,
    .alertWindowEnd 24 true, .headMemWriteDone 192 [] true, .headMemWriteDone 0 [256] true,
    .headAccept (.mailbox 4) 0, .headAccept .device 192, .qptOpen badQpt, .qptData badQpt [], .qptData goodQpt [256],
    .qptRaw badQpt [], .qptRaw goodQpt [256], .qptDesc badQpt [], .qptClose badQpt, .creditIdle 16,
    .schedStop (.mailbox 4), .schedResume (.mailbox 4), .schedFlush (.mailbox 4), .histCaptureCmd (.mailbox 4),
    .roomRenderSlot 24, .checkpointDone 24, .nozzleMapWrite (.mailbox 4) 0 [], .nozzleMapWrite .device 192 [],
    .nozzleMapWrite .device 0 [256], .nozzleWordWrite (.mailbox 4) 0, .nozzleWordWrite .device (2 ^ 32),
    .intlkAsserted 12 true 0, .intlkCleared 12 true 0, .intlkAck (.mailbox 4) 0
    ] : List Instr).all (fun c => c.wf == false) = true := by decide +kernel

theorem test_wf_refused_4 : ([
    .intlkAck .device (2 ^ 16), .intlkRingReceived badHall 0 0 0 true 0, .intlkRingReceived goodHall 256 0 0 true 0,
    .intlkRingReceived goodHall 0 256 0 true 0, .intlkRingReceived goodHall 0 0 256 true 0,
    .intlkRingReceived goodHall 0 0 0 true (2 ^ 64), .thermActTimeout 192, .rotate 192, .tripAck (.mailbox 4) 0,
    .tripAck .device (2 ^ 32), .dtStart (.mailbox 4), .dtAbort (.mailbox 4), .testDrop 4, .gatePulse 4 0 0 true,
    .dtDropWindowEnd 4, .winPortDisable (.mailbox 4) 0, .winPortDisable .device 4, .winPortEnable (.mailbox 4) 0,
    .winPortEnable .device 4, .csiFrameStart badCsi [], .csiLine badCsi 0 true [], .csiLine goodCsi 64 true [],
    .csiLine goodCsi 0 true [65536], .csiFrameEnd badCsi, .frameTimeout 8, .trigArm (.mailbox 4) 0,
    .trigArm .device 4, .trigDisarm (.mailbox 4) 0, .trigDisarm .device 4, .trigPulse 4 [],
    .psetWrite (.mailbox 4) 0 [], .psetWrite .device 8 [], .psetWrite .device 0 [256], .calRun (.mailbox 4),
    .calAbort (.mailbox 4), .calRevert (.mailbox 4), .ainTrimWrite (.mailbox 4) 0 true 0,
    .ainTrimWrite .device 16 true 0, .ainTrimWrite .device 0 true 32768, .cellarFlushCmd (.mailbox 4),
    .cellarWriteDone [256], .profileSaveCmd (.mailbox 4), .roomStall 25, .roomMemoryError 25,
    .proofStart (.mailbox 4)
    ] : List Instr).all (fun c => c.wf == false) = true := by decide +kernel

theorem test_wf_refused_5 : ([
    .proofAbort (.mailbox 4), .faultAck (.mailbox 4) 0, .faultAck .device (2 ^ 32), .mirrorClearCmd (.mailbox 4),
    .loopSample 64 0, .loopSample 0 (2 ^ 16), .loopForceSafe (.mailbox 4) 0, .loopForceSafe .device 64,
    .loopRestore (.mailbox 4) 0, .loopRestore .device 64, .loopDisable (.mailbox 4) 0, .loopDisable .device 64,
    .loopEnable (.mailbox 4) 0, .loopEnable .device 64, .loopOff 64, .pwmPeriod 8, .rxFrame 2 0 0 goodEth,
    .rxFrame 0 4 0 goodEth, .rxFrame 0 0 0 badEth, .porchPortDisable (.mailbox 4) 0, .porchPortDisable .device 2,
    .porchPortEnable (.mailbox 4) 0, .porchPortEnable .device 2, .porchPortOff 2, .porchLinkUp 2 0, .porchLinkUp 0 4,
    .porchLinkDown 2 0, .porchLinkDown 0 4, .porchHoldTimeout 2, .porchHoldRetry 2, .fdbAge (2 ^ 48),
    .ptpSync 3 0 0 0 0 0, .ptpSync 0 2 0 0 0 0, .ptpMessage 3 0 (.pdelayReq 0), .ptpMessage 0 2 (.pdelayReq 0),
    .syncLoss 3, .tb3StepCmd (.mailbox 4), .launchSubmit (.mailbox 4) [], .launchSubmit .device [256],
    .launchCancel (.mailbox 4) 0, .launchCancel .device (2 ^ 32), .launch 2, .hallPortDisable (.mailbox 4) 0,
    .hallPortDisable .device 2, .hallPortEnable (.mailbox 4) 0
    ] : List Instr).all (fun c => c.wf == false) = true := by decide +kernel

theorem test_wf_refused_6 : ([
    .hallPortEnable .device 2, .hallPortOff 2, .hallTrainingStep 2 {}, .hallTrainingStep 0 badTrain,
    .hallTrainingRestart 2, .hallHoldTimeout 2, .hallHoldRetry 2, .edge badHall 0 0 0 0 0 {},
    .edge goodHall 0 (2 ^ 64) 0 0 0 {}, .edge goodHall 0 0 (2 ^ 16) 0 0 {}, .edge goodHall 0 0 0 (2 ^ 32) 0 {},
    .edge goodHall 0 0 0 0 256 {}, .sync badHall 0 0 0 0 0, .sync goodHall (2 ^ 64) 0 0 0 0,
    .sync goodHall 0 (2 ^ 16) 0 0 0, .sync goodHall 0 0 (2 ^ 32) 0 0, .grid badHall 0 0 1 1 0,
    .grid goodHall (2 ^ 64) 0 1 1 0, .grid goodHall 0 0 (2 ^ 32) 1 0, .grid goodHall 0 0 1 (2 ^ 32) 0,
    .grid goodHall 0 0 1 1 256, .grid goodHall 0 0 0 1 0, .grid goodHall 0 0 1 0 0, .cue badHall 0 0,
    .cue goodHall 0 (2 ^ 32), .commit badHall 0 0 0, .commit goodHall (2 ^ 32) 0 0, .commit goodHall 0 0 256,
    .commitAck badHall 0 0 0, .commitAck goodHall (2 ^ 32) 0 0, .commitAck goodHall 0 (2 ^ 32) 0,
    .commitAck goodHall 0 0 (2 ^ 32), .latProbe badHall 0 0 0, .latProbe goodHall (2 ^ 16) 0 0,
    .latProbe goodHall 0 (2 ^ 32) 0, .latProbeSend 2, .enum badHall 0 0 0 0, .enum goodHall 2 0 0 0,
    .enum goodHall 0 256 0 0, .enum goodHall 0 0 256 0, .enum goodHall 0 0 0 (2 ^ 32), .status badHall 0,
    .status goodHall (2 ^ 32), .stats badHall true 0 0 0 0 [], .stats goodHall true 8 0 0 0 []
    ] : List Instr).all (fun c => c.wf == false) = true := by decide +kernel

theorem test_wf_refused_7 : ([
    .stats goodHall true 0 (2 ^ 32) 0 0 [], .stats goodHall true 0 0 (2 ^ 32) 0 [],
    .stats goodHall true 0 0 0 (2 ^ 32) [], .stats goodHall true 0 0 0 0 [256], .bulk badHall 0 0 0 [],
    .bulk goodHall 256 0 0 [], .bulk goodHall 0 256 0 [], .bulk goodHall 0 0 256 [], .bulk goodHall 0 0 0 [256],
    .hallAck 2 0 0, .hallAck 0 4 0, .hallAck 0 0 (2 ^ 16), .hallNak 2 0, .hallNak 0 4, .replayTimeout 2 0,
    .replayTimeout 0 4, .h1Enter 2, .laneFail 2 0 0 0 true, .laneFail 0 6 0 0 true, .laneSwitch 2 0 0,
    .laneSwitch 0 5 0, .hallReset 2 true, .linkResetCmd (.mailbox 4) 0, .linkResetCmd .device 2,
    .prbsStart (.mailbox 4), .prbsStop (.mailbox 4) [], .pantryTransaction badPantry, .refresh 4, .mr4Read 4 0,
    .rhWindowEnd 4, .scrub [{ sector := 0, bits := [272] }], .dqsCheck 4 0, .engWatchdog 16,
    .engWorkshopTrap 4 0 none, .engWorkshopTrap 0 0 (some 256), .engSramEcc 16 0 true, .bulkSend badBox 3 0 0 0 [],
    .bulkSend goodBox 256 0 0 0 [], .bulkSend goodBox 3 256 0 0 [], .bulkSend goodBox 3 0 256 0 [],
    .bulkSend goodBox 3 0 0 0 [256], .bulkSend goodBox 4 0 0 0 [], .mbAck 4 0 [], .mbAck 0 256 [], .wdtKick 4
    ] : List Instr).all (fun c => c.wf == false) = true := by decide +kernel

theorem test_wf_refused_8 : ([
    .workshopRestart (.mailbox 4), .workshopHalt (.mailbox 4), .workshopImageWrite (.mailbox 4) [],
    .workshopImageWrite .device [256], .pwrRequestRun (.mailbox 4), .pwrRequestReady (.mailbox 4),
    .pwrRequestStandby (.mailbox 4), .pwrRequestNight (.mailbox 4), .powerRequest badHall 0 0 0,
    .powerRequest goodHall 256 0 0, .powerRequest goodHall 0 (2 ^ 32) 0, .powerRequest goodHall 0 0 256,
    .powerPrepared badHall 0 0 0 0, .powerPrepared goodHall 256 0 0 0, .powerPrepared goodHall 0 (2 ^ 32) 0 0,
    .powerPrepared goodHall 0 0 256 0, .powerPrepared goodHall 0 0 0 256, .powerGo badHall 0 0 0,
    .powerGo goodHall 256 0 0, .powerGo goodHall 0 (2 ^ 32) 0, .powerGo goodHall 0 0 256, .powerCancel badHall 0 0 0,
    .powerCancel goodHall 256 0 0, .powerCancel goodHall 0 (2 ^ 32) 0, .powerCancel goodHall 0 0 256,
    .powerAborted badHall 0 0 0 0, .powerAborted goodHall 256 0 0 0, .powerAborted goodHall 0 (2 ^ 32) 0 0,
    .powerAborted goodHall 0 0 256 0, .powerAborted goodHall 0 0 0 256, .powerExit badHall 0 0 0,
    .powerExit goodHall 256 0 0, .powerExit goodHall 0 (2 ^ 32) 0, .powerExit goodHall 0 0 256, .pwrRailFault 6 0,
    .pmbusPoll 6 true goodPm, .pmbusPoll 0 true badPm, .pwrTjHigh 0 8, .pwrTjShutdown 0 8,
    .deviceResetCmd (.mailbox 4), .subsysResetCmd (.mailbox 4) 0 {}, .subsysResetCmd .device 256 {},
    .bootStep badBoot, .houseImageWrite (.mailbox 4) [], .houseImageWrite .device [256]
    ] : List Instr).all (fun c => c.wf == false) = true := by decide +kernel

theorem test_wf_refused_9 : ([
    .foundationProgram (.mailbox 4) [] {}, .foundationProgram .device [256] {}, .clkPllUnlock 5 0, .bypass 256,
    .selftestStart (.mailbox 4), .selftestAbort (.mailbox 4), .loopbackStart (.mailbox 4), .alertNDeasserted 24 0,
    .trigPulseEnd 4, .ainMonConversion 16 0, .ainMonConversion 0 (2 ^ 16), .ptpDelayReqSend 3, .porchLanesTrained 2
    ] : List Instr).all (fun c => c.wf == false) = true := by decide +kernel

theorem test_wf_taken_1 : ([
    .entryWrite .device 0 0 0 [] {}, .read (.qdp goodQdp) [] none, .write (.qdp goodQdp) [] {},
    .domainReadStart (.qdp goodQdp) 0 0 0, .domainReadSeg (.qdp goodQdp) 0 0 0,
    .domainWriteStart (.qdp goodQdp) 0 0 0 0 0 {}, .domainWriteSeg (.qdp goodQdp) 0 0 0 [] {},
    .domainAbort (.qdp goodQdp), .domainIdleTimeout .device, .sessionOpen goodQdp 0 true, .sessionClose goodQdp,
    .sessionTimeout 0, .auth goodQdp [], .challenge goodQdp, .response goodQdp [] [], .lockoutEnd,
    .eventSubscribe goodQdp 0 true, .eventAck goodQdp 0, .eventResend 0 0, .keepalive goodQdp,
    .commitRequest .device, .commitCancel .device, .commitDiscard .device, .commitRingAckCheck,
    .inForceSelWrite .device 0, .inForceValueRead .device, .profileRequest .device 0, .nmtCommand 0 0 0,
    .heartbeat 0, .usdoTransfer 0 goodUsdo {}, .rpdoReceived 0 0 [] {}, .tpdoTransmit 0 0 none,
    .encEdge 0 true true 0 {}, .speedStall 0 {}, .ssiFrameStart 0 true, .ssiFrameDone 0 0, .index 0 0,
    .suspectClear .device 0, .refSourceWrite .device 0, .refAnchorCmd .device, .probeEdge 0 true 0,
    .ackSeq .device 0 0, .cmpArm .device 0, .cmpDisarm .device 0, .cmpFire 0
    ] : List Instr).all (fun c => c.wf == true) = true := by decide +kernel

theorem test_wf_taken_2 : ([
    .cmpPulseEnd 0, .qoutStep 0, .qoutConfigWrite .device 0 1 0, .kaCount true true 0, .lineEvent {}, .pageBind,
    .strobeFire 0 0 0 {}, .firePulseEnd 0, .latch 0 {}, .latPulseEnd 0, .shiftStart 0, .shiftDone 0,
    .spreadRecompute 0, .hgDisable .device 0, .hgEnable .device 0, .hgShutdownDone 0, .pollCycle 0 [],
    .headRecordRead 0 [] true, .headAlert 0 0, .alertIdentified 0 0 true, .alertWindowEnd 0 true,
    .headMemWriteDone 0 [] true, .headAccept .device 0, .qptOpen goodQpt, .qptData goodQpt [], .qptRaw goodQpt [],
    .qptDesc goodQpt [], .qptClose goodQpt, .creditIdle 0, .pageNotReady, .schedStop .device, .schedResume .device,
    .schedFlush .device, .histCaptureCmd .device, .roomRenderSlot 0, .checkpointDone 0, .nozzleMapWrite .device 0 [],
    .nozzleWordWrite .device 0, .intlkAsserted 0 true 0, .intlkCleared 0 true 0, .intlkAck .device 0,
    .intlkRingReceived goodHall 0 0 0 true 0, .thermActTimeout 0, .rotate 0, .tripAck .device 0
    ] : List Instr).all (fun c => c.wf == true) = true := by decide +kernel

theorem test_wf_taken_3 : ([
    .dtStart .device, .dtAbort .device, .testDrop 0, .gatePulse 0 0 0 true, .dtDropWindowEnd 0, .dtGatedTimeout,
    .winPortDisable .device 0, .winPortEnable .device 0, .csiFrameStart goodCsi [], .csiLine goodCsi 0 true [],
    .csiFrameEnd goodCsi, .frameTimeout 0, .trigArm .device 0, .trigDisarm .device 0, .trigPulse 0 [],
    .psetWrite .device 0 [], .pipeStep, .calRun .device, .calAbort .device, .calRevert .device, .densApply,
    .regApply, .ainTrimWrite .device 0 true 0, .cellarFlushCmd .device, .cellarWrite, .cellarWriteDone [],
    .profileSaveCmd .device, .shadowCheck none none, .shadowRecompute none none, .shadowReferee none, .roomStall 0,
    .roomMemoryError 0, .proofStart .device, .proofAbort .device, .proofDone {}, .faultAck .device 0,
    .mirrorClearCmd .device, .loopSample 0 0, .loopForceSafe .device 0, .loopRestore .device 0,
    .loopDisable .device 0, .loopEnable .device 0, .loopOff 0, .pwmPeriod 0, .rxFrame 0 0 0 goodEth
    ] : List Instr).all (fun c => c.wf == true) = true := by decide +kernel

theorem test_wf_taken_4 : ([
    .porchPortDisable .device 0, .porchPortEnable .device 0, .porchPortOff 0, .porchLinkUp 0 0, .porchLinkDown 0 0,
    .porchHoldTimeout 0, .porchHoldRetry 0, .fdbAge 0, .ptpSync 0 0 0 0 0 0, .ptpMessage 0 0 (.pdelayReq 0),
    .syncLoss 0, .tb3Update, .tb3StepCmd .device, .launchSubmit .device [], .launchCancel .device 0, .launch 0,
    .hallPortDisable .device 0, .hallPortEnable .device 0, .hallPortOff 0, .hallTrainingStep 0 {},
    .hallTrainingRestart 0, .hallHoldTimeout 0, .hallHoldRetry 0, .edge goodHall 0 0 0 0 0 {}, .edgeSend,
    .sync goodHall 0 0 0 0 0, .syncSend, .grid goodHall 0 0 1 1 0, .gridSend, .cue goodHall 0 0,
    .commit goodHall 0 0 0, .commitAck goodHall 0 0 0, .latProbe goodHall 0 0 0, .latProbeSend 0,
    .enum goodHall 0 0 0 0, .enumTimeout 0, .status goodHall 0, .statusSend, .stats goodHall true 0 0 0 0 [],
    .bulk goodHall 0 0 0 [], .hallAck 0 0 0, .hallNak 0 0, .replayTimeout 0 0, .h1Enter 0, .laneFail 0 0 0 0 true
    ] : List Instr).all (fun c => c.wf == true) = true := by decide +kernel

theorem test_wf_taken_5 : ([
    .laneSwitch 0 0 0, .hallReset 0 true, .linkResetCmd .device 0, .coastTimeout, .prbsStart .device,
    .prbsStop .device [], .pantryTransaction goodPantry, .panicStart 0, .panicEnd 0 0, .refresh 0, .mr4Read 0 0,
    .rhWindowEnd 0, .scrub [], .dqsCheck 0 0, .engWatchdog 0, .engWorkshopTrap 0 0 none, .engSramEcc 0 0 true,
    .bulkSend goodBox 3 0 0 0 [], .mbAck 0 0 [], .wdtKick 0, .workshopRestart .device, .workshopHalt .device,
    .workshopImageWrite .device [], .pwrRequestRun .device, .pwrRequestReady .device, .pwrRequestStandby .device,
    .pwrRequestNight .device, .sleepNFall, .sleepRequestSample, .pwrStepDone [], .wake true, .wakeTb0Alarm,
    .wakePos0Movement, .powerRequest goodHall 0 0 0, .powerPrepared goodHall 0 0 0 0, .powerGo goodHall 0 0 0,
    .powerCancel goodHall 0 0 0, .powerAborted goodHall 0 0 0 0, .powerExit goodHall 0 0 0, .ringPowerTimeout,
    .pwrRailFault 0 0, .railRetry, .pwrVbarLow 0, .pwrAonBrownout, .pmbusPoll 0 true goodPm
    ] : List Instr).all (fun c => c.wf == true) = true := by decide +kernel

theorem test_wf_taken_6 : ([
    .pwrTjHigh 0 0, .pwrTjShutdown 0 0, .powerOn, .resetNAssert 0, .resetNRelease, .deviceResetCmd .device,
    .subsysResetCmd .device 0 {}, .bootStep {}, .bootRetry, .bootRomRelease, .houseImageWrite .device [],
    .foundationProgram .device [] {}, .clkRefLost, .clkPllUnlock 0 0, .clkLaneRefLost 0, .laneRefRestored,
    .testLogicReset, .idcode, .sample [], .preload [] [], .extest [] [], .extestPulse [] [] [],
    .extestTrain [] [] [], .clamp, .highz, .bypass 0, .selftestStart .device, .selftestAbort .device,
    .selftestDone {}, .loopbackStart .device, .loopbackDone {}, .alertNDeasserted 0 0, .trigPulseEnd 0,
    .ainMonConversion 0 0, .ptpDelayReqSend 0, .porchLanesTrained 0
    ] : List Instr).all (fun c => c.wf == true) = true := by decide +kernel

/-! ### Witnesses of the completion statements -/

/-- Operands that meet the premises of the clauses of Obligations.DictionaryCommandsComplete. -/
theorem test_met_dictionaryCommandsComplete :
    ready.dev.served = true ∧
    ready.accepts {} .device Reg.COMMIT_CMD 1 = true ∧
    ready.accepts {} .device Reg.COMMIT_CMD 2 = true ∧
    ready.accepts {} .device Reg.COMMIT_CMD 3 = true ∧
    (0x10000000) < 2 ^ 32 ∧
    ready.accepts {} .device Reg.IN_FORCE_SEL (0x10000000) = true ∧
    7 < 256 ∧
    ready.accepts {} .device Reg.PROFILE_REQUEST 7 = true ∧
    ready.dev.domainOn 53 = true ∧
    (goodHall).port < 2 := by
  decide +kernel

/-- Operands that meet the premises of the clauses of Obligations.PositionCommandsComplete. -/
theorem test_met_positionCommandsComplete :
    ready.dev.domainOn 56 = true ∧
    1 < 2 ∧
    ready.accepts {} .device (Reg.un Reg.SUSPECT_CLEAR 1) 1 = true ∧
    2 < 256 ∧
    ready.accepts {} .device Reg.REF_SOURCE 2 = true ∧
    ready.accepts {} .device Reg.REF_ANCHOR_CMD 1 = true ∧
    7 < 8 ∧
    (2 ^ 32 - 1) < 2 ^ 32 ∧
    ready.accepts {} .device (Reg.un Reg.ACK_SEQ 7) (2 ^ 32 - 1) = true ∧
    3 < 4 ∧
    ready.accepts {} .device (Reg.un Reg.CMP_ARM 3) 1 = true ∧
    ready.accepts {} .device (Reg.un Reg.CMP_ARM 3) 2 = true ∧
    1 ≤ 1 ∧
    1 ≤ 3 ∧
    1 < 2 ^ (if 1 = 1 then 8 else 32) ∧
    ready.accepts {} .device (0x239000 + 256 * 1 + 1) 1 = true := by
  decide +kernel

/-- Operands that meet the premises of the clauses of Obligations.MantelAndHeadCommandsComplete. -/
theorem test_met_mantelAndHeadCommandsComplete :
    ready.dev.domainOn 56 = true ∧
    ready.dev.engUp 2 = true ∧
    191 < 192 ∧
    23 < 24 ∧
    ready.dev.domainOn (27 + 23) = true ∧
    ready.dev.domainOn 27 = true ∧
    ready.accepts {} .device Reg.HG_ENABLE (clrBit (ready.dev.regN Reg.HG_ENABLE) 23 : Nat) = true ∧
    clrBit (ready.dev.regN Reg.HG_ENABLE) 23 < 2 ^ 32 ∧
    ready.accepts {} .device Reg.HG_ENABLE (setBit (ready.dev.regN Reg.HG_ENABLE) 23 : Nat) = true ∧
    setBit (ready.dev.regN Reg.HG_ENABLE) 23 < 2 ^ 32 ∧
    ready.dev.domainOn (27 + 191 / 8) = true ∧
    ready.accepts {} .device (Reg.HEAD_ACCEPT + 191) 1 = true := by
  decide +kernel

/-- Operands that meet the premises of the clauses of Obligations.PageAndRoomCommandsComplete. -/
theorem test_met_pageAndRoomCommandsComplete_1 :
    ready.dev.firmware = true ∧
    ready.dev.engUp 1 = true ∧
    ready.dev.rxOpen (goodQpt).rx = true ∧
    15 < 16 ∧
    ready.dev.domainOn 56 = true ∧
    ready.dev.engUp 2 = true ∧
    ready.accepts {} .device Reg.SCHED_CMD 1 = true ∧
    running.accepts {} .device Reg.SCHED_CMD 2 = true ∧
    stopped.accepts {} .device Reg.SCHED_CMD 3 = true ∧
    ready.accepts {} .device Reg.HIST_CAPTURE_CMD 1 = true ∧
    23 < 24 ∧
    ready.dev.renderOn 23 = true ∧
    191 < 192 ∧
    ready.acceptsBytes {} .device (Reg.NOZZLE_MAP + 191) [] = true ∧
    (0x00FF8100) < 2 ^ 32 ∧
    ready.accepts {} .device Reg.NOZZLE_WORD (0x00FF8100) = true ∧
    ready.dev.domainOn 26 = true ∧
    24 ≤ 24 ∧
    unitOn 24 ready.dev = true ∧
    (withReg ready Reg.ROOMS_SPARE_STATE 2).accepts {} .device Reg.PROOF_CMD 1 = true := by
  decide +kernel

/-- Operands that meet the premises of the clauses of Obligations.PageAndRoomCommandsComplete. -/
theorem test_met_pageAndRoomCommandsComplete_2 :
    ready.accepts {} .device Reg.PROOF_CMD 2 = true ∧
    ready.dev.served = true ∧
    0 < 2 ^ 32 ∧
    ready.accepts {} .device Reg.FAULT_ACK 0 = true ∧
    ready.accepts {} .device Reg.MIRROR_CLEAR_CMD 1 = true := by
  decide +kernel

/-- Operands that meet the premises of the clauses of Obligations.ProtectionAndLoopCommandsComplete. -/
theorem test_met_protectionAndLoopCommandsComplete_1 :
    ready.dev.domainOn (27 + 23) = true ∧
    23 < 24 ∧
    ready.dev.domainOn 56 = true ∧
    11 < 12 ∧
    4095 < 2 ^ 16 ∧
    ready.accepts {} .device Reg.INTLK_ACK 4095 = true ∧
    ready.dev.domainOn 53 = true ∧
    (goodHall).port < 2 ∧
    191 < 192 ∧
    (2 ^ 24 - 1) < 2 ^ 32 ∧
    ready.accepts {} .device Reg.TRIP_ACK (2 ^ 24 - 1) = true ∧
    dropReady.accepts {} .device Reg.DT_CMD 1 = true ∧
    ready.accepts {} .device Reg.DT_CMD 2 = true ∧
    ready.dev.engUp 10 = true ∧
    3 < 4 ∧
    ready.dev.domainOn 55 = true ∧
    63 < 64 ∧
    ready.accepts {} .device (Reg.un Reg.LOOP_LOOP_CMD 63) 1 = true ∧
    ready.accepts {} .device (Reg.un Reg.LOOP_LOOP_CMD 63) 2 = true ∧
    ready.accepts {} .device (Reg.un Reg.LOOP_ENABLE 63) 0 = true := by
  decide +kernel

/-- Operands that meet the premises of the clauses of Obligations.ProtectionAndLoopCommandsComplete. -/
theorem test_met_protectionAndLoopCommandsComplete_2 :
    (withReg ready (Reg.un Reg.SRC_KIND 63) 1).accepts {} .device (Reg.un Reg.LOOP_ENABLE 63) 1 = true ∧
    7 < 8 ∧
    15 < 16 := by
  decide +kernel

/-- Operands that meet the premises of the clauses of Obligations.WindowAndCalibrationCommandsComplete. -/
theorem test_met_windowAndCalibrationCommandsComplete_1 :
    ready.dev.domainOn 54 = true ∧
    3 < 4 ∧
    ready.accepts {} .device (Reg.WIN_PORT_ENABLE + 3) 0 = true ∧
    ready.accepts {} .device (Reg.WIN_PORT_ENABLE + 3) 1 = true ∧
    (goodCsi).port < 4 ∧
    7 < 8 ∧
    ready.accepts {} .device (Reg.TRIG_ARM + 3) 1 = true ∧
    ready.accepts {} .device (Reg.TRIG_ARM + 3) 2 = true ∧
    ready.acceptsBytes {} .device (Reg.PSET + 7) pset1 = true ∧
    ready.accepts {} .device Reg.CAL_CMD 1 = true ∧
    ready.accepts {} .device Reg.CAL_CMD 2 = true ∧
    ready.accepts {} .device Reg.CAL_CMD 3 = true ∧
    ready.dev.firmware = true ∧
    ready.dev.engUp 5 = true ∧
    15 < 16 ∧
    -(2 ^ 15) ≤ (-256) ∧
    (-256) < 2 ^ 15 ∧
    ready.accepts {} .device ((if true then Reg.AIN_TRIM_OFFSET else Reg.AIN_TRIM_GAIN) + 15) (-256) = true ∧
    ready.accepts {} .device Reg.CELLAR_FLUSH_CMD 1 = true ∧
    ready.dev.cellarRuns = true := by
  decide +kernel

/-- Operands that meet the premises of the clauses of Obligations.WindowAndCalibrationCommandsComplete. -/
theorem test_met_windowAndCalibrationCommandsComplete_2 :
    ready.dev.served = true ∧
    ready.accepts {} .device Reg.PROFILE_SAVE_CMD 1 = true := by
  decide +kernel

/-- Operands that meet the premises of the clauses of Obligations.PorchAndTimeCommandsComplete. -/
theorem test_met_porchAndTimeCommandsComplete :
    ready.dev.domainOn 52 = true ∧
    1 < 2 ∧
    3 < 4 ∧
    ready.accepts {} .device (Reg.un Reg.PORCH_PORT_ENABLE 1) 0 = true ∧
    ready.accepts {} .device (Reg.un Reg.PORCH_PORT_ENABLE 1) 1 = true ∧
    ready.dev.engUp 11 = true ∧
    ready.accepts {} .device Reg.TB3_STEP_CMD 1 = true ∧
    (withReg ready Reg.PORCH_PORT_STATE 4).acceptsBytes {} .device Reg.LAUNCH_SUBMIT launch1 = true ∧
    (2 ^ 32 - 1) < 2 ^ 32 ∧
    ready.accepts {} .device Reg.LAUNCH_CANCEL (2 ^ 32 - 1) = true := by
  decide +kernel

/-- Operands that meet the premises of the clauses of Obligations.HallwayCommandsComplete. -/
theorem test_met_hallwayCommandsComplete :
    1 < 2 ∧
    ready.accepts {} .device (hallKey Reg.HALL_PORT_ENABLE 1) 0 = true ∧
    ready.accepts {} .device (hallKey Reg.HALL_PORT_ENABLE 1) 1 = true ∧
    ready.dev.domainOn 53 = true ∧
    (goodHall).port < 2 ∧
    1 ≠ 0 ∧
    7 < 8 ∧
    ready.accepts {} .device (hallKey Reg.LINK_RESET_CMD 1) 1 = true ∧
    stopped.accepts {} .device Reg.PRBS_CMD 1 = true ∧
    ready.accepts { rx := [] } .device Reg.PRBS_CMD 2 = true := by
  decide +kernel

/-- Operands that meet the premises of the clauses of Obligations.PantryAndEngineCommandsComplete. -/
theorem test_met_pantryAndEngineCommandsComplete :
    ready.dev.domainOn 53 = true ∧
    (goodHall).port < 2 ∧
    ready.dev.domainOn 51 = true ∧
    3 < 4 ∧
    ready.dev.domainOn 1 = true ∧
    15 < 16 ∧
    (goodBox).w < 4 ∧
    ready.accepts {} .device Reg.WORKSHOP_CMD 1 = true ∧
    ready.accepts {} .device Reg.WORKSHOP_CMD 2 = true ∧
    ready.acceptsBytes {} .device Reg.WORKSHOP_IMAGE [] = true := by
  decide +kernel

/-- Operands that meet the premises of the clauses of Obligations.PowerCommandsComplete. -/
theorem test_met_powerCommandsComplete :
    ready.accepts {} .device Reg.PWR_REQUEST 0 = true ∧
    ready.accepts {} .device Reg.PWR_REQUEST 1 = true ∧
    ready.accepts {} .device Reg.PWR_REQUEST 2 = true ∧
    ready.accepts {} .device Reg.PWR_REQUEST 3 = true ∧
    alarmDue.dev.tb0Alarm = true ∧
    movedState.dev.moved = true ∧
    ready.dev.domainOn 53 = true ∧
    (goodHall).port < 2 ∧
    ready.dev.served = true ∧
    5 < 6 ∧
    7 < 8 := by
  decide +kernel

/-- Operands that meet the premises of the clauses of Obligations.ResetClockAndTestCommandsComplete. -/
theorem test_met_resetClockAndTestCommandsComplete :
    ready.accepts {} .device Reg.DEVICE_RESET_CMD 1 = true ∧
    (0x2F) < 256 ∧
    ready.accepts ({} : WriteEnv) .device Reg.SUBSYS_RESET_CMD (0x2F) = true ∧
    keyedState.acceptsBytes {} .device Reg.HOUSE_IMAGE houseImg = true ∧
    vppState.acceptsBytes ({} : WriteEnv) .device Reg.FOUNDATION_PROGRAM progOne = true ∧
    tapOp (255 % 256) = .bypass ∧
    (withReg ready Reg.ROOM_STATE 1).accepts {} .device Reg.SELFTEST_CMD 1 = true ∧
    ready.accepts {} .device Reg.SELFTEST_CMD 2 = true ∧
    ready.dev.served = true ∧
    ready.accepts {} .device Reg.LB_LOOP_CMD 1 = true := by
  decide +kernel

/-! ### Witnesses of the other statements -/

/-- `p` holds of the entry that the key names. -/
def entryAt (k : Nat) (p : EntryDef → Bool) : Bool :=
  match placeOf k with
  | .entry e => p e
  | _ => false

/-- What a command leaves. -/
def after (c : Instr) (s : State) : State :=
  match exec c s with
  | .next t => t
  | _ => s

/-- Session 5 open at address 1, with the last datagram at ENC cycle 0. -/
def sess5 : Session := { num := 5, ip := 1, port := 1 }
def withSessions (s : State) (l : List Session) : State :=
  { s with dev := { s.dev with dict := { s.dev.dict with sessions := l } } }
def hdr5 (n seq : Nat) (len : Nat) : QdpHdr :=
  { srcIp := 1, srcPort := 1, session := 5, seq := seq, count := n, payloadLen := len, arrivedLen := len }
def openHdr : QdpHdr := { srcIp := 1, srcPort := 1, session := 0, payloadLen := 4, arrivedLen := 4 }
def atTime (s : State) (t : Nat) : State := { s with dev := { s.dev with now := t } }

theorem test_met_stepExecutesTheFrontCommand :
    (State.withPending ready [.lineEvent {}, .pageBind]).pending = .lineEvent {} :: [.pageBind] := rfl

theorem test_met_emptyQueuePassesOneCycle :
    (atTime ready 1).pending = [] ∧ (atTime ready 1).dev.boot.resetAt = none ∧ (atTime ready 1).tick.dev.firmware = true := by
  decide +kernel

theorem test_met_stepKeepsSoundAndBlownFuses :
    (State.withPending ready [.lineEvent {}]).Sound ∧
    ∃ t, step (State.withPending ready [.lineEvent {}]) = .next t :=
  ⟨(by decide +kernel : (State.withPending ready [.lineEvent {}]).mem.wf = true), _, rfl⟩

theorem test_met_otherCommandsKeepTheMemories :
    changesMemory (.lineEvent {}) = false ∧ ∃ t, exec (.lineEvent {}) ready = .next t :=
  ⟨rfl, _, rfl⟩

theorem test_met_absentAddressesAreRefused :
    ready.dev.served = true ∧ indexListed 0 = false ∧ indexListed 65535 = false ∧ indexListed 0x2380 = true ∧
    highestSub 0x2380 < highestSub 0x2380 + 1 ∧ highestSub 0x2380 < 255 ∧ findEntry (0x2380 * 256) = none := by
  decide +kernel

/-- COUNT is read-only, CASC_ROLE's fuse-locked kin FIRE_SCOPE too; a session without AUTH may not write LINE_NUM; the
device may, as U32 of 4 bytes. -/
theorem test_met_refusedEntryWriteLeavesEverything :
    ready.dev.served = true ∧
    ready.dev.writeCheck ready.mem .device Reg.GLC 4 [0, 0, 0, 0, 0, 0, 0, 0] ≠ .ok ∧
    entryAt Reg.GLC (fun e => e.acc == .ro) = true ∧ entryAt Reg.FIRE_SCOPE (fun e => e.acc == .ro || e.fuse) = true ∧
    entryAt Reg.LINE_NUM (fun e => e.acc != .ro && !e.fuse &&
      !((ready.dev.reqLevel (.session 0)).holds (writeLevel Reg.LINE_NUM e))) = true ∧
    entryAt Reg.LINE_NUM (fun e => e.acc != .ro && !e.fuse && (ready.dev.reqLevel .device).holds (writeLevel Reg.LINE_NUM e) &&
      !(isMailbox .device) && e.ty != .domain && e.ty != .str && decide ((3, 4) = (e.ty.code, e.ty.size)) &&
      decide (4 ≠ e.ty.code) && decide ((leBytes 2 1).length ≠ e.ty.size)) = true := by
  decide +kernel

/-- An "at commit" and an "at reset" entry. -/
theorem test_met_waitingWriteReadsBack :
    ready.dev.served = true ∧ ready.dev.settled = true ∧ actsNow Reg.LINE_NUM = false ∧ actsNow Reg.QDP_UDP_PORT = false ∧
    entryAt Reg.LINE_NUM (fun e => decide (e.takes = .atCommit) && decide ((ready.dev.seeVpp {}).writeCheck ready.mem
      .device Reg.LINE_NUM e.ty.code (leBytes 4 1040385) = .ok)) = true ∧
    entryAt Reg.QDP_UDP_PORT (fun e => decide (e.takes = .atReset) && decide ((ready.dev.seeVpp {}).writeCheck ready.mem
      .device Reg.QDP_UDP_PORT e.ty.code (leBytes 2 65535) = .ok)) = true ∧
    Reg.LINE_NUM ∉ [Reg.WORKSHOP_IMAGE, Reg.HOUSE_IMAGE, Reg.FOUNDATION_PROGRAM] := by
  decide +kernel

/-- A WRITE by session 5 of LINE_NUM, which needs OPERATOR, and of an absent entry. -/
def badItems : List WriteItem := [{ index := 0x2400, sub := 2, ty := 3, value := leBytes 4 1040385 },
  { index := 0xFFFF, sub := 0, ty := 1, value := [0] }]

theorem test_met_writeDatagramIsAllOrNothing :
    ((withSessions ready [sess5]).dev.viaIn (.qdp (hdr5 2 0 24)) 2 (some badItems.length)
      ((badItems.map (fun it => 8 + padLen it.value.length)).foldl (· + ·) 0)).2 = some .ok ∧
    (∃ c ∈ (Device.writeItems {} (.session 5) ready.mem
      ((withSessions ready [sess5]).dev.viaIn (.qdp (hdr5 2 0 24)) 2 (some badItems.length) 24).1 badItems).2.2.map Prod.fst,
      c ≠ .ok) ∧
    ({ ready with dev := ready.dev.setShop 3 { on := true } }.dev.viaIn (.mailbox { w := 3, slot := 7, count := 2, payloadLen := 24 }) 2
      (some badItems.length) 24).2 = some .ok := by
  decide +kernel

theorem test_met_sessionOpenTakesTheNextFreeNumber :
    ready.dev.served = true ∧ ready.dev.quietV4 openHdr.srcIp = false ∧ qdpSound openHdr = true ∧ openHdr.session = 0 ∧
    openHdr.rx < 8 ∧ ready.dev.rxOpen openHdr.rx = true ∧ ready.dev.dict.sessions.length < 8 ∧
    openHdr.payloadLen = 4 ∧ 4 ≤ ready.dev.regN Reg.QDP_MAX_PAYLOAD_BYTES ∧
    (withSessions ready (List.replicate 7 sess5)).dev.dict.sessions.length < 8 ∧
    8 ≤ (withSessions ready (List.replicate 8 sess5)).dev.dict.sessions.length := by
  decide +kernel

/-- Session 5 with its OPERATOR nonce outstanding. -/
def nonce5 : State := withSessions ready [{ sess5 with opNonce := some (List.replicate 16 7) }]
def mac5 : List Nat := (hmac256 (ready.dev.blob Reg.OPERATOR_KEY) (List.replicate 16 7 ++ leBytes 2 5)).take 16

theorem test_met_authenticationDecidesTheLevel :
    (nonce5.dev.qdpIn (hdr5 0 0 16) 0x12 none 16).2 = some .ok ∧ mac5.length = 16 ∧
    (nonce5.dev.qdpIn (hdr5 0 0 16) 0x12 none 16).1.lockedOut = false ∧
    (((nonce5.dev.qdpIn (hdr5 0 0 16) 0x12 none 16).1.session? 5).bind Session.opNonce) = some (List.replicate 16 7) ∧
    List.replicate 16 0 ≠ mac5 ∧
    mac5 = (hmac256 ((nonce5.dev.qdpIn (hdr5 0 0 16) 0x12 none 16).1.blob Reg.OPERATOR_KEY)
      (List.replicate 16 7 ++ leBytes 2 5)).take 16 := by
  decide +kernel

/-- A lockout holds. -/
def lockedState (l : List Session) : State :=
  let s := withSessions ready l
  { s with dev := { s.dev with dict := { s.dev.dict with lockedAt := some 0 } } }

theorem test_met_lockoutRefusesEveryAuthentication :
    ((lockedState []).dev.qdpIn openHdr 0x10 none 4).2 = some .ok ∧
    ((lockedState []).dev.qdpIn openHdr 0x10 none 4).1.lockedOut = true ∧
    ((lockedState [sess5]).dev.qdpIn (hdr5 0 0 16) 0x12 none 16).2 = some .ok ∧
    ((lockedState [sess5]).dev.qdpIn (hdr5 0 0 0) 0x13 none 0).2 = some .ok ∧
    ((lockedState [sess5]).dev.qdpIn (hdr5 0 0 193) 0x14 none 193).2 = some .ok ∧
    (((lockedState [sess5]).dev.qdpIn (hdr5 0 0 193) 0x14 none 193).1.session? 5).isSome = true ∧
    ((lockedState [sess5]).dev.qdpIn (hdr5 0 0 193) 0x14 none 193).1.lockedOut = true := by
  decide +kernel

theorem test_met_sessionsCloseWhenIdle :
    ready.dev.served = true ∧ ready.dev.settled = true ∧ ready.dev.session? 5 = none ∧
    ((withSessions ready [sess5]).dev.session? 5) = some sess5 ∧
    0 + ready.dev.regN Reg.SESSION_TIMEOUT_MS * 400000 ≤
      (atTime ready (ready.dev.regN Reg.SESSION_TIMEOUT_MS * 400000)).dev.now ∧
    (atTime ready (ready.dev.regN Reg.SESSION_TIMEOUT_MS * 400000 - 1)).dev.now <
      0 + ready.dev.regN Reg.SESSION_TIMEOUT_MS * 400000 := by
  decide +kernel

theorem test_met_commitSealsCancelsAndDiscards :
    ready.dev.ringCommits = false ∧ ready.dev.settled = true ∧ ready.accepts {} .device Reg.COMMIT_CMD 1 = true ∧
    ready.accepts {} .device Reg.COMMIT_CMD 2 = true ∧ ready.accepts {} .device Reg.COMMIT_CMD 3 = true ∧
    ready.dev.dict.sealed = none ∧
    (after (.commitRequest .device) ready).accepts {} .device Reg.COMMIT_CMD 2 = true ∧
    (after (.commitRequest .device) ready).dev.dict.sealed.isSome = true := by
  decide +kernel

theorem test_met_encoderEdgeMovesOnlyItsCount :
    let s := atTime (withReg ready (Reg.un Reg.INC_MODE 1) 1) 100
    let edged : State := { s with dev := { s.dev with pos := { p1 := { aAt := some 0, a := true } } } }
    let need := s.dev.regN (Reg.un Reg.POS_FILTER_CYCLES 1) + 1
    s.dev.domainOn 56 = true ∧ 1 < 2 ∧ s.dev.regN (Reg.un Reg.INC_MODE 1) = 1 ∧ 0 < need ∧ need - 1 < need ∧
    (s.dev.posCh 1).aAt = none ∧ (s.dev.posCh 1).bAt = none ∧
    edged.dev.domainOn 56 = true ∧ edged.dev.regN (Reg.un Reg.INC_MODE 1) = 1 ∧
    (edged.dev.posCh 1).aAt = some 0 ∧ (edged.dev.posCh 1).bAt = none ∧ 0 + need ≤ edged.dev.now ∧
    (after (.encEdge 1 true false need {}) s).dev.pos.p1.c = 1 ∧ (after (.encEdge 1 true false (need - 1) {}) s).dev.pos.p1.c = 0 ∧
    (after (.encEdge 1 false false need {}) edged).dev.pos.p1.c = -1 := by
  decide +kernel

/-- A latch with every field at the end of its range. -/
def edgeLatch : Latch :=
  { stamp := { pt := -(2 ^ 63), glc := 2 ^ 48 - 1, tb3 := 2 ^ 64 - 1, frac := 65535 }, input := 7, seq := 2 ^ 32 - 1,
    stalled := true, suspect := true, rising := true }

theorem test_met_latchRecordLayout :
    -(2 ^ 63) ≤ edgeLatch.stamp.pt ∧ edgeLatch.stamp.pt < 2 ^ 63 ∧ edgeLatch.stamp.glc < 2 ^ 48 ∧
    edgeLatch.stamp.tb3 < 2 ^ 64 ∧ edgeLatch.stamp.frac < 2 ^ 16 ∧ edgeLatch.input < 8 ∧ edgeLatch.seq < 2 ^ 32 ∧
    toSigned 64 (fieldAt (latchBytes edgeLatch) 0 8) = -(2 ^ 63) := by
  decide +kernel

/-- Compare output 3 in single mode with its target one above PT, and at PT. -/
def cmpState (t : Int) : State := withReg (withReg ready (Reg.un Reg.CMP_MODE 3) 1) (Reg.un Reg.CMP_PT 3) t

theorem test_met_compareArmsAheadOrMisses :
    (cmpState 1).dev.settled = true ∧ (cmpState 1).accepts {} .device (Reg.un Reg.CMP_ARM 3) 1 = true ∧
    (cmpState 1).dev.regN (Reg.un Reg.CMP_MODE 3) = 1 ∧ (cmpState 1).dev.pt < (cmpState 1).dev.reg (Reg.un Reg.CMP_PT 3) ∧
    (cmpState 0).accepts {} .device (Reg.un Reg.CMP_ARM 3) 1 = true ∧
    (cmpState 0).dev.reg (Reg.un Reg.CMP_PT 3) ≤ (cmpState 0).dev.pt ∧
    ready.accepts {} .device (Reg.un Reg.CMP_ARM 3) 2 = true := by
  decide +kernel

theorem test_met_gridBoundariesFollowThePitch :
    let g : GridSeg := { go := 0, po := 0, num := 4, den := 1 }
    1 ≤ g.den ∧ 4 * g.den ≤ g.num := by
  decide

theorem test_met_gatedChannelFiresNothing :
    State.reset.dev.outputGate 0 ≠ 0 ∧ (withReg ready (Reg.TRIP_GATED + 23) 128).dev.outputGate 191 ≠ 0 ∧
    ready.dev.outputGate 191 = 0 := by
  decide +kernel

/-- Channel 191 with a trim one step away, and 2^40 away. -/
def trimState (v : Int) : State := withReg ready (Reg.HEAD_TRIM_PU + 191) v

/-- Slot 1 of channel 191 was lost at its LAT; and a pass that runs in reverse. -/
def lostFirst : State := { ready with dev := ready.dev.setChan 191 { lostEarly := some 1 } }
def passBack : State := { ready with dev := { ready.dev with mantel := { rev := true } } }

theorem test_met_armingStepsTheTrim :
    191 < 192 ∧ ready.dev.mantel.rev = false ∧ (ready.dev.gridFor 1).rev = false ∧ 1 ≤ ready.dev.regN Reg.TRIM_SLEW_DIV ∧
    (trimState (ready.dev.mantel.q / ready.dev.regN Reg.TRIM_SLEW_DIV : Nat)).dev.regAt (Reg.HEAD_TRIM_PU + 191) 1 ≤
      (ready.dev.mantel.q / ready.dev.regN Reg.TRIM_SLEW_DIV : Nat) ∧
    ready.dev.predicts = false ∧ 0 ≠ 191 ∧ (ready.dev.chan 191).lostEarly ≠ some 1 ∧
    (lostFirst.dev.chan 191).lostEarly = some 1 ∧ ((passBack.dev.gridFor 1).rev = true ∧ passBack.dev.mantel.rev = true) := by
  decide +kernel

/-- Group 23 ON or STARTING and enabled. -/
def groupOn (st : Int) : State := withReg (withReg ready (Reg.HG_STATE + 23) st) Reg.HG_ENABLE (2 ^ 24 - 1)

theorem test_met_disablingAGroupStopsIt :
    23 < 24 ∧ (groupOn 3).dev.settled = true ∧ (groupOn 3).dev.domainOn 27 = true ∧
    (groupOn 3).accepts {} .device Reg.HG_ENABLE (clrBit ((groupOn 3).dev.regN Reg.HG_ENABLE) 23 : Nat) = true ∧
    clrBit ((groupOn 3).dev.regN Reg.HG_ENABLE) 23 < 2 ^ 32 ∧ (groupOn 3).dev.hgState 23 = 3 ∧
    (groupOn 4).dev.hgState 23 = 4 ∧
    (groupOn 4).accepts {} .device Reg.HG_ENABLE (clrBit ((groupOn 4).dev.regN Reg.HG_ENABLE) 23 : Nat) = true := by
  decide +kernel

/-- A head record with the serial "A1" and no dead nozzles. -/
def headRec : List Nat := withCheck ([0x51, 0x48, 1, 128] ++ List.replicate 16 0 ++ [0x41, 0x31] ++ List.replicate 14 0 ++
  List.replicate 88 0)

/-- Channel 191 holds that record and is NEW. -/
def newHead : State :=
  let s := withReg ready (Reg.PRESENCE + 191) 5
  { s with dev := { s.dev with dict := { s.dev.dict with blobs := [(Reg.HEAD_RECORD + 191, headRec)] } } }

theorem test_met_headAcceptMakesANewHeadKnown :
    newHead.accepts {} .device (Reg.HEAD_ACCEPT + 191) 1 = true ∧ newHead.dev.presence 191 = 5 ∧
    newHead.dev.validRecord 191 = some headRec ∧
    (withReg newHead (Reg.PRESENCE + 191) 3).accepts {} .device (Reg.HEAD_ACCEPT + 191) 1 = true ∧
    (withReg newHead (Reg.PRESENCE + 191) 3).dev.presence 191 = 3 ∧
    ready.accepts {} .device (Reg.HEAD_ACCEPT + 191) 1 = true ∧ ready.dev.presence 191 ≠ 5 ∧ ready.dev.presence 191 ≠ 3 := by
  decide +kernel

theorem test_met_qscCodecIsLossless : ∀ l ∈ [[0, 255], [255, 0]], l.length = 2 ∧ ∀ x ∈ l, x < 256 := by decide

/-- A page is bound. -/
def boundState : State := { ready with dev := { ready.dev with mantel := { bound := [{ page := 1, g0 := 1, lines := 1 }] } } }

theorem test_met_stoppingTheSchedulerKeepsTheQueue :
    ready.dev.settled = true ∧ ready.accepts {} .device Reg.SCHED_CMD 1 = true ∧ ready.dev.reg Reg.SCHED_STATE = 0 ∧
    ready.dev.mantel.bound = [] ∧ boundState.accepts {} .device Reg.SCHED_CMD 1 = true ∧ boundState.dev.mantel.bound ≠ [] ∧
    boundState.dev.reg Reg.SCHED_STATE = 0 ∧ stopped.accepts {} .device Reg.SCHED_CMD 1 = true ∧
    stopped.dev.reg Reg.SCHED_STATE ≠ 0 := by
  decide +kernel

/-- Group 23 renders. -/
def rendState : State := withReg running (Reg.HG_STATE + 23) 4

theorem test_met_nozzleChangesLandAtOneLine :
    rendState.dev.rendering (191 / 8) = true ∧ nozState 0x00FF8108 ≠ 5 ∧
    healthOnly 0x00FF8108 ((rendState.dev.nozMap 191).newest 4095) = false ∧
    (rendState.dev.nozMap 191).rested.contains 4095 = false ∧ tget nozChg0 (rendState.dev.nozMap 191).chg 4095 = none ∧
    1 ≤ 1 ∧ ({ } : NozVal).leff ≤ 0 ∧
    (15 + 1) % (if 15 + 1 < 20 then 16 else 7) = 0 ∧ (20 + 1) % (if 20 + 1 < 20 then 16 else 7) = 0 ∧
    (16 + 1) % (if 16 + 1 < 20 then 16 else 7) ≠ 0 := by
  decide +kernel

theorem test_met_noWriteReachesOutsideTheFuses :
    (∃ k, k < 24 ∧ bit (2 ^ 23) k = true ∧ bit (ready.dev.regN Reg.FIRE_SCOPE) k = false) ∧
    (∃ k, k < 24 ∧ bit ((withReg ready Reg.DT_GROUPS (2 ^ 23)).dev.regN Reg.DT_GROUPS) k = true ∧
      bit ((withReg ready Reg.DT_GROUPS (2 ^ 23)).dev.regN Reg.FIRE_SCOPE) k = false) ∧
    ready.dev.regB Reg.WORKSHOP_FIRE = false :=
  ⟨⟨23, by decide +kernel⟩, ⟨23, by decide +kernel⟩, by decide +kernel⟩

/-- Input 11 locked with a role and a SCOPE of group 23: MEDIA_OUT, and EMERGENCY_STOP without a SCOPE. -/
def intlkState (w : Int) : State := withReg ready (Reg.INTLK_FUSE_WORD + 11) w
def wordOut : Int := 2 ^ 31 + 2 ^ 26 + 2 ^ 23
/-- The same asserted by a high level (POLARITY 1). -/
def wordHigh : Int := 2 ^ 31 + 2 ^ 29 + 2 ^ 26 + 2 ^ 23
def wordStop : Int := 2 ^ 31 + 5 * 2 ^ 26

theorem test_met_anInterlockGatesItsGroupsAtOnce :
    (intlkState wordOut).dev.domainOn 56 = true ∧ (intlkState wordOut).dev.settled = true ∧
    intlkRole ((intlkState wordOut).dev.intlkWord 11) ≠ 0 ∧ ((intlkState wordOut).dev.intlkIn 11).st ≠ .asserted ∧
    bit ((intlkState wordOut).dev.intlkWord 11) (191 / 8) = true ∧
    intlkRole ((intlkState wordStop).dev.intlkWord 11) ≠ 0 ∧ 5 ≤ field ((intlkState wordStop).dev.intlkWord 11) 28 26 ∧
    bit (ready.dev.intlkWord 11) 31 = false ∧ field ((intlkState (2 ^ 31)).dev.intlkWord 11) 28 26 = 0 ∧
    false = bit ((intlkState wordOut).dev.intlkWord 11) 29 ∧ true ≠ bit ((intlkState wordOut).dev.intlkWord 11) 29 ∧
    true = bit ((intlkState wordHigh).dev.intlkWord 11) 29 ∧ intlkRole ((intlkState wordHigh).dev.intlkWord 11) ≠ 0 ∧
    16 ≤ 16 ∧ 15 < 16 ∧
    (after (.intlkAsserted 11 false 16) (intlkState wordOut)).dev.outputGate 191 = 3 ∧
    (after (.intlkAsserted 11 false 16) (intlkState wordOut)).dev.outputGate 183 = 0 ∧
    (after (.intlkAsserted 11 false 16) (intlkState wordStop)).dev.outputGate 0 = 3 ∧
    (after (.intlkAsserted 11 true 16) (intlkState wordOut)).dev.outputGate 191 = 0 ∧
    (after (.intlkAsserted 11 true 16) (intlkState wordHigh)).dev.outputGate 191 = 3 ∧
    (after (.intlkAsserted 11 false 15) (intlkState wordOut)).dev.outputGate 191 = 0 := by
  decide +kernel

theorem test_met_acknowledgingMovesOnlyWhatAwaits :
    ready.accepts {} .device Reg.INTLK_ACK 4095 = true ∧ 4095 < 2 ^ 16 := by
  decide +kernel

/-- Group 23 is gated and nothing holds it. -/
def freeGate : State := { ready with dev := ready.dev.setIntlk 11 { held := 2 ^ 23 } }

theorem test_met_aLineEventReleasesOnlyWhatIsClear :
    23 < 24 ∧ bit freeGate.dev.intlkMask 23 = true ∧ freeGate.dev.groupHeld 23 = false := by
  decide +kernel

/-- Port 3 ON with context 7 on virtual channel 3. -/
def winState : State :=
  let s := withReg (withReg ready (Reg.WIN_PORT_STATE + 3) 4) (Reg.CTX_ENABLE + 7) 1
  { s with dev := s.dev.setWinCtx 7 { port := 3, vc := 3 } }

theorem test_met_frameStartTakesTheNextFrameNumber :
    goodCsi.port < 4 ∧ winState.dev.domainOn 54 = true ∧ winState.dev.settled = true ∧
    winState.dev.reg (Reg.WIN_PORT_STATE + goodCsi.port) = 4 ∧ goodCsi.ecc < 2 ∧ goodCsi.vcx = false ∧
    winState.dev.ctxAt goodCsi.port goodCsi.vc = some 7 ∧ ready.dev.reg (Reg.WIN_PORT_STATE + goodCsi.port) ≠ 4 := by
  decide +kernel

/-- A FAULT_MIRROR record that holds one record of the log is being written to slot B. -/
def mirrorLoad : List Nat := [1, 0, 0, 0] ++ List.replicate 32 0xAB
def mirrorRec : List Nat := recBytes 0x300 5 1 2 3 [] mirrorLoad
def cellarState : State :=
  { ready with dev := { ready.dev with cellar := { job := some { key := 0x300, slot := 1, gen := 5, data := mirrorRec } } } }

theorem test_met_aWrittenRecordReadsBack :
    cellarState.dev.served = true ∧ Memory.wf cellarState.mem.flash = true ∧
    (cellarState.dev.cellar.job.map CellarJob.slot) = some 1 ∧ 68 + mirrorLoad.length ≤ recSlot 0x300 ∧
    (∀ b ∈ mirrorLoad, b < 256) ∧ recLengthOk (0x300 / 256) mirrorRec = true ∧
    slotRecord (after (.cellarWriteDone mirrorRec) cellarState).mem.flash 0x300 1 = some mirrorRec := by
  decide +kernel

theorem test_met_raisedRecordsEnterTheLogInOrder :
    ready.dev.log.recs.length ≤ 1024 ∧ ready.dev.log.mirror.length ≤ 64 ∧ ready.dev.log.nextSeq < 2 ^ 32 ∧
    ready.dev.log.overwritten < 2 ^ 32 := by
  decide

/-- Room 23 began a slot at ENC cycle 0 and has not completed it. -/
def stalledState : State := atTime { ready with dev := ready.dev.setRoom 23 { begun := some 0 } } (2 ^ 40)

theorem test_met_theSpareTakesOverAFaultyRoom :
    23 < 24 ∧ unitOn 23 stalledState.dev = true ∧ stalledState.dev.stalled 23 = true ∧
    unitOn 23 ready.dev = true ∧ ready.dev.stalled 23 = false ∧ stalledState.dev.regN (Reg.ROOM_STATE + 23) < 2 ∧
    stalledState.dev.reg Reg.ROOMS_SPARE_STATE = 0 ∧
    (withReg stalledState Reg.ROOMS_SPARE_STATE 2).dev.reg Reg.ROOMS_SPARE_STATE ≠ 0 ∧
    (withReg stalledState Reg.ROOMS_SPARE_STATE 2).dev.stalled 23 = true ∧
    unitOn 23 (withReg stalledState Reg.ROOMS_SPARE_STATE 2).dev = true ∧ bitsOf 24 stalledState.dev.cal.retired = [] := by
  decide +kernel

theorem test_met_aFixedPointSampleStaysInItsWidths :
    (-32768 : Int) ≤ 32767 ∧ (-32768 : Int) ≤ -32768 ∧ (32767 : Int) ≤ 32767 ∧ (0 : Int) ≤ 1 ∧ (0 : Int) < 1 := by decide

/-- Loop 63 in RUN, its output bound. -/
def loopState63 : State :=
  let s := withReg ready (Reg.un Reg.LOOP_STATE 63) 3
  { s with dev := s.dev.setSlot 63 { out := 47 } }

theorem test_met_loopCommandForcesTheSafeState :
    63 < 64 ∧ loopState63.dev.settled = true ∧ loopState63.accepts {} .device (Reg.un Reg.LOOP_LOOP_CMD 63) 1 = true ∧
    loopState63.dev.loopState 63 = 3 ∧ loopState63.accepts {} .device (Reg.un Reg.LOOP_LOOP_CMD 63) 2 = true ∧
    loopState63.dev.loopState 63 ≠ 4 ∧ loopState63.dev.boundTo 47 = some 63 := by
  decide +kernel

/-- Porch port 1 ON. -/
def porchOn : State := withReg (withReg ready (Reg.un Reg.PORCH_PORT_STATE 1) 4) Reg.LAUNCH_LATE_POLICY 1

/-- A frame of its sub-port 0 is in transmission for 100 more cycles. -/
def porchBusy : State := { porchOn with dev := porchOn.dev.setPport 1 { porchOn.dev.pport 1 with busyTo := [(0, 100)] } }

theorem test_met_disablingAPorchPortRunsItsShutdown :
    1 < 2 ∧ porchOn.dev.settled = true ∧ porchOn.dev.pportState 1 = 4 ∧
    porchOn.accepts {} .device (Reg.un Reg.PORCH_PORT_ENABLE 1) 0 = true ∧ porchOn.dev.reg Reg.LAUNCH_LATE_POLICY = 1 ∧
    (∀ e ∈ (porchOn.dev.pport 1).busyTo, e.2 ≤ porchOn.dev.now) ∧ porchBusy.dev.pportState 1 = 4 ∧
    porchBusy.accepts {} .device (Reg.un Reg.PORCH_PORT_ENABLE 1) 0 = true ∧
    (∃ e ∈ (porchBusy.dev.pport 1).busyTo, porchBusy.dev.now < e.2) := by
  decide +kernel

theorem test_met_pressTimeStepsOnlyFromFree :
    ready.dev.isMember = false ∧ ready.dev.time.updAt ≤ ready.dev.now ∧ ready.dev.tb3Choose = 0 ∧
    (withReg ready Reg.TB3_STATE 2).dev.reg Reg.TB3_STATE ≠ 0 ∧
    (withReg ready (tbKey Reg.TB_STATE 1) 3).dev.tb3Choose = 1 ∧ 0 ≤ ready.dev.reg Reg.TB3_MAX_SLEW_PPB := by
  decide +kernel

/-- The DN link is in H0. -/
def linkState1 : State := withReg ready (hallKey Reg.LINK_STATE 1) 2

theorem test_met_aReplayedHallMessageIsTakenOnce :
    hallReplayed 0x20 = true ∧ (linkState1.dev.hallRecv { port := 1, seq := 1 } 0x20).2 = true ∧
    (ready.dev.hallRecv { port := 1, seq := 1 } 0x20).2 = false ∧ ({ port := 1, crcOk := false } : HallHdr).crcOk = false ∧
    1 < 2 ∧ linkState1.dev.domainOn 53 = true ∧ linkState1.dev.settled = true := by
  decide +kernel

/-- The Pantry is READY with 64 MiB. -/
def pantryState : State := withReg (withReg ready Reg.PANTRY_STATE 3) Reg.PANTRY_BYTES (2 ^ 26)

/-- A write of address 0 stands in its channel's write queue. -/
def queuedWrite : State :=
  let x : PantryReq := { write := true, addr := 0, data := [1, 2, 3, 4] }
  let c := (pantryState.dev.txnPlace x).1
  { pantryState with dev := pantryState.dev.setPch c { wq := [x] } }

theorem test_met_aPantryWriteIsWhatIsReadAfterIt :
    pantryState.dev.domainOn 51 = true ∧ pantryState.dev.settled = true ∧
    pantryState.dev.pantryTakes { write := true, addr := 2 ^ 26 - 1, data := [1] } = true ∧
    pantryState.dev.pantryTakes { addr := 0, len := 256 } = true ∧
    pantryState.dev.pantryTakes { addr := 0, len := 257 } = false ∧
    ((after (.pantryTransaction { addr := 0, len := 4 }) queuedWrite).dev.pch (queuedWrite.dev.txnPlace { addr := 0, len := 4 }).1).txns = [] := by
  decide +kernel

theorem test_met_activateCountersNeverUnderstate :
    (rhCount (ready.dev.bank 0).rows 3).2 < ready.dev.regN Reg.RH_THRESH ∧
    (withReg ready Reg.RH_THRESH 1).dev.regN Reg.RH_THRESH ≤ (rhCount ((withReg ready Reg.RH_THRESH 1).dev.bank 0).rows 3).2 ∧
    ready.dev.regN Reg.RH_RADIUS ≤ 100 ∧ 100 + ready.dev.regN Reg.RH_RADIUS < 2 ^ ready.dev.rowBits ∧
    assoc ([] : List (Nat × Nat)) 3 = none ∧
    ((ready.dev.setPch 3 { due := [(200, some 7)] }).pch 3).due = (200, some 7) :: [] := by
  decide +kernel

/-- Workshop engine 3 runs. -/
def shopState : State := { ready with dev := ready.dev.setShop 3 { on := true } }

theorem test_met_aMailboxSlotHoldsOneRequest :
    3 < 4 ∧ 7 < 8 ∧ shopState.dev.domainOn 1 = true ∧ shopState.dev.settled = true ∧ (ready.dev.shop 3).on = false ∧
    (shopState.dev.shop 3).on = true ∧ (∀ b ∈ (shopState.dev.shop 3).busy, b.slot ≠ 7) ∧ 7 ∉ (shopState.dev.shop 3).done := by
  decide +kernel

/-- The SLEEP_N latch, which cannot be disabled, is set. -/
def latchedState : State := { ready with dev := { ready.dev with pwr := { ready.dev.pwr with latches := 8 } } }

theorem test_met_aPowerRequestIsRefusedByALatchedWake :
    latchedState.dev.settled = true ∧ latchedState.dev.pwr.phase = .steady ∧ latchedState.dev.pwr.ring = none ∧
    latchedState.dev.regN Reg.PWR_STATE < 2 ∧ latchedState.accepts {} .device Reg.PWR_REQUEST 2 = true ∧
    latchedState.dev.wakes ≠ 0 ∧ ready.accepts {} .device Reg.PWR_REQUEST 2 = true ∧ ready.dev.wakes = 0 ∧
    (ready.dev.isMaster && ready.dev.hasRing) = false ∧ ready.dev.regN Reg.PWR_STATE < 2 := by
  decide +kernel

theorem test_met_programmingBlowsExactlyTheBitsAskedFor :
    vppState.dev.settled = true ∧ (∀ b ∈ progOne, b < 256) ∧ ({} : WriteEnv).stuckA = [] ∧ ({} : WriteEnv).stuckB = [] ∧
    vppState.acceptsBytes {} .device Reg.FOUNDATION_PROGRAM progOne = true ∧
    ((ready.dev.reqLevel (.mailbox 0)).holds .serv) = false ∧
    vppState.acceptsBytes {} (.mailbox 0) Reg.FOUNDATION_PROGRAM progOne = true := by
  decide +kernel

theorem test_met_theResetPinHoldsAndRestarts :
    ready.dev.settled = true ∧ ready.dev.inNight = false ∧ ready.dev.tap.driven = false ∧ 199 < 200 ∧ 1000 ≤ 1000 := by decide +kernel

theorem test_met_aLostCrystalGatesEveryFireOutput :
    ready.dev.settled = true ∧ ready.dev.clocked = true ∧ ready.dev.reg Reg.XTAL_STATE = 0 ∧
    ready.dev.reg Reg.SCHED_STATE = 0 := by
  decide +kernel

theorem test_met_testInstructions :
    ready.dev.settled = true ∧ ready.dev.tapOn = true ∧ State.reset.dev.tapOn = false ∧ ready.dev.pwr.resetLow = false ∧ ready.dev.tap.driven = false ∧
    ready.dev.pwr.phase ≠ .held ∧ 9 < 256 ∧ 8 < 9 ∧ 0 < 256 := by
  decide +kernel

/-! ### Worked examples of the spec, and single steps reckoned by hand -/

/-- Section 02, the worked example: READ of 1018h.02 with SEQ 7. -/
theorem test_read_product_code :
    ((after (.read (.qdp { srcIp := 9, srcPort := 8, session := 0, seq := 7, count := 1, payloadLen := 4, arrivedLen := 4 })
      [{ index := 0x1018, sub := 2 }] none) ready).dev.pport 0).txq.map TxFrame.body =
    [.qdp 9 8 { opcode := 0x81, status := 0, session := 0, seq := 7, count := 1,
                payload := [0x18, 0x10, 2, 0, 3, 0, 4, 0, 0x92, 0x71, 0, 0] }] := by
  decide +kernel

/-- The check value of CRC-32C, of the bytes of "123456789". -/
theorem test_crc32c : crc32c [0x31, 0x32, 0x33, 0x34, 0x35, 0x36, 0x37, 0x38, 0x39] = 0xE3069283 := by decide +kernel

/-- FIPS 180-4: SHA-384 of no bytes, and of a key as another implementation gives it. -/
theorem test_sha384 : sha384 [] = emptyHash ∧ sha384 imageKey = keyHash := by decide +kernel

/-- Section 06, a worked block: its coded bytes, and its header with CRC-8 27h. -/
theorem test_qsc_worked_block :
    packBits 46 (encodeLines (histReset 4) [[0, 0, 200, 200], [0, 0, 200, 200]]).1 = [0xC0, 0, 0, 0x2D, 0xF3, 0x48] ∧
    decodeAll 4 2 (histReset 4) (bytesBits [0xC0, 0, 0, 0x2D, 0xF3, 0x48]) =
      (0, (encodeLines (histReset 4) [[0, 0, 200, 200], [0, 0, 200, 200]]).2) ∧
    (qscHdr [0x08, 0xC1, 0x00, 0x28, 0, 0, 0, 0x27]).map (fun h => (h.type, h.reset, h.lines, h.width, h.plen)) =
      some (0, true, 2, 4, 10) := by
  decide +kernel

/-- Section 03, the reference encoder: v at 4 m/s in Q8.24, truncated. -/
theorem test_speed_at_4_metres :
    countsPerCycle 2097152 400000000 = 90071992 ∧ countsPerCycle 3407872 400000000 = 146366987 := by decide +kernel

/-- Section 12, a meniscus-pressure loop: one sample of slot 4. -/
theorem test_boiler_sample :
    let o := compensate0 { k := 3, rsp := -7864, s1 := 429490176, s2 := 0, s3 := 0 } (-7209) (-7864) 0 0 29491 true
      (-21344) 21299 0 0 (-4096) 0 0
    (o.u, o.uc, o.s1, o.duty) = (16520, 16520, 429720600, 33039) := by
  decide +kernel

/-- Section 10, the density example: column 5,500 goes from GAIN 32 to 38. -/
theorem test_density_code :
    gainDefault 32 128 = 2056 ∧ gainDefault 37 128 = 2136 ∧ gainDefault 38 128 = 2152 ∧
    densCode (fun k => gainDefault k 128) 32 (1790, 1) (1870, 1) = 38 := by
  decide +kernel

/-- R48: a refusal's abort code. -/
theorem test_abort_codes : Status.level.abortCode = 0x06010000 ∧ Status.busy.abortCode = 0x08000022 := by decide

/-- R52: in mode 1, from 00, A's rising edge adds one and B's takes one off; DIR_INVERT exchanges them. -/
theorem test_encoder_edges :
    let s := withReg ready Reg.INC_MODE 1
    (after (.encEdge 0 true false 256 {}) s).dev.pos.p0.c = 1 ∧ (after (.encEdge 0 false true 256 {}) s).dev.pos.p0.c = -1 ∧
    (after (.encEdge 0 true false 256 {}) (withReg s Reg.DIR_INVERT 1)).dev.pos.p0.c = -1 := by
  decide +kernel

/-- R15, R78: a line event counts a line once PT has reached its boundary. -/
theorem test_line_event :
    (after (.lineEvent {}) { ready with dev := { ready.dev with pos := { p0 := { c := 23 } } } }).dev.mantel.line = 1 ∧
    (after (.lineEvent {}) ready).dev.mantel.line = 0 := by
  decide +kernel

/-- R2, the reference bar: q = floor(N × 1,024 / D) = 22,727 pu; R66: 355 pu of correction per line. -/
theorem test_reference_pitch : ready.dev.mantel.q = 22727 ∧ ready.dev.mantel.q / 64 = 355 := by decide +kernel

/-- R124: HEAD_ACCEPT of a NEW head. -/
theorem test_head_accept :
    (after (.headAccept .device 191) newHead).dev.blob (Reg.KNOWN_SERIAL + 191) = [0x41, 0x31] ∧
    (after (.headAccept .device 191) newHead).dev.presence 191 = 6 := by
  decide +kernel

/-- R335: what is written to the last byte of the memory is there. -/
theorem test_pantry_write :
    mget (after (.pantryTransaction { write := true, addr := 2 ^ 26 - 1, data := [0xA5] }) pantryState).mem.store (2 ^ 26 - 1) =
      0xA5 := by
  decide +kernel

/-- R402: the programmed bits are blown in both copies, and the shadow waits for the next reset. -/
theorem test_fuses_blow :
    (after (.foundationProgram .device progOne {}) vppState).mem.fuseA = [(112, 0x81)] ∧
    (after (.foundationProgram .device progOne {}) vppState).mem.fuseB = [(112, 0x81)] ∧
    (after (.foundationProgram .device progOne {}) vppState).dev.shadow = [] := by
  decide +kernel

/-- R380: a set latch refuses STANDBY. -/
theorem test_latched_wake_refuses :
    (after (.pwrRequestStandby .device) latchedState).dev.reg Reg.PWR_STATUS = 3 ∧
    (after (.pwrRequestStandby .device) ready).dev.pwr.phase = .entry 2 false 2 := by
  decide +kernel

/-- R448: IDCODE is 1719_273Dh. -/
theorem test_idcode :
    ∃ t, exec .idcode ready = .next t ∧ t.dev.tap.shift = (List.range 32).map (bit 0x1719273D) :=
  ⟨_, rfl, by decide +kernel⟩

/-- R417: the crystal's loss gates every channel. -/
theorem test_crystal_lost : ∃ t, exec .clkRefLost ready = .next t ∧ t.dev.outputGate 0 = 8 :=
  ⟨_, rfl, by decide +kernel⟩

/-- The table gives no command any bits: no word spells one (log entry 5). -/
theorem test_no_word_spells_a_command : decodeTableWord 8 0 = none ∧ ready.withFetchWord 8 0 = ready := ⟨rfl, rfl⟩

end Sys2Proof.Tests
end

section
/-! PROOFS. The scope family (O9, O10, O50): what a refused, a waiting and an accepted entry write of the dictionary
leaves, and the completion of the dictionary's commands. -/
namespace Sys2Proof.Machine

/-! ### Lists of pairs -/

@[simp] theorem assoc_assocSet_same {α : Type} (l : List (Nat × α)) (k : Nat) (v : α) :
    assoc (assocSet l k v) k = some v := by
  unfold assoc assocSet
  split
  next h =>
    obtain ⟨p, hp⟩ := Option.isSome_iff_exists.mp ((List.find?_isSome).mpr (List.any_eq_true.mp h))
    have keeps : ((fun p : Nat × α => p.1 == k) ∘ fun p => if p.1 == k then (k, v) else p) = fun p => p.1 == k := by
      funext q
      by_cases e : q.1 = k <;> simp [e]
    have hk : p.1 = k := by simpa using List.find?_some hp
    rw [List.find?_map, keeps, hp]
    simp [hk]
  next h =>
    have absent : l.find? (fun p => p.1 == k) = none :=
      List.find?_eq_none.mpr fun q hq hk => h (List.any_eq_true.mpr ⟨q, hq, hk⟩)
    simp [List.find?_append, absent]

/-! ### What the parts of a write leave as it was -/

@[simp] theorem Device.seeVpp_out (d : Device) (env : WriteEnv) : (d.seeVpp env).out = d.out := by
  unfold Device.seeVpp Device.senseVpp
  split <;> rfl

@[simp] theorem Device.noteHost_dict (d : Device) (k : Nat) : (d.noteHost k).dict = d.dict := by
  simp only [Device.noteHost]
  split <;> rfl

@[simp] theorem Device.noteHost_out (d : Device) (k : Nat) : (d.noteHost k).out = d.out := by
  simp only [Device.noteHost]
  split <;> rfl

@[simp] theorem Device.cellarWrite_dict (d : Device) : d.cellarWrite.dict = d.dict := by
  simp only [Device.cellarWrite]
  split
  · rfl
  · split <;> rfl

@[simp] theorem Device.cellarWrite_out (d : Device) : d.cellarWrite.out = d.out := by
  simp only [Device.cellarWrite]
  split
  · rfl
  · split <;> rfl

@[simp] theorem Device.store_out (d : Device) (k : Nat) (v : Val) : (d.store k v).out = d.out := by
  simp only [Device.store]
  split <;> simp

/-- R33: a write for the next reset adds to the stored values alone, RAIL_USED of slots 0 … 4 apart. -/
theorem Device.store_dict (d : Device) {k : Nat} (v : Val) (h : ¬ (0x2010 ≤ k / 256 ∧ k / 256 < 0x2015 ∧ k % 256 = 1)) :
    (d.store k v).dict = { d.dict with stored := assocSet d.dict.stored k v } := by
  simp only [Device.store, if_neg h]
  split <;> simp

/-! ### The checks of a write to an entry (R7, R8, R26) -/

theorem findEntry_of_placeOf {k : Nat} {e : EntryDef} (h : placeOf k = .entry e) : findEntry k = some e := by
  unfold placeOf at h
  split at h
  · cases h
  · split at h
    next e' he => cases h; exact he
    next => split at h <;> cases h

section
variable {m : Memories} {d : Device} {r : Req} {k ty : Nat} {bs : List Nat} {e : EntryDef} {st : Status}

theorem Device.accessCheck_readOnly (h : e.acc = .ro ∨ e.fuse = true) : d.accessCheck r k e = .readOnly := by
  unfold Device.accessCheck
  exact if_pos h

theorem Device.accessCheck_below_level (ha : e.acc ≠ .ro) (hf : e.fuse = false)
    (hl : (d.reqLevel r).holds (writeLevel k e) = false) : d.accessCheck r k e = .level := by
  simp [Device.accessCheck, ha, hf, hl]

theorem Device.accessCheck_granted (ha : e.acc ≠ .ro) (hf : e.fuse = false)
    (hl : (d.reqLevel r).holds (writeLevel k e) = true) (hm : isMailbox r = false) : d.accessCheck r k e = .ok := by
  simp [Device.accessCheck, ha, hf, hl, hm]

theorem Device.typeCheck_fixed_size {n : Nat} (hd : e.ty ≠ .domain) (hs : e.ty ≠ .str)
    (h : ty ≠ e.ty.code ∨ n ≠ e.ty.size) : d.typeCheck k e ty n = .length := by
  unfold Device.typeCheck
  by_cases ht : ty = e.ty.code
  · simp [ht, hd, hs, h.resolve_left (not_not_intro ht)]
  · exact if_pos ht

/-- What the access bars is answered with the access's own ground, whatever the type, the length and the value are. -/
theorem Device.writeCheck_of_access (hp : placeOf k = .entry e) (h : d.accessCheck r k e = st) (n : st ≠ .ok) :
    d.writeCheck m r k ty bs = st := by
  unfold Device.writeCheck
  rw [hp]
  dsimp only
  rw [h]
  split
  · exact absurd rfl n
  · rfl

/-- Where the access is granted, the type and the length come next. -/
theorem Device.writeCheck_of_type (hp : placeOf k = .entry e) (ha : d.accessCheck r k e = .ok)
    (h : d.typeCheck k e ty bs.length = st) (n : st ≠ .ok) : d.writeCheck m r k ty bs = st := by
  unfold Device.writeCheck
  rw [hp]
  dsimp only
  rw [ha, h]
  dsimp only
  split
  · exact absurd rfl n
  · rfl

end

/-! ### ENTRY_WRITE (R8, R31) -/

/-- A served ENTRY_WRITE is one write of the key, whose outcome the requester is told. -/
theorem exec_entryWrite_served {s : State} {r : Req} {index sub ty : Nat} {bytes : List Nat} {env : WriteEnv}
    (h : s.dev.served = true) (hs : sub < 256) :
    exec (.entryWrite r index sub ty bytes env) s =
      let x := s.dev.writeKey s.mem env r (index * 256 + sub) ty bytes
      s.nextBoth (x.1, x.2.1.send (.result r (index * 256 + sub) x.2.2)) := by
  show s.nextBoth (s.dev.entryWrite s.mem env r (index * 256 + sub % 256) ty bytes) = _
  simp [Device.entryWrite, h, Nat.mod_eq_of_lt hs]

theorem Device.writeKey_accepted {m : Memories} {d : Device} {env : WriteEnv} {r : Req} {k ty : Nat} {bs : List Nat}
    {e : EntryDef} (h : (d.seeVpp env).writeCheck m r k ty bs = .ok) (he : findEntry k = some e) :
    d.writeKey m env r k ty bs = (d.seeVpp env).applyVal m env r k e (valOf e bs) := by
  simp only [Device.writeKey, h, he]

/-- Settles O9: the refused write is the write of the key with its check's status; the order of the grounds is that of
the access check and the type check. -/
theorem refusedEntryWriteLeavesEverything : Obligations.RefusedEntryWriteLeavesEverything := by
  intro s r index sub ty bytes env served hsub
  refine ⟨fun refused => ?_, fun e hp => ⟨fun barred => ?_, fun ha hf hl => ?_, fun ha hf hl hm hd hs hlen => ?_⟩⟩
  · rw [exec_entryWrite_served served hsub, Device.writeKey_refused rfl refused]
    rfl
  · exact Device.writeCheck_of_access hp (Device.accessCheck_readOnly barred) (by decide)
  · exact Device.writeCheck_of_access hp (Device.accessCheck_below_level ha hf hl) (by decide)
  · exact Device.writeCheck_of_type hp (Device.accessCheck_granted ha hf hl hm)
      (Device.typeCheck_fixed_size hd hs hlen) (by decide)

/-! ### Writes that wait (R9, R33, R36) -/

section
variable {m : Memories} {d d' : Device} {env : WriteEnv} {r : Req} {k : Nat} {e : EntryDef} {v w : Val}

/-- The key acts neither at once nor by a rule of its own: its Takes effect value decides. -/
def waitsByTakes (k : Nat) : Prop :=
  actsNow k = false ∧ k ∉ [Reg.WORKSHOP_IMAGE, Reg.HOUSE_IMAGE, Reg.FOUNDATION_PROGRAM]

theorem waitsByTakes.not_direct (h : waitsByTakes k) :
    (k == Reg.WORKSHOP_IMAGE || k == Reg.HOUSE_IMAGE || k == Reg.FOUNDATION_PROGRAM || actsNow k) = false := by
  obtain ⟨notNow, notOwn⟩ := h
  simp only [List.mem_cons, List.not_mem_nil, or_false, not_or] at notOwn
  simp [notNow, notOwn]

/-- R34: the value joins the open staged set. -/
def Device.stage (d : Device) (k : Nat) (v : Val) : Device :=
  ({ d with dict := { d.dict with openSet := assocSet d.dict.openSet k v } } : Device).noteHost k

theorem Device.applyVal_atCommit (hk : waitsByTakes k) (ht : e.takes = .atCommit) :
    d.applyVal m env r k e v = (m, d.stage k v, .ok) := by
  simp only [Device.applyVal, ht, hk.not_direct, Device.stage]

theorem Device.applyVal_atReset (hk : waitsByTakes k) (ht : e.takes = .atReset) :
    d.applyVal m env r k e v = (m, d.store k (d.storedVal k v), .ok) := by
  simp only [Device.applyVal, ht, hk.not_direct]

/-- The device d' is d with a write of w to the key waiting: a read without IN_FORCE meets w, nothing in force has
changed, and no one has been told anything yet. -/
structure Device.Waiting (d d' : Device) (k : Nat) (e : EntryDef) (w : Val) : Prop where
  pend : d'.pendVal k e = some w
  regs : d'.dict.regs = d.dict.regs
  blobs : d'.dict.blobs = d.dict.blobs
  out : d'.out = d.out

theorem Device.stage_waiting (ht : e.takes = .atCommit) : d.Waiting (d.stage k v) k e v where
  pend := by simp [Device.stage, Device.pendVal, ht]
  regs := by simp [Device.stage]
  blobs := by simp [Device.stage]
  out := by simp [Device.stage]

theorem Device.store_waiting (ht : e.takes = .atReset)
    (hr : ¬ (0x2010 ≤ k / 256 ∧ k / 256 < 0x2015 ∧ k % 256 = 1)) : d.Waiting (d.store k v) k e v where
  pend := by simp [Device.pendVal, ht, Device.store_dict d v hr]
  regs := by rw [Device.store_dict d v hr]
  blobs := by rw [Device.store_dict d v hr]
  out := by simp

theorem Device.Waiting.readVal_send (h : d.Waiting d' k e w) (t : Tx) : (d'.send t).readVal m k e false = w := by
  have pend : (d'.send t).pendVal k e = some w := h.pend
  simp [Device.readVal, pend]

theorem Device.Waiting.reg_send (h : d.Waiting d' k e w) (t : Tx) : (d'.send t).reg k = d.reg k := by
  simp [Device.reg, h.regs]

theorem Device.Waiting.blob?_send (h : d.Waiting d' k e w) (t : Tx) : (d'.send t).blob? k = d.blob? k := by
  simp [Device.blob?, h.blobs]

end

/-- An accepted ENTRY_WRITE of a value that waits reads back, leaves what is in force, and is answered OK. -/
theorem exec_entryWrite_waiting {s : State} {r : Req} {index sub ty : Nat} {bytes : List Nat} {env : WriteEnv}
    {e : EntryDef} {d' : Device} {w : Val} (served : s.dev.served = true) (hsub : sub < 256)
    (hp : placeOf (index * 256 + sub) = .entry e)
    (ok : (s.dev.seeVpp env).writeCheck s.mem r (index * 256 + sub) ty bytes = .ok)
    (ha : (s.dev.seeVpp env).applyVal s.mem env r (index * 256 + sub) e (valOf e bytes) = (s.mem, d', .ok))
    (hw : (s.dev.seeVpp env).Waiting d' (index * 256 + sub) e w) :
    ∃ t, exec (.entryWrite r index sub ty bytes env) s = .next t ∧ t.mem = s.mem ∧
      t.dev.readVal t.mem (index * 256 + sub) e false = w ∧
      t.dev.reg (index * 256 + sub) = (s.dev.seeVpp env).reg (index * 256 + sub) ∧
      t.dev.blob? (index * 256 + sub) = (s.dev.seeVpp env).blob? (index * 256 + sub) ∧
      t.dev.out = .result r (index * 256 + sub) .ok :: s.dev.out := by
  rw [exec_entryWrite_served served hsub, Device.writeKey_accepted ok (findEntry_of_placeOf hp), ha]
  refine ⟨_, rfl, rfl, hw.readVal_send _, hw.reg_send _, hw.blob?_send _, ?_⟩
  show Tx.result r _ .ok :: d'.out = _
  rw [hw.out, Device.seeVpp_out]

/-- Settles O10, by when the entry takes effect: at commit the value waits in the open set, at reset among the stored
values. -/
theorem waitingWriteReadsBackAndLeavesTheValueInForce : Obligations.WaitingWriteReadsBackAndLeavesTheValueInForce := by
  intro s r index sub bytes env e served _ hsub hp ok takes hnow hown hrail
  have waits : waitsByTakes (index * 256 + sub) := ⟨hnow, hown⟩
  rcases takes with atReset | atCommit
  · have notRail : ¬ (0x2010 ≤ (index * 256 + sub) / 256 ∧ (index * 256 + sub) / 256 < 0x2015 ∧
        (index * 256 + sub) % 256 = 1) := by omega
    rw [if_pos atReset]
    exact exec_entryWrite_waiting served hsub hp ok (Device.applyVal_atReset waits atReset)
      (Device.store_waiting atReset notRail)
  · rw [if_neg (by simp [atCommit])]
    exact exec_entryWrite_waiting served hsub hp ok (Device.applyVal_atCommit waits atCommit)
      (Device.stage_waiting atCommit)

/-! ### Completion -/

section
variable {s : State} {r : Req}

/-- An accepted write of a natural to an unsigned entry that takes effect immediately, whose effect is on the device
alone: the next state is that effect and the answer OK. -/
theorem State.put_wrote {p : Prop} [Decidable p] {k v : Nat} {t : Ty} {tk : Takes} {d : Device}
    (hf : (findEntry k).map (fun e => (e.ty, e.takes)) = some (t, tk)) (ht : tk = .now ∨ actsNow k = true)
    (hu : t.signed = false ∧ t ≠ .domain ∧ t ≠ .str) (hv : v < 256 ^ t.size) (hp : p)
    (h : s.accepts {} r k v = true) (ha : Device.applyNum s.mem s.dev {} r k v = (s.mem, d)) :
    s.put p {} r k v = s.wrote r k d := by
  rw [State.put_nat hf ht hu hv hp h]
  exact State.nextBoth_wrote ha

theorem State.put_commitCmd {v : Nat} (hv : v < 256) (h : s.accepts {} r Reg.COMMIT_CMD v = true) :
    s.put True {} r Reg.COMMIT_CMD v = s.wrote r Reg.COMMIT_CMD (s.dev.commitCmd v) :=
  State.put_wrote (t := .u8) (tk := .now) (by decide +kernel) (.inl rfl) (by decide) hv trivial h rfl

theorem State.put_inForceSel {v : Nat} (hv : v < 2 ^ 32) (h : s.accepts {} r Reg.IN_FORCE_SEL v = true) :
    s.put (v < 2 ^ 32) {} r Reg.IN_FORCE_SEL v = s.wrote r Reg.IN_FORCE_SEL (s.dev.setSel r v) :=
  State.put_wrote (t := .u32) (tk := .now) (by decide +kernel) (.inl rfl) (by decide) hv hv h rfl

theorem State.put_profileRequest {n : Nat} (hn : n < 256) (h : s.accepts {} r Reg.PROFILE_REQUEST n = true) :
    s.put (n < 256) {} r Reg.PROFILE_REQUEST n = s.wrote r Reg.PROFILE_REQUEST (s.dev.profileRequest s.mem n) :=
  State.put_wrote (t := .u8) (tk := .atPage) (by decide +kernel) (.inr rfl) (by decide) hn hn h rfl

end

/-- Settles O50: a command without a guard is its operation; a guarded one acts where its guard holds; a command that
is an entry's write acts by that entry. -/
theorem dictionaryCommandsComplete : Obligations.DictionaryCommandsComplete := by
  refine ⟨fun _ _ _ _ _ _ _ => rfl, fun _ _ _ _ => rfl, fun _ _ _ _ => rfl, fun _ _ _ _ _ => rfl,
    fun _ _ _ _ _ => rfl, fun _ _ _ _ _ _ _ _ => rfl, fun _ _ _ _ _ _ _ => rfl, fun _ _ => rfl, ?domainIdleTimeout,
    fun _ _ _ _ => rfl, fun _ _ => rfl, fun _ _ => rfl, fun _ _ _ => rfl, fun _ _ => rfl, fun _ _ _ _ => rfl,
    ?lockoutEnd, fun _ _ _ _ => rfl, fun _ _ _ => rfl, fun _ _ _ => rfl, fun _ _ => rfl, ?commitRequest,
    ?commitCancel, ?commitDiscard, ?commitRingAckCheck, ?inForceSelWrite, fun _ _ => rfl, ?profileRequest,
    fun _ _ _ _ => rfl, fun _ _ => rfl, fun _ _ _ _ => rfl, fun _ _ _ _ _ => rfl, fun _ _ _ _ => rfl, ?commit,
    ?commitAck⟩
  case domainIdleTimeout =>
    exact fun _ r served => State.when_true (f := fun d => d.xferIdle r) (inService_true served trivial)
  case lockoutEnd => exact fun _ served => State.when_true (inService_true served trivial)
  case commitRequest => exact fun _ _ h => State.put_commitCmd (v := 1) (by decide) h
  case commitCancel => exact fun _ _ h => State.put_commitCmd (v := 2) (by decide) h
  case commitDiscard => exact fun _ _ h => State.put_commitCmd (v := 3) (by decide) h
  case commitRingAckCheck => exact fun _ served => State.when_true (inService_true served trivial)
  case inForceSelWrite => exact fun _ _ _ hv h => State.put_inForceSel hv h
  case profileRequest => exact fun _ _ _ hn h => State.put_profileRequest hn h
  case commit =>
    exact fun _ h number pt kind on port => State.when_true (f := fun d => d.commitIn h number pt kind)
      (inDom_true on port)
  case commitAck =>
    exact fun _ h number count crc on port => State.when_true (f := fun d => d.commitAckIn h number count crc)
      (inDom_true on port)

end Sys2Proof.Machine
end

section
/-! PROOFS. The dictionary family (O1, O3, O8, O11 … O16): commands in their order, absent addresses, a WRITE that fails,
sessions, authentication and commits. -/
namespace Sys2Proof.Machine

/-! ### Commands and the queue (R31) -/

/-- Settles O1: it is what a step is on a queue with a front. -/
theorem stepExecutesTheFrontCommand : Obligations.StepExecutesTheFrontCommand := by
  intro s c rest hq
  simp only [step, hq]

/-- What any command comes to: a next state in which the memories and the device alone may be others. -/
theorem exec_nextBoth (c : Instr) (s : State) : ∃ m d, exec c s = s.nextBoth (m, d) := by
  cases c <;> exact ⟨_, _, rfl⟩

/-- Settles O3: a change of the memories and the device is a next state with the same queue. -/
theorem everyCommandAnswersAndKeepsTheQueue : Obligations.EveryCommandAnswersAndKeepsTheQueue := by
  intro c s
  obtain ⟨m, d, answers⟩ := exec_nextBoth c s
  exact ⟨_, answers, rfl⟩

/-! ### Absent addresses (R24) -/

theorem le_foldl_max {l : List Nat} {a b : Nat} (h : b ≤ a ∨ b ∈ l) : b ≤ l.foldl Nat.max a := by
  induction l generalizing a with
  | nil => exact h.resolve_right List.not_mem_nil
  | cons x l ih =>
    refine ih ?_
    rcases h with h | h
    · exact .inl (Nat.le_trans h (Nat.le_max_left a x))
    · rcases List.mem_cons.mp h with rfl | h
      · exact .inl (Nat.le_max_right a b)
      · exact .inr h

theorem le_maxN {l : List Nat} {b : Nat} (h : b ∈ l) : b ≤ maxN l := le_foldl_max (.inr h)

/-- A row that covers a key lies at its index and reaches at least to its subindex. -/
theorem EntryDef.covers_iff (e : EntryDef) (k : Nat) :
    e.covers k = true ↔ e.atIndex (k / 256) = true ∧ e.sub ≤ k % 256 ∧ k % 256 < e.sub + e.count := by
  simp only [EntryDef.covers, EntryDef.atIndex, Bool.and_eq_true, decide_eq_true_eq, and_assoc]

/-- R24: no row covers a subindex above the highest one in use. -/
theorem findEntry_above_highestSub {k : Nat} (h : highestSub (k / 256) < k % 256) : findEntry k = none := by
  refine List.find?_eq_none.mpr fun e he covers => ?_
  obtain ⟨here, -, below⟩ := (e.covers_iff k).mp covers
  have table : entriesOf (k / 65536) = entriesOf (k / 256 / 256) := by rw [Nat.div_div_eq_div_mul]
  have reach : e.sub + e.count - 1 ≤ highestSub (k / 256) :=
    le_maxN (List.mem_map_of_mem (List.mem_filter.mpr ⟨table ▸ he, here⟩))
  omega

section
variable {k : Nat} {m : Memories} {d : Device} {r : Req} {st : Status} {inForce : Bool}

theorem placeOf_unlisted (h : indexListed (k / 256) = false) : placeOf k = .absent .noIndex := by
  simp [placeOf, h]

/-- At a listed index a key that no row covers is the record's count at subindex 00, and absent above it. -/
theorem placeOf_uncovered (listed : indexListed (k / 256) = true) (small : k / 256 < 65536) (h : findEntry k = none) :
    placeOf k = if k % 256 = 0 then .count (highestSub (k / 256)) else .absent .noSub := by
  simp only [placeOf, listed, h]
  exact if_neg (by simp [small])

theorem Device.readKey_absent (h : placeOf k = .absent st) : d.readKey m r k inForce = (st, 0, []) := by
  simp only [Device.readKey, h]

theorem Device.readKey_count {n : Nat} (h : placeOf k = .count n) : d.readKey m r k inForce = (.ok, Ty.u8.code, [n]) := by
  simp only [Device.readKey, h, Ty.code]

theorem Device.writeCheck_absent {ty : Nat} {bs : List Nat} (h : placeOf k = .absent st) :
    d.writeCheck m r k ty bs = st := by
  simp only [Device.writeCheck, h]

end

/-- An ENTRY_WRITE to an absent address is answered with the ground of its absence, and so is a read of it. -/
theorem absent_refused {s : State} {r : Req} {index sub ty : Nat} {bytes : List Nat} {env : WriteEnv} {inForce : Bool}
    {st : Status} (served : s.dev.served = true) (hsub : sub < 256) (absent : placeOf (index * 256 + sub) = .absent st)
    (refuses : st ≠ .ok) :
    exec (.entryWrite r index sub ty bytes env) s =
      s.nextWith ((s.dev.seeVpp env).send (.result r (index * 256 + sub) st)) ∧
    s.dev.readKey s.mem r (index * 256 + sub) inForce = (st, 0, []) := by
  refine ⟨?_, Device.readKey_absent absent⟩
  rw [exec_entryWrite_served served hsub, Device.writeKey_refused (Device.writeCheck_absent absent) refuses]
  rfl

/-- Settles O8: what is read and what a write is answered follow from what the address names. -/
theorem absentAddressesAreRefused : Obligations.AbsentAddressesAreRefused := by
  intro s r index sub ty bytes env inForce served hindex hsub
  have idx : (index * 256 + sub) / 256 = index := by omega
  have low : (index * 256 + sub) % 256 = sub := by omega
  have small : (index * 256 + sub) / 256 < 65536 := by omega
  have idx0 : index * 256 / 256 = index := Nat.mul_div_cancel index (by decide)
  have low0 : index * 256 % 256 = 0 := Nat.mul_mod_left index 256
  refine ⟨fun unlisted => ?_, fun listed above => ?_, fun listed bare => ?_⟩
  · exact absent_refused served hsub (placeOf_unlisted (by rwa [idx])) (by decide)
  · have uncovered : findEntry (index * 256 + sub) = none := findEntry_above_highestSub (by rwa [idx, low])
    have absent : placeOf (index * 256 + sub) = .absent .noSub := by
      rw [placeOf_uncovered (by rwa [idx]) small uncovered, low, if_neg (Nat.ne_zero_of_lt above)]
    exact absent_refused served hsub absent (by decide)
  · have count : placeOf (index * 256) = .count (highestSub index) := by
      rw [placeOf_uncovered (by rwa [idx0]) (by rwa [idx0]) bare, idx0, if_pos low0]
    exact Device.readKey_count count

/-! ### A WRITE with a failing item (R32) -/

/-- An admitted WRITE of which some item fails its check: the memories stand, and the one answer tells the items' codes. -/
theorem Device.qdpWrite_fails {m : Memories} {d0 d : Device} {v : Via} {env : WriteEnv} {items : List WriteItem}
    (admitted : d0.viaIn v 0x02 (some items.length) ((items.map (fun it => 8 + padLen it.value.length)).foldl (· + ·) 0) =
      (d, some .ok))
    (fails : ∃ p ∈ (Device.writeItems env (viaReq v) m d items).2.2, p.1 ≠ .ok) :
    d0.qdpWrite m v env items =
      let codes := (Device.writeItems env (viaReq v) m d items).2.2
      (m, (d.seeVpp env).viaOut v 0x02 (firstCode (codes.map Prod.fst)) items.length
        (writeReply items (codes.map (fun p => if p.1 = .ok then .notApplied else p.1)))) := by
  obtain ⟨p, hp, bad⟩ := fails
  have notAll : (Device.writeItems env (viaReq v) m d items).2.2.all (fun p => p.1 == .ok) ≠ true :=
    fun all => bad (by simpa using List.all_eq_true.mp all p hp)
  simp only [Device.qdpWrite, admitted, if_neg notAll]

/-- Settles O11: the WRITE's failing form, its codes read off the pairs of check and effect. -/
theorem writeDatagramIsAllOrNothing : Obligations.WriteDatagramIsAllOrNothing := by
  intro s v items env d admitted codes ⟨c, hc, bad⟩
  obtain ⟨p, hp, rfl⟩ := List.mem_map.mp hc
  show s.nextBoth (s.dev.qdpWrite s.mem v env items) = _
  rw [Device.qdpWrite_fails admitted ⟨p, hp, bad⟩, List.map_map]
  rfl

/-! ### Session numbers (R27) -/

theorem nat_repeat_succ {α : Type} (f : α → α) (n : Nat) (a : α) : Nat.repeat f (n + 1) a = Nat.repeat f n (f a) := by
  induction n with
  | zero => rfl
  | succ n ih => exact congrArg f ih

/-- R27: the n-th number after m, for fewer numbers than there are. -/
theorem repeat_sessionSucc {n : Nat} (m : Nat) (h : n ≤ 0xFFFE) : Nat.repeat sessionSucc n m =
    if m ≤ 0xFFFE ∧ 0xFFFE < m + n then m + n - 0xFFFE else m + n := by
  induction n with
  | zero => exact (if_neg (by omega)).symm
  | succ n ih =>
    rw [Nat.repeat, ih (by omega), sessionSucc]
    split <;> split <;> split <;> omega

theorem repeat_sessionSucc_injective {m i j : Nat} (hi : i ≤ 0xFFFD) (hj : j ≤ 0xFFFD)
    (h : Nat.repeat sessionSucc (i + 1) m = Nat.repeat sessionSucc (j + 1) m) : i = j := by
  rw [repeat_sessionSucc m (by omega), repeat_sessionSucc m (by omega)] at h
  split at h <;> split at h <;> omega

/-- A list holds the values of an injective function at most as many times as it is long. -/
theorem le_length_of_injective {α : Type} [DecidableEq α] {g : Nat → α} {n : Nat} {l : List α}
    (inj : ∀ i < n, ∀ j < n, g i = g j → i = j) (inside : ∀ i < n, g i ∈ l) : n ≤ l.length := by
  induction n generalizing l with
  | zero => exact Nat.zero_le _
  | succ n ih =>
    have last : g n ∈ l := inside n (by omega)
    have others : ∀ i < n, g i ∈ l.erase (g n) := fun i hi =>
      (List.mem_erase_of_ne fun same => by
        have := inj i (by omega) n (by omega) same
        omega).mpr (inside i (by omega))
    have fewer := ih (fun i hi j hj => inj i (by omega) j (by omega)) others
    rw [List.length_erase_of_mem last] at fewer
    have := List.length_pos_of_mem last
    omega

/-- Among more numbers than are used, one is free. -/
theorem exists_repeat_sessionSucc_free {used : List Nat} {f : Nat} (m : Nat) (hf : f ≤ 0xFFFE) (h : used.length < f) :
    ∃ j, j < f ∧ Nat.repeat sessionSucc (j + 1) m ∉ used := by
  refine Classical.byContradiction fun none => ?_
  have inside : ∀ j < f, Nat.repeat sessionSucc (j + 1) m ∈ used := fun j hj =>
    Classical.byContradiction fun free => none ⟨j, hj, free⟩
  have := le_length_of_injective
    (fun i hi j hj => repeat_sessionSucc_injective (m := m) (by omega) (by omega)) inside
  omega

/-- The search passes the numbers in use and stops at the first one that is free. -/
theorem nextSession_first_free {used : List Nat} {f m : Nat}
    (h : ∃ j, j < f ∧ Nat.repeat sessionSucc (j + 1) m ∉ used) :
    ∃ j, nextSession used f m = Nat.repeat sessionSucc (j + 1) m ∧
      (∀ i < j, Nat.repeat sessionSucc (i + 1) m ∈ used) ∧ Nat.repeat sessionSucc (j + 1) m ∉ used := by
  induction f generalizing m with
  | zero =>
    obtain ⟨j, hj, -⟩ := h
    omega
  | succ f ih =>
    have next : nextSession used (f + 1) m =
        if used.contains (sessionSucc m) then nextSession used f (sessionSucc m) else sessionSucc m := rfl
    by_cases inUse : sessionSucc m ∈ used
    · have later : ∃ j, j < f ∧ Nat.repeat sessionSucc (j + 1) (sessionSucc m) ∉ used := by
        obtain ⟨j, hj, free⟩ := h
        cases j with
        | zero => exact absurd inUse free
        | succ j => exact ⟨j, by omega, nat_repeat_succ sessionSucc (j + 1) m ▸ free⟩
      obtain ⟨j, found, taken, free⟩ := ih later
      refine ⟨j + 1, ?_, fun i hi => ?_, nat_repeat_succ sessionSucc (j + 1) m ▸ free⟩
      · rw [next, if_pos (List.contains_iff_mem.mpr inUse), found, nat_repeat_succ sessionSucc (j + 1) m]
      · cases i with
        | zero => exact inUse
        | succ i => exact nat_repeat_succ sessionSucc (i + 1) m ▸ taken i (by omega)
    · refine ⟨0, ?_, fun i hi => absurd hi (Nat.not_lt_zero i), inUse⟩
      rw [next, if_neg fun c => inUse (List.contains_iff_mem.mp c)]
      rfl

/-! ### SESSION_OPEN (R27, R42) -/

section
variable {d0 d : Device} {h : QdpHdr}

/-- R42: a request under session 0000h whose header breaks no rule is admitted with nothing changed. -/
theorem Device.qdpIn_open (served : d0.served = true) (on : d0.rxOpen h.rx = true) (heard : d0.quietV4 h.srcIp = false)
    (sound : qdpSound h = true) (new : h.session = 0) (len : h.payloadLen = 4)
    (fits : 4 ≤ d0.regN Reg.QDP_MAX_PAYLOAD_BYTES) : d0.qdpIn h 0x10 none 4 = (d0, some .ok) := by
  simp only [qdpSound, Bool.and_eq_true, beq_iff_eq, decide_eq_true_eq] at sound
  obtain ⟨⟨⟨⟨⟨⟨magic, version⟩, crc⟩, status⟩, arrived⟩, flags⟩, count⟩ := sound
  have form : formCheck (d0.regN Reg.QDP_MAX_PAYLOAD_BYTES) h.flags h.count h.payloadLen none 4 = .ok := by
    have notLarge : ¬ (d0.regN Reg.QDP_MAX_PAYLOAD_BYTES < 4 ∨ 64 < h.count) := by omega
    have notFlagged : ¬ 1 < h.flags := by omega
    simp [formCheck, len, notLarge, notFlagged]
  simp [Device.qdpIn, served, on, heard, magic, version, crc, status, arrived, new, form]

/-- A SESSION_OPEN that is refused opens nothing and is answered under session 0000h. -/
theorem Device.qdpOpen_refused {level : Nat} {rsv : Bool} {st : Status}
    (admitted : d0.qdpIn h 0x10 none 4 = (d, some .ok)) (check : d.openCheck level rsv = st) (refuses : st ≠ .ok) :
    d0.qdpOpen h level rsv = d.qdpPlain h 0x10 0 st [] := by
  simp only [Device.qdpOpen, admitted, check]

theorem Device.takeNonce_zero (d : Device) : d.takeNonce 0 = ([], d) := rfl

/-- The device with a session more, of number n, that its sender has opened for SERVICE. -/
def Device.opened (d : Device) (h : QdpHdr) (n : Nat) : Device :=
  { d with dict := { d.dict with
      sessions := d.dict.sessions ++ [{ num := n, ip := h.srcIp, port := h.srcPort, rx := h.rx, lastSeen := d.now }],
      lastNum := n } }

/-- A SESSION_OPEN requesting SERVICE that is accepted opens a session of the next number, and the answer carries it. -/
theorem Device.qdpOpen_service (admitted : d0.qdpIn h 0x10 none 4 = (d, some .ok)) (check : d.openCheck 2 false = .ok) :
    d0.qdpOpen h 2 false =
      let n := nextSession (d.dict.sessions.map Session.num) 9 d.dict.lastNum
      (d.opened h n).qdpPlain h 0x10 n .ok [] := by
  simp only [Device.qdpOpen, admitted, check, show (2 : Nat) ≠ 1 by decide, if_false, Device.takeNonce_zero]
  rfl

theorem Device.openCheck_service (d : Device) :
    d.openCheck 2 false = if 8 ≤ d.dict.sessions.length then .busy else .ok := by
  simp [Device.openCheck]

end

section
variable {d : Device} {h : QdpHdr} {op n : Nat} {st : Status} {payload : List Nat}

theorem Device.qdpPlain_dict : (d.qdpPlain h op n st payload).dict = d.dict := Device.post_dict _ _ _ _

theorem Device.qdpPlain_out : (d.qdpPlain h op n st payload).out = d.out := Device.post_out _ _ _ _

/-- R288: a response kept in no cache waits last in the queue of the port that its request came by. -/
theorem Device.qdpPlain_queued (hrx : h.rx < 8) (on : d.rxOpen h.rx = true) :
    ∃ f : TxFrame, ((d.qdpPlain h op n st payload).pport (h.rx / 4)).txq = (d.pport (h.rx / 4)).txq ++ [f] ∧ f.level = 3 ∧
      f.body = .qdp h.srcIp h.srcPort
        { opcode := op + 0x80, status := st.code, session := n, seq := h.seq, count := 0, payload := payload } := by
  have ready : h.rx / 4 < 2 ∧ d.pportState (h.rx / 4) = 4 := ⟨by omega, by simpa [Device.rxOpen] using on⟩
  exact ⟨_, by rw [Device.qdpPlain, Device.post_txq, if_pos ready], rfl, rfl⟩

end

/-- Settles O12: the number found is the first free one, for nine numbers in a row are distinct and at most seven are
in use. -/
theorem sessionOpenTakesTheNextFreeNumber : Obligations.SessionOpenTakesTheNextFreeNumber := by
  intro s h served on heard sound new len fits used
  have admitted := Device.qdpIn_open served on heard sound new len fits
  refine ⟨fun few => ?_, fun full => ?_⟩
  · have check : s.dev.openCheck 2 false = .ok := by
      rw [Device.openCheck_service, if_neg (Nat.not_le.mpr few)]
    have usedFew : used.length < 9 := by
      simp only [used, List.length_map]
      omega
    obtain ⟨j, found, taken, free⟩ := nextSession_first_free (exists_repeat_sessionSucc_free s.dev.dict.lastNum (by decide) usedFew)
    refine ⟨j, { s with dev := s.dev.qdpOpen h 2 false }, rfl, rfl, taken, free, ?_⟩
    rw [Device.qdpOpen_service admitted check, found]
    exact ⟨by rw [Device.qdpPlain_dict]; rfl, by rw [Device.qdpPlain_dict]; rfl, Device.qdpPlain_out,
      fun hrx => Device.qdpPlain_queued hrx on⟩
  · have check : s.dev.openCheck 2 false = .busy := by rw [Device.openCheck_service, if_pos full]
    exact congrArg s.nextWith (Device.qdpOpen_refused admitted check (by decide))

/-! ### Authentication (R28 … R30) -/

section
variable {d0 d : Device} {h : QdpHdr} {mac : List Nat} {x : Session} {non : List Nat}

/-- R28: the AUTH that carries the session's value. -/
theorem Device.qdpAuth_match (admitted : d0.qdpIn h 0x12 none 16 = (d, some .ok)) (len : mac.length = 16)
    (unlocked : d.lockedOut = false) (hx : d.session? h.session = some x) (hn : x.opNonce = some non)
    (right : mac = d.authValue non x.num) :
    d0.qdpAuth h mac =
      ((d.setSession { x with opNonce := none, level := if x.level = .serv then .serv else .oper }).authPassed).qdpDone h
        0x12 0 0 [] := by
  simp [Device.qdpAuth, admitted, len, unlocked, hx, hn, ← right]

/-- R30: the AUTH that carries another one. -/
theorem Device.qdpAuth_mismatch (admitted : d0.qdpIn h 0x12 none 16 = (d, some .ok)) (len : mac.length = 16)
    (unlocked : d.lockedOut = false) (hx : d.session? h.session = some x) (hn : x.opNonce = some non)
    (wrong : mac ≠ d.authValue non x.num) :
    d0.qdpAuth h mac = ((d.qdpDone h 0x12 Status.auth.code 0 []).closeSession h.session).authFailed := by
  simp [Device.qdpAuth, admitted, len, unlocked, hx, hn, wrong]

theorem Device.qdpAuth_lockedOut (admitted : d0.qdpIn h 0x12 none 16 = (d, some .ok)) (len : mac.length = 16)
    (locked : d.lockedOut = true) :
    d0.qdpAuth h mac = (d.nonceSpent h.session).qdpDone h 0x12 Status.lockedOut.code 0 [] := by
  simp [Device.qdpAuth, admitted, len, locked]

theorem Device.openCheck_lockedOut {rsv : Bool} (locked : d.lockedOut = true) : d.openCheck 1 rsv = .lockedOut := by
  simp [Device.openCheck, locked]

theorem Device.qdpChallenge_lockedOut (admitted : d0.qdpIn h 0x13 none 0 = (d, some .ok)) (locked : d.lockedOut = true) :
    d0.qdpChallenge h = d.qdpDone h 0x13 Status.lockedOut.code 0 [] := by
  simp [Device.qdpChallenge, admitted, locked]

theorem Device.qdpResponse_lockedOut {sig pub : List Nat} (admitted : d0.qdpIn h 0x14 none 193 = (d, some .ok))
    (hs : sig.length = 96) (hp : pub.length = 97) (locked : d.lockedOut = true) (hx : d.session? h.session = some x) :
    d0.qdpResponse h sig pub =
      (d.setSession { x with svNonce := none }).qdpDone h 0x14 Status.lockedOut.code 0 [] := by
  simp [Device.qdpResponse, admitted, hs, hp, hx, Device.responseTake, locked]

end

/-- Settles O13: the two outcomes of an AUTH on a session whose nonce is outstanding. -/
theorem authenticationDecidesTheLevel : Obligations.AuthenticationDecidesTheLevel := by
  intro s h mac d x non admitted len unlocked hx hn
  exact ⟨fun right => congrArg s.nextWith (Device.qdpAuth_match admitted len unlocked hx hn right),
    fun wrong => congrArg s.nextWith (Device.qdpAuth_mismatch admitted len unlocked hx hn wrong)⟩

/-- Settles O14: each of the four requests meets the lockout before it looks at anything else. -/
theorem lockoutRefusesEveryAuthentication : Obligations.LockoutRefusesEveryAuthentication := by
  intro s h rsv mac sig pub d locked
  refine ⟨fun admitted => ?sessionOpen, fun admitted len => ?auth, fun admitted => ?challenge,
    fun x admitted hs hp hx => ?response⟩
  case sessionOpen =>
    exact congrArg s.nextWith (Device.qdpOpen_refused admitted (Device.openCheck_lockedOut locked) (by decide))
  case auth => exact congrArg s.nextWith (Device.qdpAuth_lockedOut admitted len locked)
  case challenge => exact congrArg s.nextWith (Device.qdpChallenge_lockedOut admitted locked)
  case response => exact congrArg s.nextWith (Device.qdpResponse_lockedOut admitted hs hp locked hx)

/-! ### Sessions that close (R27) -/

/-- R137: stream i closes where session n holds it. -/
def Device.closeStreamIfOf (n : Nat) (d : Device) (i : Nat) : Device :=
  match (d.stream i).holder with
  | none => d
  | some (k, _) => if k = n then d.closeStream i else d

section
variable (d : Device) (n k : Nat)

theorem Device.closeStream_sessions (i : Nat) : (d.closeStream i).dict.sessions = d.dict.sessions := rfl

theorem Device.closeStreamsOf_eq :
    d.closeStreamsOf n = (List.range 16).foldl (Device.closeStreamIfOf n) (d.forgetDescs n) := rfl

theorem Device.closeStreamIfOf_sessions (i : Nat) : (d.closeStreamIfOf n i).dict.sessions = d.dict.sessions := by
  unfold Device.closeStreamIfOf
  split
  · rfl
  · split
    · exact Device.closeStream_sessions d i
    · rfl

theorem Device.closeStreamsOf_sessions : (d.closeStreamsOf n).dict.sessions = d.dict.sessions := by
  rw [Device.closeStreamsOf_eq]
  exact foldl_same (fun d : Device => d.dict.sessions) _ (fun b i => b.closeStreamIfOf_sessions n i) _ (d.forgetDescs n)

theorem Device.closeSession_sessions :
    (d.closeSession n).dict.sessions = d.dict.sessions.filter (fun s => s.num != n) := by
  simp [Device.closeSession, Device.closeStreamsOf_sessions]

/-- A session that closes is gone, and no other one goes with it. -/
theorem Device.closeSession_session? :
    (d.closeSession n).session? k = if k = n then none else d.session? k := by
  rw [Device.session?, Device.closeSession_sessions, List.find?_filter]
  split
  next same =>
    subst same
    exact List.find?_eq_none.mpr (by simp)
  next other =>
    have alone : (fun s : Session => decide ((s.num != n) = true ∧ (s.num == k) = true)) = fun s => s.num == k := by
      funext s
      by_cases hs : s.num = k <;> simp [hs, other]
    rw [alone, Device.session?]

end

section
variable {d : Device} {n : Nat} {x : Session}

theorem Device.sessionTimeout_absent (h : d.session? n = none) : d.sessionTimeout n = d := by
  simp only [Device.sessionTimeout, h]

theorem Device.sessionTimeout_idle (served : d.served = true) (h : d.session? n = some x)
    (idle : x.lastSeen + cycMs (d.regN Reg.SESSION_TIMEOUT_MS) ≤ d.now) : d.sessionTimeout n = d.closeSession n := by
  simp [Device.sessionTimeout, h, served, idle]

theorem Device.sessionTimeout_busy (h : d.session? n = some x)
    (busy : d.now < x.lastSeen + cycMs (d.regN Reg.SESSION_TIMEOUT_MS)) : d.sessionTimeout n = d := by
  simp [Device.sessionTimeout, h, Nat.not_le.mpr busy]

end

/-- Settles O15: by whether the session is open, and by whether it has been idle for long enough. -/
theorem sessionsCloseWhenIdle : Obligations.SessionsCloseWhenIdle := by
  intro s n served
  refine ⟨fun x hx idle => ?_, fun x hx busy => ?_, fun absent => ?_⟩
  · refine ⟨{ s with dev := s.dev.sessionTimeout n }, rfl, ?_⟩
    rw [Device.sessionTimeout_idle served hx idle]
    refine ⟨by simp [Device.closeSession_session?], fun k other y hy => ?_⟩
    rw [Device.closeSession_session?, if_neg other, hy]
    rfl
  · exact congrArg s.nextWith (Device.sessionTimeout_busy hx busy)
  · exact congrArg s.nextWith (Device.sessionTimeout_absent absent)

/-! ### COMMIT_CMD (R35, R38) -/

/-- Two sealed sets hold the same values for the same target. -/
structure Sealed.SameSet (a b : Sealed) : Prop where
  items : a.items = b.items
  mode : a.mode = b.mode
  target : a.target = b.target

section
variable (d : Device) (x : Sealed)

theorem Device.resolveLine_sameSet (l pt : Int) : (d.resolveLine x l pt).SameSet x := by
  unfold Device.resolveLine
  dsimp only
  split <;> exact ⟨rfl, rfl, rfl⟩

theorem Device.resolvePage_sameSet (n : Nat) : (d.resolvePage x n).SameSet x := by
  unfold Device.resolvePage
  dsimp only
  (repeat' split) <;> exact ⟨rfl, rfl, rfl⟩

/-- R37: resolving a set's target says where it acts and changes nothing of what it is. -/
theorem Device.resolve_sameSet : (d.resolve x).SameSet x := by
  unfold Device.resolve
  split
  · exact Device.resolvePage_sameSet d x _
  · split <;> exact Device.resolveLine_sameSet d x _ _

end

/-- R35: the open set as COMMIT_CMD 01h finds it, with its target not resolved yet. -/
def Device.openAsSealed (d : Device) : Sealed :=
  { mode := d.regN Reg.COMMIT_MODE, target := d.reg Reg.COMMIT_TARGET, items := d.dict.openSet }

section
variable {d : Device}

/-- R35: without a ring to commit for, COMMIT_CMD 01h empties the open set into a sealed one, and is SEALED. -/
theorem Device.commitRequest_alone (h : d.ringCommits = false) : d.commitRequest =
    ({ d with dict := { d.dict with openSet := [], sealed := some (d.resolve d.openAsSealed) } } : Device).setReg
      Reg.COMMIT_STATUS 1 := by
  simp [Device.commitRequest, Device.openAsSealed, h]

theorem Device.commitCancel_alone {x : Sealed} (h : d.ringCommits = false) (hx : d.dict.sealed = some x) :
    d.commitCancel = ({ d with dict := { d.dict with sealed := none } } : Device).setReg Reg.COMMIT_STATUS 4 := by
  simp [Device.commitCancel, hx, h]

theorem Device.commitCancel_none (hx : d.dict.sealed = none) : d.commitCancel = d := by
  simp only [Device.commitCancel, hx]

end

/-- Settles O16: by COMMIT_CMD's three values. -/
theorem commitSealsCancelsAndDiscards : Obligations.CommitSealsCancelsAndDiscards := by
  intro s r alone
  refine ⟨fun ok => ?request, fun ok isSealed => ?cancel, fun ok unsealed => ?cancelNone, fun ok => ?discard⟩
  case request =>
    have same := s.dev.resolve_sameSet s.dev.openAsSealed
    have act : s.dev.commitCmd (1 : Nat) = _ := Device.commitRequest_alone alone
    refine ⟨_, s.dev.resolve s.dev.openAsSealed, State.put_commitCmd (v := 1) (by decide) ok, rfl, ?_⟩
    rw [act]
    exact ⟨rfl, rfl, same.items, same.mode, same.target, Device.reg_setReg _ _ _⟩
  case cancel =>
    obtain ⟨x, hx⟩ := Option.isSome_iff_exists.mp isSealed
    refine ⟨_, State.put_commitCmd (v := 2) (by decide) ok, rfl, ?_⟩
    have act : s.dev.commitCmd (2 : Nat) = _ := Device.commitCancel_alone alone hx
    rw [act]
    exact ⟨rfl, Device.reg_setReg _ _ _, rfl⟩
  case cancelNone =>
    have act : s.dev.commitCmd (2 : Nat) = s.dev := Device.commitCancel_none unsealed
    exact (State.put_commitCmd (v := 2) (by decide) ok).trans (by rw [act])
  case discard => exact ⟨_, State.put_commitCmd (v := 3) (by decide) ok, rfl, rfl, rfl⟩

end Sys2Proof.Machine
end

section
/-! PROOFS. The position family (O2, O17, O18, O19, O51): the unit's commands, compare outputs, the record of a latch, an
encoder edge, and what one ENC cycle leaves of the clock. -/
namespace Sys2Proof.Machine

/-! ### Entries of the position unit (R63, R66, R68, R70 … R72) -/

section
variable {m : Memories} {d : Device} {env : WriteEnv} {r : Req}

theorem Device.applyNum_suspectClear {ch : Nat} (v : Int) (h : ch < 2) :
    d.applyNum m env r (Reg.un Reg.SUSPECT_CLEAR ch) v = (m, d.suspectClear ch) := by
  have unit : ch = 0 ∨ ch = 1 := by omega
  rcases unit with rfl | rfl <;> rfl

theorem Device.applyNum_ackSeq {n : Nat} (v : Int) (h : n < 8) :
    d.applyNum m env r (Reg.un Reg.ACK_SEQ n) v = (m, d.probeAck n v.toNat) := by
  have unit : n = 0 ∨ n = 1 ∨ n = 2 ∨ n = 3 ∨ n = 4 ∨ n = 5 ∨ n = 6 ∨ n = 7 := by omega
  rcases unit with rfl | rfl | rfl | rfl | rfl | rfl | rfl | rfl <;> rfl

theorem Device.applyNum_cmpArm {n : Nat} (v : Int) (h : n < 4) :
    d.applyNum m env r (Reg.un Reg.CMP_ARM n) v = (m, if v = 1 then d.cmpArm n else d.cmpDisarm n) := by
  have unit : n = 0 ∨ n = 1 ∨ n = 2 ∨ n = 3 := by omega
  rcases unit with rfl | rfl | rfl | rfl <;> rfl

theorem Device.applyNum_qoutConfig {q field : Nat} (v : Int) (hq : q < 2) (hf : field ≤ 3) :
    d.applyNum m env r (0x239000 + 256 * q + field) v = (m, d.qoutWrite (0x239000 + 256 * q + field) q v) := by
  have output : q = 0 ∨ q = 1 := by omega
  have row : field = 0 ∨ field = 1 ∨ field = 2 ∨ field = 3 := by omega
  rcases output with rfl | rfl <;> rcases row with rfl | rfl | rfl | rfl <;> rfl

end

section
variable {s : State} {r : Req}

theorem State.put_suspectClear {ch : Nat} (h : ch < 2) (ok : s.accepts {} r (Reg.un Reg.SUSPECT_CLEAR ch) 1 = true) :
    s.put (ch < 2) {} r (Reg.un Reg.SUSPECT_CLEAR ch) 1 =
      s.wrote r (Reg.un Reg.SUSPECT_CLEAR ch) (s.dev.suspectClear ch) :=
  have row : ∀ n < 2, (findEntry (Reg.un Reg.SUSPECT_CLEAR n)).map (fun e => (e.ty, e.takes)) = some (.u8, .now) := by
    decide +kernel
  State.put_wrote (v := 1) (row ch h) (.inl rfl) (by decide) (by decide) h ok (Device.applyNum_suspectClear 1 h)

theorem State.put_refSource {v : Nat} (h : v < 256) (ok : s.accepts {} r Reg.REF_SOURCE v = true) :
    s.put (v < 256) {} r Reg.REF_SOURCE v = s.wrote r Reg.REF_SOURCE (s.dev.refSource v) :=
  State.put_wrote (t := .u8) (tk := .now) (by decide +kernel) (.inl rfl) (by decide) h h ok rfl

theorem State.put_refAnchorCmd (ok : s.accepts {} r Reg.REF_ANCHOR_CMD 1 = true) :
    s.put True {} r Reg.REF_ANCHOR_CMD 1 = s.wrote r Reg.REF_ANCHOR_CMD s.dev.anchorNext :=
  State.put_wrote (v := 1) (t := .u8) (tk := .now) (by decide +kernel) (.inl rfl) (by decide) (by decide) trivial ok rfl

theorem State.put_ackSeq {n seq : Nat} (hn : n < 8) (hs : seq < 2 ^ 32)
    (ok : s.accepts {} r (Reg.un Reg.ACK_SEQ n) seq = true) :
    s.put (n < 8 ∧ seq < 2 ^ 32) {} r (Reg.un Reg.ACK_SEQ n) seq =
      s.wrote r (Reg.un Reg.ACK_SEQ n) (s.dev.probeAck n seq) :=
  have row : ∀ i < 8, (findEntry (Reg.un Reg.ACK_SEQ i)).map (fun e => (e.ty, e.takes)) = some (.u32, .now) := by
    decide +kernel
  State.put_wrote (row n hn) (.inl rfl) (by decide) hs ⟨hn, hs⟩ ok (Device.applyNum_ackSeq seq hn)

/-- R70, R71: CMP_ARM arms its output by 01h and disarms it by another value. -/
theorem State.put_cmpArm {n v : Nat} (hn : n < 4) (hv : v < 256)
    (ok : s.accepts {} r (Reg.un Reg.CMP_ARM n) v = true) :
    s.put (n < 4) {} r (Reg.un Reg.CMP_ARM n) v =
      s.wrote r (Reg.un Reg.CMP_ARM n) (if (v : Int) = 1 then s.dev.cmpArm n else s.dev.cmpDisarm n) :=
  have row : ∀ i < 4, (findEntry (Reg.un Reg.CMP_ARM i)).map (fun e => (e.ty, e.takes)) = some (.u8, .now) := by
    decide +kernel
  State.put_wrote (row n hn) (.inl rfl) (by decide) hv hn ok (Device.applyNum_cmpArm v hn)

theorem exec_cmpArm {n : Nat} (hn : n < 4) (ok : s.accepts {} r (Reg.un Reg.CMP_ARM n) 1 = true) :
    exec (.cmpArm r n) s = s.wrote r (Reg.un Reg.CMP_ARM n) (s.dev.cmpArm n) :=
  State.put_cmpArm (v := 1) hn (by decide) ok

theorem exec_cmpDisarm {n : Nat} (hn : n < 4) (ok : s.accepts {} r (Reg.un Reg.CMP_ARM n) 2 = true) :
    exec (.cmpDisarm r n) s = s.wrote r (Reg.un Reg.CMP_ARM n) (s.dev.cmpDisarm n) :=
  State.put_cmpArm (v := 2) hn (by decide) ok

/-- QOUT_SOURCE is a U8, QOUT_NUM and QOUT_DEN are U32. -/
theorem findEntry_qoutConfig {q field : Nat} (hq : q < 2) (one : 1 ≤ field) (three : field ≤ 3) :
    (findEntry (0x239000 + 256 * q + field)).map (fun e => (e.ty, e.takes)) =
      some (if field = 1 then .u8 else .u32, .now) := by
  have row : ∀ q < 2, ∀ f < 3, (findEntry (0x239000 + 256 * q + (f + 1))).map (fun e => (e.ty, e.takes)) =
      some (if f + 1 = 1 then .u8 else .u32, .now) := by
    decide +kernel
  obtain ⟨f, rfl⟩ := Nat.exists_eq_add_of_le' one
  exact row q hq f (by omega)

theorem State.put_qoutConfig {q field v : Nat} (hq : q < 2) (one : 1 ≤ field) (three : field ≤ 3)
    (hv : v < 2 ^ (if field = 1 then 8 else 32)) (ok : s.accepts {} r (0x239000 + 256 * q + field) v = true) :
    s.put (q < 2 ∧ 1 ≤ field ∧ field ≤ 3 ∧ v < 2 ^ (if field = 1 then 8 else 32)) {} r (0x239000 + 256 * q + field) v =
      s.wrote r (0x239000 + 256 * q + field) (s.dev.qoutWrite (0x239000 + 256 * q + field) q v) := by
  have row := findEntry_qoutConfig hq one three
  have acts := Device.applyNum_qoutConfig (m := s.mem) (d := s.dev) (env := {}) (r := r) v hq three
  have unit : q < 2 ∧ 1 ≤ field ∧ field ≤ 3 ∧ v < 2 ^ (if field = 1 then 8 else 32) := ⟨hq, one, three, hv⟩
  by_cases source : field = 1
  · rw [if_pos source] at row hv
    exact State.put_wrote row (.inl rfl) (by decide) hv unit ok acts
  · rw [if_neg source] at row hv
    exact State.put_wrote row (.inl rfl) (by decide) hv unit ok acts

end

theorem exec_encEdge {s : State} {ch : Nat} {a b : Bool} {held : Nat} {v : Vote} (on : s.dev.domainOn 56 = true)
    (h : ch < 2) : exec (.encEdge ch a b held v) s = s.nextWith (s.dev.posEdge ch a b held v) :=
  State.when_true (f := fun d => d.posEdge ch a b held v) (inDom_true on h)

/-- Settles O51: a command of the unit acts where its domain is on; one that is an entry's write acts by that entry. -/
theorem positionCommandsComplete : Obligations.PositionCommandsComplete := by
  refine ⟨fun _ _ _ _ _ _ on h => exec_encEdge on h, ?speedStall, ?ssiFrameStart, ?ssiFrameDone, ?index,
    fun _ _ _ h ok => State.put_suspectClear h ok, fun _ _ _ h ok => State.put_refSource h ok,
    fun _ _ ok => State.put_refAnchorCmd ok, ?probeEdge, fun _ _ _ _ hn hs ok => State.put_ackSeq hn hs ok,
    fun _ _ _ hn ok => exec_cmpArm hn ok, fun _ _ _ hn ok => exec_cmpDisarm hn ok, ?cmpFire, ?cmpPulseEnd, ?qoutStep,
    fun _ _ _ _ _ hq one three hv ok => State.put_qoutConfig hq one three hv ok, fun _ _ _ _ => rfl⟩
  case speedStall =>
    exact fun _ ch v on h => State.when_true (f := fun d => (d.speedStall ch).overspeedVote v) (inDom_true on h)
  case ssiFrameStart =>
    exact fun _ ch sda on h => State.when_true (f := fun d => d.ssiStart ch sda) (inDom_true on h)
  case ssiFrameDone =>
    exact fun _ ch word on h => State.when_true (f := fun d => d.ssiDone ch word) (inDom_true on h)
  case index => exact fun _ ch held on h => State.when_true (f := fun d => d.indexIn ch held) (inDom_true on h)
  case probeEdge =>
    exact fun _ n rising held on h => State.when_true (f := fun d => d.probeIn n rising held) (inDom_true on h)
  case cmpFire => exact fun _ n on h => State.when_true (f := fun d => d.cmpFire n) (inDom_true on h)
  case cmpPulseEnd => exact fun _ n on h => State.when_true (f := fun d => d.cmpPulseEnd n) (inDom_true on h)
  case qoutStep => exact fun _ q on h => State.when_true (f := fun d => d.qoutStep q) (inDom_true on h)

/-! ### Compare outputs (R70, R71) -/

/-- The record of a compare output is written. -/
def Device.setCmp (d : Device) (n : Nat) (x : CmpOut) : Device :=
  { d with pos := { d.pos with cmps := tset cmp0 d.pos.cmps n x } }

section
variable {d : Device} {n : Nat}

theorem Device.setCmp_target (x : CmpOut) : (tget cmp0 (d.setCmp n x).pos.cmps n).target = x.target := by
  simp [Device.setCmp]

theorem Device.raise_raised (c u : Nat) (l : List DF) :
    ∃ e, (d.raise c u l).log.raised = d.log.raised ++ [e] ∧ e.code = c ∧ e.unit = u := ⟨_, rfl, rfl, rfl⟩

/-- R70: in single mode a target above PT is armed as it stands. -/
theorem Device.cmpArm_ahead (single : d.regN (Reg.un Reg.CMP_MODE n) = 1) (ahead : d.pt < d.reg (Reg.un Reg.CMP_PT n)) :
    ∃ x, d.cmpArm n = (d.setCmp n x).setReg (Reg.un Reg.CMP_STATE n) 1 ∧ x.target = d.reg (Reg.un Reg.CMP_PT n) := by
  simp only [Device.cmpArm, single, Int.not_le.mpr ahead]
  exact ⟨_, rfl, rfl⟩

/-- R70: in single mode a target at or below PT is missed, with its event. -/
theorem Device.cmpArm_missed (single : d.regN (Reg.un Reg.CMP_MODE n) = 1) (passed : d.reg (Reg.un Reg.CMP_PT n) ≤ d.pt) :
    ∃ x, d.cmpArm n =
      ((d.setCmp n x).setReg (Reg.un Reg.CMP_STATE n) 3).raise Ev.POS_CMP_MISSED n [.s 0 d.pt] := by
  simp only [Device.cmpArm, single, passed]
  exact ⟨_, rfl⟩

end

/-- Settles O19: by whether the write arms or disarms, and where the target lies. -/
theorem compareArmsAheadOrMisses : Obligations.CompareArmsAheadOrMisses := by
  intro s r n hn
  refine ⟨fun ok single => ⟨fun ahead => ?ahead, fun passed => ?missed⟩, fun ok => ?disarm⟩
  case ahead =>
    obtain ⟨x, arms, target⟩ := Device.cmpArm_ahead single ahead
    refine ⟨_, exec_cmpArm hn ok, rfl, ?_⟩
    rw [arms]
    exact ⟨Device.reg_setReg _ _ _, (Device.setCmp_target x).trans target, rfl⟩
  case missed =>
    obtain ⟨x, misses⟩ := Device.cmpArm_missed single passed
    refine ⟨_, exec_cmpArm hn ok, rfl, ?_⟩
    rw [misses]
    exact ⟨Device.reg_setReg _ _ _, rfl, Device.raise_raised _ _ _⟩
  case disarm => exact ⟨_, exec_cmpDisarm hn ok, rfl, Device.reg_setReg _ _ _, rfl, rfl⟩

/-! ### The record of a latch (R11, R69) -/

@[simp] theorem length_leBytes (n v : Nat) : (leBytes n v).length = n := by
  induction n generalizing v with
  | zero => rfl
  | succ n ih => simp [leBytes, ih]

@[simp] theorem length_leBytesI (n : Nat) (v : Int) : (leBytesI n v).length = n := length_leBytes (n := n) _

section
variable {l l' : List Nat} {off n : Nat}

/-- A field behind a part of a list is a field of the rest. -/
theorem fieldAt_behind (h : l.length ≤ off) : fieldAt (l ++ l') off n = fieldAt l' (off - l.length) n := by
  simp [fieldAt, bytesAt, List.drop_append, List.drop_of_length_le h]

/-- A field that is the front of a list is the number that its bytes spell. -/
theorem fieldAt_front (h : l.length = n) : fieldAt (l ++ l') 0 n = leNat l := by
  simp [fieldAt, bytesAt, ← h]

theorem fieldAt_whole (h : l.length = n) : fieldAt l 0 n = leNat l := by
  simpa using fieldAt_front (l' := []) h

end

theorem toSigned_leBytesI {v : Int} (low : -(2 ^ 63) ≤ v) (high : v < 2 ^ 63) :
    toSigned 64 (leNat (leBytesI 8 v)) = v := by
  have fits : ofSigned (8 * 8) v < 256 ^ 8 := by
    simp only [ofSigned]
    omega
  rw [leBytesI, leNat_leBytes 8 _ fits]
  simp only [toSigned, ofSigned]
  omega

/-- Byte 26 of a latch's record: its input number, and its edge, SUSPECT and STALLED. -/
def latchFlags (l : Latch) : Nat :=
  l.input + (if l.rising then 8 else 0) + (if l.suspect then 16 else 0) + (if l.stalled then 32 else 0)

theorem bit_eq_div (m i : Nat) : bit m i = (m / 2 ^ i % 2 == 1) := by
  rw [bit, Nat.shiftRight_eq_div_pow]

theorem latchFlags_fields {l : Latch} (h : l.input < 8) :
    latchFlags l % 8 = l.input ∧ bit (latchFlags l) 3 = l.rising ∧ bit (latchFlags l) 4 = l.suspect ∧
      bit (latchFlags l) 5 = l.stalled ∧ latchFlags l < 64 := by
  obtain ⟨seq, stamp, stalled, suspect, rising, input⟩ := l
  dsimp only at h
  simp only [latchFlags, bit_eq_div]
  cases stalled <;> cases suspect <;> cases rising <;>
    simp only [Bool.false_eq_true, if_false, if_true, beq_iff_eq, beq_eq_false_iff_ne] <;> omega

/-- R69: the parts of the record in their order. -/
theorem latchBytes_eq {l : Latch} (h : latchFlags l < 64) : latchBytes l = leBytesI 8 l.stamp.pt ++
    (leBytes 8 l.stamp.glc ++ (leBytes 8 l.stamp.tb3 ++ (leBytes 2 l.stamp.frac ++
      (leBytes 1 (latchFlags l) ++ (leBytes 1 0 ++ leBytes 4 l.seq))))) := by
  have byte : leBytes 1 (latchFlags l) = [latchFlags l] := by
    rw [leBytes, leBytes, Nat.mod_eq_of_lt (by omega)]
  rw [byte]
  simp [latchBytes, latchFlags, leBytes]

/-- Settles O18: each field is a part of the record, behind the parts before it. -/
theorem latchRecordLayout : Obligations.LatchRecordLayout := by
  intro l ptLow ptHigh glc tb3 frac input seq b
  obtain ⟨number, edge, suspect, stalled, small⟩ := latchFlags_fields input
  have hb : b = _ := latchBytes_eq small
  have flags : fieldAt b 26 1 = latchFlags l := by
    simpa [hb, fieldAt_behind, fieldAt_front] using leNat_leBytes 1 (latchFlags l) (by omega)
  rw [flags]
  refine ⟨by simp [hb], ?pt, ?glc, ?tb3, ?frac, ?seq, ?reserved, number, edge, suspect, stalled, small⟩
  case pt => simpa [hb, fieldAt_front] using toSigned_leBytesI ptLow ptHigh
  case glc => simpa [hb, fieldAt_behind, fieldAt_front] using leNat_leBytes 8 l.stamp.glc (by omega)
  case tb3 => simpa [hb, fieldAt_behind, fieldAt_front] using leNat_leBytes 8 l.stamp.tb3 tb3
  case frac => simpa [hb, fieldAt_behind, fieldAt_front] using leNat_leBytes 2 l.stamp.frac frac
  case seq => simpa [hb, fieldAt_behind, fieldAt_whole] using leNat_leBytes 4 l.seq seq
  case reserved => simpa [hb, fieldAt_behind, fieldAt_front] using leNat_leBytes 1 0 (by decide)

/-! ### The glitch filter and the decoding of levels (R52) -/

section
variable {need held now : Nat} {old new : Bool} {at_ : Option Nat}

/-- R52: a level that has stood for long enough, as long after the last accepted one, is the input's level. -/
theorem filterLevel_accepts (long : need ≤ held) (apart : ∀ n, at_ = some n → n + need ≤ now) :
    (filterLevel need held now old new at_).1 = new := by
  have accepts : acceptLevel need held now at_ = true := by
    cases at_ with
    | none => simp [acceptLevel, long]
    | some n => simp [acceptLevel, long, apart n rfl]
  by_cases same : old = new <;> simp [filterLevel, accepts, same]

theorem filterLevel_refuses (short : held < need) : (filterLevel need held now old new at_).1 = old := by
  simp [filterLevel, acceptLevel, Nat.not_le.mpr short]

end

/-- R52, R72: the direction of a step from one pair of levels to another along 00, 10, 11, 01; 0 for what is no step. -/
def quadDir (a b a' b' : Bool) : Int :=
  if (a', b') = quadNext a b then 1 else if (a, b) = quadNext a' b' then -1 else 0

/-- R52: in mode 1 a step counts in its direction. -/
theorem decodeEdge_step {a b a' b' : Bool} (h : quadDir a b a' b' ≠ 0) :
    decodeEdge 1 a b a' b' = .count (quadDir a b a' b') := by
  revert h
  cases a <;> cases b <;> cases a' <;> cases b' <;> decide

/-- R52, R53: in mode 1 what is no step is no change or a quadrature error. -/
theorem decodeEdge_no_step {a b a' b' : Bool} (h : quadDir a b a' b' = 0) :
    decodeEdge 1 a b a' b' = .nothing ∨ decodeEdge 1 a b a' b' = .quadError := by
  revert h
  cases a <;> cases b <;> cases a' <;> cases b' <;> decide

/-! ### What an edge of a channel may move (R52 … R56) -/

/-- What a channel has counted and accepted. -/
def PosCh.counted (x : PosCh) : Int × Bool × Bool := (x.c, x.a, x.b)

/-- The count and the levels of channel ch, and the whole record of the other channel. -/
def Device.edgeView (d : Device) (ch : Nat) : (Int × Bool × Bool) × PosCh := ((d.posCh ch).counted, d.posCh (1 - ch))

/-- R58, R59: the estimators leave the count and the levels. -/
theorem PosCh.speedEdge_counted (x : PosCh) (s : SpeedConf) (now : Nat) (dir : Int) :
    (x.speedEdge s now dir).counted = x.counted := by
  unfold PosCh.speedEdge
  dsimp only
  (repeat' split) <;> rfl

section
variable {d d' : Device} {ch : Nat}

theorem Device.edgeView_eq_iff {c : Int} {a b : Bool} {y : PosCh} : d.edgeView ch = ((c, a, b), y) ↔
    (d.posCh ch).c = c ∧ (d.posCh ch).a = a ∧ (d.posCh ch).b = b ∧ d.posCh (1 - ch) = y := by
  simp [Device.edgeView, PosCh.counted, and_assoc]

theorem Device.edgeView_of_posCh (h : ∀ i, d'.posCh i = d.posCh i) : d'.edgeView ch = d.edgeView ch := by
  simp only [Device.edgeView, h]

theorem Device.edgeView_of_pos (h : d'.pos = d.pos) : d'.edgeView ch = d.edgeView ch :=
  Device.edgeView_of_posCh fun i => by simp only [Device.posCh, h]

@[simp] theorem Device.posCh_setPosCh (d : Device) (ch : Nat) (x : PosCh) : (d.setPosCh ch x).posCh ch = x := by
  by_cases h : ch = 0 <;> simp [Device.posCh, Device.setPosCh, h]

theorem Device.posCh_setPosCh_other (x : PosCh) (h : ch < 2) : (d.setPosCh ch x).posCh (1 - ch) = d.posCh (1 - ch) := by
  have unit : ch = 0 ∨ ch = 1 := by omega
  rcases unit with rfl | rfl <;> rfl

/-- Writing a channel leaves the other one. -/
theorem Device.setPosCh_edgeView (x : PosCh) (h : ch < 2) :
    (d.setPosCh ch x).edgeView ch = (x.counted, d.posCh (1 - ch)) := by
  rw [Device.edgeView, Device.posCh_setPosCh, Device.posCh_setPosCh_other x h]

/-- An event that is raised moves nothing. -/
theorem Device.raise_if_edgeView (p : Prop) [Decidable p] (c u : Nat) (l : List DF) :
    (if p then d.raise c u l else d).edgeView ch = d.edgeView ch := by
  split <;> rfl

/-- R56: a count is held within its limits. -/
theorem Device.setCount_edgeView (c : Int) (h : ch < 2) : (d.setCount ch c).edgeView ch =
    ((clampI cMin cMax c, (d.posCh ch).a, (d.posCh ch).b), d.posCh (1 - ch)) :=
  (Device.raise_if_edgeView _ _ _ _).trans (Device.setPosCh_edgeView _ h)

theorem Device.qoutCount_posCh (d : Device) (q : Nat) (dir : Int) (i : Nat) : (d.qoutCount q dir).posCh i = d.posCh i := by
  unfold Device.qoutCount
  dsimp only
  (repeat' split) <;> rfl

theorem Device.schedStop_pos (d : Device) : d.schedStop.pos = d.pos := by
  unfold Device.schedStop
  (repeat' split) <;> rfl

theorem Device.enterSuspect_posCh (d : Device) (ch i : Nat) : (d.enterSuspect ch).posCh i = d.posCh i := by
  unfold Device.enterSuspect
  dsimp only
  split
  · rfl
  · split
    · rfl
    · split
      · simp only [Device.posCh, Device.schedStop_pos, Device.setReg_pos]
      · rfl

theorem Device.ptTrack_posCh (d : Device) (i : Nat) : d.ptTrack.posCh i = d.posCh i := by
  unfold Device.ptTrack
  dsimp only
  (repeat' split) <;> rfl

/-- R64: a missing index is noted on its channel alone. -/
theorem Device.indexMissing_edgeView (d : Device) (h : ch < 2) : (d.indexMissing ch).edgeView ch = d.edgeView ch := by
  unfold Device.indexMissing
  dsimp only
  split
  · rfl
  · split
    · have noted : (d.setPosCh ch { d.posCh ch with missing := true }).edgeView ch = d.edgeView ch :=
        Device.setPosCh_edgeView _ h
      refine (Device.edgeView_of_pos (Device.raise_pos _ _ _ _)).trans ?_
      split
      · exact noted
      · exact (Device.edgeView_of_posCh (Device.enterSuspect_posCh _ _)).trans noted
    · rfl

/-- R53: a quadrature error counts in the dictionary and is no count of the channel. -/
theorem Device.quadError_edgeView (d : Device) (h : ch < 2) : (d.quadError ch).edgeView ch = d.edgeView ch :=
  (Device.raise_if_edgeView _ _ _ _).trans (Device.setPosCh_edgeView _ h)

/-- R55: an accepted count starts the fraction of the timeline anew, where it is the timeline's. -/
def Device.restartFraction (d : Device) (p : Bool) : Device :=
  if p then { d with pos := { d.pos with f := 0, acc := 0, edgeNow := true } } else d

/-- R72: the divided outputs of a channel take one count, unless it was beyond the limit. -/
def Device.qoutsCount (d : Device) (ch : Nat) (was way : Int) : Device :=
  [0, 1].foldl (fun (d : Device) (q : Nat) =>
    if (d.posCh ch).c ≠ was ∧ d.regN (Reg.un Reg.QOUT_SOURCE q) = ch + 1 then d.qoutCount q way else d) d

/-- R16: an edge of the timeline's channel is tracked. -/
def Device.trackEdge (d : Device) (ch : Nat) : Device := if ch = 0 && !d.isMember then d.ptTrack else d

/-- R55, R56: the direction of a count, which DIR_INVERT turns round. -/
def Device.countWay (d : Device) (ch : Nat) (dir : Int) : Int := if d.regB (Reg.un Reg.DIR_INVERT ch) then -dir else dir

/-- The parts of an accepted count in their order. -/
theorem Device.applyCount_eq (d : Device) (ch : Nat) (dir : Int) : d.applyCount ch dir =
    let x := d.posCh ch
    let way := d.countWay ch dir
    let d1 := (d.setPosCh ch (x.speedEdge (d.speedConf ch) d.now way)).setCount ch (x.c + way)
    (((d1.restartFraction (decide (ch = 0) && !d.isMember)).qoutsCount ch x.c way).indexMissing ch).trackEdge ch := by
  rfl

theorem Device.restartFraction_edgeView (d : Device) (p : Bool) : (d.restartFraction p).edgeView ch = d.edgeView ch := by
  cases p <;> rfl

theorem Device.qoutsCount_edgeView (d : Device) (was way : Int) : (d.qoutsCount ch was way).edgeView ch = d.edgeView ch :=
  foldl_same (fun d : Device => d.edgeView ch) _ (fun d q => by
    split
    · exact Device.edgeView_of_posCh (Device.qoutCount_posCh d q way)
    · rfl) _ d

theorem Device.trackEdge_edgeView (d : Device) : (d.trackEdge ch).edgeView ch = d.edgeView ch := by
  unfold Device.trackEdge
  split
  · exact Device.edgeView_of_posCh (Device.ptTrack_posCh d)
  · rfl

/-- R55, R56: an accepted count moves the channel's count by one in its direction, within the limits. -/
theorem Device.applyCount_edgeView (d : Device) (dir : Int) (h : ch < 2) : (d.applyCount ch dir).edgeView ch =
    ((clampI cMin cMax ((d.posCh ch).c + d.countWay ch dir), (d.posCh ch).a, (d.posCh ch).b), d.posCh (1 - ch)) := by
  have kept := PosCh.speedEdge_counted (d.posCh ch) (d.speedConf ch) d.now (d.countWay ch dir)
  obtain ⟨-, levelA, levelB⟩ := by simpa only [PosCh.counted, Prod.mk.injEq] using kept
  rw [Device.applyCount_eq, Device.trackEdge_edgeView, Device.indexMissing_edgeView _ h, Device.qoutsCount_edgeView,
    Device.restartFraction_edgeView, Device.setCount_edgeView _ h, Device.posCh_setPosCh,
    Device.posCh_setPosCh_other _ h, levelA, levelB]

/-! ### The cut of the channels that a halted voter gates (R93, R97 … R99) -/

theorem Device.loseSlot_pos (d : Device) (c h cause : Nat) (s : Int) : (d.loseSlot c h cause s).pos = d.pos := by
  unfold Device.loseSlot
  dsimp only
  (repeat' split) <;> simp [Device.incReg]

theorem Device.withholdDrop_pos (d : Device) (c cause : Nat) : (d.withholdDrop c cause).pos = d.pos := by
  unfold Device.withholdDrop
  dsimp only
  (repeat' split) <;> simp [Device.setDtUnit]

theorem Device.cutFire_pos (d : Device) (c cause : Nat) : (d.cutFire c cause).pos = d.pos := by
  unfold Device.cutFire
  dsimp only
  split
  · exact Device.withholdDrop_pos d c cause
  · split
    · rfl
    · exact Device.loseSlot_pos _ _ _ _ _

theorem Device.cutGated_pos (d : Device) : d.cutGated.pos = d.pos :=
  foldl_same (fun d : Device => d.pos) _ (fun d c => by
    split
    · exact Device.cutFire_pos d c _
    · split
      · exact Device.withholdDrop_pos d c _
      · rfl) _ d

theorem Device.voteHalt_pos (d : Device) : d.voteHalt.pos = d.pos := by
  unfold Device.voteHalt
  split
  · rfl
  · exact Device.cutGated_pos _

theorem Device.voteDissent_pos (d : Device) (i c item : Nat) : (d.voteDissent i c item).pos = d.pos := by
  unfold Device.voteDissent
  dsimp only
  split
  · exact Device.voteHalt_pos _
  · (repeat' split) <;> simp [Device.voteDisagree, Device.retireCopy, Device.incReg]

theorem Device.voteItem_pos (d : Device) (c : Nat) (v : Vote) : (d.voteItem c v).pos = d.pos := by
  unfold Device.voteItem
  split
  · rfl
  · split
    · exact Device.voteHalt_pos d
    · split
      · rfl
      · split
        · rfl
        · exact Device.voteDissent_pos _ _ _ _

theorem Device.overspeedCheck_pos (d : Device) : d.overspeedCheck.pos = d.pos := by
  unfold Device.overspeedCheck
  dsimp only
  (repeat' split) <;> simp

/-- R92, R97: the overspeed comparison, whatever the copies vote, leaves the position unit. -/
theorem Device.overspeedVote_pos (d : Device) (v : Vote) : (d.overspeedVote v).pos = d.pos :=
  (Device.voteItem_pos _ _ _).trans (Device.overspeedCheck_pos d)

theorem Device.edgeNote_pos (d : Device) : d.edgeNote.pos = d.pos := by
  unfold Device.edgeNote
  split <;> rfl

/-- R52: the levels of a channel's A and B that the filter leaves, where a and b have stood for `held` samples. -/
def Device.levelsAfter (d : Device) (ch : Nat) (a b : Bool) (held : Nat) : Bool × Bool :=
  let x := d.posCh ch
  let need := d.regN (Reg.un Reg.POS_FILTER_CYCLES ch) + 1
  ((filterLevel need held d.now x.a a x.aAt).1, (filterLevel need held d.now x.b b x.bAt).1)

/-- R52, R56: the count of a channel whose levels become a' and b'. -/
def Device.countAfter (d : Device) (ch : Nat) (a' b' : Bool) : Int :=
  let x := d.posCh ch
  let dir := quadDir x.a x.b a' b'
  if dir = 0 then x.c else clampI cMin cMax (x.c + d.countWay ch dir)

section
variable {a b a' b' : Bool} {held : Nat}

/-- R52, R53: the levels a' and b' that the filter leaves are taken; a step between them and those before counts. -/
theorem Device.posLevels_edgeView (h : ch < 2) (mode : d.regN (Reg.un Reg.INC_MODE ch) = 1)
    (levels : d.levelsAfter ch a b held = (a', b')) :
    (d.posLevels ch a b held).edgeView ch = ((d.countAfter ch a' b', a', b'), d.posCh (1 - ch)) := by
  obtain ⟨levelA, levelB⟩ := Prod.mk.inj levels
  unfold Device.posLevels
  dsimp only
  rw [mode, levelA, levelB]
  generalize hy : ({ d.posCh ch with a := a', b := b', aAt := _, bAt := _ } : PosCh) = y
  have taken : (d.setPosCh ch y).edgeView ch = (((d.posCh ch).c, a', b'), d.posCh (1 - ch)) := by
    rw [Device.setPosCh_edgeView y h, ← hy]
    rfl
  by_cases step : quadDir (d.posCh ch).a (d.posCh ch).b a' b' = 0
  · rw [Device.countAfter, if_pos step]
    rcases decodeEdge_no_step step with none | error
    · rw [none]
      exact taken
    · rw [error]
      exact (Device.quadError_edgeView _ h).trans taken
  · rw [Device.countAfter, if_neg step, decodeEdge_step step, Device.applyCount_edgeView _ _ h, Device.posCh_setPosCh,
      Device.posCh_setPosCh_other _ h, Device.countWay, Device.setPosCh_regB, ← hy]
    rfl

/-- R55: what follows an edge on the ring, in the Mantel and among its copies leaves the channels. -/
theorem Device.posEdge_edgeView_posLevels (d : Device) (a b : Bool) (held : Nat) (v : Vote) :
    (d.posEdge ch a b held v).edgeView ch =
      (({ d with pos := { d.pos with edgeNow := false } } : Device).posLevels ch a b held).edgeView ch := by
  unfold Device.posEdge
  dsimp only
  split
  · exact Device.edgeView_of_pos ((Device.overspeedVote_pos _ v).trans (Device.edgeNote_pos _))
  · rfl

theorem Device.posEdge_edgeView (v : Vote) (h : ch < 2) (mode : d.regN (Reg.un Reg.INC_MODE ch) = 1)
    (levels : d.levelsAfter ch a b held = (a', b')) :
    (d.posEdge ch a b held v).edgeView ch = ((d.countAfter ch a' b', a', b'), d.posCh (1 - ch)) :=
  (Device.posEdge_edgeView_posLevels d a b held v).trans (Device.posLevels_edgeView h mode levels)

end

end

theorem clampI_count (c : Int) : clampI cMin cMax c = max (-(2 ^ 53)) (min (2 ^ 53 - 1) c) := by
  simp only [clampI, cMin, cMax]
  omega

theorem quadDir_self (a b : Bool) : quadDir a b a b = 0 := by
  cases a <;> cases b <;> rfl

/-- Settles O17: what the edge leaves of the two channels, where the filter accepts the levels and where it does not. -/
theorem encoderEdgeMovesOnlyItsCount : Obligations.EncoderEdgeMovesOnlyItsCount := by
  intro s ch a b held v on h mode x need dir way
  refine ⟨fun long apart => ⟨_, exec_encEdge on h, rfl, ?accepted⟩, fun short => ⟨_, exec_encEdge on h, rfl, ?refused⟩⟩
  case accepted =>
    have levels : s.dev.levelsAfter ch a b held = (a, b) :=
      Prod.ext (filterLevel_accepts long fun n hn => apart n (.inl hn))
        (filterLevel_accepts long fun n hn => apart n (.inr hn))
    have count : s.dev.countAfter ch a b = if dir = 0 then x.c else max (-(2 ^ 53)) (min (2 ^ 53 - 1) (x.c + way)) := by
      rw [← clampI_count]
      rfl
    exact Device.edgeView_eq_iff.mp (count ▸ Device.posEdge_edgeView v h mode levels)
  case refused =>
    have levels : s.dev.levelsAfter ch a b held = (x.a, x.b) :=
      Prod.ext (filterLevel_refuses short) (filterLevel_refuses short)
    have count : s.dev.countAfter ch x.a x.b = x.c := if_pos (quadDir_self x.a x.b)
    exact Device.edgeView_eq_iff.mp (count ▸ Device.posEdge_edgeView v h mode levels)

/-! ### What one ENC cycle leaves of the clock and of the boot (R55, R393) -/

/-- The model's clock, and the boot with the device reset that it waits for. -/
def Device.clock (d : Device) : Nat × Boot := (d.now, d.boot)

/-- A step that a fold repeats on the device leaves the clock where each one does. -/
theorem foldl_clock {α : Type} {f : Device → α → Device} (h : ∀ d a, (f d a).clock = d.clock) (l : List α) (d : Device) :
    (l.foldl f d).clock = d.clock := foldl_same Device.clock f h l d

section
variable (d : Device)

theorem Device.setVal_clock (k : Nat) (v : Val) : (d.setVal k v).clock = d.clock := by
  cases v <;> rfl

theorem Device.setPport_clock (p : Nat) (x : PorchPort) : (d.setPport p x).clock = d.clock := by
  simp only [Device.clock, Device.setPport_now, Device.setPport_boot]

theorem Device.setHport_clock (p : Nat) (x : HallPort) : (d.setHport p x).clock = d.clock := by
  simp only [Device.clock, Device.setHport_now, Device.setHport_boot]

theorem Device.setTb_clock (t : Nat) (x : TimeBase) : (d.setTb t x).clock = d.clock := by
  unfold Device.setTb
  split <;> rfl

theorem Device.post_clock (u l : Nat) (t : Tx) : (d.post u l t).clock = d.clock := by
  simp only [Device.clock, Device.post_now, Device.post_boot]

/-! #### The position unit, the Mantel, the Window and the Rooms -/

theorem Device.ptTrack_clock : d.ptTrack.clock = d.clock := by
  unfold Device.ptTrack
  dsimp only
  (repeat' split) <;> rfl

theorem Device.overspeedCheck_clock : d.overspeedCheck.clock = d.clock := by
  unfold Device.overspeedCheck
  dsimp only
  (repeat' split) <;> simp [Device.clock]

theorem Device.loadStored_clock (k : Nat) : (d.loadStored k).clock = d.clock := by
  unfold Device.loadStored
  split
  · rfl
  · exact Device.setVal_clock d k _

theorem Device.winPortStart_clock (p : Nat) : (d.winPortStart p).clock = d.clock := by
  unfold Device.winPortStart
  have loaded := foldl_clock (fun d k => d.loadStored_clock (k + p))
    [Reg.PORT_LANES, Reg.PORT_MBPS, Reg.PORT_CLOCK_MODE, Reg.CCI_KHZ] d
  generalize List.foldl _ d _ = d1 at loaded ⊢
  exact loaded

theorem Device.winPortTick_clock (p : Nat) : (d.winPortTick p).clock = d.clock := by
  unfold Device.winPortTick
  dsimp only
  split
  · split
    · exact Device.winPortStart_clock _ p
    · rfl
  · rfl

theorem Device.markBegun_clock (k : Nat) : (d.markBegun k).clock = d.clock := by
  unfold Device.markBegun
  dsimp only
  split <;> rfl

/-! #### The Pantry (R335 … R345) -/

theorem Device.eccFixed_clock (s : Nat) : (d.eccFixed s).clock = d.clock := by
  unfold Device.eccFixed
  dsimp only
  split <;> rfl

theorem Device.eccSector_clock (wrong : List Nat) (s : Nat) : (d.eccSector wrong s).clock = d.clock := by
  unfold Device.eccSector
  split
  · rfl
  · split
    · rfl
    · exact Device.eccFixed_clock d s
    · rfl

theorem Device.eccMerge_clock (wrong : List Nat) (a n s : Nat) : (d.eccMerge wrong a n s).clock = d.clock := by
  unfold Device.eccMerge
  dsimp only
  split
  · rfl
  · split
    · split <;> exact Device.eccSector_clock d wrong s
    · exact Device.eccSector_clock d wrong s

theorem Device.eccRead_clock (a n : Nat) (wrong : List Nat) : (d.eccRead a n wrong).clock = d.clock := by
  unfold Device.eccRead
  split
  · exact foldl_clock (fun d s => d.eccSector_clock wrong s) _ d
  · rfl

theorem Device.eccWrite_clock (a n : Nat) (wrong : List Nat) : (d.eccWrite a n wrong).clock = d.clock := by
  unfold Device.eccWrite
  split
  · exact foldl_clock (fun d s => d.eccMerge_clock wrong a n s) _ d
  · rfl

theorem Device.eccQueued_clock (a n : Nat) : (d.eccQueued a n).clock = d.clock := by
  unfold Device.eccQueued
  split
  · exact foldl_clock (fun d s => d.eccMerge_clock [] a n s) _ d
  · rfl

theorem Device.shopWent_clock (t : PantryReq) : (d.shopWent t).clock = d.clock := by
  unfold Device.shopWent
  split <;> rfl

theorem Device.takeWrites_clock (c n : Nat) : (Device.takeWrites c n d).clock = d.clock := by
  induction n generalizing d with
  | zero => rfl
  | succ n ih =>
    unfold Device.takeWrites
    dsimp only
    split
    · split
      · rfl
      · exact (ih _).trans (Device.shopWent_clock _ _)
    · rfl

theorem Device.dueIssued_clock (c : Nat) : (d.dueIssued c).clock = d.clock := by
  unfold Device.dueIssued
  dsimp only
  split
  · rfl
  · split <;> rfl

theorem Device.poisonedFor_clock (t : PantryReq) : (d.poisonedFor t).clock = d.clock := by
  unfold Device.poisonedFor
  dsimp only
  (repeat' split) <;> rfl

/-- R336, R341: channel c takes transaction t out of its queues, and the bank of the transaction holds its row open. -/
def Device.txnOpened (d : Device) (c : Nat) (t : PantryReq) (ahead : Nat × Nat) : Device :=
  let (_, b, r) := d.txnPlace t
  let n := txnLen t
  let x := (d.pch c).roll d.now
  let d1 := d.setPch c { x with
    txns := if t.write then x.txns else x.txns.erase t
    wq := if t.write then x.wq.erase t else x.wq
    ahead := ahead
    busyTo := d.now + d.txnCycles t
    rd := if t.write then x.rd else x.rd + n
    wr := if t.write then x.wr + n else x.wr }
  let d2 := if (d1.bank b).row = some r then d1 else d1.activate b r
  d2.setBank b { d2.bank b with span := spanInRow (d.spanOf t.addr) }

/-- R343, R344: the sectors of a read are decoded, and its poisoned data does what it does to the reader. -/
def Device.txnRead (d : Device) (t : PantryReq) : Device :=
  let e := (d.shopWent t).eccRead t.addr (txnLen t) (wrongSectors t)
  if d.readPoisoned t then e.poisonedFor t else e

/-- R345: a read is answered, a scrub's read counts with the pass that it completes. -/
def Device.txnAnswered (d : Device) (t : PantryReq) (bad : Bool) : Device :=
  if t.who = scrubber then (if d.regN Reg.PANTRY_BYTES < t.addr + 2 * txnLen t then d.incReg Reg.SCRUB_PASSES else d)
  else d.readAnswer t bad

/-- The parts of a served transaction in their order. -/
theorem Device.serve_eq (c : Nat) (t : PantryReq) (ahead : Nat × Nat) : d.serve c t ahead =
    let e := d.txnOpened c t ahead
    if t.write then e.eccWrite t.addr (txnLen t) (wrongSectors t)
    else (e.txnRead t).txnAnswered t (e.readPoisoned t) := by
  rfl

theorem Device.txnOpened_clock (c : Nat) (t : PantryReq) (ahead : Nat × Nat) :
    (d.txnOpened c t ahead).clock = d.clock := by
  have activated (e : Device) (b r : Nat) : (if (e.bank b).row = some r then e else e.activate b r).clock = e.clock := by
    split <;> rfl
  exact activated _ _ _

theorem Device.txnRead_clock (t : PantryReq) : (d.txnRead t).clock = d.clock := by
  have decoded := (Device.eccRead_clock _ t.addr (txnLen t) (wrongSectors t)).trans (Device.shopWent_clock d t)
  unfold Device.txnRead
  dsimp only
  split
  · exact (Device.poisonedFor_clock _ t).trans decoded
  · exact decoded

theorem Device.txnAnswered_clock (t : PantryReq) (bad : Bool) : (d.txnAnswered t bad).clock = d.clock := by
  unfold Device.txnAnswered
  (repeat' split) <;> rfl

theorem Device.serve_clock (c : Nat) (t : PantryReq) (ahead : Nat × Nat) : (d.serve c t ahead).clock = d.clock := by
  have opened := d.txnOpened_clock c t ahead
  rw [Device.serve_eq]
  dsimp only
  split
  · exact (Device.eccWrite_clock _ _ _ _).trans opened
  · exact (Device.txnAnswered_clock _ t _).trans ((Device.txnRead_clock _ t).trans opened)

theorem Device.refreshIssued_clock (c : Nat) : (d.refreshIssued c).clock = d.clock := by
  unfold Device.refreshIssued
  dsimp only
  split <;> rfl

theorem Device.chTick_clock (c : Nat) : (d.chTick c).clock = d.clock := by
  unfold Device.chTick
  dsimp only
  split
  · rfl
  · split
    · rfl
    · have taken := Device.takeWrites_clock d c inFlight
      split
      · exact taken
      · exact (Device.dueIssued_clock _ c).trans taken
      · exact (Device.serve_clock _ c _ _).trans taken
      · exact (Device.refreshIssued_clock _ c).trans taken

/-! #### The streams (R136 … R138, R147) -/

theorem Device.porchWrite_clock (x : Stream) (s o : Nat) (bs : List Nat) : (d.porchWrite x s o bs).clock = d.clock := by
  unfold Device.porchWrite
  dsimp only
  split
  · rfl
  · have queued (d : Device) (t : PantryReq) : ((d.eccQueued t.addr (txnLen t)).txnWaits t).clock = d.clock :=
      d.eccQueued_clock t.addr (txnLen t)
    exact (foldl_clock (fun d c => d.takeWrites_clock c inFlight) _ _).trans (foldl_clock queued _ d)

theorem Device.ingestOne_clock {d d' : Device} {m m' : List Host.Cell} {s : Nat}
    (h : d.ingestOne m s = some (m', d')) : d'.clock = d.clock := by
  unfold Device.ingestOne at h
  dsimp only at h
  split at h
  · cases h
  · split at h
    · cases h
      rfl
    · split at h
      · cases h
      · split at h
        · cases h
          rfl
        · cases h
          exact Device.porchWrite_clock d _ _ _ _

theorem Device.ingest_clock (m : List Host.Cell) (s n : Nat) : (Device.ingest m d s n).2.clock = d.clock := by
  induction n generalizing m d with
  | zero => rfl
  | succ n ih =>
    unfold Device.ingest
    split
    · rfl
    next one => exact (ih _ _).trans (Device.ingestOne_clock one)

theorem Device.advance_clock (m : List Host.Cell) (s : Nat) : (Device.advance m d s).2.clock = d.clock := by
  unfold Device.advance
  dsimp only
  split
  · exact Device.ingest_clock d m s _
  · rfl

theorem Device.sendCredit_clock (s : Nat) : (d.sendCredit s).clock = d.clock := by
  unfold Device.sendCredit
  dsimp only
  split
  · rfl
  · exact Device.post_clock _ _ _ _

theorem Device.creditCheck_clock (s : Nat) : (d.creditCheck s).clock = d.clock := by
  unfold Device.creditCheck
  dsimp only
  split
  · exact Device.sendCredit_clock d s
  · rfl

theorem Device.streamsMove_clock (m : List Host.Cell) (l : List Nat) : (Device.streamsMove m d l).2.clock = d.clock := by
  induction l generalizing m d with
  | nil => rfl
  | cons s l ih => exact (ih _ _).trans ((Device.creditCheck_clock _ s).trans (Device.advance_clock d m s))

theorem Device.pantryTick_clock (m : List Host.Cell) : (Device.pantryTick m d).2.clock = d.clock := by
  unfold Device.pantryTick
  dsimp only
  split
  · exact (Device.streamsMove_clock _ _ _).trans (foldl_clock (fun d c => d.chTick_clock c) _ d)
  · rfl

/-! #### The Porch and the Hallway (R286 … R289, R315) -/

theorem Device.ptpLeft_clock (unit t kind : Nat) : (d.ptpLeft unit t kind).clock = d.clock := by
  unfold Device.ptpLeft
  dsimp only
  split
  · exact Device.setTb_clock d t _
  · split
    · exact Device.post_clock d _ _ _
    · split
      · exact Device.post_clock d _ _ _
      · rfl

theorem Device.txLeave_clock (p : Nat) (f : TxFrame) : (d.txLeave p f).clock = d.clock := by
  unfold Device.txLeave
  dsimp only
  split
  · exact (Device.ptpLeft_clock _ _ _ _).trans (Device.setPport_clock d p _)
  · exact Device.setPport_clock d p _

theorem Device.portTx_clock (p : Nat) : (d.portTx p).clock = d.clock := by
  unfold Device.portTx
  split
  · rfl
  · refine foldl_clock (fun d sub => ?_) _ d
    split
    · rfl
    · split
      · exact Device.txLeave_clock d p _
      · rfl

theorem Device.linksDown_clock (p cause : Nat) : (d.linksDown p cause).clock = d.clock :=
  foldl_clock (f := fun d s => d.raise Ev.PORCH_LINK_DOWN (portUnit p s) [.u 0 cause]) (fun _ _ => rfl) _ _

theorem Device.holdUpdate_clock : d.holdUpdate.clock = d.clock := by
  refine foldl_clock (fun d p => ?_) _ d
  dsimp only
  split
  · exact Device.setPport_clock d p _
  · rfl

theorem Device.porchStopTick_clock (p : Nat) : (d.porchStopTick p).clock = d.clock := by
  unfold Device.porchStopTick
  dsimp only
  split
  · exact (Device.holdUpdate_clock _).trans ((Device.linksDown_clock _ p 2).trans (Device.setPport_clock d p _))
  · rfl

theorem Device.pauseOut_clock (p rx : Nat) : (d.pauseOut p rx).clock = d.clock := by
  unfold Device.pauseOut
  dsimp only
  split
  · rfl
  · split
    · exact Device.setPport_clock d p _
    · split
      · exact Device.setPport_clock d p _
      · rfl

theorem Device.pauseTick_clock (p : Nat) : (d.pauseTick p).clock = d.clock := by
  unfold Device.pauseTick
  dsimp only
  split
  · split
    · exact Device.pauseOut_clock _ p 0
    · rfl
  · rfl

theorem Device.hallTick_clock (p : Nat) : (d.hallTick p).clock = d.clock := by
  unfold Device.hallTick
  dsimp only
  split
  · rfl
  · exact Device.setHport_clock d p _

/-! #### The cycle -/

theorem Device.tickCore_clock (m : Memories) : (Device.tickCore m d).2.clock = d.clock := by
  unfold Device.tickCore
  dsimp only
  generalize hd1 : (if d.domainOn 56 = true then ((d.noteReached.ptTrack).posTick).overspeedCheck else d) = d1
  have position : d1.clock = d.clock := by
    rw [← hd1]
    split
    · exact (Device.overspeedCheck_clock _).trans (Device.ptTrack_clock d.noteReached)
    · rfl
  have rooms := (foldl_clock (fun d k => d.markBegun_clock k) (List.range 24) d1).trans position
  generalize List.foldl _ d1 _ = d2 at rooms ⊢
  have window := (foldl_clock (fun d p => d.winPortTick_clock p) [0, 1, 2, 3] d2).trans rooms
  generalize List.foldl _ d2 _ = d3 at window ⊢
  refine (foldl_clock (fun d p => (Device.hallTick_clock _ p).trans ((Device.pauseTick_clock _ p).trans
    ((Device.porchStopTick_clock _ p).trans (Device.portTx_clock d p)))) _ _).trans ?_
  split
  · exact (Device.pantryTick_clock d3 m.store).trans window
  · exact window

theorem Device.measure_clock : d.measure.clock = d.clock := by
  unfold Device.measure
  dsimp only
  split
  · rfl
  · refine (foldl_clock (fun d p => ?_) _ _).trans ?_
    · split <;> rfl
    · split <;> rfl

theorem Device.tickTime_clock : d.tickTime.clock = d.clock := by
  unfold Device.tickTime
  split <;> rfl

end

/-- R393: with no device reset due, a cycle advances the clock by one. -/
theorem Device.tick_now {m : Memories} {d : Device} (h : d.boot.resetAt = none) : (Device.tick m d).2.now = d.now + 1 := by
  have same : ((Device.tickCore m d).2.measure.tickTime).clock = d.clock :=
    (Device.tickTime_clock _).trans ((Device.measure_clock _).trans (Device.tickCore_clock d m))
  obtain ⟨now, boot⟩ := Prod.mk.inj same
  unfold Device.tick Device.resetDue
  dsimp only
  rw [boot, h]
  exact congrArg (· + 1) now

/-- R259: the records that a cycle raised enter the log where firmware runs. -/
theorem State.tick_dev (s : State) : s.tick.dev =
    if (Device.tick s.mem s.dev).2.firmware then (Device.tick s.mem s.dev).2.flush else (Device.tick s.mem s.dev).2 := by
  simp only [State.tick]

/-- Settles O2: the step on an empty queue is the cycle; its records enter the log at its end, and nothing but a reset
that is due sets the clock otherwise than one on. -/
theorem emptyQueuePassesOneCycle : Obligations.EmptyQueuePassesOneCycle := by
  intro s empty
  refine ⟨by simp only [step, empty], empty, fun runs => ?_, fun noReset => ?_⟩
  · rw [State.tick_dev] at runs ⊢
    split at runs
    next firmware => simp [firmware, Device.settled]
    next off => exact absurd runs off
  · have cycle := Device.tick_now (m := s.mem) noReset
    rw [State.tick_dev]
    split
    · rw [Device.flush_now, cycle]
    · exact cycle

end Sys2Proof.Machine
end

section
/-! PROOFS. The Mantel family (O20, O21, O22, O31, O52): the Mantel's and the head ports' commands, the lines of a grid,
the arming of a slot, the gates of a FIRE pulse, and the release of interlocked groups. -/
namespace Sys2Proof.Machine

/-! ### Entries of the head ports (R116, R124) -/

section
variable {m : Memories} {d : Device} {env : WriteEnv} {r : Req} {s : State}

theorem Device.applyNum_hgEnable (v : Nat) (on : d.domainOn 27 = true) :
    d.applyNum m env r Reg.HG_ENABLE v = (m, (d.hgWrite v).passIdle) := by
  show (m, if d.domainOn 27 then (d.hgWrite v).passIdle else d.setReg Reg.HG_ENABLE v) = _
  rw [if_pos on]

theorem Device.applyNum_headAccept {c : Nat} (v : Int) (h : c < 192) :
    d.applyNum m env r (Reg.HEAD_ACCEPT + c) v = (m, d.headAccept c) := by
  have index : (0x250601 + c) / 256 = 0x2506 := by omega
  have sub : (0x250601 + c) % 256 - 1 = c := by omega
  have key : 0x250601 + c ≠ Reg.HG_ENABLE := by
    simp only [Reg.HG_ENABLE]
    omega
  simp only [Device.applyNum, Device.nowC, Reg.HEAD_ACCEPT, index, sub, if_neg key]
  rfl

/-- R116: HG_ENABLE takes the value that its write brings. -/
theorem State.put_hgEnable {k v : Nat} (hk : k < 24) (hv : v < 2 ^ 32) (on : s.dev.domainOn 27 = true)
    (ok : s.accepts {} r Reg.HG_ENABLE v = true) :
    s.put (k < 24) {} r Reg.HG_ENABLE v = s.wrote r Reg.HG_ENABLE (s.dev.hgWrite v).passIdle :=
  State.put_wrote (t := .u32) (tk := .now) (by decide +kernel) (.inl rfl) (by decide) hv hk ok
    (Device.applyNum_hgEnable v on)

theorem State.put_headAccept {c : Nat} (h : c < 192) (ok : s.accepts {} r (Reg.HEAD_ACCEPT + c) 1 = true) :
    s.put (c < 192) {} r (Reg.HEAD_ACCEPT + c) 1 = s.wrote r (Reg.HEAD_ACCEPT + c) (s.dev.headAccept c) :=
  have row : ∀ i < 192, (findEntry (Reg.HEAD_ACCEPT + i)).map (fun e => (e.ty, e.takes)) = some (.u8, .now) := by
    decide +kernel
  State.put_wrote (v := 1) (row c h) (.inl rfl) (by decide) (by decide) h ok (Device.applyNum_headAccept 1 h)

end

/-- Settles O52: a command of the Mantel or of a head port acts where its domain is on; one that is an entry's write
acts by that entry. -/
theorem mantelAndHeadCommandsComplete : Obligations.MantelAndHeadCommandsComplete := by
  refine ⟨?lineEvent, ?pageBind, ?strobeFire, ?firePulseEnd, ?latch, ?latPulseEnd, ?shiftStart, ?shiftDone,
    ?spreadRecompute, fun _ _ _ hk on ok hv => State.put_hgEnable hk hv on ok,
    fun _ _ _ hk on ok hv => State.put_hgEnable hk hv on ok, ?hgShutdownDone, ?pollCycle, ?headRecordRead,
    ?alertWindowEnd, ?headMemWriteDone, fun _ _ _ h ok => State.put_headAccept h ok⟩
  case lineEvent => exact fun _ v on => State.when_true (f := fun d => d.lineEvent v) (inDom_true on trivial)
  case pageBind =>
    exact fun _ on up => State.when_true (f := Device.pageBindNext)
      (Bool.and_eq_true_iff.mpr ⟨inDom_true on trivial, up⟩)
  case strobeFire =>
    exact fun _ c h sub v on hc => State.when_true (f := fun d => d.strobeFire c h sub v) (inDom_true on hc)
  case firePulseEnd => exact fun _ c on hc => State.when_true (f := fun d => d.firePulseEnd c) (inDom_true on hc)
  case latch => exact fun _ k v on hk => State.when_true (f := fun d => d.latch k v) (inDom_true on hk)
  case latPulseEnd => exact fun _ k on hk => State.when_true (f := fun d => d.latPulseEnd k) (inDom_true on hk)
  case shiftStart => exact fun _ k on hk => State.when_true (f := fun d => d.shiftStart k) (inDom_true on hk)
  case shiftDone => exact fun _ k on hk => State.when_true (f := fun d => d.shiftDone k) (inDom_true on hk)
  case spreadRecompute => exact fun _ k on hk => State.when_true (f := fun d => d.spreadGroup k) (inDom_true on hk)
  case hgShutdownDone => exact fun _ k on hk => State.when_true (f := fun d => d.hgOff k) (inDom_true on hk)
  case pollCycle =>
    exact fun _ k reads on hk => State.when_true (f := fun d => d.pollCycleDone k reads) (inDom_true on hk)
  case headRecordRead =>
    exact fun _ c data err on hc => State.whenB_true (f := fun m d => d.recordRead m c data err) (inDom_true on hc)
  case alertWindowEnd =>
    exact fun _ k nack on hk => State.when_true (f := fun d => d.alertUnresolved k nack) (inDom_true on hk)
  case headMemWriteDone =>
    exact fun _ c back err on hc => State.whenB_true (f := fun m d => d.memDone m c back err) (inDom_true on hc)

/-! ### The lines of a grid (R77) -/

/-- A quotient grows with its numerator by the quotient of what is added, or by one more. -/
theorem ediv_add_sub_ediv {b : Int} (hb : 0 < b) (a p : Int) :
    (a + p) / b - a / b = p / b ∨ (a + p) / b - a / b = p / b + 1 := by
  have low : a / b + p / b ≤ (a + p) / b := by
    rw [Int.le_ediv_iff_mul_le hb, Int.add_mul]
    exact Int.add_le_add (Int.ediv_mul_le a (Int.ne_of_gt hb)) (Int.ediv_mul_le p (Int.ne_of_gt hb))
  have high : (a + p) / b < a / b + p / b + 2 := by
    have sum : (a / b + 1) * b + (p / b + 1) * b = (a / b + p / b + 2) * b := by
      rw [← Int.add_mul, show a / b + 1 + (p / b + 1) = a / b + p / b + 2 by omega]
    rw [Int.ediv_lt_iff_lt_mul hb, ← sum]
    exact Int.add_lt_add (Int.lt_ediv_add_one_mul_self a hb) (Int.lt_ediv_add_one_mul_self p hb)
  omega

section
variable (g : GridSeg)

theorem GridSeg.boundary_origin : g.boundary g.go = g.po := by
  simp [GridSeg.boundary]

theorem GridSeg.boundary_eq (k : Int) :
    g.boundary k = g.po + (k - g.go) * ((g.num : Int) * 1024) / (g.den : Int) := by
  rw [GridSeg.boundary, Int.fdiv_eq_ediv_of_nonneg _ (Int.natCast_nonneg g.den), Int.mul_assoc]

/-- The boundary n lines on lies by the quotient of n × N × 1,024 and D further, or one pu more. -/
theorem GridSeg.boundary_add_sub (hd : 1 ≤ g.den) (k n : Int) :
    g.boundary (k + n) - g.boundary k = n * ((g.num : Int) * 1024) / g.den ∨
      g.boundary (k + n) - g.boundary k = n * ((g.num : Int) * 1024) / g.den + 1 := by
  have split : (k + n - g.go) * ((g.num : Int) * 1024) =
      (k - g.go) * ((g.num : Int) * 1024) + n * ((g.num : Int) * 1024) := by
    rw [← Int.add_mul, show k - g.go + n = k + n - g.go by omega]
  rw [GridSeg.boundary_eq, GridSeg.boundary_eq, split, Int.add_sub_add_left]
  exact ediv_add_sub_ediv (by omega) _ _

/-- D lines are exactly N × 1,024 pu long. -/
theorem GridSeg.boundary_add_den (hd : 1 ≤ g.den) (k : Int) :
    g.boundary (k + (g.den : Int)) - g.boundary k = (g.num : Int) * 1024 := by
  have split : (k + (g.den : Int) - g.go) * ((g.num : Int) * 1024) =
      (k - g.go) * ((g.num : Int) * 1024) + (g.num : Int) * 1024 * g.den := by
    rw [Int.mul_comm _ (g.den : Int), ← Int.add_mul, show k - g.go + (g.den : Int) = k + g.den - g.go by omega]
  rw [GridSeg.boundary_eq, GridSeg.boundary_eq, split, Int.add_mul_ediv_right _ _ (by omega)]
  omega

/-- A line is at least four counts long where N is at least 4 × D. -/
theorem GridSeg.four_counts_le_pitch (hd : 1 ≤ g.den) (hn : 4 * g.den ≤ g.num) : 4096 ≤ g.num * 1024 / g.den :=
  (Nat.le_div_iff_mul_le hd).mpr (by omega)

end

/-- Settles O20: the boundaries are quotients by D of numerators that lie N × 1,024 apart. -/
theorem gridBoundariesFollowThePitch : Obligations.GridBoundariesFollowThePitch := by
  intro g hd hn k q
  have long : (4096 : Int) ≤ q := Int.ofNat_le.mpr (g.four_counts_le_pitch hd hn)
  have next : g.boundary (k + 1) - g.boundary k = q ∨ g.boundary (k + 1) - g.boundary k = q + 1 := by
    simpa [q] using g.boundary_add_sub hd k 1
  exact ⟨g.boundary_origin, next, by omega, g.boundary_add_den hd k⟩

/-! ### Arming (R81, R82, R85, R88, R89) -/

section
variable {step v : Int}

theorem clampI_within (h : 0 ≤ step) : clampI (-step) step v ≤ step ∧ -step ≤ clampI (-step) step v := by
  unfold clampI
  split
  · omega
  · split <;> omega

theorem clampI_inside (low : -step ≤ v) (high : v ≤ step) : clampI (-step) step v = v := by
  rw [clampI, if_neg (by omega), if_neg (by omega)]

end

section
variable (d : Device) (c h : Nat)

/-- R85: the step of a trim: floor(q / TRIM_SLEW_DIV). -/
theorem Device.trimNext_eq (hdiv : 1 ≤ d.regN Reg.TRIM_SLEW_DIV) :
    let step : Int := ((d.mantel.q / d.regN Reg.TRIM_SLEW_DIV : Nat) : Int)
    let before := d.reg (Reg.TRIM_IN_FORCE_PU + c)
    d.trimNext c h = before + clampI (-step) step (d.trimTarget c h - before) := by
  simp only [Device.trimNext, show Nat.max 1 (d.regN Reg.TRIM_SLEW_DIV) = _ from Nat.max_eq_right hdiv]

/-- R88: without a prediction there is no flight term. -/
theorem Device.flightPu_unpredicted (ns : Int) (off : d.predicts = false) : d.flightPu ns = 0 := by
  simp [Device.flightPu, off]

/-- Arming writes no entry but the channel's trim in force. -/
theorem Device.armSlot_reg (k : Nat) :
    (d.armSlot c h).reg k = (d.setReg (Reg.TRIM_IN_FORCE_PU + c) (d.trimNext c h)).reg k := by
  unfold Device.armSlot
  dsimp only
  split <;> rfl

theorem Device.armSlot_trim : (d.armSlot c h).reg (Reg.TRIM_IN_FORCE_PU + c) = d.trimNext c h := by
  rw [Device.armSlot_reg, Device.reg_setReg]

theorem Device.armSlot_trim_other {c' : Nat} (other : c' ≠ c) :
    (d.armSlot c h).reg (Reg.TRIM_IN_FORCE_PU + c') = d.reg (Reg.TRIM_IN_FORCE_PU + c') := by
  rw [Device.armSlot_reg, Device.reg_setReg_other]
  omega

theorem Device.armSlot_pages : (d.armSlot c h).pages = d.pages := by
  unfold Device.armSlot
  dsimp only
  split <;> rfl

/-- R82: a slot lost at its LAT is not armed. -/
theorem Device.armSlot_lost (lost : (d.chan c).lostEarly = some h) :
    (d.armSlot c h).mantel.armed = d.mantel.armed := by
  simp [Device.armSlot, lost]

/-- R82: another slot gets one record, at the S of its new trim. -/
theorem Device.armSlot_armed (kept : (d.chan c).lostEarly ≠ some h) :
    ∃ a, (d.armSlot c h).mantel.armed = d.mantel.armed ++ [a] ∧ a.ch = c ∧ a.h = h ∧
      a.s = d.strobePos c h (d.trimNext c h) ∧ a.late = decide (d.mantel.dir * (a.s - d.pt) ≤ 1024) := by
  simp only [Device.armSlot, if_neg kept]
  exact ⟨_, rfl, rfl, rfl, rfl, rfl⟩

end

/-- What lies ahead along the pass: upwards, and downwards in a reverse pass. -/
theorem Mantel.dir_mul_le_iff (m : Mantel) (s pt n : Int) :
    m.dir * (s - pt) ≤ n ↔ if m.rev then pt - s ≤ n else s - pt ≤ n := by
  cases h : m.rev with
  | false =>
    simp only [Mantel.dir, h, Bool.false_eq_true, if_false]
    omega
  | true =>
    simp only [Mantel.dir, h, if_true]
    omega

/-- Settles O22: the trim in force is the next one, and the record carries the S of that trim. -/
theorem armingStepsTheTrimAndFixesTheStrobe : Obligations.ArmingStepsTheTrimAndFixesTheStrobe := by
  intro d c h _ hdiv step pl goal before fl d' after
  have next : after = before + clampI (-step) step (goal - before) :=
    (d.armSlot_trim c h).trans (d.trimNext_eq c h hdiv)
  obtain ⟨most, least⟩ := clampI_within (step := step) (v := goal - before) (Int.natCast_nonneg _)
  refine ⟨by omega, fun up down => ?reached, fun kept => ?armed, d.armSlot_lost c h, d.flightPu_unpredicted _,
    d.armSlot_pages c h, fun _ other => d.armSlot_trim_other c h other⟩
  case reached =>
    rw [next, clampI_inside (by omega) up]
    omega
  case armed =>
    obtain ⟨a, appended, channel, slot, position, late⟩ := d.armSlot_armed c h kept
    refine ⟨a, appended, channel, slot, ?_, ?_⟩
    · rw [position, ← d.armSlot_trim c h]
      rfl
    · rw [late, decide_eq_true_iff]
      exact d.mantel.dir_mul_le_iff a.s d.pt 1024

/-! ### What the gates of a channel stand on (R93, R95) -/

theorem mem_allChans {c : Nat} : c ∈ allChans ↔ c < 192 := List.mem_range

/-- A gate of precedence 1 to 4 other than the voter's acts on channel c. -/
def Device.gatedButVote (d : Device) (c : Nat) : Bool :=
  !d.domainOn (27 + c / 8) || d.mantel.clockFault || bit d.intlkMask (c / 8) ||
    (bit (d.regN (Reg.TRIP_GATED + c / 8)) (c % 8) || d.prot.gate2.contains c)

/-- R95: the output stage of a channel is gated by the voter's halt or by another gate. -/
theorem Device.outputGate_ne_zero_iff (d : Device) (c : Nat) :
    d.outputGate c ≠ 0 ↔ d.reg Reg.VOTE_STATE = 3 ∨ d.gatedButVote c = true := by
  unfold Device.outputGate Device.gatedButVote
  (repeat' split) <;> simp_all

/-- R93: a slot that no gate stops has an open output stage. -/
theorem Device.outputGate_of_gateCause {d : Device} {c h : Nat} (free : d.gateCause c h = 0) : d.outputGate c = 0 := by
  have causes : d.outputGate c ∈ [0, 1, 2, 3, 4, 8] := by
    unfold Device.outputGate
    (repeat' split) <;> decide
  unfold Device.gateCause at free
  dsimp only at free
  generalize d.outputGate c = g at causes free
  simp only [List.mem_cons, List.not_mem_nil, or_false] at causes
  (repeat' split at free) <;> omega

/-- What the gates of channel c but the voter's come to, and the FIRE pulses put out. -/
def Device.fireView (d : Device) (c : Nat) : Bool × List Tx := (d.gatedButVote c, firePulses d.out)

/-- No gate reads the entries of this index: they are neither the power manager's nor the thermal trips'. -/
def gateless (k : Nat) : Prop := k / 256 ≠ Reg.DOMAIN_ON / 256 ∧ k / 256 ≠ Reg.TRIP_GATED / 256

theorem gateless_of_index {k i : Nat} (h : k / 256 = i) (hi : i ≠ Reg.DOMAIN_ON / 256 ∧ i ≠ Reg.TRIP_GATED / 256) :
    gateless k := by
  rwa [gateless, h]

section
variable (d : Device) {c : Nat} (hc : c < 192)
include hc

theorem Device.setReg_fireView {k : Nat} (v : Int) (hk : gateless k) : (d.setReg k v).fireView c = d.fireView c := by
  obtain ⟨notDomain, notTrip⟩ := hk
  have domain : (d.setReg k v).regN Reg.DOMAIN_ON = d.regN Reg.DOMAIN_ON :=
    congrArg Int.toNat (d.reg_setReg_other v fun same => notDomain (same ▸ rfl))
  have trip : (d.setReg k v).regN (Reg.TRIP_GATED + c / 8) = d.regN (Reg.TRIP_GATED + c / 8) :=
    congrArg Int.toNat (d.reg_setReg_other v fun same => notTrip (same ▸ by simp only [Reg.TRIP_GATED]; omega))
  simp only [Device.fireView, Device.gatedButVote, Device.domainOn, domain, trip]
  rfl

/-- R96: a lost slot counts, and its episode begins, goes on or ends and begins. -/
theorem Device.loseSlot_fireView {x : Nat} (h cause : Nat) (s : Int) (hx : x < 192) :
    (d.loseSlot x h cause s).fireView c = d.fireView c := by
  have lines : gateless (Reg.LOST_LINES + x) :=
    gateless_of_index (i := 0x2418) (by simp only [Reg.LOST_LINES]; omega) (by decide)
  have last : gateless (Reg.LAST_LOST_GLC + x) :=
    gateless_of_index (i := 0x2419) (by simp only [Reg.LAST_LOST_GLC]; omega) (by decide)
  have counted :
      ((d.incReg (Reg.LOST_LINES + x)).setRegN (Reg.LAST_LOST_GLC + x) (h % 2 ^ 48)).fireView c = d.fireView c :=
    (Device.setReg_fireView _ hc _ last).trans (Device.setReg_fireView d hc _ lines)
  unfold Device.loseSlot
  dsimp only
  generalize (d.incReg (Reg.LOST_LINES + x)).setRegN (Reg.LAST_LOST_GLC + x) (h % 2 ^ 48) = d1 at counted ⊢
  split
  · exact counted
  · split <;> exact counted

/-- R192: a test drop that is withheld pauses its test. -/
theorem Device.withholdDrop_fireView (x cause : Nat) : (d.withholdDrop x cause).fireView c = d.fireView c := by
  unfold Device.withholdDrop
  dsimp only
  split
  · rfl
  · split
    · rfl
    · split
      · rfl
      · split
        · rfl
        · exact Device.setReg_fireView _ hc _ (gateless_of_index (i := 0x2630) rfl (by decide))

theorem Device.cutFire_fireView {x : Nat} (cause : Nat) (hx : x < 192) :
    (d.cutFire x cause).fireView c = d.fireView c := by
  unfold Device.cutFire
  dsimp only
  split
  · exact Device.withholdDrop_fireView d hc x cause
  · split
    · rfl
    · exact Device.loseSlot_fireView _ hc _ _ _ hx

theorem Device.cutGated_fireView : d.cutGated.fireView c = d.fireView c := by
  refine List.foldlRecOn (motive := fun b : Device => b.fireView c = d.fireView c) allChans _ rfl fun b ih x hx => ?_
  refine Eq.trans ?_ ih
  split
  · exact Device.cutFire_fireView b hc _ (mem_allChans.mp hx)
  · split
    · exact Device.withholdDrop_fireView b hc x _
    · rfl

end

/-! ### The voter (R97 … R99) -/

section
variable (d : Device) {c : Nat} (hc : c < 192)
include hc

/-- No gate but the voter's reads an entry of the voter. -/
theorem Device.setReg_voter_fireView {k : Nat} (v : Int) (hk : k / 256 = 0x2440) :
    (d.setReg k v).fireView c = d.fireView c :=
  Device.setReg_fireView d hc v (gateless_of_index hk (by decide))

theorem Device.voteHalt_fireView : d.voteHalt.fireView c = d.fireView c := by
  unfold Device.voteHalt
  split
  · rfl
  · exact (Device.cutGated_fireView _ hc).trans (Device.setReg_voter_fireView d hc 3 rfl)

theorem Device.voteDisagree_fireView {i : Nat} (x item : Nat) (hi : i < 3) :
    (d.voteDisagree i x item).fireView c = d.fireView c :=
  Device.setReg_voter_fireView d hc _ (by simp only [Reg.DISAGREE_M0]; omega)

theorem Device.retireCopy_fireView (i : Nat) : (d.retireCopy i).fireView c = d.fireView c :=
  (Device.setReg_voter_fireView _ hc 2 rfl).trans (Device.setReg_voter_fireView d hc _ rfl)

theorem Device.voteDissent_fireView {i : Nat} (x item : Nat) (hi : i < 3) :
    (d.voteDissent i x item).fireView c = d.fireView c := by
  have counted := Device.voteDisagree_fireView d hc x item hi
  unfold Device.voteDissent
  extract_lets d1 line again
  refine Eq.trans ?_ counted
  split
  · exact Device.voteHalt_fireView d1 hc
  · split
    · exact Device.retireCopy_fireView d1 hc i
    · exact Device.setReg_voter_fireView d1 hc 1 rfl

theorem Device.voteItem_fireView (x : Nat) (v : Vote) : (d.voteItem x v).fireView c = d.fireView c := by
  unfold Device.voteItem
  split
  · rfl
  · split
    · exact Device.voteHalt_fireView d hc
    · split
      · rfl
      · split
        · rfl
        next known => exact Device.voteDissent_fireView d hc x _ (by omega)

theorem Device.edgeSpread_fireView (x : Nat) (v : Vote) : (d.edgeSpread x v).fireView c = d.fireView c := by
  have counted : (d.incReg Reg.EDGE_SPREAD_COUNT).fireView c = d.fireView c := Device.setReg_voter_fireView d hc _ rfl
  unfold Device.edgeSpread
  extract_lets hi lo d1 quiet
  split
  · rfl
  · split <;> exact counted

theorem Device.vote_fireView (x : Nat) (v : Vote) : (d.vote x v).fireView c = d.fireView c := by
  unfold Device.vote
  split
  · rfl
  · exact (Device.voteItem_fireView _ hc x v).trans (Device.edgeSpread_fireView d hc x v)

/-- R99: a comparison of the copies opens no channel: the voter's halt stands, and so does every other gate. -/
theorem Device.outputGate_of_vote (x : Nat) (v : Vote) (free : (d.vote x v).outputGate c = 0) :
    d.outputGate c = 0 := by
  refine Classical.byContradiction fun gated => (Device.outputGate_ne_zero_iff _ c).mpr ?_ free
  rcases (d.outputGate_ne_zero_iff c).mp gated with halted | other
  · have same : d.vote x v = d := if_pos halted
    rw [same]
    exact .inl halted
  · have kept : (d.vote x v).gatedButVote c = d.gatedButVote c := congrArg Prod.fst (Device.vote_fireView d hc x v)
    exact .inr (kept.trans other)

theorem Device.firePulses_vote (x : Nat) (v : Vote) : firePulses (d.vote x v).out = firePulses d.out :=
  congrArg Prod.snd (Device.vote_fireView d hc x v)

end

/-! ### What a strobe puts out (R84, R87 … R93) -/

theorem Device.loseSlot_out (d : Device) (c h cause : Nat) (s : Int) : (d.loseSlot c h cause s).out = d.out := by
  unfold Device.loseSlot
  dsimp only
  split
  · rfl
  · split <;> rfl

theorem Device.endLoss_out (d : Device) (c : Nat) : (d.endLoss c).out = d.out := by
  unfold Device.endLoss
  dsimp only
  split <;> rfl

theorem Device.dropEntries_out (d : Device) (c h : Nat) : (d.dropEntries c h).out = d.out := by
  unfold Device.dropEntries
  dsimp only
  split <;> rfl

theorem Device.dropEntries_outputGate (d : Device) (c h x : Nat) :
    (d.dropEntries c h).outputGate x = d.outputGate x := by
  unfold Device.dropEntries
  dsimp only
  split <;> rfl

/-- R93: d' put out the FIRE pulses of d, or, the output stage of channel c being open in d, those and one more of
channel c. -/
def Device.FiresOnlyOpen (d d' : Device) (c : Nat) : Prop :=
  firePulses d'.out = firePulses d.out ∨
    d.outputGate c = 0 ∧ ∃ at_ width, firePulses d'.out = .pulse 0 c at_ width false :: firePulses d.out

section
variable {d d' : Device}

theorem Device.FiresOnlyOpen.of_out {c : Nat} (same : d'.out = d.out) : d.FiresOnlyOpen d' c :=
  .inl (congrArg firePulses same)

theorem Device.fireAt_firesOnlyOpen {a : Armed} {sub t shift : Nat} (free : d.outputGate a.ch = 0)
    (same : d'.out = d.out) : d.FiresOnlyOpen (d'.fireAt a sub t shift) a.ch := by
  have put : firePulses (d'.fireAt a sub t shift).out =
      .pulse 0 a.ch t (hpFireWidth (d'.prof a.ch) * 1000) false :: firePulses d'.out :=
    congrArg firePulses (Device.endLoss_out _ a.ch)
  exact .inr ⟨free, _, _, put.trans (by rw [same])⟩

/-- R84: a later sub-strobe fires only where no gate stops its slot. -/
theorem Device.fireLater_firesOnlyOpen (a : Armed) (x : ArmedSub) (t off : Nat) :
    d.FiresOnlyOpen (d.fireLater a x t off) a.ch := by
  unfold Device.fireLater
  extract_lets c g prev own t2
  split
  · exact .of_out (Device.loseSlot_out _ _ _ _ _)
  next free =>
    split
    · exact .of_out rfl
    · exact Device.fireAt_firesOnlyOpen (Device.outputGate_of_gateCause (Classical.not_not.mp free)) rfl

/-- R91, R93: the first sub-strobe fires only where no gate stops its slot, once its other conditions hold. -/
theorem Device.fireFirst_firesOnlyOpen (a : Armed) (x : ArmedSub) (t off : Nat) :
    d.FiresOnlyOpen (d.fireFirst a x t off) a.ch := by
  have out := d.dropEntries_out a.ch a.h
  have gate := d.dropEntries_outputGate a.ch a.h a.ch
  unfold Device.fireFirst
  extract_lets c d1 g held
  have waits : d.FiresOnlyOpen d1 a.ch := .of_out out
  have disarmed : d.FiresOnlyOpen (d1.disarm a) a.ch := .of_out out
  have lost (cause : Nat) : d.FiresOnlyOpen ((d1.disarm a).loseSlot a.ch a.h cause a.s0) a.ch :=
    .of_out ((Device.loseSlot_out _ _ _ _ _).trans out)
  split
  · exact disarmed
  split
  · exact disarmed
  split
  · exact lost g
  next free =>
    split
    · exact disarmed
    split
    · split
      · exact lost 6
      · split
        · exact waits
        · exact lost 7
    · split
      · exact lost _
      · split
        · exact waits
        · have stageFree : d1.outputGate a.ch = 0 := Device.outputGate_of_gateCause (Classical.not_not.mp free)
          refine Device.fireAt_firesOnlyOpen (gate.symm.trans stageFree) ?_
          split <;> exact out

/-- R97 … R99: what fires after the comparison of the copies fires as the gates stood before it. -/
theorem Device.FiresOnlyOpen.of_vote {c x : Nat} {v : Vote} (hc : c < 192) (h : (d.vote x v).FiresOnlyOpen d' c) :
    d.FiresOnlyOpen d' c := by
  have same := d.firePulses_vote hc x v
  rcases h with none | ⟨free, at_, width, one⟩
  · exact .inl (none.trans same)
  · exact .inr ⟨d.outputGate_of_vote hc x v free, at_, width, same ▸ one⟩

/-- R87 … R99: a strobe fires at most one pulse, its own, through an output stage that was open when it began. -/
theorem Device.strobeFire_firesOnlyOpen {c : Nat} (hc : c < 192) (h sub : Nat) (v : Vote) :
    d.FiresOnlyOpen (d.strobeFire c h sub v) c := by
  unfold Device.strobeFire
  split
  · exact .of_out rfl
  next a found =>
    have own : a.ch = c := by
      have named := List.find?_some found
      simp only [Bool.and_eq_true, beq_iff_eq] at named
      exact named.1
    split
    · exact .of_out rfl
    next x _ =>
      split
      · exact .of_out rfl
      next t _ =>
        split
        · exact .of_out rfl
        split
        · exact .of_out rfl
        · refine Device.FiresOnlyOpen.of_vote (x := c) (v := v) hc ?_
          subst own
          split
          · exact Device.fireLater_firesOnlyOpen a x t _
          · exact Device.fireFirst_firesOnlyOpen a x t _

end

/-- Settles O21: after the comparison of the copies, which opens no channel and puts out no FIRE pulse, a sub-strobe
fires only through an open output stage. -/
theorem gatedChannelFiresNothing : Obligations.GatedChannelFiresNothing := by
  intro s c h sub v
  refine ⟨_, rfl, rfl, rfl, ?_⟩
  have fires : s.dev.FiresOnlyOpen (if inDom 56 (c < 192) s.dev then s.dev.strobeFire c h sub v else s.dev) c := by
    split
    next acts =>
      have unit : c < 192 := by
        simp only [inDom, Bool.and_eq_true, decide_eq_true_eq] at acts
        exact acts.2
      exact Device.strobeFire_firesOnlyOpen unit h sub v
    · exact .of_out rfl
  rcases fires with none | ⟨free, one⟩
  · exact ⟨fun _ => none, .inl none⟩
  · exact ⟨fun gated => absurd free gated, .inr one⟩

/-! ### Masks of groups -/

theorem bit_eq_testBit (m i : Nat) : bit m i = m.testBit i := by
  rw [bit_eq_div, Nat.testBit_eq_decide_div_mod_eq]
  rfl

theorem bit_zero_left (k : Nat) : bit 0 k = false := by
  rw [bit_eq_testBit, Nat.zero_testBit]

theorem bit_or (a b k : Nat) : bit (a ||| b) k = (bit a k || bit b k) := by
  simp only [bit_eq_testBit, Nat.testBit_or]

theorem bit_foldl_or (l : List Nat) (a k : Nat) : bit (l.foldl (· ||| ·) a) k = (bit a k || l.any (bit · k)) := by
  induction l generalizing a with
  | nil => simp
  | cons b l ih => rw [List.foldl_cons, ih, bit_or, List.any_cons, Bool.or_assoc]

theorem bit_setBit (m i k : Nat) : bit (setBit m i) k = (bit m k || decide (i = k)) := by
  rw [setBit, bit_or, Nat.one_shiftLeft, bit_eq_testBit (2 ^ i), Nat.testBit_two_pow]

theorem bit_foldl_setBit (l : List Nat) (a k : Nat) : bit (l.foldl setBit a) k = (bit a k || decide (k ∈ l)) := by
  induction l generalizing a with
  | nil => simp
  | cons b l ih => simp [ih, bit_setBit, Bool.or_assoc, eq_comm]

theorem bit_maskOf (l : List Nat) (k : Nat) : bit (maskOf l) k = decide (k ∈ l) := by
  rw [maskOf, bit_foldl_setBit, bit_zero_left, Bool.false_or]

/-- Taking the bits of a mask off leaves the others. -/
theorem testBit_sub_and (h m k : Nat) : (h - (h &&& m)).testBit k = (h.testBit k && !m.testBit k) := by
  induction k generalizing h m with
  | zero =>
    have low : (h &&& m) % 2 = 1 ↔ h % 2 = 1 ∧ m % 2 = 1 := Nat.and_mod_two_eq_one
    have within : h &&& m ≤ h := Nat.and_le_left
    rw [Bool.eq_iff_iff]
    simp only [Nat.testBit_zero, Bool.and_eq_true, Bool.not_eq_true', decide_eq_true_eq, decide_eq_false_iff_not]
    omega
  | succ k ih =>
    have low : (h &&& m) % 2 = 1 ↔ h % 2 = 1 ∧ m % 2 = 1 := Nat.and_mod_two_eq_one
    have half : (h - (h &&& m)) / 2 = h / 2 - (h / 2 &&& m / 2) := by
      rw [← Nat.and_div_two]
      omega
    rw [Nat.testBit_succ, Nat.testBit_succ, Nat.testBit_succ, half, ih]

theorem bit_sub_and (h m k : Nat) : bit (h - (h &&& m)) k = (bit h k && !bit m k) := by
  simp only [bit_eq_testBit, testBit_sub_and]

/-! ### The groups that interlocks gate (R94, R184, R186) -/

/-- A group is gated by an input or by a gate received over the ring that holds it. -/
theorem Device.bit_intlkMask (d : Device) (k : Nat) : bit d.intlkMask k =
    ((List.range 12).any (fun n => bit (d.intlkIn n).held k) || d.prot.ring.any (fun r => bit r.held k)) := by
  rw [Device.intlkMask, bit_foldl_or, bit_foldl_or, bit_zero_left, Bool.false_or, List.any_map, List.any_map]
  rfl

theorem Device.mem_releasable (d : Device) {k : Nat} (hk : k < 24) :
    k ∈ d.releasable ↔ bit d.intlkMask k = true ∧ d.groupHeld k = false := by
  simp [Device.releasable, hk]

/-- R184: an input holds the groups of a mask no more. -/
def Intlk.unhold (x : Intlk) (m : Nat) : Intlk := { x with held := x.held - (x.held &&& m) }

theorem Intlk.bit_unhold_held (x : Intlk) (m k : Nat) : bit (x.unhold m).held k = (bit x.held k && !bit m k) :=
  bit_sub_and x.held m k

/-- R184, R186: the bits of the groups ks are taken off what the inputs and the gates of the ring hold. -/
def Device.unhold (d : Device) (ks : List Nat) : Device :=
  if ks.isEmpty then d else { d with prot := { d.prot with
    intlk := d.prot.intlk.map (fun p => (p.1, p.2.unhold (maskOf ks)))
    ring := d.prot.ring.map (fun r => { r with held := r.held - (r.held &&& maskOf ks) }) } }

/-- R94: the present line is the channel's first open slot. -/
def Device.openChan (d : Device) (c : Nat) : Device := d.setChan c { d.chan c with openIntlk := d.mantel.line }

/-- R94: so it is of each channel in a list. -/
def Device.openChans (d : Device) (cs : List Nat) : Device := cs.foldl Device.openChan d

/-- The parts of the release in their order. -/
theorem Device.intlkLine_eq (d : Device) : d.intlkLine =
    ((List.range 12).foldl Device.intlkReleased
      ((d.unhold d.releasable).openChans (d.releasable.flatMap groupChans))).ringReleased := by
  rw [Device.openChans, List.foldl_flatMap]
  rfl

/-- A read of a table whose records were all changed by what leaves the default as it is. -/
theorem tget_map {α : Type} (z : Nat → α) (f : α → α) (n : Nat) (hz : f (z n) = z n) (t : Tab α) :
    tget z (t.map (fun p => (p.1, f p.2))) n = f (tget z t n) := by
  induction t with
  | nil => exact hz.symm
  | cons p t ih =>
    obtain ⟨k, v⟩ := p
    simp only [List.map_cons, tget]
    split
    · rfl
    · exact ih

/-- A group is gated after the bits of ks are taken off where it was and is none of them. -/
theorem Device.bit_intlkMask_unhold (d : Device) (ks : List Nat) (k : Nat) :
    bit (d.unhold ks).intlkMask k = (bit d.intlkMask k && !decide (k ∈ ks)) := by
  unfold Device.unhold
  split
  next none =>
    rw [List.isEmpty_iff.mp none]
    simp
  · have input (n : Nat) : tget intlk0 (d.prot.intlk.map (fun p => (p.1, p.2.unhold (maskOf ks)))) n =
        (d.intlkIn n).unhold (maskOf ks) :=
      tget_map intlk0 (fun x : Intlk => x.unhold (maskOf ks)) n (by simp [Intlk.unhold, intlk0]) d.prot.intlk
    simp only [Device.bit_intlkMask, Device.intlkIn, input, Intlk.bit_unhold_held, List.any_map, Function.comp_def,
      bit_sub_and, bit_maskOf]
    cases decide (k ∈ ks) <;> simp

theorem Device.unhold_mantel (d : Device) (ks : List Nat) : (d.unhold ks).mantel = d.mantel := by
  unfold Device.unhold
  split <;> rfl

theorem Device.openChans_mantel (d : Device) (cs : List Nat) : (d.openChans cs).mantel = d.mantel :=
  foldl_same (fun d : Device => d.mantel) Device.openChan (fun _ _ => rfl) cs d

theorem Device.openChans_intlkMask (d : Device) (cs : List Nat) : (d.openChans cs).intlkMask = d.intlkMask :=
  foldl_same Device.intlkMask Device.openChan (fun _ _ => rfl) cs d

/-- A channel whose first open slot is the line stays so while channels are opened. -/
theorem Device.openChan_keeps (d : Device) (x c : Nat) (h : (d.chan c).openIntlk = d.mantel.line) :
    ((d.openChan x).chan c).openIntlk = (d.openChan x).mantel.line := by
  rw [Device.openChan, Device.setChan_mantel]
  by_cases same : c = x
  · rw [same, Device.chan_setChan]
  · rw [Device.chan_setChan_other _ _ same, h]

theorem Device.openChans_openIntlk (d : Device) {cs : List Nat} {c : Nat} (hc : c ∈ cs) :
    ((d.openChans cs).chan c).openIntlk = (d.openChans cs).mantel.line := by
  induction cs generalizing d with
  | nil => exact absurd hc List.not_mem_nil
  | cons x cs ih =>
    by_cases same : c = x
    · have now : ((d.openChan x).chan c).openIntlk = (d.openChan x).mantel.line := by
        rw [same, Device.openChan, Device.chan_setChan, Device.setChan_mantel]
      exact foldl_keeps (fun e : Device => (e.chan c).openIntlk = e.mantel.line) Device.openChan
        (fun e y h => e.openChan_keeps y c h) cs _ now
    · exact ih (d.openChan x) ((List.mem_cons.mp hc).resolve_left same)

/-! ### What a release reports (R184, R186) -/

/-- What an interlock's report leaves: the groups held, the ring's gates, the channels and the Mantel. -/
def Device.holdView (d : Device) : (Nat → Nat) × List RingGate × Heads × Mantel :=
  (fun n => (d.intlkIn n).held, d.prot.ring, d.heads, d.mantel)

section
variable (d : Device)

theorem Device.holdView_of_prot {d d' : Device} (prot : d'.prot = d.prot) (heads : d'.heads = d.heads)
    (mantel : d'.mantel = d.mantel) : d'.holdView = d.holdView := by
  simp only [Device.holdView, Device.intlkIn, prot, heads, mantel]

theorem Device.linkWake_holdView (p : Nat) : (d.linkWake p).holdView = d.holdView := by
  unfold Device.linkWake
  dsimp only
  split <;> split <;> exact Device.holdView_of_prot (by simp) (by simp) (by simp)

theorem Device.setHport_holdView (p : Nat) (x : HallPort) : (d.setHport p x).holdView = d.holdView :=
  Device.holdView_of_prot (by simp) (by simp) (by simp)

theorem Device.hallSend_holdView (p ty hops : Nat) (body : List Nat) :
    (d.hallSend p ty hops body).holdView = d.holdView := by
  have woken := d.linkWake_holdView p
  unfold Device.hallSend
  extract_lets st d1 cls data x n
  split
  · rfl
  · split
    · exact (Device.setHport_holdView _ _ _).trans ((Device.setHport_holdView _ _ _).trans woken)
    · exact (Device.setHport_holdView _ _ _).trans woken

theorem Device.hallBoth_holdView (ty : Nat) (body : List Nat) : (d.hallBoth ty body).holdView = d.holdView :=
  (Device.hallSend_holdView _ 1 ty 0 body).trans (d.hallSend_holdView 0 ty 0 body)

/-- An input's record may change in all but the groups it holds. -/
theorem Device.setIntlk_holdView {n : Nat} {x : Intlk} (same : x.held = (d.intlkIn n).held) :
    (d.setIntlk n x).holdView = d.holdView := by
  have held (i : Nat) : ((d.setIntlk n x).intlkIn i).held = (d.intlkIn i).held := by
    by_cases own : i = n
    · rw [own, ← same]
      exact congrArg Intlk.held (tget_tset_same _ _ _ _)
    · exact congrArg Intlk.held (tget_tset_other _ _ _ own)
  simp only [Device.holdView, held]
  rfl

theorem Device.intlkReleased_holdView (n : Nat) : (d.intlkReleased n).holdView = d.holdView := by
  unfold Device.intlkReleased
  extract_lets x d1 d2
  have noted : d1.holdView = d.holdView := d.setIntlk_holdView rfl
  have told : d2.holdView = d.holdView := by
    simp only [d2]
    split <;> exact noted
  split
  · split
    · exact (Device.hallBoth_holdView _ _ _).trans told
    · exact told
  · rfl

theorem Device.bit_intlkMask_of_holdView {d d' : Device} (h : d'.holdView = d.holdView) (k : Nat) :
    bit d'.intlkMask k = bit d.intlkMask k := by
  simp only [Device.holdView, Prod.mk.injEq] at h
  obtain ⟨held, ring, -, -⟩ := h
  simp only [Device.bit_intlkMask, fun n => congrFun held n, ring]

theorem Device.heads_of_holdView {d d' : Device} (h : d'.holdView = d.holdView) : d'.heads = d.heads :=
  congrArg (fun v => v.2.2.1) h

/-- R186: a gate of the ring that ends reports it. -/
def Device.gateReport (d : Device) (r : RingGate) : Device := d.raise Ev.INTLK_RELEASED r.input [.raw 4 d.mantel.line]

/-- The gates of the ring whose releases have come and that hold no group end; they gated none any more. -/
theorem Device.bit_intlkMask_ringReleased (k : Nat) : bit d.ringReleased.intlkMask k = bit d.intlkMask k := by
  unfold Device.ringReleased
  extract_lets over_
  refine (congrArg (bit · k) (foldl_same Device.intlkMask Device.gateReport (fun _ _ => rfl) _ _)).trans ?_
  rw [Device.bit_intlkMask, Device.bit_intlkMask, List.any_filter]
  have kept (r : RingGate) : (!over_ r && bit r.held k) = bit r.held k := by
    cases ended : over_ r with
    | false => rfl
    | true =>
      simp only [over_, Bool.and_eq_true, beq_iff_eq] at ended
      rw [ended.1, bit_zero_left, Bool.and_false]
  simp only [kept]
  rfl

theorem Device.ringReleased_heads : d.ringReleased.heads = d.heads := by
  unfold Device.ringReleased
  extract_lets over_
  exact foldl_same (fun d : Device => d.heads) Device.gateReport (fun _ _ => rfl) _ _

/-- R184, R186: whatever they report, the inputs and the ring's gates hold the groups and leave the channels. -/
theorem Device.intlkReleased_all_holdView : ((List.range 12).foldl Device.intlkReleased d).holdView = d.holdView :=
  foldl_same Device.holdView Device.intlkReleased (fun d n => d.intlkReleased_holdView n) _ d

/-- R184: a line event takes exactly the releasable groups from those gated. -/
theorem Device.bit_intlkMask_intlkLine (k : Nat) :
    bit d.intlkLine.intlkMask k = (bit d.intlkMask k && !decide (k ∈ d.releasable)) := by
  rw [Device.intlkLine_eq, Device.bit_intlkMask_ringReleased,
    Device.bit_intlkMask_of_holdView (Device.intlkReleased_all_holdView _), Device.openChans_intlkMask,
    Device.bit_intlkMask_unhold]

/-- R94: the line is the first open slot of each channel of a released group. -/
theorem Device.intlkLine_openIntlk {c : Nat} (hc : c / 8 ∈ d.releasable) :
    (d.intlkLine.chan c).openIntlk = d.mantel.line := by
  have listed : c ∈ d.releasable.flatMap groupChans :=
    List.mem_flatMap.mpr ⟨c / 8, hc, List.mem_map.mpr ⟨c % 8, List.mem_range.mpr (by omega), by omega⟩⟩
  have heads : d.intlkLine.heads = ((d.unhold d.releasable).openChans (d.releasable.flatMap groupChans)).heads := by
    rw [Device.intlkLine_eq, Device.ringReleased_heads]
    exact Device.heads_of_holdView (Device.intlkReleased_all_holdView _)
  rw [Device.chan, heads]
  exact (Device.openChans_openIntlk _ listed).trans (by rw [Device.openChans_mantel, Device.unhold_mantel])

/-- R94: a slot below the first open one is gated. -/
theorem Device.gateCause_below_openIntlk {c h : Nat} (below : h < (d.chan c).openIntlk) : d.gateCause c h ≠ 0 := by
  unfold Device.gateCause
  extract_lets x g
  split
  · omega
  · decide

end

/-- Settles O31: the groups released lose every bit that holds them and no other group does; their channels open at the
line. -/
theorem aLineEventReleasesOnlyWhatIsClear : Obligations.ALineEventReleasesOnlyWhatIsClear := by
  intro d k hk
  have releases := d.mem_releasable hk
  refine ⟨?gated, fun was clear c hc => ?opened⟩
  case gated =>
    rw [Device.bit_intlkMask_intlkLine, Bool.and_eq_true, Bool.not_eq_true', decide_eq_false_iff_not, releases]
    cases d.groupHeld k <;> simp
  case opened =>
    have first : (d.intlkLine.chan c).openIntlk = d.mantel.line :=
      d.intlkLine_openIntlk (hc ▸ releases.mpr ⟨was, clear⟩)
    exact ⟨first, fun h below => Device.gateCause_below_openIntlk _ (first ▸ below)⟩

end Sys2Proof.Machine
end

section
/-! PROOFS. The head ports family (O7, O23, O24): the commands that leave every byte memory, the shutdown of a group, the
acceptance of a head. -/
namespace Sys2Proof.Machine

/-! ### Which commands may change a byte memory (R120, R204, R239, R331, R402) -/

/-- The keys from k on, 0x4000 of them, are none of the four whose write may change a memory, where they lie between the
Foundation's and the Workshop's. -/
theorem add_not_mem_memKeys {k n : Nat} (between : Reg.FOUNDATION_PROGRAM < k ∧ k + 0x4000 ≤ Reg.WORKSHOP_IMAGE)
    (near : n < 0x4000) : k + n ∉ memKeys := by
  simp only [memKeys, Reg.SUBSYS_RESET_CMD, Reg.FOUNDATION_PROGRAM, Reg.HOUSE_IMAGE, Reg.WORKSHOP_IMAGE, List.mem_cons,
    List.not_mem_nil, or_false] at between ⊢
  omega

section
variable {s t : State}

/-- A command whose effect is on the device alone leaves the memories. -/
theorem State.nextWith_mem {d : Device} (h : s.nextWith d = .next t) : t.mem = s.mem := by
  cases h
  rfl

/-- R448: loading an instruction that drives the balls, or HIGHZ, holds the device and changes no memory. -/
theorem State.tap_drives_mem {code : Nat} {pins data : List Bool} {edges : List (Nat × Bool)}
    (drives : tapOp code = .extest ∨ tapOp code = .clamp ∨ tapOp code = .highz)
    (h : s.tap code pins data edges = .next t) : t.mem = s.mem := by
  refine State.whenB_mem (fun _ => ?_) h
  rcases drives with op | op | op <;> simp only [Device.tapLoad, op]

end

/-- Settles O7: a command that is an entry's write writes none of the four entries whose effect is on a memory, the test
port's commands that hold the device load no instruction that frees it, and the others act on the device alone. -/
theorem otherCommandsKeepTheMemories : Obligations.OtherCommandsKeepTheMemories := by
  intro c s t other runs
  cases c
  case entryWrite | write | domainWriteStart | domainWriteSeg | usdoTransfer | rpdoReceived | headRecordRead
      | headMemWriteDone | qptOpen | qptData | qptRaw | checkpointDone | csiLine | cellarWriteDone | pantryTransaction
      | workshopImageWrite | houseImageWrite | foundationProgram | subsysResetCmd | kaCount | railRetry | pwrAonBrownout
      | powerOn | resetNRelease | bootRetry | wake | testLogicReset | idcode | sample | preload | bypass =>
    exact Bool.noConfusion other
  case extest | extestPulse | extestTrain | clamp | highz => exact State.tap_drives_mem (by decide) runs
  case hgDisable | hgEnable => exact State.putHg_mem runs
  case launchSubmit => exact State.putBlob_mem (fun _ => by decide) runs
  case nozzleMapWrite | psetWrite =>
    exact State.putBlob_mem (fun unit => add_not_mem_memKeys (by decide) (by omega)) runs
  case suspectClear | ackSeq | cmpArm | cmpDisarm | headAccept | winPortDisable | winPortEnable | trigArm | trigDisarm
      | loopForceSafe | loopRestore | loopDisable | loopEnable | porchPortDisable | porchPortEnable | hallPortDisable
      | hallPortEnable | linkResetCmd =>
    exact State.put_mem (fun unit => add_not_mem_memKeys (by decide) (by omega)) runs
  case qoutConfigWrite q field v =>
    exact State.put_mem (fun unit => Nat.add_assoc _ _ field ▸ add_not_mem_memKeys (by decide) (by omega)) runs
  case ainTrimWrite n offset v =>
    cases offset <;> exact State.put_mem (fun unit => add_not_mem_memKeys (by decide) (by omega)) runs
  case commitRequest | commitCancel | commitDiscard | inForceSelWrite | profileRequest | refSourceWrite | refAnchorCmd
      | schedStop | schedResume | schedFlush | histCaptureCmd | nozzleWordWrite | intlkAck | tripAck | dtStart | dtAbort
      | calRun | calAbort | calRevert | cellarFlushCmd | profileSaveCmd | proofStart | proofAbort | faultAck
      | mirrorClearCmd | tb3StepCmd | launchCancel | prbsStart | prbsStop | workshopRestart | workshopHalt
      | pwrRequestRun | pwrRequestReady | pwrRequestStandby | pwrRequestNight | deviceResetCmd | selftestStart
      | selftestAbort | loopbackStart =>
    exact State.put_mem (fun _ => by decide) runs
  all_goals exact State.nextWith_mem runs

/-! ### The entries and channels of a group (R104, R116, R123) -/

theorem mem_groupChans {k c : Nat} : c ∈ groupChans k ↔ c / 8 = k := by
  rw [groupChans, List.mem_map]
  exact ⟨fun ⟨i, hi, hc⟩ => by have := List.mem_range.mp hi; omega,
    fun hc => ⟨c % 8, List.mem_range.mpr (by omega), by omega⟩⟩

/-- Clearing a bit takes it off the mask. -/
theorem bit_clrBit_same (m i : Nat) : bit (clrBit m i) i = false := by
  cases set : bit m i with
  | false => rw [clrBit, set, if_neg Bool.false_ne_true, set]
  | true =>
    have lower : (m - 1 <<< i) / 2 ^ i = m / 2 ^ i - 1 := by
      rw [Nat.one_shiftLeft, ← Nat.sub_mul_div, Nat.mul_one]
    have odd : m / 2 ^ i % 2 = 1 := by rwa [bit_eq_div, beq_iff_eq] at set
    rw [clrBit, if_pos set, bit_eq_div, lower, beq_eq_false_iff_ne]
    omega

/-- What holds after one step of a fold, and after every step where it held before, holds at its end. -/
theorem foldl_establishes {α β : Type} {P : β → Prop} {f : β → α → β} {a : α} (sets : ∀ b, P (f b a))
    (keeps : ∀ b x, P b → P (f b x)) {l : List α} (ha : a ∈ l) (b : β) : P (l.foldl f b) := by
  obtain ⟨before, after, rfl⟩ := List.append_of_mem ha
  rw [List.foldl_append, List.foldl_cons]
  exact foldl_keeps P f keeps after _ (sets _)

/-- An entry that is neither HG_ENABLE nor the HG_STATE or a PRESENCE of group k. -/
def ForeignTo (k key : Nat) : Prop :=
  key ≠ Reg.HG_ENABLE ∧ key ≠ Reg.HG_STATE + k ∧ ∀ c, c / 8 = k → key ≠ Reg.PRESENCE + c

/-- The entries of another index are foreign to every group. -/
theorem foreignTo_of_index {k key i : Nat} (hk : k < 24) (index : key / 256 = i)
    (other : i ∉ [0x2502, 0x2503, 0x2505]) : ForeignTo k key := by
  simp only [List.mem_cons, List.not_mem_nil, or_false, not_or] at other
  simp only [ForeignTo, Reg.HG_ENABLE, Reg.HG_STATE, Reg.PRESENCE]
  exact ⟨by omega, by omega, fun c hc => by omega⟩

theorem foreignTo_hgState {k j : Nat} (hj : j < 24) (other : j ≠ k) : ForeignTo k (Reg.HG_STATE + j) := by
  simp only [ForeignTo, Reg.HG_ENABLE, Reg.HG_STATE, Reg.PRESENCE]
  exact ⟨by omega, by omega, fun c hc => by omega⟩

theorem foreignTo_presence {k c : Nat} (hk : k < 24) (hc : c < 192) (other : c / 8 ≠ k) :
    ForeignTo k (Reg.PRESENCE + c) := by
  simp only [ForeignTo, Reg.HG_ENABLE, Reg.HG_STATE, Reg.PRESENCE]
  refine ⟨by omega, by omega, fun x hx same => other ?_⟩
  rw [Nat.add_left_cancel same, hx]

/-! ### The parts of a group's shutdown (R115, R116 step 1, R123) -/

/-- R116: the armed slots of a group are dropped. -/
def Device.dropArmed (d : Device) (k : Nat) : Device :=
  { d with mantel := { d.mantel with armed := d.mantel.armed.filter (fun a => a.ch / 8 != k) } }

theorem Device.dropArmed_reg (d : Device) (k key : Nat) : (d.dropArmed k).reg key = d.reg key := rfl

/-- R115, R123: a channel as its group's shutdown leaves it. -/
def Device.stopChan (d : Device) (c : Nat) : Device := (d.setReg (Reg.PRESENCE + c) 0).emptyFifo c

/-- R116: the parts of the shutdown in their order. -/
theorem Device.stopGroup_eq (d : Device) (k : Nat) : d.stopGroup k = (groupChans k).foldl Device.stopChan
    ((((d.setReg (Reg.HG_STATE + k) 1).roomIdle k true).setGroup k
      { d.group k with slots := [], shiftAt := none, ready := false }).dropArmed k) := rfl

/-! ### What the other groups leave of a group (R115, R116) -/

/-- HG_ENABLE, and what there is of group k: its state, its armed slots, and its channels with their presence. -/
def Device.groupView (d : Device) (k : Nat) : Nat × Int × List Armed × ({c // c / 8 = k} → Int × Chan) :=
  (d.regN Reg.HG_ENABLE, d.hgState k, d.mantel.armed.filter (fun a => a.ch / 8 == k),
    fun c => (d.presence c.1, d.chan c.1))

section
variable (d : Device) {k : Nat}

theorem Device.setReg_groupView {key : Nat} (v : Int) (foreign : ForeignTo k key) :
    (d.setReg key v).groupView k = d.groupView k := by
  obtain ⟨enable, state, presence⟩ := foreign
  have channels : (fun c : {c // c / 8 = k} => ((d.setReg key v).presence c.1, (d.setReg key v).chan c.1)) =
      fun c => (d.presence c.1, d.chan c.1) :=
    funext fun c => Prod.ext (d.reg_setReg_other v (presence c.1 c.2).symm) rfl
  simp only [Device.groupView, channels, Device.regN, Device.hgState, d.reg_setReg_other v enable.symm,
    d.reg_setReg_other v state.symm, Device.setReg_mantel]

/-- R116: another group's HG_STATE. -/
theorem Device.setState_groupView {j : Nat} (hj : j < 24) (other : j ≠ k) (v : Int) :
    (d.setReg (Reg.HG_STATE + j) v).groupView k = d.groupView k :=
  d.setReg_groupView v (foreignTo_hgState hj other)

theorem Device.setChan_groupView {c : Nat} (x : Chan) (other : c / 8 ≠ k) :
    (d.setChan c x).groupView k = d.groupView k := by
  have channels : (fun i : {c // c / 8 = k} => ((d.setChan c x).presence i.1, (d.setChan c x).chan i.1)) =
      fun i => (d.presence i.1, d.chan i.1) :=
    funext fun i => Prod.ext rfl (d.chan_setChan_other x fun same => other (same ▸ i.2))
  simp only [Device.groupView, channels]
  rfl

theorem Device.dropArmed_groupView {j : Nat} (other : j ≠ k) : (d.dropArmed j).groupView k = d.groupView k := by
  have own : (d.dropArmed j).mantel.armed.filter (fun a => a.ch / 8 == k) =
      d.mantel.armed.filter (fun a => a.ch / 8 == k) := by
    refine (List.filter_filter ..).trans (List.filter_congr fun a _ => ?_)
    by_cases same : a.ch / 8 = k <;> simp [same, Ne.symm other]
  simp only [Device.groupView, own]
  rfl

theorem Device.sizeMap_groupView (c : Nat) : (d.sizeMap c).groupView k = d.groupView k := by
  unfold Device.sizeMap
  extract_lets n
  split <;> rfl

/-- R173: the contexts that pass on, and the answer that goes out. -/
theorem Device.passIdle_send_groupView (x : Tx) : (d.passIdle.send x).groupView k = d.groupView k := rfl

/-- What no step of a fold over another group's channels changes of group k. -/
theorem Device.foldl_groupChans_groupView {j : Nat} (hj : j < 24) (other : j ≠ k) {f : Device → Nat → Device}
    (step : ∀ (e : Device) (c : Nat), c < 192 → c / 8 ≠ k → (f e c).groupView k = e.groupView k) :
    ((groupChans j).foldl f d).groupView k = d.groupView k := by
  refine List.foldlRecOn (motive := fun e : Device => e.groupView k = d.groupView k) (groupChans j) f rfl
    fun e ih c hc => ?_
  have unit : c / 8 = j := mem_groupChans.mp hc
  exact (step e c (by omega) (by omega)).trans ih

variable (hk : k < 24)
include hk

theorem Device.loadStored_groupView {key i : Nat} (index : key / 256 = i) (other : i ∉ [0x2502, 0x2503, 0x2505]) :
    (d.loadStored key).groupView k = d.groupView k := by
  unfold Device.loadStored
  split
  · rfl
  next v _ =>
    cases v with
    | n x => exact d.setReg_groupView x (foreignTo_of_index hk index other)
    | b l => rfl

theorem Device.roomIdle_groupView {j : Nat} (hj : j < 24) (idle : Bool) :
    (d.roomIdle j idle).groupView k = d.groupView k := by
  unfold Device.roomIdle
  split
  · exact d.setReg_groupView _ (foreignTo_of_index hk (i := 0x2F10) (by simp only [Reg.ROOM_STATE]; omega) (by decide))
  · rfl

theorem Device.setThresholds_groupView {c : Nat} (hc : c < 192) (r : List Nat) (valid : Bool) :
    (d.setThresholds c r valid).groupView k = d.groupView k := by
  have warn : ForeignTo k (Reg.TEMP_WARN_IN_FORCE + c) :=
    foreignTo_of_index hk (i := 0x2611) (by simp only [Reg.TEMP_WARN_IN_FORCE]; omega) (by decide)
  have limit : ForeignTo k (Reg.TEMP_LIMIT_IN_FORCE + c) :=
    foreignTo_of_index hk (i := 0x2612) (by simp only [Reg.TEMP_LIMIT_IN_FORCE]; omega) (by decide)
  unfold Device.setThresholds
  extract_lets p
  rw [Device.setReg_groupView _ _ limit, Device.setReg_groupView _ _ warn]

section
variable {c : Nat} (hc : c < 192) (other : c / 8 ≠ k)
include hc other

theorem Device.startChan_groupView : (d.startChan c).groupView k = d.groupView k := by
  unfold Device.startChan
  extract_lets x d1
  rw [Device.setReg_groupView _ _ (foreignTo_presence hk hc other), Device.setThresholds_groupView _ hk hc]
  exact d.setChan_groupView _ other

theorem Device.stopChan_groupView : (d.stopChan c).groupView k = d.groupView k :=
  (Device.setChan_groupView _ _ other).trans (d.setReg_groupView 0 (foreignTo_presence hk hc other))

end

section
variable {j : Nat} (hj : j < 24) (other : j ≠ k)
include hj other

theorem Device.startGroup_groupView : (d.startGroup j).groupView k = d.groupView k := by
  unfold Device.startGroup
  extract_lets d1 n d2
  have loaded : d2.groupView k = d.groupView k :=
    (d1.loadStored_groupView hk (i := 0x2501) (by simp only [Reg.HEAD_PROFILE]; omega) (by decide)).trans
      (d.loadStored_groupView hk (i := 0x2500) (by simp only [Reg.HG_PROFILE_SEL]; omega) (by decide))
  split
  · exact (d2.setState_groupView hj other 0).trans loaded
  next p _ =>
    refine (Device.foldl_groupChans_groupView _ hj other fun e c hc foreign =>
      (Device.sizeMap_groupView _ c).trans (e.startChan_groupView hk hc foreign)).trans ?_
    exact (Device.roomIdle_groupView _ hk hj false).trans ((Device.setState_groupView _ hj other 3).trans loaded)

theorem Device.stopGroup_groupView : (d.stopGroup j).groupView k = d.groupView k := by
  rw [Device.stopGroup_eq]
  refine (Device.foldl_groupChans_groupView _ hj other fun e c hc foreign =>
    e.stopChan_groupView hk hc foreign).trans ?_
  refine (Device.dropArmed_groupView _ other).trans ?_
  exact (Device.roomIdle_groupView _ hk hj true).trans (d.setState_groupView hj other 1)

theorem Device.hgSet_groupView : (d.hgSet j).groupView k = d.groupView k := by
  unfold Device.hgSet
  split
  · exact d.setState_groupView hj other 2
  split
  · exact d.startGroup_groupView hk hj other
  split
  · exact d.setState_groupView hj other 2
  · rfl

theorem Device.hgClear_groupView : (d.hgClear j).groupView k = d.groupView k := by
  unfold Device.hgClear
  split
  · exact d.setState_groupView hj other 1
  split
  · exact d.stopGroup_groupView hk hj other
  · rfl

end

end

/-! ### A group that is stopped (R115, R116 step 1, R123) -/

/-- Channel c is DISABLED, its line FIFO is empty, and no slot of it is shifted or latched. -/
def Device.ChanIdle (d : Device) (c : Nat) : Prop :=
  d.presence c = 0 ∧ (d.chan c).fifo = [] ∧ (d.chan c).shifted = none ∧ (d.chan c).latched = none

/-- HG_ENABLE is v; group k is STOPPING, with no armed slot and with its channels idle. -/
structure Device.GroupStopped (d : Device) (k v : Nat) : Prop where
  enable : d.regN Reg.HG_ENABLE = v
  state : d.hgState k = 1
  disarmed : ∀ a ∈ d.mantel.armed, a.ch / 8 ≠ k
  idle : ∀ c, c / 8 = k → d.ChanIdle c

section
variable (d : Device) {k v : Nat}

theorem Device.stopChan_reg {key : Nat} (c : Nat) (below : key < Reg.PRESENCE) : (d.stopChan c).reg key = d.reg key :=
  d.reg_setReg_other 0 (by omega)

theorem Device.stopChan_idle (c : Nat) : (d.stopChan c).ChanIdle c := by
  have chan : (d.stopChan c).chan c = { d.chan c with fifo := [], shifted := none, latched := none } :=
    Device.chan_setChan _ c _
  exact ⟨d.reg_setReg _ 0, by rw [chan], by rw [chan], by rw [chan]⟩

theorem Device.stopChan_keeps_idle {c : Nat} (x : Nat) (idle : d.ChanIdle c) : (d.stopChan x).ChanIdle c := by
  by_cases same : c = x
  · exact same ▸ d.stopChan_idle c
  · have presence : (d.stopChan x).presence c = d.presence c := d.reg_setReg_other 0 (by omega)
    have chan : (d.stopChan x).chan c = d.chan c := Device.chan_setChan_other _ _ same
    rwa [Device.ChanIdle, presence, chan]

theorem Device.roomIdle_reg {key : Nat} (idle : Bool) (below : key < Reg.ROOM_STATE) :
    (d.roomIdle k idle).reg key = d.reg key := by
  unfold Device.roomIdle
  split
  · exact d.reg_setReg_other _ (by omega)
  · rfl

theorem Device.roomIdle_mantel (idle : Bool) : (d.roomIdle k idle).mantel = d.mantel := by
  unfold Device.roomIdle
  split <;> rfl

/-- R116: the shutdown writes no entry below the presences but the group's state. -/
theorem Device.stopGroup_reg {key : Nat} (below : key < Reg.PRESENCE) :
    (d.stopGroup k).reg key = (d.setReg (Reg.HG_STATE + k) 1).reg key := by
  rw [Device.stopGroup_eq]
  refine (foldl_same (fun e : Device => e.reg key) Device.stopChan (fun e c => e.stopChan_reg c below) _ _).trans ?_
  rw [Device.dropArmed_reg, Device.setGroup_reg, Device.roomIdle_reg _ true (Nat.lt_trans below (by decide))]

theorem Device.stopGroup_armed : (d.stopGroup k).mantel.armed = d.mantel.armed.filter (fun a => a.ch / 8 != k) := by
  rw [Device.stopGroup_eq]
  refine (foldl_same (fun e : Device => e.mantel.armed) Device.stopChan (fun _ _ => rfl) _ _).trans ?_
  rw [Device.dropArmed, Device.setGroup_mantel, Device.roomIdle_mantel, Device.setReg_mantel]

theorem Device.stopGroup_idle {c : Nat} (hc : c / 8 = k) : (d.stopGroup k).ChanIdle c := by
  rw [Device.stopGroup_eq]
  exact foldl_establishes (P := fun e : Device => e.ChanIdle c) (fun e => e.stopChan_idle c)
    (fun e x idle => e.stopChan_keeps_idle x idle) (mem_groupChans.mpr hc) _

theorem Device.stopGroup_groupStopped (hk : k < 24) (enable : d.regN Reg.HG_ENABLE = v) :
    (d.stopGroup k).GroupStopped k v := by
  refine ⟨?enable, ?state, ?disarmed, ?idle⟩
  case enable =>
    have own : Reg.HG_ENABLE ≠ Reg.HG_STATE + k := by
      simp only [Reg.HG_ENABLE, Reg.HG_STATE]
      omega
    rwa [Device.regN, d.stopGroup_reg (by decide), d.reg_setReg_other 1 own]
  case state =>
    rw [Device.hgState, d.stopGroup_reg (by simp only [Reg.HG_STATE, Reg.PRESENCE]; omega), Device.reg_setReg]
  case disarmed =>
    intro a ha
    rw [Device.stopGroup_armed, List.mem_filter] at ha
    simpa using ha.2
  case idle => exact fun c hc => d.stopGroup_idle hc

variable {d}

/-- Devices of one view of a group have it stopped alike. -/
theorem Device.GroupStopped.of_groupView {d' : Device} (view : d'.groupView k = d.groupView k)
    (h : d.GroupStopped k v) : d'.GroupStopped k v := by
  simp only [Device.groupView, Prod.mk.injEq] at view
  obtain ⟨enable, state, armed, channels⟩ := view
  obtain ⟨en, st, disarmed, idle⟩ := h
  refine ⟨enable.trans en, state.trans st, fun a ha own => ?_, fun c hc => ?_⟩
  · have kept : a ∈ d.mantel.armed.filter (fun a => a.ch / 8 == k) :=
      armed ▸ List.mem_filter.mpr ⟨ha, by simpa using own⟩
    exact disarmed a (List.mem_filter.mp kept).1 own
  · obtain ⟨presence, chan⟩ := Prod.mk.inj (congrFun channels ⟨c, hc⟩)
    have before := idle c hc
    rwa [Device.ChanIdle, ← presence, ← chan] at before

end

/-! ### HG_ENABLE is written (R116) -/

/-- R116: what a bit of HG_ENABLE does to its group. -/
def Device.hgBit (v : Nat) (d : Device) (j : Nat) : Device := if bit v j then d.hgSet j else d.hgClear j

theorem Device.hgWrite_eq (d : Device) (v : Nat) :
    d.hgWrite v = (List.range 24).foldl (Device.hgBit v) (d.setRegN Reg.HG_ENABLE v) := rfl

section
variable {d : Device} {k v : Nat} (hk : k < 24)
include hk

theorem Device.hgBits_groupView {l : List Nat} (units : ∀ j ∈ l, j < 24) (others : k ∉ l) :
    (l.foldl (Device.hgBit v) d).groupView k = d.groupView k := by
  refine List.foldlRecOn (motive := fun e : Device => e.groupView k = d.groupView k) l _ rfl fun e ih j hj => ?_
  have other : j ≠ k := fun same => others (same ▸ hj)
  refine Eq.trans ?_ ih
  unfold Device.hgBit
  split
  · exact e.hgSet_groupView hk (units j hj) other
  · exact e.hgClear_groupView hk (units j hj) other

/-- A clear bit of HG_ENABLE stops its group where that is STARTING or ON, whatever the other bits do. -/
theorem Device.hgWrite_groupStopped (clear : bit v k = false) (runs : d.hgState k = 3 ∨ d.hgState k = 4) :
    (d.hgWrite v).GroupStopped k v := by
  obtain ⟨before, after, split⟩ := List.append_of_mem (List.mem_range.mpr hk)
  obtain ⟨-, distinct, apart⟩ := List.nodup_append.mp (split ▸ List.nodup_range)
  have units (j : Nat) (hj : j ∈ before ++ k :: after) : j < 24 := List.mem_range.mp (split ▸ hj)
  rw [Device.hgWrite_eq, split, List.foldl_append, List.foldl_cons]
  have view : (before.foldl (Device.hgBit v) (d.setRegN Reg.HG_ENABLE v)).groupView k =
      (d.setRegN Reg.HG_ENABLE v).groupView k :=
    Device.hgBits_groupView hk (fun j hj => units j (List.mem_append_left _ hj))
      fun mem => apart k mem k List.mem_cons_self rfl
  generalize before.foldl (Device.hgBit v) (d.setRegN Reg.HG_ENABLE v) = e at view ⊢
  have enable : e.regN Reg.HG_ENABLE = v := (congrArg Prod.fst view).trans (Device.regN_setRegN d _ v)
  have state : e.hgState k = d.hgState k :=
    (congrArg (fun x => x.2.1) view).trans
      (d.reg_setReg_other _ (by simp only [Reg.HG_ENABLE, Reg.HG_STATE]; omega))
  have stops : Device.hgBit v e k = e.stopGroup k := by
    rw [Device.hgBit, clear, if_neg Bool.false_ne_true, Device.hgClear, state, if_neg (by omega), if_pos runs]
  rw [stops]
  exact (e.stopGroup_groupStopped hk enable).of_groupView
    (Device.hgBits_groupView hk (fun j hj => units j (List.mem_append_right _ (List.mem_cons_of_mem _ hj)))
      (List.nodup_cons.mp distinct).1)

end

/-- R116: HG_DISABLE is the write of HG_ENABLE with the group's bit clear. -/
theorem exec_hgDisable (s : State) (r : Req) (k : Nat) : exec (.hgDisable r k) s =
    s.put (k < 24) {} r Reg.HG_ENABLE (clrBit (s.dev.regN Reg.HG_ENABLE) k : Nat) := by
  show s.putHg {} r k false = _
  simp only [State.putHg, State.put, State.whenB, State.onBoth, Bool.false_eq_true, if_false]

/-- Settles O23: the write stops the group, and neither the contexts that pass on nor the answer touch it. -/
theorem disablingAGroupStopsIt : Obligations.DisablingAGroupStopsIt := by
  intro s r k hk on ok small running
  have written := Device.hgWrite_groupStopped hk (bit_clrBit_same (s.dev.regN Reg.HG_ENABLE) k) running
  obtain ⟨enable, state, disarmed, idle⟩ :=
    written.of_groupView (Device.passIdle_send_groupView _ (.result r Reg.HG_ENABLE .ok))
  exact ⟨_, (exec_hgDisable s r k).trans (State.put_hgEnable hk small on ok), rfl, enable, state, disarmed, idle,
    List.mem_cons_self⟩

/-! ### A head is accepted (R121, R123, R124) -/

section
variable (d : Device) (c : Nat)

theorem Device.blob_setBlob (k : Nat) (l : List Nat) : (d.setBlob k l).blob k = l := by
  show (assoc (assocSet d.dict.blobs k l) k).getD [] = l
  rw [assoc_assocSet_same]
  rfl

@[simp] theorem Device.gainRamps_dict (old w : Nat) : (d.gainRamps c old w).dict = d.dict := by
  unfold Device.gainRamps
  split <;> rfl

@[simp] theorem Device.touchNoz_dict (n : Nat) : (d.touchNoz c n).dict = d.dict := Device.markDirty_dict _ 4 c

@[simp] theorem Device.setOrigin_dict (n o : Nat) : (d.setOrigin c n o).dict = d.dict := Device.markDirty_dict _ 4 c

theorem Device.healthNow_dict (n w : Nat) : (d.healthNow c n w).dict = d.dict := by
  unfold Device.healthNow
  extract_lets d1 m
  split <;> exact d.touchNoz_dict c n

/-- R168 … R170: a change that waits counts in an entry; no change writes bytes of an entry. -/
theorem Device.changeNoz_blobs (n w : Nat) : (d.changeNoz c n w).dict.blobs = d.dict.blobs := by
  have touched : (d.touchNoz c n).dict.blobs = d.dict.blobs := by rw [Device.touchNoz_dict]
  have ramped (old : Nat) : ((d.touchNoz c n).gainRamps c old w).dict.blobs = d.dict.blobs := by
    rw [Device.gainRamps_dict, touched]
  unfold Device.changeNoz
  extract_lets d1 m
  split
  · exact touched
  · split <;> exact ramped _

theorem Device.writeNoz_blobs (n w : Nat) : (d.writeNoz c n w).dict.blobs = d.dict.blobs := by
  unfold Device.writeNoz
  extract_lets m old w1 d1 eff
  split
  · rfl
  · split
    · exact congrArg Dict.blobs (d1.healthNow_dict c n eff)
    · exact d1.changeNoz_blobs c n eff

/-- R124: seeding the nozzle words of a channel writes no bytes of an entry. -/
theorem Device.seedChan_blob (r : List Nat) (k : Nat) : (d.seedChan c r).blob k = d.blob k := by
  have blobs : (d.seedChan c r).dict.blobs = d.dict.blobs := by
    unfold Device.seedChan
    rw [Device.markDirty_dict]
    refine foldl_same (fun e : Device => e.dict.blobs) _ (fun e n => ?_) _ d
    rw [Device.setOrigin_dict]
    exact e.writeNoz_blobs c n _
  simp only [Device.blob, Device.blob?, blobs]

@[simp] theorem Device.rankCheck_dict (k : Nat) : (d.rankCheck k).dict = d.dict := by
  unfold Device.rankCheck
  extract_lets ranks g d1 rs lo hi
  split
  · rfl
  · split <;> rfl

theorem Device.enterPresent_blob (k : Nat) : (d.enterPresent c).blob k = d.blob k := by
  unfold Device.enterPresent
  extract_lets x dr
  simp only [Device.blob, Device.blob?, Device.rankCheck_dict]
  rfl

theorem Device.enterPresent_presence : (d.enterPresent c).presence c = 6 := by
  have drive : Reg.PRESENCE + c ≠ Reg.DRIVE_MV + c := by
    simp only [Reg.PRESENCE, Reg.DRIVE_MV]
    omega
  unfold Device.enterPresent
  extract_lets x dr
  simp only [Device.presence, Device.reg, Device.rankCheck_dict]
  exact (Device.reg_setRegN_other _ dr drive).trans (Device.reg_setReg d (Reg.PRESENCE + c) 6)

/-- R123, R124: the head of channel c is known by a SERIAL and PRESENT, and its acceptance is the record raised last. -/
def Device.HeadKnown (serial : List Nat) : Prop :=
  d.blob (Reg.KNOWN_SERIAL + c) = serial ∧ d.presence c = 6 ∧
    (d.log.raised.getLast?).map (fun x => (x.code, x.unit)) = some (Ev.HEAD_ACCEPTED, c)

theorem Device.headKnown_of_enterPresent {serial : List Nat} (known : d.blob (Reg.KNOWN_SERIAL + c) = serial)
    (fs : List DF) : ((d.enterPresent c).raise Ev.HEAD_ACCEPTED c fs).HeadKnown c serial := by
  refine ⟨(d.enterPresent_blob c _).trans known, d.enterPresent_presence c, ?_⟩
  simp [Device.raise, Device.raiseSev]

variable {d c}

theorem Device.headAccept_headKnown_of_new {r : List Nat} (isNew : d.presence c = 5)
    (valid : d.validRecord c = some r) : (d.headAccept c).HeadKnown c (recSerial r) := by
  rw [Device.headAccept, if_pos isNew, valid]
  exact Device.headKnown_of_enterPresent _ c ((Device.seedChan_blob _ c r _).trans (d.blob_setBlob _ _)) _

theorem Device.headAccept_headKnown_of_noRecord (noRecord : d.presence c = 3) :
    (d.headAccept c).HeadKnown c (recSerial (d.blob (Reg.HEAD_RECORD + c))) := by
  rw [Device.headAccept, if_neg (by omega), if_pos noRecord]
  refine Device.headKnown_of_enterPresent _ c ?_ _
  simp only [Device.blob, Device.blob?, Device.markDirty_dict]
  exact d.blob_setBlob _ _

theorem Device.headAccept_of_other (notNew : d.presence c ≠ 5) (hasRecord : d.presence c ≠ 3) :
    d.headAccept c = d := by
  rw [Device.headAccept, if_neg notNew, if_neg hasRecord]

end

/-- Settles O24, by the channel's presence: NEW, NO_RECORD, or another. -/
theorem headAcceptMakesANewHeadKnown : Obligations.HeadAcceptMakesANewHeadKnown := by
  intro s r c hc ok
  have runs : exec (.headAccept r c) s = s.wrote r (Reg.HEAD_ACCEPT + c) (s.dev.headAccept c) :=
    State.put_headAccept hc ok
  refine ⟨fun _ isNew valid => ⟨_, runs, rfl, Device.headAccept_headKnown_of_new isNew valid⟩,
    fun noRecord => ⟨_, runs, rfl, Device.headAccept_headKnown_of_noRecord noRecord⟩, fun notNew hasRecord => ?_⟩
  rw [runs, Device.headAccept_of_other notNew hasRecord]

end Sys2Proof.Machine
end

section
/-! PROOFS. The page store and QSC family (O4, O25, O26, O53): memories that stay canonical, the codec read back, the
completion of the page store's, the Rooms' and the log's commands, and a stopped scheduler that loses a page. -/
namespace Sys2Proof.Machine

/-! ### Every step keeps the byte memories canonical (R129, R332, R400) -/

theorem Device.brownOut_kept (m : Memories) (d : Device) : m.Kept (Device.brownOut m d).1 :=
  Device.resetTo_kept m _ 1 1

theorem Device.powerUp_kept (m : Memories) (d : Device) : m.Kept (Device.powerUp m d).1 := Device.resetTo_kept m _ 0 1

theorem Device.resetRelease_kept (m : Memories) (d : Device) : m.Kept (Device.resetRelease m d).1 :=
  Device.heldRelease_kept m _

section
variable {s t : State}

theorem State.nextBoth_kept {x : Memories × Device} (k : s.mem.Kept x.1) (h : s.nextBoth x = .next t) :
    s.mem.Kept t.mem := by
  cases h
  exact k

/-- A command under a guard that may change the memories keeps them where its operation does. -/
theorem State.guarded_kept {g : Bool} {x : Memories × Device} (k : s.mem.Kept x.1)
    (h : s.nextBoth (if g then x else (s.mem, s.dev)) = .next t) : s.mem.Kept t.mem := by
  refine State.nextBoth_kept ?_ h
  cases g
  · exact .refl _
  · exact k

theorem State.tap_kept {code : Nat} {pins data : List Bool} {edges : List (Nat × Bool)}
    (h : s.tap code pins data edges = .next t) : s.mem.Kept t.mem :=
  State.guarded_kept (Device.tapLoad_kept s.mem s.dev code pins data edges) h

/-- R331, R402: a command that may change the memories does so by an operation that keeps them canonical and every
blown fuse. -/
theorem exec_kept {c : Instr} (runs : exec c s = .next t) : s.mem.Kept t.mem := by
  cases writes : changesMemory c with
  | false => exact .of_eq (otherCommandsKeepTheMemories c s t writes runs)
  | true =>
    cases c
    case entryWrite => exact State.nextBoth_kept (Device.entryWrite_kept s.mem s.dev ..) runs
    case write => exact State.nextBoth_kept (Device.qdpWrite_kept s.mem s.dev ..) runs
    case domainWriteStart => exact State.nextBoth_kept (Device.qdpWriteStart_kept s.mem s.dev ..) runs
    case domainWriteSeg => exact State.nextBoth_kept (Device.qdpWriteSeg_kept s.mem s.dev ..) runs
    case usdoTransfer => exact State.nextBoth_kept (Device.usdo_kept s.mem s.dev ..) runs
    case rpdoReceived => exact State.nextBoth_kept (Device.rpdo_kept s.mem s.dev ..) runs
    case kaCount => exact State.nextBoth_kept (Device.kaTake_kept s.mem s.dev ..) runs
    case subsysResetCmd => exact State.put_kept runs
    case workshopImageWrite | houseImageWrite | foundationProgram => exact State.putBlob_kept runs
    case headRecordRead => exact State.guarded_kept (Device.recordRead_kept s.mem s.dev ..) runs
    case headMemWriteDone => exact State.guarded_kept (Device.memDone_kept s.mem s.dev ..) runs
    case qptOpen h => exact State.guarded_kept (s.mem.kept_store (Device.qptOpen_wf s.dev h)) runs
    case qptData h data => exact State.guarded_kept (s.mem.kept_store (Device.qptData_wf s.dev h data)) runs
    case qptRaw h data => exact State.guarded_kept (s.mem.kept_store (Device.qptRaw_wf s.dev h data)) runs
    case csiLine h dt crcOk pix =>
      exact State.guarded_kept (s.mem.kept_store (Device.csiLine_wf s.dev h dt crcOk pix)) runs
    case cellarWriteDone back =>
      exact State.guarded_kept (s.mem.kept_flash (Device.cellarWriteDone_wf s.dev back)) runs
    case checkpointDone => exact State.guarded_kept (Device.checkpointDone_kept s.mem s.dev ..) runs
    case pantryTransaction => exact State.guarded_kept (Device.pantryTxn_kept s.mem s.dev ..) runs
    case railRetry => exact State.guarded_kept (Device.railRetry_kept s.mem s.dev) runs
    case pwrAonBrownout => exact State.guarded_kept (Device.brownOut_kept s.mem s.dev) runs
    case powerOn => exact State.guarded_kept (Device.powerUp_kept s.mem s.dev) runs
    case resetNRelease => exact State.guarded_kept (Device.resetRelease_kept s.mem s.dev) runs
    case bootRetry => exact State.guarded_kept (Device.bootRetry_kept s.mem s.dev) runs
    case wake => exact State.guarded_kept (Device.wake_kept s.mem s.dev ..) runs
    case testLogicReset => exact State.guarded_kept (Device.tapFree_kept s.mem s.dev ..) runs
    case idcode | sample | preload => exact State.tap_kept runs
    case bypass code =>
      refine State.guarded_kept ?_ runs
      split
      · exact Device.tapLoad_kept s.mem s.dev ..
      · exact .refl _
    all_goals exact Bool.noConfusion writes

end

/-- Settles O4: a step is one command's, or on an empty queue one cycle's, and each keeps the memories canonical. -/
theorem stepKeepsSound : Obligations.StepKeepsSound := by
  intro s t sound runs
  unfold step at runs
  split at runs
  next => cases runs; exact s.tick_kept.wf sound
  next => exact (exec_kept runs).wf sound

/-! ### Numbers and their bits, most significant first (R141, R143) -/

/-- Induction on bits by the last one put. -/
theorem bits_concat_induction {p : List Bool → Prop} (nil : p []) (concat : ∀ l b, p l → p (l ++ [b]))
    (l : List Bool) : p l := by
  rw [← List.reverse_reverse l]
  induction l.reverse with
  | nil => exact nil
  | cons b l ih =>
    rw [List.reverse_cons]
    exact concat _ b ih

/-- The number that bits spell, most significant first. -/
def bitsValue (l : List Bool) : Nat := l.foldl (fun acc b => 2 * acc + (if b then 1 else 0)) 0

theorem bitsValue_concat (l : List Bool) (b : Bool) :
    bitsValue (l ++ [b]) = 2 * bitsValue l + (if b then 1 else 0) := by
  rw [bitsValue, List.foldl_append]
  rfl

theorem bitsValue_lt (l : List Bool) : bitsValue l < 2 ^ l.length := by
  induction l using bits_concat_induction with
  | nil => exact Nat.one_pos
  | concat l b ih =>
    rw [bitsValue_concat, List.length_append, List.length_singleton, Nat.pow_succ]
    split <;> omega

theorem putBits_succ (v n : Nat) : putBits v (n + 1) = bit v n :: putBits v n := by
  simp [putBits, List.range_succ]

theorem bit_succ (v i : Nat) : bit v (i + 1) = bit (v / 2) i := by
  rw [bit_eq_div, bit_eq_div, Nat.div_div_eq_div_mul, Nat.pow_succ']

/-- The last bit put is the number's lowest. -/
theorem putBits_succ_last (v n : Nat) : putBits v (n + 1) = putBits (v / 2) n ++ [bit v 0] := by
  simp [putBits, List.range_succ_eq_map, Function.comp_def, bit_succ]

theorem putBits_bitsValue (l : List Bool) : putBits (bitsValue l) l.length = l := by
  induction l using bits_concat_induction with
  | nil => rfl
  | concat l b ih =>
    have half : bitsValue (l ++ [b]) / 2 = bitsValue l := by
      rw [bitsValue_concat]
      split <;> omega
    have low : bit (bitsValue (l ++ [b])) 0 = b := by
      rw [bit_eq_div, bitsValue_concat]
      cases b <;> simp
    rw [List.length_append, List.length_singleton, putBits_succ_last, half, low, ih]

theorem bit_value (v i : Nat) : (if bit v i then 1 else 0) = v / 2 ^ i % 2 := by
  rw [bit_eq_div]
  rcases Nat.mod_two_eq_zero_or_one (v / 2 ^ i) with even | odd
  · rw [even]
    rfl
  · rw [odd]
    rfl

/-- Bits put are the bits got. -/
theorem getBits_putBits (v n acc : Nat) (rest : List Bool) :
    getBits n acc (putBits v n ++ rest) = .ok (acc * 2 ^ n + v % 2 ^ n) rest := by
  induction n generalizing acc with
  | zero => rw [Nat.pow_zero, Nat.mod_one, Nat.mul_one]; rfl
  | succ n ih =>
    have split : v % 2 ^ (n + 1) = v % 2 ^ n + 2 ^ n * (v / 2 ^ n % 2) := Nat.mod_pow_succ
    have value : (2 * acc + v / 2 ^ n % 2) * 2 ^ n + v % 2 ^ n = acc * 2 ^ (n + 1) + v % 2 ^ (n + 1) := by
      rw [split, Nat.add_mul, Nat.pow_succ', Nat.mul_left_comm acc, Nat.mul_assoc, Nat.mul_comm (v / 2 ^ n % 2),
        Nat.add_assoc, Nat.add_comm (v % 2 ^ n)]
    rw [putBits_succ, List.cons_append, getBits, ih, bit_value, value]

theorem getBits_putBits_of_lt {v n : Nat} (h : v < 2 ^ n) (rest : List Bool) :
    getBits n 0 (putBits v n ++ rest) = .ok v rest := by
  rw [getBits_putBits, Nat.zero_mul, Nat.zero_add, Nat.mod_eq_of_lt h]

/-! ### Bytes and their bits (R141) -/

theorem bytesBits_cons (b : Nat) (l : List Nat) : bytesBits (b :: l) = putBits b 8 ++ bytesBits l := rfl

/-- The bits of the next byte, completed with zero bits where fewer than eight are left. -/
def nextEight (bs : List Bool) : List Bool := bs.take 8 ++ List.replicate (8 - (bs.take 8).length) false

theorem nextEight_length (bs : List Bool) : (nextEight bs).length = 8 := by
  rw [nextEight, List.length_append, List.length_replicate, List.length_take]
  omega

theorem packBits_succ {bs : List Bool} (f : Nat) (h : bs ≠ []) :
    packBits (f + 1) bs = bitsValue (nextEight bs) :: packBits f (bs.drop 8) := by
  cases bs with
  | nil => exact absurd rfl h
  | cons b bs => rfl

theorem packBits_nil (f : Nat) : packBits f [] = [] := by
  cases f <;> rfl

theorem packBits_lt (f : Nat) (bs : List Bool) : ∀ x ∈ packBits f bs, x < 256 := by
  induction f generalizing bs with
  | zero => exact fun _ h => nomatch h
  | succ f ih =>
    by_cases none : bs = []
    · rw [none, packBits_nil]
      exact fun _ h => nomatch h
    · rw [packBits_succ f none]
      refine List.forall_mem_cons.mpr ⟨?_, ih _⟩
      have := bitsValue_lt (nextEight bs)
      rwa [nextEight_length] at this

theorem putBits_nextEight (bs : List Bool) : putBits (bitsValue (nextEight bs)) 8 = nextEight bs := by
  have := putBits_bitsValue (nextEight bs)
  rwa [nextEight_length] at this

/-- R141: the bytes are the bits, the final byte completed with zero bits. -/
theorem bytesBits_packBits {f : Nat} {bs : List Bool} (h : bs.length < f) :
    ∃ pad, pad < 8 ∧ bytesBits (packBits f bs) = bs ++ List.replicate pad false := by
  induction f generalizing bs with
  | zero => exact absurd h (Nat.not_lt_zero _)
  | succ f ih =>
    by_cases none : bs = []
    · exact ⟨0, by decide, by rw [none, packBits_nil]; rfl⟩
    have some : 0 < bs.length := List.length_pos_iff.mpr none
    rw [packBits_succ f none, bytesBits_cons, putBits_nextEight]
    by_cases last : bs.length < 8
    · refine ⟨8 - bs.length, by omega, ?_⟩
      rw [List.drop_of_length_le (by omega), packBits_nil, nextEight, List.take_of_length_le (by omega)]
      exact List.append_nil _
    · obtain ⟨pad, small, rest⟩ := ih (bs := bs.drop 8) (by rw [List.length_drop]; omega)
      have whole : nextEight bs = bs.take 8 := by
        rw [nextEight, List.length_take, Nat.min_eq_left (by omega), Nat.sub_self]
        exact List.append_nil _
      exact ⟨pad, small, by rw [rest, whole, ← List.append_assoc, List.take_append_drop]⟩

/-! ### A pixel coded by its prediction (R141, R143) -/

theorem getUnary_zeros {q n : Nat} (h : q + n ≤ 23) (rest : List Bool) :
    getUnary q (List.replicate n false ++ true :: rest) = .ok (q + n) rest := by
  induction n generalizing q with
  | zero => rfl
  | succ n ih =>
    rw [List.replicate_succ, List.cons_append, getUnary, if_neg (by omega), ih (by omega), Nat.add_right_comm,
      Nat.add_assoc]

/-- The error of a prediction p, wrapped to a signed byte. -/
def qscErr (x p : Nat) : Int := ((x : Int) - p + 128) % 256 - 128

/-- The number that codes an error: the even ones from 0 up, the odd ones from -1 down. -/
def errFold (e : Int) : Nat := if 0 ≤ e then (2 * e).toNat else (-2 * e - 1).toNat

/-- The error that a number codes. -/
def errUnfold (m : Nat) : Int := if m % 2 = 0 then (m / 2 : Nat) else -(((m + 1) / 2 : Nat) : Int)

theorem errFold_qscErr_lt (x p : Nat) : errFold (qscErr x p) < 256 := by
  unfold errFold qscErr
  split <;> omega

theorem errUnfold_errFold (e : Int) : errUnfold (errFold e) = e := by
  unfold errUnfold errFold
  split <;> split <;> omega

theorem add_qscErr {x : Nat} (p : Nat) (h : x < 256) : (((p : Int) + qscErr x p) % 256).toNat = x := by
  unfold qscErr
  omega

/-- The bits that code a number by the Golomb parameter k. -/
def golombBits (k m : Nat) : List Bool :=
  if m / 2 ^ k < 23 then List.replicate (m / 2 ^ k) false ++ [true] ++ putBits (m % 2 ^ k) k
  else List.replicate 23 false ++ [true] ++ putBits m 8

/-- The number that a decoder reads by the Golomb parameter k. -/
def getGolomb (k : Nat) (bits : List Bool) : Dec Nat :=
  match getUnary 0 bits with
  | .bad o => .bad o
  | .ok q bs =>
    if q < 23 then
      match getBits k 0 bs with
      | .ok lo bs' => .ok (q * 2 ^ k + lo) bs'
      | .bad o => .bad o
    else getBits 8 0 bs

theorem getGolomb_golombBits (k : Nat) {m : Nat} (hm : m < 256) (rest : List Bool) :
    getGolomb k (golombBits k m ++ rest) = .ok m rest := by
  unfold golombBits getGolomb
  by_cases few : m / 2 ^ k < 23
  · rw [if_pos few, List.append_assoc, List.append_assoc, List.singleton_append, getUnary_zeros (by omega)]
    simp [few, getBits_putBits, Nat.div_add_mod']
  · rw [if_neg few, List.append_assoc, List.append_assoc, List.singleton_append, getUnary_zeros (by omega)]
    simp [getBits_putBits, hm]

section
variable (h : Hist) (x a b c : Nat)

/-- The Golomb parameter in the context of a, b and c. -/
def Hist.golombK : Nat := qscK (h.n.getD (qscCtx a b c) 1) (h.acc.getD (qscCtx a b c) 0) 8 0

/-- The pixel that a number codes beside a, b and c, and the history after it. -/
def Hist.takeCode : Dec Nat → Dec (Nat × Hist)
  | .bad o => .bad o
  | .ok m bits => if 255 < m then .bad 7
    else .ok (((qscMed a b c + errUnfold m) % 256).toNat, h.update (qscCtx a b c) m) bits

theorem codeRegular_eq : codeRegular h x a b c =
    (golombBits (h.golombK a b c) (errFold (qscErr x (qscMed a b c))),
      h.update (qscCtx a b c) (errFold (qscErr x (qscMed a b c)))) := rfl

variable {h x a b c}

theorem decodeRegular_eq (bits : List Bool) :
    decodeRegular h a b c bits = h.takeCode a b c (getGolomb (h.golombK a b c) bits) := by
  unfold decodeRegular getGolomb
  cases getUnary 0 bits <;> rfl

/-- R141, R143: the pixel that code_regular codes is the one that decode_regular reads, and the history after it is the
same. -/
theorem decodeRegular_codeRegular (hx : x < 256) (rest : List Bool) :
    decodeRegular h a b c ((codeRegular h x a b c).1 ++ rest) = .ok (x, (codeRegular h x a b c).2) rest := by
  have small := errFold_qscErr_lt x (qscMed a b c)
  rw [codeRegular_eq, decodeRegular_eq, getGolomb_golombBits _ small, Hist.takeCode, if_neg (by omega),
    errUnfold_errFold, add_qscErr _ hx]

end

/-! ### Pixels put into a line -/

section
variable (s : LineSt) (n m v : Nat)

@[simp] theorem LineSt.fill_zero : s.fill 0 v = s := rfl

@[simp] theorem LineSt.fill_j : (s.fill n v).j = s.j + n := by
  unfold LineSt.fill
  split
  next none => rw [none, Nat.add_zero]
  next => rfl

@[simp] theorem LineSt.fill_out_reverse : (s.fill n v).out.reverse = s.out.reverse ++ List.replicate n v := by
  unfold LineSt.fill
  split
  next none => simp [none]
  next => simp

theorem LineSt.fill_fill : (s.fill n v).fill m v = s.fill (n + m) v := by
  rcases Nat.eq_zero_or_pos n with rfl | hn
  · rw [LineSt.fill_zero, Nat.zero_add]
  rcases Nat.eq_zero_or_pos m with rfl | hm
  · rfl
  unfold LineSt.fill
  rw [if_neg (by omega), if_neg (by omega), if_neg (by omega)]
  simp only [LineSt.mk.injEq, ← List.append_assoc, List.replicate_append_replicate, List.drop_drop, true_and,
    Nat.add_comm m n, Nat.add_assoc, and_true]
  rw [show n + (m - 1) = n + m - 1 by omega]

/-- The pixel to the left, the one above and the one above to the left are the same: a run begins here. -/
def LineSt.inRun : Prop := s.nbr.1 = s.nbr.2.1 ∧ s.nbr.2.1 = s.nbr.2.2

end

/-! ### The chunks of a run -/

/-- The run-length index after a full chunk. -/
def riUp (ri : Nat) : Nat := if ri < 31 then ri + 1 else ri

/-- The run-length index after a run that another pixel breaks. -/
def riDown (ri : Nat) : Nat := if 0 < ri then ri - 1 else ri

theorem codeRun_full {f rem ri : Nat} (full : 2 ^ qscJ ri ≤ rem) :
    codeRun (f + 1) rem ri = (true :: (codeRun f (rem - 2 ^ qscJ ri) (riUp ri)).1,
      (codeRun f (rem - 2 ^ qscJ ri) (riUp ri)).2) := by
  rw [codeRun, if_pos full]
  rfl

theorem codeRun_short {f rem ri : Nat} (short : rem < 2 ^ qscJ ri) : codeRun (f + 1) rem ri = ([], rem, ri) := by
  rw [codeRun, if_neg (by omega)]

/-- What remains of a run after its full chunks is less than a chunk. -/
theorem codeRun_remains {f rem ri : Nat} (fuel : rem < f) :
    (codeRun f rem ri).2.1 < 2 ^ qscJ (codeRun f rem ri).2.2 ∧ (codeRun f rem ri).2.1 ≤ rem := by
  induction f generalizing rem ri with
  | zero => omega
  | succ f ih =>
    by_cases full : 2 ^ qscJ ri ≤ rem
    · have some : 0 < 2 ^ qscJ ri := Nat.two_pow_pos _
      obtain ⟨short, within⟩ := ih (rem := rem - 2 ^ qscJ ri) (ri := riUp ri) (by omega)
      rw [codeRun_full full]
      exact ⟨short, Nat.le_trans within (Nat.sub_le _ _)⟩
    · rw [codeRun_short (Nat.lt_of_not_le full)]
      exact ⟨Nat.lt_of_not_le full, Nat.le_refl _⟩

section
variable {w a f ri : Nat} {s : LineSt} {bits : List Bool}

theorem decodeRun_end (done : s.j = w) : decodeRun w a f s ri bits = .ok (s, ri, true) bits := by
  cases f with
  | zero => rfl
  | succ f =>
    unfold decodeRun
    exact if_pos done

theorem decodeRun_stop (inside : s.j < w) : decodeRun w a (f + 1) s ri (false :: bits) = .ok (s, ri, false) bits := by
  rw [decodeRun, if_neg (by omega)]

theorem decodeRun_full (inside : s.j + 2 ^ qscJ ri ≤ w) : decodeRun w a (f + 1) s ri (true :: bits) =
    decodeRun w a f (s.fill (2 ^ qscJ ri) a) (riUp ri) bits := by
  have some : 0 < 2 ^ qscJ ri := Nat.two_pow_pos _
  have count : Nat.min (2 ^ qscJ ri) (w - s.j) = 2 ^ qscJ ri := Nat.min_eq_left (by omega)
  rw [decodeRun, if_neg (by omega)]
  simp only [count, true_and]
  rfl

/-- A chunk that the line's end cuts short ends the line. -/
theorem decodeRun_cut (inside : s.j < w) (cut : w - s.j < 2 ^ qscJ ri) :
    decodeRun w a (f + 1) s ri (true :: bits) = .ok (s.fill (w - s.j) a, ri, true) bits := by
  have count : Nat.min (2 ^ qscJ ri) (w - s.j) = w - s.j := Nat.min_eq_right (by omega)
  rw [decodeRun, if_neg (by omega)]
  simp only [count, Nat.ne_of_lt cut, false_and, if_false]
  exact decodeRun_end (by rw [LineSt.fill_j]; omega)

/-- The bits of the full chunks of a run put its pixels into the line, but for what remains. -/
theorem decodeRun_codeRun {g rem : Nat} (hg : rem < g) (hf : rem < f) (fits : s.j + rem ≤ w) (bits : List Bool) :
    ∃ f', (codeRun g rem ri).2.1 < f' ∧ decodeRun w a f s ri ((codeRun g rem ri).1 ++ bits) =
      decodeRun w a f' (s.fill (rem - (codeRun g rem ri).2.1) a) (codeRun g rem ri).2.2 bits := by
  induction g generalizing f s rem ri with
  | zero => omega
  | succ g ih =>
    by_cases full : 2 ^ qscJ ri ≤ rem
    · obtain ⟨f, rfl⟩ := Nat.exists_eq_add_of_lt (Nat.zero_lt_of_lt hf)
      have some : 0 < 2 ^ qscJ ri := Nat.two_pow_pos _
      obtain ⟨-, within⟩ := codeRun_remains (f := g) (rem := rem - 2 ^ qscJ ri) (ri := riUp ri) (by omega)
      obtain ⟨f', fuel, same⟩ := ih (f := f) (s := s.fill (2 ^ qscJ ri) a) (rem := rem - 2 ^ qscJ ri) (ri := riUp ri)
        (by omega) (by omega) (by rw [LineSt.fill_j]; omega)
      rw [codeRun_full full]
      refine ⟨f', fuel, ?_⟩
      rw [List.cons_append, Nat.zero_add, decodeRun_full (by omega), same, LineSt.fill_fill]
      congr 2
      dsimp only
      omega
    · rw [codeRun_short (by omega)]
      exact ⟨f, hf, by rw [Nat.sub_self, LineSt.fill_zero]; rfl⟩

end

/-! ### Lines -/

theorem runLen_le (v : Nat) (l : List Nat) : runLen v l ≤ l.length := by
  induction l with
  | nil => exact Nat.le_refl 0
  | cons x l ih =>
    rw [runLen, List.length_cons]
    split <;> omega

theorem replicate_runLen_append_drop (v : Nat) (l : List Nat) :
    List.replicate (runLen v l) v ++ l.drop (runLen v l) = l := by
  induction l with
  | nil => rfl
  | cons x l ih =>
    rw [runLen]
    split
    next same => rw [Nat.add_comm, List.replicate_succ, List.drop_succ_cons, List.cons_append, ih, same]
    next => rfl

section
variable {w f x y r rem ri a b c a' b' c' : Nat} {s s' : LineSt} {h h' : Hist} {xs ys : List Nat}
  {bs bits bits1 bits2 bits3 : List Bool}

theorem encodeLineGo_regular (nbr : s.nbr = (a, b, c)) (single : ¬ (a = b ∧ b = c)) :
    encodeLineGo w (f + 1) s h (x :: xs) =
      let y := codeRegular h x a b c
      let z := encodeLineGo w f (s.fill 1 x) y.2 xs
      (y.1 ++ z.1, z.2) := by
  rw [encodeLineGo]
  simp only [nbr]
  exact if_neg single

/-- A run to the line's end is coded by its full chunks, and a bit for what remains. -/
theorem encodeLineGo_runToEnd (nbr : s.nbr = (a, b, c)) (run : a = b ∧ b = c) (len : runLen a (x :: xs) = r)
    (chunks : codeRun (r + 1) r h.ri = (bs, rem, ri)) (toEnd : s.j + r = w) :
    encodeLineGo w (f + 1) s h (x :: xs) = (bs ++ (if 0 < rem then [true] else []), { h with ri := ri }) := by
  rw [encodeLineGo]
  simp only [nbr, if_pos run, len, chunks, if_pos toEnd]

/-- A run that the pixel y breaks is coded by its full chunks, what remains of it, and y. -/
theorem encodeLineGo_runBroken (nbr : s.nbr = (a, b, c)) (run : a = b ∧ b = c) (len : runLen a (x :: xs) = r)
    (chunks : codeRun (r + 1) r h.ri = (bs, rem, ri)) (before : s.j + r ≠ w) (breaks : (x :: xs).drop r = y :: ys)
    (nbr' : (s.fill r a).nbr = (a', b', c')) :
    encodeLineGo w (f + 1) s h (x :: xs) =
      let y' := codeRegular { h with ri := riDown ri } y a' b' c'
      let z := encodeLineGo w f ((s.fill r a).fill 1 y) y'.2 ys
      (bs ++ [false] ++ putBits rem (qscJ ri) ++ y'.1 ++ z.1, z.2) := by
  rw [encodeLineGo]
  simp only [nbr, if_pos run, len, chunks, if_neg before, breaks, nbr']
  rfl

theorem decodeLineGo_done (done : s.j = w) :
    decodeLineGo w (f + 1) s h bits = .ok (s.out.reverse, { h with prev := s.out.reverse }) bits := by
  rw [decodeLineGo, if_pos done]

theorem decodeLineGo_regular (inside : s.j < w) (nbr : s.nbr = (a, b, c)) (single : ¬ (a = b ∧ b = c))
    (pixel : decodeRegular h a b c bits = .ok (x, h') bits1) :
    decodeLineGo w (f + 1) s h bits = decodeLineGo w f (s.fill 1 x) h' bits1 := by
  rw [decodeLineGo, if_neg (Nat.ne_of_lt inside)]
  simp only [nbr, if_neg single, pixel]

theorem decodeLineGo_runToEnd (inside : s.j < w) (nbr : s.nbr = (a, b, c)) (run : a = b ∧ b = c)
    (chunks : decodeRun w a (w + 1) s h.ri bits = .ok (s', ri, true) bits1) :
    decodeLineGo w (f + 1) s h bits =
      .ok (s'.out.reverse, { h with ri := ri, prev := s'.out.reverse }) bits1 := by
  rw [decodeLineGo, if_neg (Nat.ne_of_lt inside)]
  simp only [nbr, if_pos run, chunks, if_true]

theorem decodeLineGo_runBroken (inside : s.j < w) (nbr : s.nbr = (a, b, c)) (run : a = b ∧ b = c)
    (chunks : decodeRun w a (w + 1) s h.ri bits = .ok (s', ri, false) bits1)
    (remains : getBits (qscJ ri) 0 bits1 = .ok rem bits2) (before : s'.j + rem < w)
    (nbr' : (s'.fill rem a).nbr = (a', b', c'))
    (pixel : decodeRegular { h with ri := riDown ri } a' b' c' bits2 = .ok (x, h') bits3) :
    decodeLineGo w (f + 1) s h bits = decodeLineGo w f ((s'.fill rem a).fill 1 x) h' bits3 := by
  unfold riDown at pixel
  rw [decodeLineGo, if_neg (Nat.ne_of_lt inside)]
  simp only [nbr, if_pos run, chunks, remains, if_neg (Nat.not_le_of_lt before), nbr', pixel, Bool.false_eq_true,
    if_false]

/-- The full chunks of a run read back put its pixels into the line, but for what remains: less than a chunk. -/
theorem decodeRun_chunks (chunks : codeRun (r + 1) r h.ri = (bs, rem, ri)) (fits : s.j + r ≤ w) (bits : List Bool) :
    rem ≤ r ∧ rem < 2 ^ qscJ ri ∧ ∃ f', decodeRun w a (w + 1) s h.ri (bs ++ bits) =
      decodeRun w a (f' + 1) (s.fill (r - rem) a) ri bits := by
  obtain ⟨short, within⟩ := codeRun_remains (f := r + 1) (rem := r) (ri := h.ri) (Nat.lt_succ_self r)
  obtain ⟨f', fuel, same⟩ := decodeRun_codeRun (w := w) (a := a) (f := w + 1) (s := s) (ri := h.ri)
    (Nat.lt_succ_self r) (by omega) fits bits
  rw [chunks] at short within fuel same
  obtain ⟨f', rfl⟩ := Nat.exists_eq_add_of_lt (Nat.zero_lt_of_lt fuel)
  rw [Nat.zero_add] at same
  exact ⟨within, short, f', same⟩

/-- The bits of a run to the line's end put the run into the line and end it. -/
theorem decodeRun_toEnd (chunks : codeRun (r + 1) r h.ri = (bs, rem, ri)) (toEnd : s.j + r = w) (rest : List Bool) :
    decodeRun w a (w + 1) s h.ri (bs ++ (if 0 < rem then [true] else []) ++ rest) =
      .ok (s.fill r a, ri, true) rest := by
  obtain ⟨within, short, f', same⟩ := decodeRun_chunks (a := a) chunks (Nat.le_of_eq toEnd)
    ((if 0 < rem then [true] else []) ++ rest)
  rw [List.append_assoc, same]
  by_cases some : 0 < rem
  · have left : w - (s.fill (r - rem) a).j = rem := by
      rw [LineSt.fill_j]
      omega
    rw [if_pos some, List.singleton_append, decodeRun_cut (by omega) (by omega), left, LineSt.fill_fill,
      Nat.sub_add_cancel within]
  · have none : rem = 0 := by omega
    rw [if_neg some, List.nil_append, none, Nat.sub_zero, decodeRun_end (by rw [LineSt.fill_j, toEnd])]

/-- The bits of a run that the pixel y breaks put the run and y into the line. -/
theorem decodeLineGo_brokenRun (nbr : s.nbr = (a, b, c)) (run : a = b ∧ b = c)
    (chunks : codeRun (r + 1) r h.ri = (bs, rem, ri)) (before : s.j + r < w) (nbr' : (s.fill r a).nbr = (a', b', c'))
    (byte : y < 256) (rest : List Bool) :
    let y' := codeRegular { h with ri := riDown ri } y a' b' c'
    decodeLineGo w (f + 1) s h (bs ++ [false] ++ putBits rem (qscJ ri) ++ y'.1 ++ rest) =
      decodeLineGo w f ((s.fill r a).fill 1 y) y'.2 rest := by
  intro y'
  obtain ⟨within, short, f', same⟩ := decodeRun_chunks (w := w) (a := a) (s := s) chunks (by omega)
    (false :: (putBits rem (qscJ ri) ++ (y'.1 ++ rest)))
  rw [decodeRun_stop (by rw [LineSt.fill_j]; omega)] at same
  have whole : (s.fill (r - rem) a).fill rem a = s.fill r a := by
    rw [LineSt.fill_fill, Nat.sub_add_cancel within]
  rw [List.append_assoc, List.append_assoc, List.append_assoc, List.singleton_append,
    decodeLineGo_runBroken (by omega) nbr run same (getBits_putBits_of_lt short _) (by rw [LineSt.fill_j]; omega)
      (whole ▸ nbr') (decodeRegular_codeRegular byte rest), whole]

end

/-- R141, R143: the bits of a line's pixels from any place in it are read back as those pixels. -/
theorem decodeLineGo_encodeLineGo {w fe fd : Nat} {s : LineSt} {h : Hist} {xs : List Nat} (place : s.j + xs.length = w)
    (fuel : xs.length < fe) (fuel' : xs.length < fd) (bytes : ∀ x ∈ xs, x < 256) (rest : List Bool) :
    decodeLineGo w fd s h ((encodeLineGo w fe s h xs).1 ++ rest) =
      .ok (s.out.reverse ++ xs, { (encodeLineGo w fe s h xs).2 with prev := s.out.reverse ++ xs }) rest := by
  induction fe generalizing fd s h xs with
  | zero => omega
  | succ fe ih =>
    obtain ⟨fd, rfl⟩ := Nat.exists_eq_add_of_lt (Nat.zero_lt_of_lt fuel')
    rw [Nat.zero_add] at fuel' ⊢
    cases xs with
    | nil =>
      rw [decodeLineGo_done place, List.append_nil]
      rfl
    | cons x xs =>
      rw [List.length_cons] at place fuel fuel'
      have inside : s.j < w := by omega
      rcases nbr : s.nbr with ⟨a, b, c⟩
      by_cases run : a = b ∧ b = c
      · have pixels := replicate_runLen_append_drop a (x :: xs)
        have runs := runLen_le a (x :: xs)
        generalize len : runLen a (x :: xs) = r at pixels runs
        rcases chunks : codeRun (r + 1) r h.ri with ⟨bs, rem, ri⟩
        cases breaks : (x :: xs).drop r with
        | nil =>
          rw [breaks, List.append_nil] at pixels
          have toEnd : s.j + r = w := by
            have := congrArg List.length pixels
            rw [List.length_replicate, List.length_cons] at this
            omega
          rw [encodeLineGo_runToEnd nbr run len chunks toEnd,
            decodeLineGo_runToEnd inside nbr run (decodeRun_toEnd chunks toEnd rest), LineSt.fill_out_reverse, pixels]
        | cons y ys =>
          rw [breaks] at pixels
          have size : r + (ys.length + 1) = xs.length + 1 := by
            simpa using congrArg List.length pixels
          have later : ∀ z ∈ y :: ys, z < 256 := fun z hz => bytes z (pixels ▸ List.mem_append_right _ hz)
          rcases nbr' : (s.fill r a).nbr with ⟨a', b', c'⟩
          rw [encodeLineGo_runBroken nbr run len chunks (by omega) breaks nbr']
          dsimp only
          rw [List.append_assoc, decodeLineGo_brokenRun nbr run chunks (by omega) nbr' (later y List.mem_cons_self),
            ih (by simp only [LineSt.fill_j]; omega) (by omega) (by omega)
              (fun z hz => later z (List.mem_cons_of_mem y hz))]
          simp [← pixels]
      · rw [encodeLineGo_regular nbr run]
        dsimp only
        rw [List.append_assoc, decodeLineGo_regular inside nbr run
          (decodeRegular_codeRegular (bytes x List.mem_cons_self) _), ih (by rw [LineSt.fill_j]; omega) (by omega)
          (by omega) (fun y hy => bytes y (List.mem_cons_of_mem x hy))]
        simp

/-- R141, R143: a line coded from a history is read back from it, and both end in the same history. -/
theorem decodeLine_encodeLine {w : Nat} (h : Hist) {l : List Nat} (width : l.length = w) (bytes : ∀ x ∈ l, x < 256)
    (rest : List Bool) : decodeLine w h ((encodeLine h l).1 ++ rest) = .ok (l, (encodeLine h l).2) rest := by
  subst width
  exact decodeLineGo_encodeLineGo (Nat.zero_add _) (Nat.lt_succ_self _) (Nat.lt_succ_self _) bytes rest

section
variable {w : Nat} {ls : List (List Nat)}

/-- The lines of a block are read back, and what follows their bits is left. -/
theorem decodeLines_encodeLines (h : Hist) (lines : ∀ l ∈ ls, l.length = w ∧ ∀ x ∈ l, x < 256) (rest : List Bool) :
    decodeLines w ls.length h ((encodeLines h ls).1 ++ rest) = some (ls, (encodeLines h ls).2, rest) := by
  induction ls generalizing h with
  | nil => rfl
  | cons l ls ih =>
    obtain ⟨⟨width, bytes⟩, later⟩ := List.forall_mem_cons.mp lines
    have code : encodeLines h (l :: ls) = ((encodeLine h l).1 ++ (encodeLines (encodeLine h l).2 ls).1,
      (encodeLines (encodeLine h l).2 ls).2) := rfl
    rw [code, List.append_assoc, List.length_cons, decodeLines, decodeLine_encodeLine h width bytes]
    simp only [ih _ later, Option.map_some]

/-- R147: the check of a block ends behind the lines that are coded in it. -/
theorem decodeAll_of_decodeLines {n : Nat} {h h' : Hist} {bits rest : List Bool}
    (decoded : decodeLines w n h bits = some (ls, h', rest)) : decodeAll w n h bits = decodeAll w 0 h' rest := by
  induction n generalizing h bits ls with
  | zero => cases decoded; rfl
  | succ n ih =>
    rw [decodeLines] at decoded
    cases line : decodeLine w h bits with
    | bad o =>
      rw [line] at decoded
      cases decoded
    | ok v bits' =>
      have next : decodeAll w (n + 1) h bits = decodeAll w n v.2 bits' := by
        simp only [decodeAll, line]
      simp only [line, Option.map_eq_some_iff] at decoded
      obtain ⟨⟨ls', h'', rest'⟩, later, same⟩ := decoded
      cases same
      exact next.trans (ih later)

theorem decodeAll_padding {pad : Nat} (h : Hist) (small : pad < 8) :
    decodeAll w 0 h (List.replicate pad false) = (0, h) := by
  simp [decodeAll, small]

end

/-- Settles O25, by induction on the lines and on the pixels of each. -/
theorem qscCodecIsLossless : Obligations.QscCodecIsLossless := by
  intro w h ls lines bits h' coded
  obtain ⟨pad, small, padded⟩ := bytesBits_packBits (Nat.lt_succ_self bits.length)
  have decoded : decodeLines w ls.length h (bytesBits coded) = some (ls, h', List.replicate pad false) := by
    rw [padded, decodeLines_encodeLines h lines]
  exact ⟨packBits_lt _ bits, pad, padded, small, decoded,
    (decodeAll_of_decodeLines decoded).trans (decodeAll_padding h' small)⟩

/-! ### Entries of the page store, the Rooms and the log (R134, R150, R165, R167, R255, R260, R261) -/

section
variable {s : State} {r : Req}

theorem Device.applyVal_blob_now {m : Memories} {d : Device} {env : WriteEnv} {k : Nat} {e : EntryDef} (l : List Nat)
    (now : e.takes = .now) : d.applyVal m env r k e (.b l) = d.applyBlob m env k l := by
  unfold Device.applyVal
  simp only [now]
  generalize (k == Reg.WORKSHOP_IMAGE || k == Reg.HOUSE_IMAGE || k == Reg.FOUNDATION_PROGRAM || actsNow k) = direct
  cases direct <;> rfl

/-- An accepted write of a DOMAIN entry that takes effect immediately, whose effect is on the device alone: the next
state is that effect and the answer OK. -/
theorem State.putBlob_wrote {p : Prop} [Decidable p] {k : Nat} {l : List Nat} {d : Device}
    (hf : (findEntry k).map (fun e => (e.ty, e.takes)) = some (.domain, .now)) (hp : p)
    (h : s.acceptsBytes {} r k l = true) (ha : Device.applyBlob s.mem s.dev {} k l = (s.mem, d, .ok)) :
    s.putBlob p {} r k l = s.wrote r k d := by
  obtain ⟨e, he, domain, now⟩ := findEntry_has hf
  have value : valOf e l = .b l := if_pos (.inl domain)
  rw [State.putBlob, State.whenB_true (inService_true (State.acceptsBytes_served h) hp), State.writeBlob_accepted h he,
    Device.seeVpp_none, value, Device.applyVal_blob_now l now, ha]
  rfl

theorem State.put_schedCmd {v : Nat} (hv : v < 256) (ok : s.accepts {} r Reg.SCHED_CMD v = true) :
    s.put True {} r Reg.SCHED_CMD v = s.wrote r Reg.SCHED_CMD (s.dev.schedCmd v) :=
  State.put_wrote (t := .u8) (tk := .now) (by decide +kernel) (.inl rfl) (by decide) hv trivial ok rfl

theorem State.put_histCaptureCmd (ok : s.accepts {} r Reg.HIST_CAPTURE_CMD 1 = true) :
    s.put True {} r Reg.HIST_CAPTURE_CMD 1 = s.wrote r Reg.HIST_CAPTURE_CMD s.dev.captureArm :=
  State.put_wrote (v := 1) (t := .u8) (tk := .now) (by decide +kernel) (.inl rfl) (by decide) (by decide) trivial ok rfl

theorem Device.applyBlob_nozzleMap {m : Memories} {d : Device} {env : WriteEnv} {c : Nat} (l : List Nat) (h : c < 192) :
    d.applyBlob m env (Reg.NOZZLE_MAP + c) l = (m, d.mapWrite c l, .ok) := by
  have index : (0x272001 + c) / 256 = 0x2720 := by omega
  have sub : (0x272001 + c) % 256 - 1 = c := by omega
  simp only [Device.applyBlob, Reg.NOZZLE_MAP, index, sub]
  rfl

theorem State.putBlob_nozzleMap {c : Nat} {l : List Nat} (h : c < 192)
    (ok : s.acceptsBytes {} r (Reg.NOZZLE_MAP + c) l = true) :
    s.putBlob (c < 192) {} r (Reg.NOZZLE_MAP + c) l = s.wrote r (Reg.NOZZLE_MAP + c) (s.dev.mapWrite c l) :=
  have row : ∀ i < 192, (findEntry (Reg.NOZZLE_MAP + i)).map (fun e => (e.ty, e.takes)) = some (.domain, .now) := by
    decide +kernel
  State.putBlob_wrote (row c h) h ok (Device.applyBlob_nozzleMap l h)

theorem State.put_nozzleWord {w : Nat} (hw : w < 2 ^ 32) (ok : s.accepts {} r Reg.NOZZLE_WORD w = true) :
    s.put (w < 2 ^ 32) {} r Reg.NOZZLE_WORD w =
      s.wrote r Reg.NOZZLE_WORD (s.dev.writeNoz s.dev.selNoz.1 s.dev.selNoz.2 w) :=
  State.put_wrote (t := .u32) (tk := .now) (by decide +kernel) (.inl rfl) (by decide) hw hw ok rfl

theorem State.put_proofCmd {v : Nat} (hv : v < 256) (ok : s.accepts {} r Reg.PROOF_CMD v = true) :
    s.put True {} r Reg.PROOF_CMD v = s.wrote r Reg.PROOF_CMD (s.dev.proofCmd v) :=
  State.put_wrote (t := .u8) (tk := .now) (by decide +kernel) (.inl rfl) (by decide) hv trivial ok rfl

theorem State.put_faultAck {seq : Nat} (hs : seq < 2 ^ 32) (ok : s.accepts {} r Reg.FAULT_ACK seq = true) :
    s.put (seq < 2 ^ 32) {} r Reg.FAULT_ACK seq = s.wrote r Reg.FAULT_ACK (s.dev.faultAck seq) :=
  State.put_wrote (t := .u32) (tk := .now) (by decide +kernel) (.inl rfl) (by decide) hs hs ok rfl

theorem State.put_mirrorClearCmd (ok : s.accepts {} r Reg.MIRROR_CLEAR_CMD 1 = true) :
    s.put True {} r Reg.MIRROR_CLEAR_CMD 1 = s.wrote r Reg.MIRROR_CLEAR_CMD s.dev.mirrorClear :=
  State.put_wrote (v := 1) (t := .u8) (tk := .now) (by decide +kernel) (.inl rfl) (by decide) (by decide) trivial ok rfl

end

/-! ### Completion -/

section
variable {d : Device} {h : QptHdr}

theorem inEng_true {e : Nat} {p : Prop} [Decidable p] (firmware : d.firmware = true) (up : d.engUp e = true) (hp : p) :
    inEng e p d = true := by
  simp [inEng, firmware, up, hp]

theorem inDomEng_true {n e : Nat} {p : Prop} [Decidable p] (on : d.domainOn n = true) (up : d.engUp e = true) (hp : p) :
    inDomEng n e p d = true := by
  simp [inDomEng, inDom_true on hp, up]

theorem inQpt_true (firmware : d.firmware = true) (up : d.engUp 1 = true) (rx : d.rxOpen h.rx = true) :
    inQpt h d = true := by
  simp [inQpt, inEng_true firmware up trivial, rx]

theorem inIngest_true (firmware : d.firmware = true) (rx : d.rxOpen h.rx = true) : inIngest h d = true := by
  simp [inIngest, firmware, rx]

end

theorem State.onStore_true {s : State} {g : Device → Bool} {f : List Host.Cell → Device → List Host.Cell × Device}
    (on : g s.dev = true) :
    s.onStore g f = s.nextBoth ({ s.mem with store := (f s.mem.store s.dev).1 }, (f s.mem.store s.dev).2) :=
  State.whenB_true on

/-- Settles O53: a datagram of QPT acts where its port receives and firmware takes it, a command of a unit where the
unit runs, and one that is an entry's write by that entry. -/
theorem pageAndRoomCommandsComplete : Obligations.PageAndRoomCommandsComplete := by
  refine ⟨?qptOpen, ?qptData, ?qptRaw, ?qptDesc, ?qptClose, ?creditIdle, ?pageNotReady, ?schedStop, ?schedResume,
    ?schedFlush, fun _ _ ok => State.put_histCaptureCmd ok, ?roomRenderSlot, ?checkpointDone,
    fun _ _ _ _ hc ok => State.putBlob_nozzleMap hc ok, fun _ _ _ hw ok => State.put_nozzleWord hw ok, ?shadowCheck,
    ?shadowRecompute, ?shadowReferee, ?roomStall, ?roomMemoryError, ?proofStart, ?proofAbort, ?proofDone,
    fun _ _ _ hs ok => State.put_faultAck hs ok, fun _ _ ok => State.put_mirrorClearCmd ok⟩
  case qptOpen =>
    exact fun _ h firmware up rx => State.onStore_true (f := fun m d => d.qptOpen m h) (inQpt_true firmware up rx)
  case qptData =>
    exact fun _ h data firmware rx => State.onStore_true (f := fun m d => d.qptData m h data)
      (inIngest_true firmware rx)
  case qptRaw =>
    exact fun _ h data firmware rx => State.onStore_true (f := fun m d => d.qptRaw m h data)
      (inIngest_true firmware rx)
  case qptDesc =>
    exact fun _ h b firmware up rx => State.when_true (f := fun d => d.qptDesc h b) (inQpt_true firmware up rx)
  case qptClose =>
    exact fun _ h firmware up rx => State.when_true (f := fun d => d.qptClose h) (inQpt_true firmware up rx)
  case creditIdle =>
    exact fun _ k firmware up hk => State.when_true (f := fun d => d.creditIdle k) (inEng_true firmware up hk)
  case pageNotReady =>
    exact fun _ on up => State.when_true (f := Device.pageNotReady) (inDomEng_true on up trivial)
  case schedStop => exact fun _ _ ok => State.put_schedCmd (v := 1) (by decide) ok
  case schedResume => exact fun _ _ ok => State.put_schedCmd (v := 2) (by decide) ok
  case schedFlush => exact fun _ _ ok => State.put_schedCmd (v := 3) (by decide) ok
  case roomRenderSlot =>
    exact fun _ k hk on => State.whenM_true (g := fun d => decide (k < 24) && d.renderOn k)
      (f := fun m d => Device.renderGroup m d k) (by simp [hk, on])
  case checkpointDone =>
    exact fun _ k hk on => State.whenB_true (g := fun d => decide (k < 24) && d.renderOn k)
      (f := fun m d => Device.checkpointDone m d k) (by simp [hk, on])
  case shadowCheck =>
    exact fun _ room spare on => State.whenM_true (f := fun m d => Device.shadowCheck m d room spare)
      (inDom_true on trivial)
  case shadowRecompute =>
    exact fun _ room spare on => State.whenM_true (f := fun m d => Device.shadowRecompute m d room spare)
      (inDom_true on trivial)
  case shadowReferee =>
    exact fun _ ref on => State.whenM_true (f := fun m d => Device.shadowReferee m d ref) (inDom_true on trivial)
  case roomStall => exact fun _ u _ on => State.whenM_true (f := fun m d => Device.roomStall m d u) on
  case roomMemoryError => exact fun _ u _ on => State.whenM_true (f := fun m d => Device.unitFaulty m d u 3) on
  case proofStart => exact fun _ _ ok => State.put_proofCmd (v := 1) (by decide) ok
  case proofAbort => exact fun _ _ ok => State.put_proofCmd (v := 2) (by decide) ok
  case proofDone =>
    exact fun _ x served => State.when_true (f := fun d => d.proofDone x) (inService_true served trivial)

/-! ### A page beyond the contexts in a stopped scheduler (R134, R172) -/

/-- A READY page of one plane in 129 stripes, each one column wide and one block long. -/
def stripedPage : Page :=
  { num := 1, lines := 1, kind := 0, startPt := 0, flags := 0, slot := 0, job := 0,
    planes := [{ plane := 0, first := 0, n := 129 }],
    stripes := (List.range 129).map (fun i =>
      { firstCol := i, width := 1, comp := false, histFrom := false, stream := 0, slot := 0, offset := 8 * i,
        length := 8 }),
    session := 0, ip := 0, port := 0, state := .ready }

/-- The reference head's profile as far as its rows go: 2,048 nozzles in two rows 1,016 µm apart, so two row shifts. -/
def twoRowProfile : List Nat := leBytes 2 2048 ++ [2, 3] ++ List.replicate 40 0 ++ leBytes 4 1016000

/-- The scheduler is STOPPED with that page at the head of its queue, and head group 0 is ON. -/
def stoppedBeforeStripedPage : State :=
  { dev := ((({ pages := { queue := [stripedPage] }, heads := { groups := [(0, { prof := twoRowProfile })] } } :
      Device).setRegN Reg.DOMAIN_ON (2 ^ 57 - 1)).setReg Reg.HG_STATE 4).setReg Reg.SCHED_STATE 2 }

/-- R172: the page needs 2 × 129 contexts, more than 256, so PAGE_BIND takes it from the queue of the stopped
scheduler. -/
theorem pageBindNext_discards_stripedPage : stoppedBeforeStripedPage.dev.pageBindNext.pages.queue = [] := by
  decide +kernel

/-- A PAGE_BIND that acts and leaves the state as it is leaves the device as it is. -/
theorem pageBindNext_of_exec_pageBind {s : State} (on : s.dev.domainOn 56 = true) (up : s.dev.engUp 2 = true)
    (idle : exec .pageBind s = .next s) : s.dev.pageBindNext = s.dev := by
  obtain ⟨-, binds, -⟩ := mantelAndHeadCommandsComplete
  exact congrArg State.dev (Host.Outcome.next.inj ((binds s on up).symm.trans idle))

/-- Refutes O26: PAGE_BIND does not bind in a stopped scheduler, but it discards a page at the head of the queue whose
context need is above 256, so it does not leave the state as it is. -/
theorem not_stoppingTheSchedulerKeepsTheQueue : ¬ Obligations.StoppingTheSchedulerKeepsTheQueue := by
  intro keeps
  obtain ⟨-, idle⟩ := keeps stoppedBeforeStripedPage .device
  have same := pageBindNext_of_exec_pageBind (by decide +kernel) (by decide +kernel) (idle (by decide +kernel))
  have kept : [stripedPage] = [] :=
    (congrArg (fun d : Device => d.pages.queue) same).symm.trans pageBindNext_discards_stripedPage
  exact List.cons_ne_nil _ _ kept

end Sys2Proof.Machine
end

section
/-! PROOFS. The rendering family (O27): where a changed nozzle word lands, and the gain's steps from there on. -/
namespace Sys2Proof.Machine

/-! ### The nozzle map through its operations (R165 … R168) -/

section
variable (d : Device) (c : Nat)

@[simp] theorem Device.nozMap_setNozMap (m : NozMap) : (d.setNozMap c m).nozMap c = m := tget_tset_same _ _ _ _

theorem Device.nozMap_setNozMap_other {c' : Nat} (m : NozMap) (h : c' ≠ c) : (d.setNozMap c m).nozMap c' = d.nozMap c' :=
  tget_tset_other _ _ _ h

@[simp] theorem Device.setNozMap_rendering (m : NozMap) (k : Nat) : (d.setNozMap c m).rendering k = d.rendering k := rfl
@[simp] theorem Device.setNozMap_leff (m : NozMap) (i : Nat) : (d.setNozMap c m).leff i = d.leff i := rfl

theorem Device.markDirty_nozMap (a b i : Nat) : (d.markDirty a b).nozMap i = d.nozMap i := by
  simp only [Device.nozMap, Device.markDirty_rooms]

theorem Device.markDirty_rendering (a b k : Nat) : (d.markDirty a b).rendering k = d.rendering k := by
  simp only [Device.markDirty]
  split <;> rfl

theorem Device.markDirty_leff (a b i : Nat) : (d.markDirty a b).leff i = d.leff i := by
  simp only [Device.markDirty]
  split <;> rfl

@[simp] theorem Device.touchNoz_nozMap (n : Nat) :
    (d.touchNoz c n).nozMap c =
      { d.nozMap c with lastChg := tset (fun _ => 0) (d.nozMap c).lastChg n d.now } := by
  simp only [Device.touchNoz, Device.markDirty_nozMap, Device.nozMap_setNozMap]

theorem Device.touchNoz_nozMap_other {c' : Nat} (n : Nat) (h : c' ≠ c) : (d.touchNoz c n).nozMap c' = d.nozMap c' := by
  simp only [Device.touchNoz, Device.markDirty_nozMap, Device.nozMap_setNozMap_other d c _ h]

@[simp] theorem Device.touchNoz_rendering (n k : Nat) : (d.touchNoz c n).rendering k = d.rendering k :=
  Device.markDirty_rendering _ _ _ _

@[simp] theorem Device.touchNoz_leff (n i : Nat) : (d.touchNoz c n).leff i = d.leff i := Device.markDirty_leff _ _ _ _

@[simp] theorem Device.gainRamps_nozMap (old w i : Nat) : (d.gainRamps c old w).nozMap i = d.nozMap i := by
  unfold Device.gainRamps
  split <;> rfl

end

/-! ### A change begins (R168) -/

/-- The map with a change of nozzle n under way to value v. -/
def NozMap.withChange (m : NozMap) (n : Nat) (v : NozVal) : NozMap :=
  { m with chg := tset nozChg0 m.chg n (some { old := tget nozVal0 m.base n, new := v }) }

/-- The map with w as the newest written word of nozzle n. -/
def NozMap.withWritten (m : NozMap) (n w : Nat) : NozMap :=
  { m with written := tset (fun _ => nozDefault) m.written n w }

theorem NozMap.newest_withWritten (m : NozMap) (n w : Nat) : (m.withWritten n w).newest n = w := tget_tset_same _ _ _ _

theorem NozMap.newest_withWritten_other (m : NozMap) {n n' : Nat} (w : Nat) (h : n' ≠ n) :
    (m.withWritten n w).newest n' = m.newest n' :=
  tget_tset_other _ _ _ h

section
variable {d : Device} {c n w : Nat}

/-- R168: where the Room renders the group and no change of the nozzle is under way, a change begins, at the L_eff of
now. -/
theorem Device.changeNoz_begins (rend : d.rendering (c / 8) = true) (retired : tget nozChg0 (d.nozMap c).chg n = none) :
    ∃ v : NozVal, v.word = w ∧ v.leff = d.leff c ∧
      (d.changeNoz c n w).nozMap c = ((d.touchNoz c n).nozMap c).withChange n v := by
  have free : tget nozChg0 ((d.touchNoz c n).nozMap c).chg n = none := by rwa [Device.touchNoz_nozMap]
  have on : (d.touchNoz c n).rendering (c / 8) = true := by rwa [Device.touchNoz_rendering]
  unfold Device.changeNoz
  simp only [free, on, if_true, Device.nozMap_setNozMap]
  exact ⟨_, rfl, Device.touchNoz_leff d c n c, rfl⟩

theorem Device.changeNoz_nozMap_other {c' : Nat} (h : c' ≠ c) : (d.changeNoz c n w).nozMap c' = d.nozMap c' := by
  have touched : (d.touchNoz c n).nozMap c' = d.nozMap c' := d.touchNoz_nozMap_other c n h
  unfold Device.changeNoz
  extract_lets d1 m l old new d2
  split
  · exact (Device.nozMap_setNozMap_other d1 c _ h).trans touched
  · split <;> rw [Device.nozMap_setNozMap_other _ c _ h, Device.gainRamps_nozMap, touched]

/-- R166, R167: outside a rest, a word that differs in more than HEALTH and does not name STATE 5 is a change to that
word. -/
theorem Device.writeNoz_changes (named : nozState w ≠ 5) (more : healthOnly w ((d.nozMap c).newest n) = false)
    (awake : (d.nozMap c).rested.contains n = false) :
    d.writeNoz c n w = (d.setNozMap c ((d.nozMap c).withWritten n w)).changeNoz c n w := by
  have differs : w ≠ (d.nozMap c).newest n := by
    intro same
    simp [healthOnly, ← same] at more
  have effective : ((d.nozMap c).withWritten n w).shown n = w := by
    rw [NozMap.shown, NozMap.newest_withWritten, if_neg (by simpa [NozMap.withWritten] using awake)]
  unfold Device.writeNoz
  simp only [if_neg named, if_neg differs, more, Device.nozMap_setNozMap]
  exact congrArg (Device.changeNoz _ c n) effective

/-- R168: such a write, made while the Room renders the group and no change of the nozzle is under way, begins the change
at the L_eff of now. -/
theorem Device.writeNoz_begins (rend : d.rendering (c / 8) = true) (named : nozState w ≠ 5)
    (more : healthOnly w ((d.nozMap c).newest n) = false) (awake : (d.nozMap c).rested.contains n = false)
    (retired : tget nozChg0 (d.nozMap c).chg n = none) :
    ∃ (v : NozVal) (touched : Tab Nat), v.word = w ∧ v.leff = d.leff c ∧
      (d.writeNoz c n w).nozMap c =
        ({ (d.nozMap c).withWritten n w with lastChg := touched } : NozMap).withChange n v := by
  rw [Device.writeNoz_changes named more awake]
  obtain ⟨v, word, leff, begun⟩ := Device.changeNoz_begins (d := d.setNozMap c ((d.nozMap c).withWritten n w))
    (c := c) (n := n) (w := w) rend (by rwa [Device.nozMap_setNozMap])
  rw [Device.touchNoz_nozMap, Device.nozMap_setNozMap] at begun
  exact ⟨v, _, word, leff, begun⟩

end

/-! ### The values in force around a change that begins -/

theorem NozMap.valAt_withChange (m : NozMap) (n : Nat) (v : NozVal) (g : Nat) :
    (m.withChange n v).valAt n g = if v.leff ≤ g then v else tget nozVal0 m.base n := by
  simp only [NozMap.valAt, NozMap.withChange, tget_tset_same]

theorem NozMap.valAt_withChange_other (m : NozMap) {n n' : Nat} (v : NozVal) (g : Nat) (h : n' ≠ n) :
    (m.withChange n v).valAt n' g = m.valAt n' g := by
  simp only [NozMap.valAt, NozMap.withChange, tget_tset_other _ _ _ h]

theorem NozMap.valAt_retired {m : NozMap} {n : Nat} (retired : tget nozChg0 m.chg n = none) (g : Nat) :
    m.valAt n g = tget nozVal0 m.base n := by
  simp only [NozMap.valAt, retired]

/-! ### The gain's steps (R169, R171) -/

theorem ceilDivNat_succ {s : Nat} (e : Nat) (hs : 1 ≤ s) :
    ceilDivNat (e + 1) s = ceilDivNat e s + if e % s = 0 then 1 else 0 := by
  have top : e + 1 + s - 1 = e + s := by omega
  have before_top : e + s - 1 + 1 = e + s := by omega
  have quotient := Nat.succ_div (a := e + s - 1) (b := s)
  have multiple : s ∣ e + s ↔ e % s = 0 := by rw [Nat.dvd_iff_mod_eq_zero, Nat.add_mod_right]
  simp only [before_top, multiple] at quotient
  simp only [ceilDivNat, if_neg (Nat.ne_of_gt hs), top, quotient]

theorem ceilDivNat_le {a e : Nat} (s : Nat) (h : a ≤ e) : ceilDivNat a s ≤ ceilDivNat e s := by
  unfold ceilDivNat
  split
  · exact Nat.le_refl 0
  · exact Nat.div_le_div_right (by omega)

theorem multiplesIn_succ {s a e : Nat} (hs : 1 ≤ s) (h : a ≤ e) :
    multiplesIn s a (e + 1) = multiplesIn s a e + if e % s = 0 then 1 else 0 := by
  have from_a := ceilDivNat_le s h
  simp only [multiplesIn, Nat.max_eq_right hs, ceilDivNat_succ e hs]
  omega

theorem multiplesIn_empty {s a e : Nat} (h : e ≤ a) : multiplesIn s a e = 0 :=
  Nat.sub_eq_zero_of_le (ceilDivNat_le _ h)

/-- R169, R171: line e adds a step exactly where it is a multiple of the GAIN_SLEW_LINES in force for it. -/
theorem gainSteps_succ {s1 s2 at_ a e : Nat} (h1 : 1 ≤ s1) (h2 : 1 ≤ s2) (h : a ≤ e) :
    gainSteps [(0, s1), (at_, s2)] a (e + 1) =
      gainSteps [(0, s1), (at_, s2)] a e + if e % (if e < at_ then s1 else s2) = 0 then 1 else 0 := by
  simp only [gainSteps, Nat.max_zero]
  by_cases before : e < at_
  · have first : Nat.min (e + 1) at_ = e + 1 ∧ Nat.min e at_ = e :=
      ⟨Nat.min_eq_left before, Nat.min_eq_left (Nat.le_of_lt before)⟩
    have none_yet (x : Nat) (hx : x ≤ e + 1) : multiplesIn s2 (Nat.max a at_) x = 0 :=
      multiplesIn_empty (Nat.le_trans hx (Nat.le_trans before (Nat.le_max_right a at_)))
    simp only [first.1, first.2, none_yet _ (Nat.le_refl _), none_yet _ (Nat.le_succ e), if_pos before, multiplesIn_succ h1 h,
      Nat.add_zero]
  · have past : Nat.min (e + 1) at_ = at_ ∧ Nat.min e at_ = at_ :=
      ⟨Nat.min_eq_right (by omega), Nat.min_eq_right (by omega)⟩
    have begun : Nat.max a at_ ≤ e := Nat.max_le.2 ⟨h, by omega⟩
    simp only [past.1, past.2, if_neg before, multiplesIn_succ h2 begun, Nat.add_assoc]

/-- R169: one more step of a ramp moves its gain by at most one code. -/
theorem NozVal.stepped_succ (v : NozVal) (k : Nat) :
    v.stepped (k + 1) ≤ v.stepped k + 1 ∧ v.stepped k ≤ v.stepped (k + 1) + 1 := by
  simp only [NozVal.stepped, Nat.min_def]
  split <;> split <;> split <;> omega

/-- Settles O27: a change of a retired nozzle begins at L_eff with the old value below it, and each line adds at most one
step to a ramp. -/
theorem nozzleChangesLandAtOneLine : Obligations.NozzleChangesLandAtOneLine := by
  refine ⟨fun d c n w rend named more awake retired => ?lands, fun v s1 s2 at_ g h1 h2 from_ => ?ramps⟩
  case lands =>
    obtain ⟨v, touched, rfl, leff, after⟩ := Device.writeNoz_begins rend named more awake retired
    intro l m m'
    have at_n (g : Nat) : m'.valAt n g = if l ≤ g then v else m.valAt n g := by
      rw [NozMap.valAt_retired retired, show m' = _ from after, NozMap.valAt_withChange, leff]
      rfl
    refine ⟨fun g below => ?old, fun g above => ?new, ?newest, fun n' other => ⟨?newestOther, fun g => ?valOther⟩,
      fun c' other => ?maps⟩
    case old => rw [at_n, if_neg (Nat.not_le.2 below)]
    case new => rw [at_n, if_pos above]
    case newest => exact (congrArg (·.newest n) after).trans (m.newest_withWritten n _)
    case newestOther => exact (congrArg (·.newest n') after).trans (m.newest_withWritten_other _ other)
    case valOther => exact (congrArg (·.valAt n' g) after).trans (NozMap.valAt_withChange_other _ v g other)
    case maps =>
      rw [Device.writeNoz_changes named more awake, Device.changeNoz_nozMap_other other]
      exact d.nozMap_setNozMap_other c _ other
  case ramps =>
    intro plan
    have steps : gainSteps plan v.leff (g + 1 + 1) = _ := gainSteps_succ h1 h2 (Nat.le_succ_of_le from_)
    by_cases multiple : (g + 1) % (if g + 1 < at_ then s1 else s2) = 0
    · rw [if_pos multiple] at steps
      simp only [nozGainAt, steps]
      exact ⟨v.stepped_succ _, fun off => absurd multiple off⟩
    · rw [if_neg multiple] at steps
      simp only [nozGainAt, steps]
      exact ⟨⟨Nat.le_succ _, Nat.le_succ _⟩, fun _ => rfl⟩

end Sys2Proof.Machine
end

section
/-! PROOFS. The protection family (O28, O29, O30, O54): the writes that the fuses bar, an interlock's acknowledgement
and its assertion, and the enable of a Boiler slot that the device writes itself. -/
namespace Sys2Proof.Machine

/-! ### What the checks of an accepted write have passed (R7, R8, R49) -/

theorem placeOf_of_findEntry {k : Nat} {e : EntryDef} (listed : indexListed (k / 256) = true ∧ k / 256 < 65536)
    (he : findEntry k = some e) : placeOf k = .entry e := by
  obtain ⟨index, small⟩ := listed
  simp only [placeOf, index, he]
  rw [if_neg (by simpa using small)]

section
variable {m : Memories} {d : Device} {r : Req} {k ty : Nat} {bs : List Nat} {e : EntryDef}

theorem Device.accessCheck_of_writeCheck (hp : placeOf k = .entry e) (ok : d.writeCheck m r k ty bs = .ok) :
    d.accessCheck r k e = .ok :=
  Decidable.byContradiction fun barred => barred ((Device.writeCheck_of_access hp rfl barred).symm.trans ok)

theorem Device.numCheck_of_writeCheck {v : Int} (hp : placeOf k = .entry e) (hv : valOf e bs = .n v)
    (others : ownAuthority r k = false) (ok : d.writeCheck m r k ty bs = .ok) : d.numCheck m k e v = .ok := by
  simp only [Device.writeCheck, hp, hv, others] at ok
  split at ok
  next =>
    split at ok
    next =>
      split at ok
      next => cases ok
      next =>
        split at ok
        next => cases ok
        next =>
          split at ok
          next => cases ok
          next =>
            split at ok
            next => exact ok
            next fails => exact absurd ok fails
    next fails => exact absurd ok fails
  next fails => exact absurd ok fails

end

section
variable {s : State} {env : WriteEnv} {r : Req} {k : Nat}

theorem Device.seeVpp_reg {d : Device} (other : k ≠ Reg.FUSE_VPP_PRESENT) : (d.seeVpp env).reg k = d.reg k := by
  unfold Device.seeVpp Device.senseVpp
  split
  · exact d.reg_setReg_other _ other
  · rfl

theorem Device.seeVpp_regN {d : Device} (other : k ≠ Reg.FUSE_VPP_PRESENT) : (d.seeVpp env).regN k = d.regN k :=
  congrArg Int.toNat (Device.seeVpp_reg other)

theorem State.writeCheck_of_accepts {v : Int} (listed : indexListed (k / 256) = true ∧ k / 256 < 65536)
    (ok : s.accepts env r k v = true) : ∃ e, findEntry k = some e ∧ placeOf k = .entry e ∧
      (s.dev.seeVpp env).writeCheck s.mem r k e.ty.code (leBytesI e.ty.size v) = .ok := by
  simp only [State.accepts, Bool.and_eq_true] at ok
  obtain ⟨-, checked⟩ := ok
  split at checked
  next e he => exact ⟨e, he, placeOf_of_findEntry listed he, beq_iff_eq.mp checked⟩
  next => exact absurd checked Bool.false_ne_true

/-- R8: an accepted natural has passed the rule of its entry. -/
theorem State.numCheck_of_accepts {v : Nat} {t : Ty} {tk : Takes}
    (listed : indexListed (k / 256) = true ∧ k / 256 < 65536)
    (row : (findEntry k).map (fun e => (e.ty, e.takes)) = some (t, tk))
    (unsigned : t.signed = false ∧ t ≠ .domain ∧ t ≠ .str) (hv : v < 256 ^ t.size) (others : ownAuthority r k = false)
    (ok : s.accepts env r k v = true) : ∃ e, (s.dev.seeVpp env).numCheck s.mem k e v = .ok := by
  obtain ⟨e, he, hp, checked⟩ := State.writeCheck_of_accepts listed ok
  have type : e.ty = t := by
    rw [he] at row
    exact (Prod.mk.inj (Option.some.inj row)).1
  exact ⟨e, Device.numCheck_of_writeCheck hp (valOf_nat type unsigned hv) others checked⟩

end

/-! ### Writes that the fuses bar (R49, R182) -/

/-- No Boiler slot's enable is written without its checks but by the device. -/
theorem ownAuthority_of_no_slot (r : Req) {k : Nat} (none : loopSlot k = none) : ownAuthority r k = false := by
  simp [ownAuthority, none]

section
variable {s : State} {env : WriteEnv} {r : Req}

theorem bit_of_and_eq {a b k : Nat} (within : a &&& b = a) (set : bit a k = true) : bit b k = true := by
  rw [bit_eq_testBit, ← within, Nat.testBit_and, Bool.and_eq_true] at set
  exact (bit_eq_testBit b k).trans set.2

theorem Device.fireEnable_check {m : Memories} {d : Device} {e : EntryDef} {v : Nat}
    (ok : d.numCheck m Reg.FIRE_ENABLE e v = .ok) : v &&& d.regN Reg.FIRE_SCOPE = v := by
  have check : d.numCheck m Reg.FIRE_ENABLE e v = if v &&& d.regN Reg.FIRE_SCOPE = v then .ok else .range := rfl
  rw [check] at ok
  split at ok
  next within => exact within
  next => cases ok

/-- R182: the groups of an accepted FIRE_ENABLE lie within FIRE_SCOPE. -/
theorem State.fireScope_of_accepts {v k : Nat} (hv : v < 2 ^ 32) (ok : s.accepts env r Reg.FIRE_ENABLE v = true)
    (set : bit v k = true) : bit (s.dev.regN Reg.FIRE_SCOPE) k = true := by
  obtain ⟨e, checked⟩ := State.numCheck_of_accepts (t := .u32) (tk := .now) (by decide +kernel)
    (by decide +kernel) (by decide) hv (ownAuthority_of_no_slot r rfl) ok
  have within := Device.fireEnable_check checked
  rw [Device.seeVpp_regN (by decide)] at within
  exact bit_of_and_eq within set

/-- R182: a drop test that may start tests groups within FIRE_SCOPE alone. -/
theorem Device.dtCheck_scope {d : Device} {k : Nat} (ok : d.dtCheck = .ok) (hk : k < 24)
    (tested : bit (d.regN Reg.DT_GROUPS) k = true) : bit (d.regN Reg.FIRE_SCOPE) k = true := by
  refine Decidable.byContradiction fun outside => ?_
  have named : (bitsOf 24 (d.regN Reg.DT_GROUPS)).any (fun k => !bit (d.regN Reg.FIRE_SCOPE) k) = true :=
    List.any_eq_true.mpr ⟨k, List.mem_filter.mpr ⟨List.mem_range.mpr hk, tested⟩,
      by rw [Bool.eq_false_iff.mpr outside, Bool.not_false]⟩
  unfold Device.dtCheck at ok
  simp only [named, Bool.true_or, if_true] at ok
  cases ok

theorem Device.dtStart_check {m : Memories} {d : Device} {e : EntryDef}
    (ok : d.numCheck m Reg.DT_CMD e (1 : Nat) = .ok) : d.dtCheck = .ok := by
  have check : d.numCheck m Reg.DT_CMD e (1 : Nat) = if d.reg Reg.PWR_STATE ≠ 0 then .state else d.dtCheck := rfl
  rw [check] at ok
  split at ok
  · cases ok
  · exact ok

theorem State.dtScope_of_accepts {k : Nat} (ok : s.accepts env r Reg.DT_CMD 1 = true) (hk : k < 24)
    (tested : bit (s.dev.regN Reg.DT_GROUPS) k = true) : bit (s.dev.regN Reg.FIRE_SCOPE) k = true := by
  obtain ⟨e, checked⟩ := State.numCheck_of_accepts (v := 1) (t := .u8) (tk := .now) (by decide +kernel)
    (by decide +kernel) (by decide) (by decide) (ownAuthority_of_no_slot r rfl) ok
  rw [← Device.seeVpp_regN (env := env) (by decide)] at tested ⊢
  exact Device.dtCheck_scope (Device.dtStart_check checked) hk tested

/-- R49: without WORKSHOP_FIRE a Workshop engine has no access to a FIRE-related entry. -/
theorem Device.accessCheck_mailbox {d : Device} (w k : Nat) (e : EntryDef) (barred : d.regB Reg.WORKSHOP_FIRE = false)
    (fire : fireRelated k = true) : d.accessCheck (.mailbox w) k e ≠ .ok := by
  unfold Device.accessCheck
  rw [if_pos (show isMailbox (.mailbox w) = true ∧ _ from ⟨rfl, barred, fire⟩)]
  (repeat' split) <;> decide

theorem State.not_accepts_mailbox {w k : Nat} {v : Int} (listed : indexListed (k / 256) = true ∧ k / 256 < 65536)
    (barred : s.dev.regB Reg.WORKSHOP_FIRE = false) (fire : fireRelated k = true) :
    s.accepts env (.mailbox w) k v = false := by
  refine Bool.eq_false_iff.mpr fun accepted => ?_
  obtain ⟨e, -, hp, checked⟩ := State.writeCheck_of_accepts listed accepted
  have still : (s.dev.seeVpp env).regB Reg.WORKSHOP_FIRE = false := by
    rwa [Device.regB, Device.seeVpp_reg (by decide)]
  exact Device.accessCheck_mailbox w k e still fire (Device.accessCheck_of_writeCheck hp checked)

end

/-- Settles O28: a bit within an accepted FIRE_ENABLE or an accepted test lies within FIRE_SCOPE, and the five entries
are FIRE-related. -/
theorem noWriteReachesOutsideTheFuses : Obligations.NoWriteReachesOutsideTheFuses := by
  refine fun s env r v => ⟨?fireEnable, ?dropTest, ?mailbox⟩
  case fireEnable =>
    intro hv ⟨k, _, set, outside⟩
    refine Bool.eq_false_iff.mpr fun accepted => ?_
    have within := State.fireScope_of_accepts hv accepted set
    exact Bool.false_ne_true (outside.symm.trans within)
  case dropTest =>
    intro ⟨k, hk, tested, outside⟩
    refine Bool.eq_false_iff.mpr fun accepted => ?_
    have within := State.dtScope_of_accepts accepted hk tested
    exact Bool.false_ne_true (outside.symm.trans within)
  case mailbox =>
    intro w barred k hk
    have fireEntries : ∀ k ∈ [Reg.FIRE_ENABLE, Reg.HG_ENABLE, Reg.INTLK_ACK, Reg.TRIP_ACK, Reg.DT_CMD],
        (indexListed (k / 256) = true ∧ k / 256 < 65536) ∧ fireRelated k = true := by
      decide +kernel
    obtain ⟨listed, fire⟩ := fireEntries k hk
    exact State.not_accepts_mailbox listed barred fire

/-! ### INTLK_ACK (R184) -/

/-- R184: an input that is named by an acknowledgement and awaits it becomes CLEAR. -/
def Intlk.acked (x : Intlk) (named : Bool) : Intlk :=
  if named = true ∧ x.st = .awaitingAck then { x with st := .clear } else x

theorem Intlk.acked_held (x : Intlk) (named : Bool) : (x.acked named).held = x.held := by
  unfold Intlk.acked
  split <;> rfl

theorem Intlk.acked_acked (x : Intlk) (named : Bool) : (x.acked named).acked named = x.acked named := by
  by_cases awaits : named = true ∧ x.st = .awaitingAck
  · rw [show x.acked named = { x with st := .clear } from if_pos awaits, Intlk.acked, if_neg (by simp)]
  · rw [show x.acked named = x from if_neg awaits, Intlk.acked, if_neg awaits]

/-- R184: input n is acknowledged where the mask names it. -/
def Device.ackInput (mask : Nat) (d : Device) (n : Nat) : Device :=
  if bit mask n = true ∧ (d.intlkIn n).st = .awaitingAck then d.setIntlk n { d.intlkIn n with st := .clear } else d

section
variable (d : Device) (mask : Nat)

theorem Device.intlkAck_eq : d.intlkAck mask = (List.range 12).foldl (Device.ackInput mask) d := rfl

theorem Device.intlkIn_setIntlk (n : Nat) (x : Intlk) : (d.setIntlk n x).intlkIn n = x := tget_tset_same _ _ _ _

theorem Device.intlkIn_setIntlk_other {n i : Nat} (x : Intlk) (h : i ≠ n) : (d.setIntlk n x).intlkIn i = d.intlkIn i :=
  tget_tset_other _ _ _ h

theorem Device.intlkIn_ackInput (n : Nat) : (d.ackInput mask n).intlkIn n = (d.intlkIn n).acked (bit mask n) := by
  unfold Device.ackInput Intlk.acked
  split
  · exact d.intlkIn_setIntlk n _
  · rfl

theorem Device.intlkIn_ackInput_other {n i : Nat} (h : i ≠ n) : (d.ackInput mask n).intlkIn i = d.intlkIn i := by
  unfold Device.ackInput
  split
  · exact d.intlkIn_setIntlk_other _ h
  · rfl

/-- Each input of a list is acknowledged, and no other one. -/
theorem Device.intlkIn_ackInputs (l : List Nat) (i : Nat) : (l.foldl (Device.ackInput mask) d).intlkIn i =
    if i ∈ l then (d.intlkIn i).acked (bit mask i) else d.intlkIn i := by
  induction l generalizing d with
  | nil => rfl
  | cons n l ih =>
    rw [List.foldl_cons, ih]
    by_cases same : i = n
    · subst same
      rw [Device.intlkIn_ackInput, Intlk.acked_acked, ite_self, if_pos List.mem_cons_self]
    · simp only [Device.intlkIn_ackInput_other d mask same, List.mem_cons, same, false_or]

theorem Device.ackInput_holdView (n : Nat) : (d.ackInput mask n).holdView = d.holdView := by
  unfold Device.ackInput
  split
  · exact d.setIntlk_holdView rfl
  · rfl

theorem Device.ackInput_log (n : Nat) : (d.ackInput mask n).log = d.log := by
  unfold Device.ackInput
  split <;> rfl

/-- R184: an acknowledgement releases no group. -/
theorem Device.intlkAck_intlkMask : (d.intlkAck mask).intlkMask = d.intlkMask := by
  have holds : (d.intlkAck mask).holdView = d.holdView :=
    foldl_same Device.holdView (Device.ackInput mask) (fun d n => d.ackInput_holdView mask n) _ d
  refine Nat.eq_of_testBit_eq fun k => ?_
  rw [← bit_eq_testBit, ← bit_eq_testBit, Device.bit_intlkMask_of_holdView holds]

theorem Device.intlkAck_log : (d.intlkAck mask).log = d.log :=
  foldl_same (fun d : Device => d.log) (Device.ackInput mask) (fun d n => d.ackInput_log mask n) _ d

theorem Device.intlkIn_intlkAck (n : Nat) : (d.intlkAck mask).intlkIn n =
    if n < 12 ∧ bit mask n = true ∧ (d.intlkIn n).st = .awaitingAck then { d.intlkIn n with st := .clear }
    else d.intlkIn n := by
  rw [Device.intlkAck_eq, Device.intlkIn_ackInputs]
  by_cases input : n < 12
  · simp only [List.mem_range, input, if_true, true_and, Intlk.acked]
  · simp only [List.mem_range, input, if_false, false_and]

end

theorem exec_intlkAck {s : State} {r : Req} {mask : Nat} (hm : mask < 2 ^ 16)
    (ok : s.accepts {} r Reg.INTLK_ACK mask = true) :
    exec (.intlkAck r mask) s = s.wrote r Reg.INTLK_ACK (s.dev.intlkAck mask) :=
  State.put_wrote (t := .u16) (tk := .now) (by decide +kernel) (.inl rfl) (by decide) hm hm ok rfl

/-- Settles O30: what the fold over the inputs leaves, and the answer that goes out. -/
theorem acknowledgingMovesOnlyWhatAwaits : Obligations.AcknowledgingMovesOnlyWhatAwaits := fun s _ mask hm ok =>
  ⟨_, exec_intlkAck hm ok, rfl, s.dev.intlkAck_log mask, s.dev.intlkAck_intlkMask mask, s.dev.intlkIn_intlkAck mask⟩

/-! ### What an interlock's assertion leaves of the interlocks (R183 … R186) -/

/-- The interlock inputs, the gates received over the ring, and INTLK_COUNT of input n. -/
def Device.intlkView (n : Nat) (d : Device) : Tab Intlk × List RingGate × Int :=
  (d.prot.intlk, d.prot.ring, d.reg (Reg.INTLK_COUNT + n))

section
variable {n : Nat} (d : Device)

theorem Device.intlkView_of_parts {d' : Device} (prot : d'.prot = d.prot) (dict : d'.dict = d.dict) :
    d'.intlkView n = d.intlkView n := by
  simp only [Device.intlkView, Device.reg, prot, dict]

theorem Device.raise_intlkView (code unit : Nat) (fs : List DF) :
    (d.raise code unit fs).intlkView n = d.intlkView n := rfl

theorem Device.setHport_intlkView (p : Nat) (x : HallPort) : (d.setHport p x).intlkView n = d.intlkView n :=
  d.intlkView_of_parts (d.setHport_prot p x) (d.setHport_dict p x)

theorem Device.setOrigin_intlkView (c i o : Nat) : (d.setOrigin c i o).intlkView n = d.intlkView n :=
  d.intlkView_of_parts (Device.markDirty_prot _ 4 c) (d.setOrigin_dict c i o)

theorem Device.healthNow_intlkView (c i w : Nat) : (d.healthNow c i w).intlkView n = d.intlkView n := by
  have prot : (d.healthNow c i w).prot = d.prot := by
    unfold Device.healthNow
    extract_lets d1 m
    split <;> exact Device.markDirty_prot _ 4 c
  exact d.intlkView_of_parts prot (d.healthNow_dict c i w)

variable (hn : n < 12)
include hn

/-- An entry of another index is no INTLK_COUNT. -/
theorem Device.setReg_intlkView {k : Nat} (v : Int) (other : k / 256 ≠ 0x2602) :
    (d.setReg k v).intlkView n = d.intlkView n := by
  have key : Reg.INTLK_COUNT + n ≠ k := by
    simp only [Reg.INTLK_COUNT]
    omega
  simp only [Device.intlkView, d.reg_setReg_other v key, Device.setReg_prot]

/-! #### The cut of what the interlock gates (R93, R96, R192) -/

theorem Device.loseSlot_intlkView {c : Nat} (h cause : Nat) (s : Int) (hc : c < 192) :
    (d.loseSlot c h cause s).intlkView n = d.intlkView n := by
  have counted : ((d.incReg (Reg.LOST_LINES + c)).setRegN (Reg.LAST_LOST_GLC + c) (h % 2 ^ 48)).intlkView n =
      d.intlkView n :=
    (Device.setReg_intlkView _ hn _ (by simp only [Reg.LAST_LOST_GLC]; omega)).trans
      (d.setReg_intlkView hn _ (by simp only [Reg.LOST_LINES]; omega))
  unfold Device.loseSlot
  extract_lets x start d1
  split
  · exact counted
  · split <;> exact counted

theorem Device.withholdDrop_intlkView (c cause : Nat) : (d.withholdDrop c cause).intlkView n = d.intlkView n := by
  unfold Device.withholdDrop
  dsimp only
  split
  · rfl
  · split
    · rfl
    · split
      · rfl
      · split
        · rfl
        · exact (Device.raise_intlkView _ _ _ _).trans (Device.setReg_intlkView _ hn 2 (by decide))

theorem Device.cutFire_intlkView {c : Nat} (cause : Nat) (hc : c < 192) :
    (d.cutFire c cause).intlkView n = d.intlkView n := by
  unfold Device.cutFire
  dsimp only
  split
  · exact d.withholdDrop_intlkView hn c cause
  · split
    · rfl
    · exact Device.loseSlot_intlkView _ hn _ _ _ hc

theorem Device.cutGated_intlkView : d.cutGated.intlkView n = d.intlkView n := by
  refine List.foldlRecOn (motive := fun b : Device => b.intlkView n = d.intlkView n) allChans _ rfl fun b ih c hc => ?_
  refine Eq.trans ?_ ih
  split
  · exact b.cutFire_intlkView hn _ (mem_allChans.mp hc)
  · split
    · exact b.withholdDrop_intlkView hn c _
    · rfl

/-! #### The role's further action and the message around the ring (R134, R185, R186, R312) -/

theorem Device.roleStop_intlkView (role : Nat) : (d.roleStop role).intlkView n = d.intlkView n := by
  have state (v : Int) : (d.setReg Reg.SCHED_STATE v).intlkView n = d.intlkView n :=
    d.setReg_intlkView hn v (by decide)
  unfold Device.roleStop Device.schedStop
  split
  · split
    · split <;> exact state _
    · rfl
  · rfl

theorem Device.linkWake_intlkView (p : Nat) : (d.linkWake p).intlkView n = d.intlkView n := by
  have woken : (d.setReg (hallKey Reg.LINK_STATE p) 2).intlkView n = d.intlkView n :=
    d.setReg_intlkView hn 2 (by simp only [hallKey, Reg.LINK_STATE]; omega)
  unfold Device.linkWake
  extract_lets st d1
  have up : d1.intlkView n = d.intlkView n := by
    simp only [d1]
    split
    · exact woken
    · rfl
  split
  · exact (Device.setHport_intlkView _ _ _).trans up
  · exact up

theorem Device.hallSend_intlkView (p ty hops : Nat) (body : List Nat) :
    (d.hallSend p ty hops body).intlkView n = d.intlkView n := by
  have woken := d.linkWake_intlkView hn p
  unfold Device.hallSend
  extract_lets st d1 cls data x seq
  split
  · rfl
  · split
    · exact (Device.setHport_intlkView _ _ _).trans ((Device.setHport_intlkView _ _ _).trans woken)
    · exact (Device.setHport_intlkView _ _ _).trans woken

theorem Device.hallBoth_intlkView (ty : Nat) (body : List Nat) : (d.hallBoth ty body).intlkView n = d.intlkView n :=
  (Device.hallSend_intlkView _ hn 1 ty 0 body).trans (d.hallSend_intlkView hn 0 ty 0 body)

/-! #### The drop test that an emergency stop aborts (R185, R192, R196) -/

theorem Device.changeNoz_intlkView (c i w : Nat) : (d.changeNoz c i w).intlkView n = d.intlkView n := by
  have touched : (d.touchNoz c i).intlkView n = d.intlkView n :=
    d.intlkView_of_parts (Device.markDirty_prot _ 4 c) (d.touchNoz_dict c i)
  have ramped (old : Nat) : ((d.touchNoz c i).gainRamps c old w).intlkView n = d.intlkView n := by
    unfold Device.gainRamps
    split <;> exact touched
  unfold Device.changeNoz
  extract_lets d1 m
  split
  · exact (Device.setReg_intlkView _ hn _ (by decide)).trans touched
  · split <;> exact ramped _

theorem Device.writeNoz_intlkView (c i w : Nat) : (d.writeNoz c i w).intlkView n = d.intlkView n := by
  unfold Device.writeNoz
  extract_lets m old w1 d1 eff
  split
  · rfl
  · split
    · exact d1.healthNow_intlkView c i eff
    · exact d1.changeNoz_intlkView hn c i eff

theorem Device.dtApplyDead_intlkView (c : Nat) : (d.dtApplyDead c).intlkView n = d.intlkView n := by
  unfold Device.dtApplyDead
  extract_lets l h alive
  exact foldl_same (Device.intlkView n) _
    (fun d _ => (Device.setOrigin_intlkView _ _ _ _).trans (d.writeNoz_intlkView hn _ _ _)) _ _

theorem Device.dtFinish_intlkView (aborted : Bool) : (d.dtFinish aborted).intlkView n = d.intlkView n := by
  unfold Device.dtFinish
  extract_lets cs d1 d2
  have published : d1.intlkView n = d.intlkView n := foldl_same (Device.intlkView n)
    (fun (d : Device) c => d.setBlob (Reg.DT_RESULT + c) (d.dtRecord c aborted)) (fun _ _ => rfl) cs d
  have written : d2.intlkView n = d.intlkView n := by
    simp only [d2]
    split
    · exact (foldl_same (Device.intlkView n) _ (fun d c => d.dtApplyDead_intlkView hn c) _ d1).trans published
    · exact published
  exact (d2.setReg_intlkView hn _ (by decide)).trans written

theorem Device.dtEmergency_intlkView : d.dtEmergency.intlkView n = d.intlkView n := by
  unfold Device.dtEmergency
  split
  · rfl
  · exact (Device.dtFinish_intlkView _ hn true).trans
      (foldl_same (Device.intlkView n) (Device.dtAbortEvent · 3) (fun _ _ => rfl) _ d)

end

/-! ### INTLK_ASSERTED (R183 … R185) -/

/-- R183 … R185: input n is ASSERTED now and holds the groups of its role as well. -/
def Device.intlkTaken (d : Device) (n : Nat) : Device :=
  let w := d.intlkWord n
  let g := roleGroups (intlkRole w) w
  let x := d.intlkIn n
  (d.setIntlk n { x with
    st := .asserted, at_ := d.now, held := x.held ||| g,
    report := x.report || (g != 0), ringDue := x.ringDue || bit w 30 }).incReg (Reg.INTLK_COUNT + n)

section
variable {d : Device} {n : Nat}

theorem Device.intlkTaken_st : ((d.intlkTaken n).intlkIn n).st = .asserted :=
  congrArg Intlk.st (d.intlkIn_setIntlk n _)

theorem Device.intlkTaken_held : ((d.intlkTaken n).intlkIn n).held =
    (d.intlkIn n).held ||| roleGroups (intlkRole (d.intlkWord n)) (d.intlkWord n) :=
  congrArg Intlk.held (d.intlkIn_setIntlk n _)

theorem Device.intlkTaken_count :
    (d.intlkTaken n).regN (Reg.INTLK_COUNT + n) = (d.regN (Reg.INTLK_COUNT + n) + 1) % 2 ^ 32 :=
  Device.regN_incReg _ _

/-- What follows the assertion leaves the input as it was taken. -/
theorem Device.intlkAssert_intlkView (hn : n < 12) (role : intlkRole (d.intlkWord n) ≠ 0)
    (new : (d.intlkIn n).st ≠ .asserted) : (d.intlkAssert n).intlkView n = (d.intlkTaken n).intlkView n := by
  have stopped (r : Nat) : ((d.intlkTaken n).cutGated.roleStop r).intlkView n = (d.intlkTaken n).intlkView n :=
    (Device.roleStop_intlkView _ hn r).trans (Device.cutGated_intlkView _ hn)
  unfold Device.intlkAssert
  extract_lets w r x g d1 d2
  rw [if_neg (by simp only [not_or]; exact ⟨role, new⟩)]
  split
  · exact (Device.hallBoth_intlkView _ hn _ _).trans (stopped r)
  · exact stopped r

theorem Device.intlkAssertAll_intlkView {high : Bool} {held : Nat} (hn : n < 12) (level : high = d.intlkLevel n)
    (long : 16 ≤ held) (role : intlkRole (d.intlkWord n) ≠ 0) (new : (d.intlkIn n).st ≠ .asserted) :
    (d.intlkAssertAll n high held).intlkView n = (d.intlkTaken n).intlkView n := by
  have asserted := Device.intlkAssert_intlkView hn role new
  unfold Device.intlkAssertAll
  have accepted : ¬ (high ≠ d.intlkLevel n ∨ held < 16) := fun refused =>
    refused.elim (fun other => other level) fun short => absurd long (Nat.not_le.mpr short)
  rw [if_neg accepted]
  extract_lets x r d1
  split
  · exact (d1.dtEmergency_intlkView hn).trans asserted
  · exact asserted

theorem intlkRole_of_unlocked {w : Nat} (unlocked : bit w 31 = false) : intlkRole w = 0 := by
  simp [intlkRole, unlocked]

theorem intlkRole_of_unused {w : Nat} (unused : field w 28 26 = 0) : intlkRole w = 0 := by
  simp [intlkRole, unused]

/-- R180: a locked word with a role from 5 on is EMERGENCY_STOP. -/
theorem intlkRole_of_stop {w : Nat} (role : intlkRole w ≠ 0) (stop : 5 ≤ field w 28 26) : intlkRole w = 5 := by
  unfold intlkRole at role ⊢
  split
  next => exact Nat.min_eq_left stop
  next unlocked => exact absurd (if_neg unlocked) role

/-- R180, R183: an assertion that is not accepted leaves the device. -/
theorem Device.intlkAssertAll_refused {high : Bool} {held : Nat}
    (refused : high ≠ d.intlkLevel n ∨ held < 16 ∨ intlkRole (d.intlkWord n) = 0) :
    d.intlkAssertAll n high held = d := by
  unfold Device.intlkAssertAll
  split
  · rfl
  next accepted =>
    have role : intlkRole (d.intlkWord n) = 0 :=
      (refused.resolve_left fun level => accepted (.inl level)).resolve_left fun short => accepted (.inr short)
    have idle : d.intlkAssert n = d := if_pos (.inl role)
    simp [role, idle]

/-- R185: the groups that a role gates. -/
theorem bit_roleGroups {w k : Nat} (hk : k < 24) (role : intlkRole w ≠ 0)
    (scope : bit w k = true ∨ 5 ≤ field w 28 26) : bit (roleGroups (intlkRole w) w) k = true := by
  unfold roleGroups
  split
  next =>
    show bit (2 ^ 24 - 1) k = true
    rw [bit_eq_testBit, Nat.testBit_two_pow_sub_one, decide_eq_true hk]
  next other =>
    have named : bit w k = true := scope.resolve_right fun stop => other (intlkRole_of_stop role stop)
    rw [bit_eq_testBit, Nat.testBit_mod_two_pow, decide_eq_true hk, ← bit_eq_testBit, named, Bool.and_true]

/-- R95, R184: a channel of a group that an input holds is gated. -/
theorem Device.outputGate_of_held {c : Nat} (hn : n < 12) (held : bit (d.intlkIn n).held (c / 8) = true) :
    d.outputGate c ≠ 0 := by
  have masked : bit d.intlkMask (c / 8) = true := by
    rw [Device.bit_intlkMask, Bool.or_eq_true]
    exact .inl (List.any_eq_true.mpr ⟨n, List.mem_range.mpr hn, held⟩)
  rw [Device.outputGate_ne_zero_iff]
  simp [Device.gatedButVote, masked]

end

theorem exec_intlkAsserted {s : State} {n held : Nat} {high : Bool} (on : s.dev.domainOn 56 = true) (hn : n < 12) :
    exec (.intlkAsserted n high held) s = s.nextWith (s.dev.intlkAssertAll n high held) :=
  State.when_true (f := fun d => d.intlkAssertAll n high held) (inDom_true on hn)

/-- Settles O29: the input as it was taken stands through what follows, and what it holds gates the channels. -/
theorem anInterlockGatesItsGroupsAtOnce : Obligations.AnInterlockGatesItsGroupsAtOnce := by
  intro s n high held hn on
  have runs := exec_intlkAsserted (high := high) (held := held) on hn
  refine ⟨fun level long role new => ⟨_, runs, rfl, ?accepted⟩, fun refused => ?unaccepted⟩
  case accepted =>
    have view := Device.intlkAssertAll_intlkView hn level long role new
    simp only [Device.intlkView, Prod.mk.injEq] at view
    obtain ⟨inputs, -, count⟩ := view
    have input : (s.dev.intlkAssertAll n high held).intlkIn n = (s.dev.intlkTaken n).intlkIn n :=
      congrArg (fun t => tget intlk0 t n) inputs
    refine ⟨?asserted, ?counted, fun c hc scope => Device.outputGate_of_held hn ?gated⟩
    case asserted =>
      show ((s.dev.intlkAssertAll n high held).intlkIn n).st = .asserted
      rw [input, Device.intlkTaken_st]
    case counted => exact (congrArg Int.toNat count).trans Device.intlkTaken_count
    case gated =>
      show bit ((s.dev.intlkAssertAll n high held).intlkIn n).held (c / 8) = true
      rw [input, Device.intlkTaken_held, bit_or, bit_roleGroups (by omega) role scope, Bool.or_true]
  case unaccepted =>
    have idle : s.dev.intlkAssertAll n high held = s.dev := by
      refine Device.intlkAssertAll_refused ?_
      rcases refused with unlocked | unused | level | short
      · exact .inr (.inr (intlkRole_of_unlocked unlocked))
      · exact .inr (.inr (intlkRole_of_unused unused))
      · exact .inl level
      · exact .inr (.inl short)
    rw [runs, idle]
    rfl

/-! ### LOOP_ENABLE 1 that the device writes itself (R242, R272, R278) -/

section
variable {s : State} {r : Req} {k : Nat}

/-- Writes of an entry with the same next state leave the same values in force. -/
theorem State.reg_of_wrote {d d' : Device} (same : s.wrote r k d = s.wrote r k d') (i : Nat) : d.reg i = d'.reg i :=
  congrArg (fun t : State => t.dev.reg i) (Host.Outcome.next.inj same)

/-- Log entry 178: an enable that the slot's checks would refuse leaves the slot as it is. -/
theorem Device.applyNum_loopEnable_refused {m : Memories} {d : Device} {env : WriteEnv} {v : Int} (hk : k < 64)
    (enable : v = 1) (refused : d.loopCheck k ≠ .ok) : d.applyNum m env r (Reg.un Reg.LOOP_ENABLE k) v = (m, d) := by
  have index : (0x2C4001 + 256 * k) / 256 = 0x2C40 + k := by omega
  have row : (0x2C4001 + 256 * k) % 256 = 1 := by omega
  have slot : loopSlot (0x2C4001 + 256 * k) = some k := by
    rw [loopSlot, index, if_pos ⟨by omega, by omega⟩, Nat.add_sub_cancel_left]
  have kept : d.nowD (0x2C4001 + 256 * k) v = d := by
    simp [Device.nowD, slot, row, Device.loopPut, enable, refused]
  simp only [Device.applyNum, Reg.un, Reg.LOOP_ENABLE, index, kept]
  rw [if_neg (by omega), if_neg (by omega), if_neg (by omega), if_pos (by omega)]

theorem exec_loopEnable_refused (hk : k < 64) (ok : s.accepts {} r (Reg.un Reg.LOOP_ENABLE k) 1 = true)
    (refused : s.dev.loopCheck k ≠ .ok) :
    exec (.loopEnable r k) s = s.wrote r (Reg.un Reg.LOOP_ENABLE k) s.dev :=
  have row : ∀ i < 64, (findEntry (Reg.un Reg.LOOP_ENABLE i)).map (fun e => (e.ty, e.takes)) = some (.bool, .now) := by
    decide +kernel
  State.put_wrote (v := 1) (row k hk) (.inl rfl) (by decide) (by decide) hk ok
    (Device.applyNum_loopEnable_refused hk rfl refused)

end

/-- The dictionary is served, and every Boiler slot has the values of a device reset: SRC_KIND 0, no source. -/
def servedWithoutSources : State := { dev := { pwr := { phase := .steady } } }

/-- The device's own write of LOOP_ENABLE 1 to slot 0 passes the checks that it has, not those of R272. -/
theorem servedWithoutSources_accepts :
    servedWithoutSources.accepts {} .device (Reg.un Reg.LOOP_ENABLE 0) 1 = true ∧
      servedWithoutSources.dev.loopCheck 0 = .range := by
  decide +kernel

/-- Refutes O54: the device's own LOOP_ENABLE 1 of slot 0 is accepted, since R272's checks do not refuse a profile's item
(R242), but the slot has no source: it stays as it is and LOOP_ENABLE reads 0, where the enable would leave 1. -/
theorem not_protectionAndLoopCommandsComplete : ¬ Obligations.ProtectionAndLoopCommandsComplete := by
  intro complete
  obtain ⟨-, -, -, -, -, -, -, -, -, -, -, -, -, -, -, -, -, -, -, loopEnable, -⟩ := complete
  obtain ⟨ok, range⟩ := servedWithoutSources_accepts
  have kept := exec_loopEnable_refused (k := 0) (by decide) ok (by rw [range]; decide)
  have enabled := State.reg_of_wrote (kept.symm.trans (loopEnable servedWithoutSources .device 0 (by decide) ok))
    Reg.LOOP_ENABLE
  exact absurd enabled (by decide +kernel)

end Sys2Proof.Machine
end

section
/-! PROOFS. The Window family (O32, O55): the commands of the Window, of the calibration manager and of the Cellar, and
the frame that a Frame Start packet opens. -/
namespace Sys2Proof.Machine

/-! ### Signed entries (R10, R11) -/

theorem toSigned_eq_toInt (w v : Nat) : toSigned w v = (BitVec.ofNat w v).toInt := by
  rw [BitVec.toInt_eq_toNat_cond, BitVec.toNat_ofNat]
  rfl

/-- A number that w bits hold reads back from its two's complement pattern. -/
theorem toSigned_ofSigned {w : Nat} {v : Int} (hw : 0 < w) (low : -2 ^ (w - 1) ≤ v) (high : v < 2 ^ (w - 1)) :
    toSigned w (ofSigned w v) = v := by
  have pattern : ofSigned w v = (BitVec.ofInt w v).toNat := (BitVec.toNat_ofInt ..).symm
  rw [toSigned_eq_toInt, pattern, BitVec.ofNat_toNat, BitVec.setWidth_eq, BitVec.toInt_ofInt_eq_self hw low high]

theorem leNat_leBytesI_eq_ofSigned (n : Nat) (v : Int) : leNat (leBytesI n v) = ofSigned (8 * n) v := by
  have bound : 0 < ((2 ^ (8 * n) : Nat) : Int) := Int.natCast_pos.mpr (Nat.two_pow_pos _)
  have width : 2 ^ (8 * n) = 256 ^ n := Nat.pow_mul 2 8 n
  have fits : ofSigned (8 * n) v < 256 ^ n := by
    rw [ofSigned, ← width, Int.toNat_lt (Int.emod_nonneg v (Int.ne_of_gt bound))]
    exact Int.emod_lt_of_pos v bound
  exact leNat_leBytes n _ fits

theorem Ty.bits_pos_of_signed {t : Ty} (signed : t.signed = true) : 0 < 8 * t.size := by
  revert signed
  cases t <;> decide

/-- A signed number that its entry holds reads back from its bytes. -/
theorem valOf_int {e : EntryDef} {t : Ty} {v : Int} (type : e.ty = t) (signed : t.signed = true)
    (low : -2 ^ (8 * t.size - 1) ≤ v) (high : v < 2 ^ (8 * t.size - 1)) : valOf e (leBytesI e.ty.size v) = .n v := by
  subst type
  have number : ¬ (e.ty = .domain ∨ e.ty = .str) := by
    rintro (bytes | bytes) <;> rw [bytes] at signed <;> cases signed
  rw [valOf, if_neg number, if_pos signed, leNat_leBytesI_eq_ofSigned,
    toSigned_ofSigned (Ty.bits_pos_of_signed signed) low high]

section
variable {s : State} {r : Req}

/-- An accepted write of a number to a signed entry that takes effect immediately, whose effect is on the device
alone. -/
theorem State.put_int_wrote {p : Prop} [Decidable p] {k : Nat} {v : Int} {t : Ty} {d : Device}
    (row : (findEntry k).map (fun e => (e.ty, e.takes)) = some (t, .now)) (signed : t.signed = true)
    (low : -2 ^ (8 * t.size - 1) ≤ v) (high : v < 2 ^ (8 * t.size - 1)) (hp : p) (ok : s.accepts {} r k v = true)
    (acts : Device.applyNum s.mem s.dev {} r k v = (s.mem, d)) : s.put p {} r k v = s.wrote r k d := by
  obtain ⟨e, he, type, now⟩ := findEntry_has row
  rw [State.put_accepted hp ok he (valOf_int type signed low high) (.inl now)]
  exact State.nextBoth_wrote acts

end

/-! ### Entries of the Window, the calibration manager and the Cellar (R202, R205, R216, R224, R234, R240, R241) -/

section
variable {m : Memories} {d : Device} {env : WriteEnv} {r : Req}

theorem loopSlot_of_below {k : Nat} (below : k / 256 < 0x2C40) : loopSlot k = none := if_neg (by omega)

theorem Device.applyNum_nowD {k : Nat} (v : Int) (index : 0x2900 ≤ k / 256 ∧ k / 256 < 0x2D00) :
    d.applyNum m env r k v = (m, d.nowD k v) := by
  simp only [Device.applyNum]
  rw [if_neg (by omega), if_neg (by omega), if_neg (by omega), if_pos (by omega)]

theorem Device.applyNum_winPortEnable {p : Nat} (v : Int) (hp : p < 4) (on : d.domainOn 54 = true) :
    d.applyNum m env r (Reg.WIN_PORT_ENABLE + p) v = (m, if v = 1 then d.winPortEnable p else d.winPortDisable p) := by
  have index : (0x2A0001 + p) / 256 = 0x2A00 := by omega
  have sub : (0x2A0001 + p) % 256 - 1 = p := by omega
  have slot : loopSlot (0x2A0001 + p) = none := loopSlot_of_below (by omega)
  rw [Device.applyNum_nowD v (by simp only [Reg.WIN_PORT_ENABLE]; omega)]
  simp only [Device.nowD, slot, index, sub, on, if_true, Bool.true_eq_false, if_false]

theorem Device.applyNum_trigArm {p : Nat} (v : Int) (hp : p < 4) :
    d.applyNum m env r (Reg.TRIG_ARM + p) v = (m, if v = 1 then d.trigArm p else d.trigDisarm p) := by
  have index : (0x2A1801 + p) / 256 = 0x2A18 := by omega
  have sub : (0x2A1801 + p) % 256 - 1 = p := by omega
  have slot : loopSlot (0x2A1801 + p) = none := loopSlot_of_below (by omega)
  rw [Device.applyNum_nowD v (by simp only [Reg.TRIG_ARM]; omega)]
  simp only [Device.nowD, slot, index, sub]
  rfl

theorem Device.applyNum_ainTrim {k : Nat} (v : Int) (index : k / 256 = 0x2B60 ∨ k / 256 = 0x2B61) :
    d.applyNum m env r k v = (m, (d.setReg k v).ainTrimmed) := by
  have key : k ≠ Reg.CAL_CMD := by
    rintro rfl
    exact absurd index (by decide)
  rw [Device.applyNum_nowD v (by omega)]
  simp only [Device.nowD, loopSlot_of_below (k := k) (by omega)]
  rw [if_neg (by omega), if_neg (by omega), if_neg (by omega), if_neg key, if_pos index]

theorem Device.applyBlob_pset {c : Nat} (l : List Nat) (hc : c < 8) :
    d.applyBlob m env (Reg.PSET + c) l = (m, d.psetAccept c l, .ok) := by
  have index : (0x2A3501 + c) / 256 = 0x2A35 := by omega
  have sub : (0x2A3501 + c) % 256 - 1 = c := by omega
  simp only [Device.applyBlob, Reg.PSET, index, sub]
  rfl

end

section
variable {s : State} {r : Req}

theorem State.put_winPortEnable {p v : Nat} (on : s.dev.domainOn 54 = true) (hp : p < 4) (hv : v < 256)
    (ok : s.accepts {} r (Reg.WIN_PORT_ENABLE + p) v = true) :
    s.put (p < 4) {} r (Reg.WIN_PORT_ENABLE + p) v = s.wrote r (Reg.WIN_PORT_ENABLE + p)
      (if (v : Int) = 1 then s.dev.winPortEnable p else s.dev.winPortDisable p) :=
  have row : ∀ i < 4, (findEntry (Reg.WIN_PORT_ENABLE + i)).map (fun e => (e.ty, e.takes)) = some (.bool, .now) := by
    decide +kernel
  State.put_wrote (row p hp) (.inl rfl) (by decide) hv hp ok (Device.applyNum_winPortEnable v hp on)

theorem State.put_trigArm {p v : Nat} (hp : p < 4) (hv : v < 256) (ok : s.accepts {} r (Reg.TRIG_ARM + p) v = true) :
    s.put (p < 4) {} r (Reg.TRIG_ARM + p) v = s.wrote r (Reg.TRIG_ARM + p)
      (if (v : Int) = 1 then s.dev.trigArm p else s.dev.trigDisarm p) :=
  have row : ∀ i < 4, (findEntry (Reg.TRIG_ARM + i)).map (fun e => (e.ty, e.takes)) = some (.u8, .now) := by
    decide +kernel
  State.put_wrote (row p hp) (.inl rfl) (by decide) hv hp ok (Device.applyNum_trigArm v hp)

theorem State.putBlob_pset {c : Nat} {l : List Nat} (hc : c < 8) (ok : s.acceptsBytes {} r (Reg.PSET + c) l = true) :
    s.putBlob (c < 8) {} r (Reg.PSET + c) l = s.wrote r (Reg.PSET + c) (s.dev.psetAccept c l) :=
  have row : ∀ i < 8, (findEntry (Reg.PSET + i)).map (fun e => (e.ty, e.takes)) = some (.domain, .now) := by
    decide +kernel
  State.putBlob_wrote (row c hc) hc ok (Device.applyBlob_pset l hc)

theorem State.put_calCmd {v : Nat} (hv : v < 256) (ok : s.accepts {} r Reg.CAL_CMD v = true) :
    s.put True {} r Reg.CAL_CMD v = s.wrote r Reg.CAL_CMD (s.dev.calCmd v) :=
  State.put_wrote (t := .u8) (tk := .now) (by decide +kernel) (.inl rfl) (by decide) hv trivial ok rfl

theorem State.put_cellarFlushCmd (ok : s.accepts {} r Reg.CELLAR_FLUSH_CMD 1 = true) :
    s.put True {} r Reg.CELLAR_FLUSH_CMD 1 = s.wrote r Reg.CELLAR_FLUSH_CMD s.dev.cellarFlush :=
  State.put_wrote (v := 1) (t := .u8) (tk := .now) (by decide +kernel) (.inl rfl) (by decide) (by decide) trivial ok rfl

theorem State.put_profileSaveCmd (ok : s.accepts {} r Reg.PROFILE_SAVE_CMD 1 = true) :
    s.put True {} r Reg.PROFILE_SAVE_CMD 1 = s.wrote r Reg.PROFILE_SAVE_CMD s.dev.profileSave :=
  State.put_wrote (v := 1) (t := .u8) (tk := .now) (by decide +kernel) (.inl rfl) (by decide) (by decide) trivial ok rfl

/-- R224: the entry of analog input i's trim: its offset or its gain. -/
def ainTrimKey (offset : Bool) (i : Nat) : Nat := (if offset then Reg.AIN_TRIM_OFFSET else Reg.AIN_TRIM_GAIN) + i

theorem ainTrimKey_index {i : Nat} (offset : Bool) (hi : i < 16) :
    ainTrimKey offset i / 256 = 0x2B60 ∨ ainTrimKey offset i / 256 = 0x2B61 := by
  simp only [ainTrimKey, Reg.AIN_TRIM_OFFSET, Reg.AIN_TRIM_GAIN]
  split <;> omega

theorem exec_ainTrimWrite {i : Nat} {offset : Bool} {v : Int} (hi : i < 16) (low : -2 ^ 15 ≤ v) (high : v < 2 ^ 15)
    (ok : s.accepts {} r (ainTrimKey offset i) v = true) : exec (.ainTrimWrite r i offset v) s =
      s.wrote r (ainTrimKey offset i) (s.dev.setReg (ainTrimKey offset i) v).ainTrimmed :=
  have row : ∀ o : Bool, ∀ i < 16, (findEntry (ainTrimKey o i)).map (fun e => (e.ty, e.takes)) = some (.i16, .now) := by
    decide +kernel
  State.put_int_wrote (row offset i hi) rfl low high ⟨hi, low, high⟩ ok
    (Device.applyNum_ainTrim v (ainTrimKey_index offset hi))

theorem exec_csiFrameStart {h : CsiHdr} {fails : List (Nat × Nat)} (on : s.dev.domainOn 54 = true) (hp : h.port < 4) :
    exec (.csiFrameStart h fails) s = s.nextWith (s.dev.csiFrameStart h fails) :=
  State.when_true (f := fun d => d.csiFrameStart h fails) (inDom_true on hp)

end

/-! ### Completion -/

/-- Settles O55: a command of the Window acts where its domain is on, the calibration manager's own where its engine
runs, and one that is an entry's write acts by that entry. -/
theorem windowAndCalibrationCommandsComplete : Obligations.WindowAndCalibrationCommandsComplete := by
  refine ⟨fun _ _ _ on hp ok => State.put_winPortEnable (v := 0) on hp (by decide) ok,
    fun _ _ _ on hp ok => State.put_winPortEnable (v := 1) on hp (by decide) ok,
    fun _ _ _ on hp => exec_csiFrameStart on hp, ?csiLine, ?csiFrameEnd, ?frameTimeout,
    fun _ _ _ hp ok => State.put_trigArm (v := 1) hp (by decide) ok,
    fun _ _ _ hp ok => State.put_trigArm (v := 2) hp (by decide) ok, ?trigPulse,
    fun _ _ _ _ hc ok => State.putBlob_pset hc ok, ?pipeStep, fun _ _ ok => State.put_calCmd (v := 1) (by decide) ok,
    fun _ _ ok => State.put_calCmd (v := 2) (by decide) ok, fun _ _ ok => State.put_calCmd (v := 3) (by decide) ok,
    ?densApply, ?regApply, fun _ _ _ _ _ hi low high ok => exec_ainTrimWrite hi low high ok,
    fun _ _ ok => State.put_cellarFlushCmd ok, ?cellarWrite, ?cellarWriteDone,
    fun _ _ ok => State.put_profileSaveCmd ok, ?trigPulseEnd⟩
  case csiLine =>
    exact fun _ h dt crcOk pix on hp => State.whenB_true (f := fun m d =>
      ({ m with store := (Device.csiLine m.store d h dt crcOk pix).1 }, (Device.csiLine m.store d h dt crcOk pix).2))
      (inDom_true on hp)
  case csiFrameEnd => exact fun _ h on hp => State.when_true (f := fun d => d.csiFrameEnd h) (inDom_true on hp)
  case frameTimeout => exact fun _ c on hc => State.when_true (f := fun d => d.frameTimeout c) (inDom_true on hc)
  case trigPulse =>
    exact fun _ p fails on hp => State.when_true (f := fun d => d.trigPulse p fails) (inDom_true on hp)
  case pipeStep =>
    exact fun _ on => State.whenM_true (f := fun m d => Device.pipeRun m.store d) (inDom_true on trivial)
  case densApply =>
    exact fun _ firmware up => State.when_true (f := Device.densApply) (inEng_true firmware up trivial)
  case regApply =>
    exact fun _ firmware up => State.when_true (f := Device.regApply) (inEng_true firmware up trivial)
  case cellarWrite => exact fun _ runs => State.when_true (f := Device.cellarWrite) runs
  case cellarWriteDone =>
    exact fun _ back served => State.whenB_true (f := fun m d =>
      ({ m with flash := (Device.cellarWriteDone m.flash d back).1 }, (Device.cellarWriteDone m.flash d back).2))
      (inService_true served trivial)
  case trigPulseEnd => exact fun _ p on hp => State.when_true (f := fun d => d.trigPulseEnd p) (inDom_true on hp)

/-! ### The records of the contexts (R203, R204) -/

section
variable (d : Device) (c : Nat)

@[simp] theorem Device.winCtx_setWinCtx (x : WinCtx) : (d.setWinCtx c x).winCtx c = x := tget_tset_same _ _ _ _

@[simp] theorem Device.setWinCtx_reg (x : WinCtx) (k : Nat) : (d.setWinCtx c x).reg k = d.reg k := rfl

@[simp] theorem Device.setWinCtx_waiting (x : WinCtx) : (d.setWinCtx c x).win.waiting = d.win.waiting := rfl

theorem Device.dropFrame_winCtx (f : Frame) :
    (d.dropFrame c f).winCtx c = { d.winCtx c with open_ := some f, dropping := true } := by
  unfold Device.dropFrame
  extract_lets x d1
  have opened : d1.winCtx c = { d.winCtx c with open_ := some f, dropping := true } := Device.winCtx_setWinCtx _ _ _
  split <;> exact opened

theorem Device.dropFrame_waiting (f : Frame) : (d.dropFrame c f).win.waiting = d.win.waiting := by
  unfold Device.dropFrame
  extract_lets x d1
  split <;> rfl

/-- R203: the context of a virtual channel is one of the eight, on the port asked for. -/
theorem Device.port_of_ctxAt {d : Device} {p vc c : Nat} (at_ : d.ctxAt p vc = some c) :
    c < 8 ∧ (d.winCtx c).port = p := by
  obtain ⟨listed, enabled⟩ := List.mem_filter.mp (List.mem_of_find?_eq_some at_)
  rw [Bool.and_eq_true, beq_iff_eq] at enabled
  exact ⟨List.mem_range.mp listed, enabled.2⟩

/-- An entry of an index other than CTX_ENABLE's moves no virtual channel. -/
theorem Device.ctxAt_setReg {k : Nat} (v : Int) (other : k / 256 ≠ 0x2A20) (p vc : Nat) :
    (d.setReg k v).ctxAt p vc = d.ctxAt p vc := by
  have enabled : (d.setReg k v).ctxsOf p = d.ctxsOf p := by
    refine List.filter_congr fun c hc => ?_
    have key : Reg.CTX_ENABLE + c ≠ k := by
      have := List.mem_range.mp hc
      simp only [Reg.CTX_ENABLE]
      omega
    simp only [Device.regB, d.reg_setReg_other v key]
    rfl
  simp only [Device.ctxAt, enabled]
  rfl

end

/-! ### What numbers the frames of a context (R206) -/

/-- The port of context c, and FRAME_NUMBER of context i. -/
def Device.numberView (c i : Nat) (d : Device) : Nat × Int := ((d.winCtx c).port, d.reg (Reg.FRAME_NUMBER + i))

section
variable {c i : Nat} (d : Device)

theorem Device.numberView_of_parts {d' : Device} (win : d'.win = d.win) (dict : d'.dict = d.dict) :
    d'.numberView c i = d.numberView c i := by
  simp only [Device.numberView, Device.winCtx, Device.reg, win, dict]

theorem Device.setWinCtx_numberView {x : WinCtx} (port : x.port = (d.winCtx c).port := by rfl) :
    (d.setWinCtx c x).numberView c i = d.numberView c i := by
  simp only [Device.numberView, Device.winCtx_setWinCtx, Device.setWinCtx_reg, port]

theorem Device.port_of_numberView {d d' : Device} (same : d'.numberView c i = d.numberView c i) :
    (d'.winCtx c).port = (d.winCtx c).port := congrArg Prod.fst same

theorem Device.regN_of_numberView {d d' : Device} (same : d'.numberView c i = d.numberView c i) :
    d'.regN (Reg.FRAME_NUMBER + i) = d.regN (Reg.FRAME_NUMBER + i) := congrArg (fun v => v.2.toNat) same

variable (hi : i < 8)
include hi

/-- An entry of another index is no FRAME_NUMBER. -/
theorem Device.setReg_numberView {k : Nat} (v : Int) (other : k / 256 ≠ 0x2A39) :
    (d.setReg k v).numberView c i = d.numberView c i := by
  have key : Reg.FRAME_NUMBER + i ≠ k := by
    simp only [Reg.FRAME_NUMBER]
    omega
  simp only [Device.numberView, d.reg_setReg_other v key]
  rfl

/-! #### The frame before closes (R208) -/

theorem Device.noteShort_numberView (hc : c < 8) (f : Frame) : (d.noteShort c f).numberView c i = d.numberView c i := by
  have counted : (d.incReg (Reg.FRAMES_SHORT + c)).numberView c i = d.numberView c i :=
    d.setReg_numberView hi _ (by simp only [Reg.FRAMES_SHORT]; omega)
  unfold Device.noteShort
  extract_lets d1 x
  split
  · exact (d1.setWinCtx_numberView).trans counted
  · exact counted

theorem Device.noteLong_numberView (hc : c < 8) (f : Frame) : (d.noteLong c f).numberView c i = d.numberView c i := by
  have counted : (d.incReg (Reg.FRAMES_LONG + c)).numberView c i = d.numberView c i :=
    d.setReg_numberView hi _ (by simp only [Reg.FRAMES_LONG]; omega)
  unfold Device.noteLong
  extract_lets d1 x
  split
  · exact (d1.setWinCtx_numberView).trans counted
  · exact counted

theorem Device.closeFrame_numberView (hc : c < 8) (withFe : Bool) :
    (d.closeFrame c withFe).numberView c i = d.numberView c i := by
  unfold Device.closeFrame
  extract_lets x d1
  have closed : d1.numberView c i = d.numberView c i := d.setWinCtx_numberView
  split
  next => rfl
  next f _ =>
    extract_lets short long flags f1 d2 d3 d4
    have shortNoted : d2.numberView c i = d.numberView c i := by
      simp only [d2]
      split
      · exact (d1.noteShort_numberView hi hc f1).trans closed
      · exact closed
    have longNoted : d3.numberView c i = d.numberView c i := by
      simp only [d3]
      split
      · exact (d2.noteLong_numberView hi hc f1).trans shortNoted
      · exact shortNoted
    split
    · exact longNoted
    · exact (d3.setWinCtx_numberView).trans longNoted

/-! #### The trigger's stamp and the sets' writes (R201, R206, R215, R216) -/

theorem Device.matchTrain_numberView (hp : (d.winCtx c).port < 4) :
    (d.matchTrain c).1.numberView c i = d.numberView c i := by
  unfold Device.matchTrain
  extract_lets x l
  clear_value l
  cases l with
  | nil => rfl
  | cons t ts =>
    have counted : (d.addReg (Reg.MISSED_TRIGGERS + x.port) ts.length).numberView c i = d.numberView c i :=
      d.setReg_numberView hi _ (by simp only [Reg.MISSED_TRIGGERS, x]; omega)
    exact (Device.setWinCtx_numberView _).trans counted

theorem Device.cciWrite_numberView (hp : (d.winCtx c).port < 4) (w : Nat × Nat × Nat) (bad : Option Nat) (n : Nat) :
    (d.cciWrite c w bad n).numberView c i = d.numberView c i := by
  unfold Device.cciWrite
  extract_lets x p q bytes e d1 d2
  have sent : d2.numberView c i = d.numberView c i := d1.setWinCtx_numberView
  split
  · exact (d2.setReg_numberView hi _ (by simp only [Reg.CCI_ERRORS, p, x]; omega)).trans sent
  · exact sent

theorem Device.sendDue_numberView (hp : (d.winCtx c).port < 4) (n : Nat) (fails : List (Nat × Nat)) (j : Nat) :
    (d.sendDue c n fails j).1.numberView c i = d.numberView c i := by
  unfold Device.sendDue
  extract_lets x due ws late x1
  refine foldl_keeps (fun a : Device × Nat => a.1.numberView c i = d.numberView c i) _ (fun a w same => ?_) ws _
    (d.setWinCtx_numberView)
  exact (a.1.cciWrite_numberView hi (Device.port_of_numberView same ▸ hp) w _ n).trans same

theorem Device.psetAct_numberView (hc : c < 8) (n : Nat) : (d.psetAct c n).numberView c i = d.numberView c i := by
  unfold Device.psetAct
  extract_lets x due inForce pend
  exact (Device.setReg_numberView _ hi _ (by simp only [Reg.PSET_PENDING]; omega)).trans
    ((Device.setReg_numberView _ hi _ (by simp only [Reg.PSET_IN_FORCE]; omega)).trans (d.setWinCtx_numberView))

theorem Device.dropFrame_numberView (hc : c < 8) (f : Frame) : (d.dropFrame c f).numberView c i = d.numberView c i := by
  have counted : (d.incReg (Reg.FRAMES_DROPPED + c)).numberView c i = d.numberView c i :=
    d.setReg_numberView hi _ (by simp only [Reg.FRAMES_DROPPED]; omega)
  unfold Device.dropFrame
  extract_lets x d1
  have opened : d1.numberView c i = d.numberView c i := (Device.setWinCtx_numberView _).trans counted
  split <;> exact opened

end

/-! ### The frame that a Frame Start opens (R203, R204, R206, R207) -/

/-- The number that the next frame of context c takes. -/
def Device.numberAfter (d : Device) (c : Nat) : Nat := (d.regN (Reg.FRAME_NUMBER + c) + 1) % 2 ^ 32

/-- The frame before is closed and the trigger's stamp taken. -/
def Device.frameMatched (d : Device) (c : Nat) : Device := ((d.closeFrame c false).matchTrain c).1

/-- A frame of context c opens; one without a buffer is dropped. -/
def Device.openFrame (d : Device) (c : Nat) (f : Frame) : Device :=
  let x := d.winCtx c
  let x1 := { x with unconf := x.unconf.filter (fun k => serialAfter 32 k f.num) }
  let d1 := d.setWinCtx c x1
  if f.stored then
    d1.setWinCtx c { x1 with open_ := some f, dropping := false, nextBuf := (x.nextBuf + 1) % Nat.max 1 x.buffers }
  else d1.dropFrame c f

section
variable {d : Device} {c : Nat} {f : Frame}

theorem Device.openFrame_winCtx : ((d.openFrame c f).winCtx c).open_ = some f ∧
    ((d.openFrame c f).winCtx c).buffers = (d.winCtx c).buffers := by
  unfold Device.openFrame
  extract_lets x x1 d1
  split
  · rw [Device.winCtx_setWinCtx]
    exact ⟨rfl, rfl⟩
  · rw [Device.dropFrame_winCtx, Device.winCtx_setWinCtx]
    exact ⟨rfl, rfl⟩

/-- R204: a frame that is open holds no buffer of the frames that wait. -/
theorem Device.openFrame_buffersUsed : (d.openFrame c f).buffersUsed c = d.buffersUsed c := by
  have waiting : (d.openFrame c f).win.waiting = d.win.waiting := by
    unfold Device.openFrame
    extract_lets x x1 d1
    split
    · rfl
    · exact d1.dropFrame_waiting c f
  simp only [Device.buffersUsed, waiting]

theorem Device.openFrame_numberView {i : Nat} (hc : c < 8) (hi : i < 8) :
    (d.openFrame c f).numberView c i = d.numberView c i := by
  unfold Device.openFrame
  extract_lets x x1 d1
  have confirmed : d1.numberView c i = d.numberView c i := d.setWinCtx_numberView
  split
  · refine (d1.setWinCtx_numberView ?_).trans confirmed
    exact (Device.port_of_numberView confirmed).symm
  · exact (d1.dropFrame_numberView hi hc f).trans confirmed

end

section
variable {d : Device} {c : Nat} (fails : List (Nat × Nat))

/-- A Frame Start opens a frame of the number set, in a device d' in which the sets are sent and in force. -/
theorem Device.frameStart_eq_openFrame (hc : c < 8) (hp : ((d.frameMatched c).winCtx c).port < 4) :
    ∃ (d' : Device) (f : Frame), d.frameStart c fails = d'.openFrame c f ∧ f.ctx = c ∧
      f.num = (d.frameMatched c).numberAfter c ∧ f.count = 0 ∧
      f.stored = decide (d'.buffersUsed c < (d'.winCtx c).buffers) ∧
      ∀ i < 8, d'.numberView c i =
        ((d.frameMatched c).setRegN (Reg.FRAME_NUMBER + c) ((d.frameMatched c).numberAfter c)).numberView c i := by
  unfold Device.frameStart
  extract_lets dm n d1 d2 d3 x st flags room f x1 d4
  refine ⟨d3, f, rfl, rfl, rfl, rfl, rfl, fun i hi => (d2.psetAct_numberView hi hc n).trans ?_⟩
  simp only [d2]
  split
  · exact d1.sendDue_numberView hi hp n fails 0
  · rfl

theorem Device.frameMatched_numberView {i : Nat} (hc : c < 8) (hi : i < 8) (hp : (d.winCtx c).port < 4) :
    (d.frameMatched c).numberView c i = d.numberView c i := by
  have closed := d.closeFrame_numberView hi hc false
  exact (Device.matchTrain_numberView _ hi (Device.port_of_numberView closed ▸ hp)).trans closed

/-- R206: context c takes the next number, and no other context's number moves. -/
theorem Device.frameStart_opens (hc : c < 8) (hp : (d.winCtx c).port < 4) :
    let t := d.frameStart c fails
    t.regN (Reg.FRAME_NUMBER + c) = d.numberAfter c ∧
      (∀ i < 8, i ≠ c → t.regN (Reg.FRAME_NUMBER + i) = d.regN (Reg.FRAME_NUMBER + i)) ∧
      ∃ f, (t.winCtx c).open_ = some f ∧ f.ctx = c ∧ f.num = d.numberAfter c ∧ f.count = 0 ∧
        (f.stored = true ↔ t.buffersUsed c < (t.winCtx c).buffers) := by
  have matched (i : Nat) (hi : i < 8) := d.frameMatched_numberView hc hi hp
  have kept (i : Nat) (hi : i < 8) : (d.frameMatched c).regN (Reg.FRAME_NUMBER + i) = d.regN (Reg.FRAME_NUMBER + i) :=
    Device.regN_of_numberView (matched i hi)
  obtain ⟨d', f, opens, ctx, num, count, stored, numbered⟩ :=
    d.frameStart_eq_openFrame fails hc (Device.port_of_numberView (matched c hc) ▸ hp)
  have next : (d.frameMatched c).numberAfter c = d.numberAfter c := by
    rw [Device.numberAfter, kept c hc, Device.numberAfter]
  obtain ⟨open_, buffers⟩ := d'.openFrame_winCtx (c := c) (f := f)
  have numbers (i : Nat) (hi : i < 8) : (d'.openFrame c f).regN (Reg.FRAME_NUMBER + i) =
      ((d.frameMatched c).setRegN (Reg.FRAME_NUMBER + c) (d.numberAfter c)).regN (Reg.FRAME_NUMBER + i) :=
    next ▸ Device.regN_of_numberView ((d'.openFrame_numberView hc hi).trans (numbered i hi))
  rw [opens]
  refine ⟨(numbers c hc).trans (Device.regN_setRegN _ _ _), fun i hi other => ?others, f, open_, ctx, num.trans next,
    count, ?stored⟩
  case others =>
    have key : Reg.FRAME_NUMBER + i ≠ Reg.FRAME_NUMBER + c := by omega
    rw [numbers i hi, Device.regN, Device.reg_setRegN_other _ _ key]
    exact kept i hi
  case stored => rw [stored, decide_eq_true_iff, Device.openFrame_buffersUsed, buffers]

end

section
variable {d : Device} {h : CsiHdr} {fails : List (Nat × Nat)}

/-- R200: a packet on a port that is not ON is not seen. -/
theorem Device.csiFrameStart_portOff (off : d.reg (Reg.WIN_PORT_STATE + h.port) ≠ 4) : d.csiFrameStart h fails = d := by
  simp [Device.csiFrameStart, Device.csiHeader, off]

/-- R200: a header that is right or corrected is accepted; a correction is counted, which moves no context. -/
theorem Device.csiHeader_accepted (hp : h.port < 4) (on : d.reg (Reg.WIN_PORT_STATE + h.port) = 4) (right : h.ecc < 2)
    (plain : h.vcx = false) : ∃ d', d.csiHeader h = (d', true) ∧ d'.ctxAt h.port h.vc = d.ctxAt h.port h.vc ∧
      ∀ c, ∀ i < 8, d'.numberView c i = d.numberView c i := by
  unfold Device.csiHeader
  rw [if_neg (not_not_intro on), if_neg (Nat.not_le.mpr right)]
  extract_lets d1
  rw [if_neg (by simp [plain])]
  refine ⟨d1, rfl, ?_⟩
  simp only [d1]
  split
  · exact ⟨d.ctxAt_setReg _ (by simp only [Reg.HDR_CORRECTED]; omega) _ _,
      fun c i hi => d.setReg_numberView hi _ (by simp only [Reg.HDR_CORRECTED]; omega)⟩
  · exact ⟨rfl, fun _ _ _ => rfl⟩

end

/-- Settles O32: the header's checks leave the contexts and their numbers, and the context of the packet takes the next
number. -/
theorem frameStartTakesTheNextFrameNumber : Obligations.FrameStartTakesTheNextFrameNumber := by
  intro s h fails hp domain
  have runs := exec_csiFrameStart (h := h) (fails := fails) domain hp
  refine ⟨fun c on right plain receives => ?accepted, fun off => ?portOff⟩
  case accepted =>
    obtain ⟨d, header, still, same⟩ := Device.csiHeader_accepted hp on right plain
    obtain ⟨hc, port⟩ := Device.port_of_ctxAt receives
    have starts : s.dev.csiFrameStart h fails = d.frameStart c fails := by
      simp only [Device.csiFrameStart, header, still, receives, if_true]
    have kept (i : Nat) (hi : i < 8) : d.regN (Reg.FRAME_NUMBER + i) = s.dev.regN (Reg.FRAME_NUMBER + i) :=
      Device.regN_of_numberView (same c i hi)
    have onPort : (d.winCtx c).port < 4 := by
      rw [Device.port_of_numberView (same c c hc), port]
      exact hp
    obtain ⟨next, others, f, open_, ctx, num, count, stored⟩ := d.frameStart_opens fails hc onPort
    refine ⟨_, runs, rfl, ?_⟩
    show (s.dev.csiFrameStart h fails).regN _ = _ ∧ _
    rw [starts]
    exact ⟨next.trans (by rw [Device.numberAfter, kept c hc]), fun i hi other => (others i hi other).trans (kept i hi),
      f, open_, ctx, num.trans next.symm, count, stored⟩
  case portOff =>
    rw [runs, Device.csiFrameStart_portOff off]
    rfl

end Sys2Proof.Machine
end

section
/-! PROOFS. The calibration and Cellar family (O33, O34): what programming a record leaves in the flash, and the gain code
of a density correction. The proofs open this section's own definitions by `delta`: the equation lemma that `unfold` makes
would first wait for the kernel's check of the whole text before it. -/
namespace Sys2Proof.Machine

/-! ### Fields of a list and the check (R11, R237) -/

section
variable {l l' : List Nat} {off n : Nat}

theorem bytesAt_front (h : l.length = n) : bytesAt (l ++ l') 0 n = l := by
  simp [bytesAt, ← h]

@[simp] theorem length_bytesAt (l : List Nat) (off n : Nat) : (bytesAt l off n).length = n := by
  simp only [bytesAt, List.length_append, List.length_take, List.length_drop, List.length_replicate]
  omega

/-- The bytes from an offset on are the one at the offset and those from the next one on. -/
theorem bytesAt_succ (l : List Nat) (off n : Nat) : bytesAt l off (n + 1) = l.getD off 0 :: bytesAt l (off + 1) n := by
  rcases Nat.lt_or_ge off l.length with inside | past
  · have front : l.drop off = l[off] :: l.drop (off + 1) := List.drop_eq_getElem_cons inside
    rw [bytesAt, bytesAt, front, List.take_succ_cons, List.length_cons, Nat.succ_sub_succ,
      List.getD_eq_getElem _ _ inside]
    rfl
  · simp [bytesAt, List.drop_of_length_le past, List.drop_of_length_le (past.trans (Nat.le_succ off)), past,
      List.replicate_succ]

theorem bytesAt_lt (h : ∀ b ∈ l, b < 256) : ∀ b ∈ bytesAt l off n, b < 256 := by
  intro b hb
  rcases List.mem_append.mp hb with taken | padded
  · exact h b (List.mem_of_mem_drop (List.mem_of_mem_take taken))
  · rw [(List.mem_replicate.mp padded).2]
    decide

theorem leBytes_lt (n v : Nat) : ∀ b ∈ leBytes n v, b < 256 := by
  induction n generalizing v with
  | zero => simp [leBytes]
  | succ n ih =>
    rw [leBytes, List.forall_mem_cons]
    exact ⟨Nat.mod_lt v (by decide), ih (v / 256)⟩

end

theorem crcBit_lt {c : Nat} (h : c < 2 ^ 32) : crcBit 0x82F63B78 c < 2 ^ 32 := by
  unfold crcBit
  split
  · exact Nat.xor_lt_two_pow (by omega) (by decide)
  · omega

theorem crcByte_lt {c : Nat} (b : Nat) (h : c < 2 ^ 32) : crcByte 0x82F63B78 c b < 2 ^ 32 := by
  have start : c ^^^ (b % 256) < 2 ^ 32 := Nat.xor_lt_two_pow h (by omega)
  exact crcBit_lt (crcBit_lt (crcBit_lt (crcBit_lt (crcBit_lt (crcBit_lt (crcBit_lt (crcBit_lt start)))))))

theorem crc32c_lt (l : List Nat) : crc32c l < 2 ^ 32 :=
  Nat.xor_lt_two_pow
    (foldl_keeps (fun c => c < 2 ^ 32) _ (fun _ b h => crcByte_lt b h) l 0xFFFFFFFF (by decide)) (by decide)

/-- The check behind a list is the CRC of what stands before it. -/
theorem fieldAt_withCheck (l : List Nat) : fieldAt (withCheck l) l.length 4 = crc32c l := by
  rw [withCheck, fieldAt_behind le_rfl, Nat.sub_self, fieldAt_whole (length_leBytes ..), leNat_leBytes _ _ (crc32c_lt l)]

@[simp] theorem length_withCheck (l : List Nat) : (withCheck l).length = l.length + 4 := by simp [withCheck]

theorem take_withCheck (l : List Nat) : (withCheck l).take l.length = l := by simp [withCheck]

/-! ### The flash (R240) -/

section
variable {m : List Host.Cell} {a b n : Nat}

/-- Removing cells of other addresses leaves a byte. -/
theorem mget_filter_of_kept {p : Host.Cell → Bool} (h : ∀ v, p (a, v) = true) : mget (m.filter p) a = mget m a := by
  induction m with
  | nil => rfl
  | cons c m ih =>
    obtain ⟨k, v⟩ := c
    rw [List.filter_cons]
    by_cases here : k = a
    · subst here
      simp [h, mget, tget]
    · have skip : mget ((k, v) :: m) a = mget m a := if_neg here
      rw [skip]
      split
      · exact (if_neg here).trans ih
      · exact ih

theorem flashByte_flashErase_outside (h : b < a ∨ a + n ≤ b) : flashByte (flashErase m a n) b = flashByte m b := by
  rw [flashByte, flashErase, mget_filter_of_kept fun v => by simp; omega, flashByte]

theorem flashByte_flashProgram_outside {l : List Nat} (h : b < a ∨ a + l.length ≤ b) :
    flashByte (flashProgram m a l) b = flashByte m b := by
  rw [flashByte, flashProgram, mget_mwrite_outside _ (by simpa using h), flashByte]

section
variable {l : List Nat} (bytes : ∀ b ∈ l, b < 256)
include bytes

theorem flashByte_flashProgram_inside {i : Nat} (h : i < l.length) :
    flashByte (flashProgram m a l) (a + i) = l.getD i 0 := by
  have byte : l[i] < 256 := bytes _ (List.getElem_mem h)
  rw [flashByte, flashProgram, mget_mwrite_inside _ (by simpa using h), BitVec.toNat_ofNat]
  simp only [List.getD_eq_getElem?_getD, List.getElem?_map, List.getElem?_eq_getElem h, Option.map_some,
    Option.getD_some]
  omega

/-- Any part of what was programmed reads back. -/
theorem flashRead_flashProgram {off : Nat} (h : off + n ≤ l.length) :
    flashRead (flashProgram m a l) (a + off) n = bytesAt l off n := by
  induction n generalizing off with
  | zero => simp [flashRead, bytesAt]
  | succ n ih =>
    rw [flashRead, bytesAt_succ, flashByte_flashProgram_inside bytes (by omega), Nat.add_assoc, ih (by omega)]

end

end

/-! ### Records (R236 … R238) -/

/-- R238: the bytes of a record that a slot of the key holds and that match all that makes the slot valid: MAGIC, FORMAT
and TYPE, UNIT, LENGTH and CHECK. -/
def RecordOk (key : Nat) (l : List Nat) : Prop :=
  (∀ b ∈ l, b < 256) ∧ 68 ≤ l.length ∧ l.length ≤ recSlot key ∧ bytesAt l 0 4 = [0x51, 0x52, 1, key / 256] ∧
    fieldAt l 4 2 = key % 256 ∧ fieldAt l 12 4 = l.length ∧ recLengthOk (key / 256) l = true ∧
    crc32c (l.take (l.length - 4)) = fieldAt l (l.length - 4) 4

/-- R240: a record that is programmed is the slot's valid record. -/
theorem slotRecord_flashProgram {key slot : Nat} {l : List Nat} (ok : RecordOk key l) (m : List Host.Cell) :
    slotRecord (flashProgram m (recAddr key slot) l) key slot = some l := by
  obtain ⟨bytes, least, fits, magic, unit, length, lengthOk, check⟩ := ok
  have len : leNat (flashRead (flashProgram m (recAddr key slot) l) (recAddr key slot + 12) 4) = l.length := by
    rw [flashRead_flashProgram bytes (by omega)]
    exact length
  have whole : flashRead (flashProgram m (recAddr key slot) l) (recAddr key slot) l.length = l := by
    refine (flashRead_flashProgram (off := 0) bytes (by omega)).trans ?_
    simpa using bytesAt_front (l := l) (l' := []) rfl
  have room : ¬ (l.length < 68 ∨ recSlot key < l.length) := not_or.mpr ⟨Nat.not_lt.mpr least, Nat.not_lt.mpr fits⟩
  rw [slotRecord, len, if_neg room, whole]
  exact if_pos ⟨magic, unit, lengthOk, check⟩

/-- R237: the header of a record with a payload of n bytes. -/
def recHead (key gen tb3 frac serial : Nat) (hs : List Nat) (n : Nat) : List Nat :=
  [0x51, 0x52, 1, key / 256] ++ (leBytes 2 (key % 256) ++ ([0, 0] ++ (leBytes 4 gen ++ (leBytes 4 (68 + n) ++
    (leBytes 8 tb3 ++ (leBytes 2 frac ++ ([0, 0] ++ (leBytes 4 serial ++
      (bytesAt hs 0 16 ++ List.replicate 16 0)))))))))

/-- R236: a type that has a slot is one of the layout's, and its slot has at most 1 MiB. -/
theorem type_of_recSlot {key : Nat} (h : 0 < recSlot key) : key / 256 < 256 ∧ recSlot key ≤ 2 ^ 20 := by
  unfold recSlot cellarType at *
  cases row : cellarTypes.find? (fun x => x.code == key / 256) with
  | none => simp [row] at h
  | some t =>
    have rows : ∀ t ∈ cellarTypes, t.code < 256 ∧ t.slot ≤ 2 ^ 20 := by decide
    have code : t.code = key / 256 := by simpa using List.find?_some row
    exact code ▸ rows t (List.mem_of_find?_eq_some row)

section
variable {key gen tb3 frac serial : Nat} {hs payload : List Nat}

theorem length_recHead (n : Nat) : (recHead key gen tb3 frac serial hs n).length = 64 := by
  delta recHead
  simp

theorem recBytes_eq : recBytes key gen tb3 frac serial hs payload =
    withCheck (recHead key gen tb3 frac serial hs payload.length ++ payload) := by
  delta recHead
  simp only [recBytes, List.append_assoc]

theorem length_recBytes : (recBytes key gen tb3 frac serial hs payload).length = 68 + payload.length := by
  rw [recBytes_eq, length_withCheck, List.length_append, length_recHead]
  omega

theorem recPayload_recBytes : recPayload (recBytes key gen tb3 frac serial hs payload) = payload := by
  rw [recPayload, recBytes_eq, length_withCheck, Nat.add_sub_cancel, take_withCheck,
    List.drop_left' (length_recHead payload.length)]

theorem recHead_lt (type : key / 256 < 256) (serials : ∀ b ∈ hs, b < 256) (n : Nat) :
    ∀ b ∈ recHead key gen tb3 frac serial hs n, b < 256 := by
  delta recHead
  simp only [List.forall_mem_append, List.forall_mem_cons, List.forall_mem_replicate]
  exact ⟨⟨by decide, by decide, by decide, type, by simp⟩, leBytes_lt _ _, ⟨by decide, by decide, by simp⟩,
    leBytes_lt _ _, leBytes_lt _ _, leBytes_lt _ _, leBytes_lt _ _, ⟨by decide, by decide, by simp⟩, leBytes_lt _ _,
    bytesAt_lt serials, .inr (by decide)⟩

theorem bytesAt_recHead_magic (n : Nat) (t : List Nat) :
    bytesAt (recHead key gen tb3 frac serial hs n ++ t) 0 4 = [0x51, 0x52, 1, key / 256] := by
  delta recHead
  rw [List.append_assoc]
  exact bytesAt_front rfl

theorem fieldAt_recHead_unit (n : Nat) (t : List Nat) :
    fieldAt (recHead key gen tb3 frac serial hs n ++ t) 4 2 = key % 256 := by
  delta recHead
  simp (disch := simp) only [List.append_assoc, fieldAt_behind]
  exact (fieldAt_front (length_leBytes ..)).trans (leNat_leBytes _ _ (by omega))

theorem fieldAt_recHead_length {n : Nat} (h : 68 + n < 2 ^ 32) (t : List Nat) :
    fieldAt (recHead key gen tb3 frac serial hs n ++ t) 12 4 = 68 + n := by
  delta recHead
  simp (disch := simp) only [List.append_assoc, fieldAt_behind]
  exact (fieldAt_front (length_leBytes ..)).trans (leNat_leBytes _ _ h)

/-- A record of R237 that fits its slot and has its type's LENGTH is one that R238 finds valid. -/
theorem recordOk_recBytes (fits : 68 + payload.length ≤ recSlot key) (load : ∀ b ∈ payload, b < 256)
    (serials : ∀ b ∈ hs, b < 256)
    (lengthOk : recLengthOk (key / 256) (recBytes key gen tb3 frac serial hs payload) = true) :
    RecordOk key (recBytes key gen tb3 frac serial hs payload) := by
  obtain ⟨type, slot⟩ := type_of_recSlot (key := key) (by omega)
  refine ⟨?bytes, length_recBytes.symm ▸ Nat.le_add_right .., length_recBytes.symm ▸ fits, ?magic, ?unit, ?length,
    lengthOk, ?check⟩
  case bytes =>
    rw [recBytes_eq]
    simp only [withCheck, List.forall_mem_append]
    exact ⟨⟨recHead_lt type serials _, load⟩, leBytes_lt _ _⟩
  case magic =>
    rw [recBytes_eq, withCheck, List.append_assoc]
    exact bytesAt_recHead_magic ..
  case unit =>
    rw [recBytes_eq, withCheck, List.append_assoc]
    exact fieldAt_recHead_unit ..
  case length =>
    rw [length_recBytes, recBytes_eq, withCheck, List.append_assoc]
    exact fieldAt_recHead_length (by omega) _
  case check =>
    rw [recBytes_eq, length_withCheck, Nat.add_sub_cancel, take_withCheck, fieldAt_withCheck]

end

/-! ### The end of a write (R240) -/

section
variable (d : Device)

theorem Device.cellarWrite_inUse : d.cellarWrite.cellar.inUse = d.cellar.inUse := by
  unfold Device.cellarWrite
  split
  · rfl
  · dsimp only
    split <;> rfl

theorem Device.cellarGoOn_inUse : d.cellarGoOn.cellar.inUse = d.cellar.inUse := by
  unfold Device.cellarGoOn
  split
  · rfl
  · exact d.cellarWrite_inUse

theorem Device.cellarGoOn_dict : d.cellarGoOn.dict = d.dict := by
  unfold Device.cellarGoOn
  split
  · rfl
  · exact d.cellarWrite_dict

theorem Device.noteProfile_inUse (key gen : Nat) : (d.noteProfile key gen).cellar.inUse = d.cellar.inUse := by
  unfold Device.noteProfile
  split <;> rfl

/-- R241: a profile's write leaves the entries that stand before PROFILE_VALID. -/
theorem Device.noteProfile_reg (key gen : Nat) {k : Nat} (below : k < Reg.PROFILE_VALID) :
    (d.noteProfile key gen).reg k = d.reg k := by
  simp only [Reg.PROFILE_VALID] at below
  unfold Device.noteProfile
  split
  · refine (Device.reg_setRegN_other _ _ ?_).trans (Device.reg_setRegN_other _ _ ?_) <;>
      simp only [Reg.PROFILE_VALID, Reg.PROFILE_GENERATION] <;> omega
  · rfl

end

/-- R240: the device after a write of job j that reads back. -/
def Device.cellarWritten (d : Device) (j : CellarJob) : Device :=
  ((({ d with cellar := { d.cellar with
      job := none, inUse := assocSet d.cellar.inUse j.key (j.slot, j.gen)
      wroteAt := assocSet d.cellar.wroteAt j.key d.now } } : Device).incReg Reg.CELLAR_WRITES).noteProfile j.key
    j.gen).cellarGoOn

theorem Device.cellarWriteDone_readsBack {m : List Host.Cell} {d : Device} {j : CellarJob}
    (job : d.cellar.job = some j) : Device.cellarWriteDone m d j.data =
      (flashProgram (flashErase m (recAddr j.key j.slot) (recSlot j.key)) (recAddr j.key j.slot)
        (j.data.take (recSlot j.key)), d.cellarWritten j) := by
  simp only [Device.cellarWriteDone, job, if_true]
  rfl

theorem Device.cellarWritten_inUse (d : Device) (j : CellarJob) :
    assoc (d.cellarWritten j).cellar.inUse j.key = some (j.slot, j.gen) := by
  delta Device.cellarWritten
  rw [Device.cellarGoOn_inUse, Device.noteProfile_inUse]
  exact assoc_assocSet_same ..

theorem Device.cellarWritten_writes (d : Device) (j : CellarJob) :
    (d.cellarWritten j).regN Reg.CELLAR_WRITES = (d.regN Reg.CELLAR_WRITES + 1) % 2 ^ 32 := by
  have goesOn (e : Device) : e.cellarGoOn.regN Reg.CELLAR_WRITES = e.regN Reg.CELLAR_WRITES := by
    simp only [Device.regN, Device.reg, Device.cellarGoOn_dict]
  delta Device.cellarWritten
  rw [goesOn, Device.regN, Device.noteProfile_reg _ _ _ (by decide)]
  exact Device.regN_incReg ..

theorem exec_cellarWriteDone {s : State} (served : s.dev.served = true) (back : List Nat) :
    exec (.cellarWriteDone back) s =
      s.nextBoth ({ s.mem with flash := (Device.cellarWriteDone s.mem.flash s.dev back).1 },
        (Device.cellarWriteDone s.mem.flash s.dev back).2) :=
  State.whenB_true (f := fun m d =>
    ({ m with flash := (Device.cellarWriteDone m.flash d back).1 }, (Device.cellarWriteDone m.flash d back).2))
    (inService_true served trivial)

/-- Settles O33: the slot is erased and programmed with a record that R238 finds valid, and the write ends. -/
theorem aWrittenRecordReadsBack : Obligations.AWrittenRecordReadsBack := by
  intro s j tb3 frac serial hs payload served _ job _ fits load serials data lengthOk
  have ok : RecordOk j.key j.data := data ▸ recordOk_recBytes fits load serials (data ▸ lengthOk)
  have ⟨_, _, whole, _⟩ := ok
  refine ⟨_, exec_cellarWriteDone served _, ?_⟩
  dsimp only
  rw [Device.cellarWriteDone_readsBack job, List.take_of_length_le whole]
  refine ⟨slotRecord_flashProgram ok _, data ▸ recPayload_recBytes, Device.cellarWritten_inUse ..,
    Device.cellarWritten_writes .., fun a outside => ?_, rfl⟩
  exact (flashByte_flashProgram_outside (by omega)).trans (flashByte_flashErase_outside outside)

/-! ### The code nearest the target (R229) -/

section
variable {α β : Type} [LinearOrder β]

/-- A walk along a list that keeps the least element so far ends at a least one. -/
theorem foldl_least_mem_argmin (f : α → β) (a : α) (l : List α) :
    l.foldl (fun best k => if f k < f best then k else best) a ∈ (a :: l).argmin f := by
  suffices some (l.foldl (fun best k => if f k < f best then k else best) a) =
      l.foldl (List.argAux fun b c => f b < f c) (some a) from Option.mem_def.mpr this.symm
  induction l generalizing a with
  | nil => rfl
  | cons b l ih =>
    rw [List.foldl_cons, List.foldl_cons, ih]
    congr 1
    exact apply_ite some ..

end

/-- How a code ranks for R229: by its distance from the target, then by its distance from the code in force. -/
def densRank (val : Nat → Nat) (g : Nat) (m r : Nat × Nat) (k : Nat) : Nat ×ₗ Nat :=
  toLex (((val k : Int) * (r.2 * m.1 : Nat) - (val g * r.1 * m.2 : Nat)).natAbs, ((k : Int) - (g : Int)).natAbs)

theorem densCode_mem_argmin (val : Nat → Nat) (g : Nat) (m r : Nat × Nat) :
    densCode val g m r ∈ (0 :: List.range 64).argmin (densRank val g m r) := by
  convert foldl_least_mem_argmin (densRank val g m r) 0 (List.range 64) using 1
  delta densRank
  simp only [densCode, Prod.Lex.toLex_lt_toLex]

/-- Settles O34: the code is a least element of the codes under the rank. -/
theorem theDensityCodeIsNearest : Obligations.TheDensityCodeIsNearest := by
  intro val g m r far off
  have least := densCode_mem_argmin val g m r
  refine ⟨?below, fun k hk => ?nearest⟩
  case below =>
    rcases List.mem_cons.mp (List.argmin_mem least) with first | listed
    · rw [first]
      decide
    · exact List.mem_range.mp listed
  case nearest =>
    have rank := List.le_of_mem_argmin (List.mem_cons_of_mem 0 (List.mem_range.mpr hk)) least
    rcases Prod.Lex.toLex_le_toLex.mp rank with nearer | ⟨same, closer⟩
    · exact ⟨nearer.le, fun tie => absurd tie nearer.ne'⟩
    · exact ⟨same.le, fun _ => closer⟩

end Sys2Proof.Machine
end
